-- ==== Sys2Proof/Word.lean ====
section
/-! DEFINITION. The byte and word types of the DZ4810's wire and register spaces (R3). -/

namespace Sys2Proof

/-- One byte. -/
abbrev Byte := BitVec 8

/-- A byte string, lowest offset first (R3: byte offsets count from 0). -/
abbrev Bytes := List Byte

/-- A 32-bit register of the management register space (R3). -/
abbrev Word := BitVec 32

end Sys2Proof
end

