-- ==== Sys2Proof/Syntax.lean ====
section
/-! DEFINITION. The commands of the block: one constructor of `Instr` for each row of spec/opcode_table.json, and the
data they carry. What the environment decides (a frame, a time, a temperature, the outcome of a NAND operation) is an
operand. Numbers that the manual gives a width are `Nat`; WellFormed says the width. -/

namespace Sys2Proof

/-! ## What arrives over Ethernet -/

/-- The source of a datagram (R105, R101, R141): port, VLAN, address and UDP port; whether it was sent to the Chorus
group address (R255); whether its frame was verified under MACsec (R91). IPv4 addresses are written ::ffff:a.b.c.d
(R222). -/
structure Source where
  port : Fin 2
  vid : Nat
  ip : Nat
  udp : Nat
  group : Bool
  verified : Bool
  deriving DecidableEq, Repr

/-- One SKP request: the fields of Table 5.2 in header order, then key and body. Magic and version are those of R102. The
reserved fields are kept because the request hash of R260 is taken over the payload as received. -/
structure Request where
  src : Source
  op : Nat
  flags : Nat
  ns : Nat
  session : Nat
  resv10 : Nat
  seq : Nat
  target : Nat
  status : Nat
  offset : Nat
  length : Nat
  segment : Nat
  resv38 : Nat
  key : Bytes
  body : Bytes
  deriving DecidableEq, Repr

/-- A SecTAG as received: association number, packet number, ICV (R148). -/
structure SecTag where
  an : Nat
  pn : Nat
  icv : Bytes
  deriving DecidableEq, Repr

/-- What an IP packet carries, as far as R142 tells payloads apart. -/
inductive Proto where
  | udp (srcPort dstPort : Nat) (csumOk csumZero : Bool) (payload : Bytes)
  | echo (payload : Bytes)
  | neighborSol (target : Nat)
  | otherIcmp
  | other
  deriving DecidableEq, Repr

/-- An IP packet: addresses (IPv4 mapped, R222), header checksum, options or extension header, fragment (R142). -/
structure Packet where
  v4 : Bool
  srcIp : Nat
  dstIp : Nat
  headerOk : Bool
  extended : Bool
  fragment : Bool
  proto : Proto
  deriving DecidableEq, Repr

/-- gPTP messages that the port consumes (R151). -/
inductive PtpMsg where
  | sync (logInterval : Int) (time : Nat)
  | pdelayReq (seq : Nat)
  | pdelayResp (seq : Nat) (t2 t3 : Nat)
  | other
  deriving DecidableEq, Repr

/-- What a frame carries, by destination, ethertype and opcode (Table 6.4). -/
inductive Content where
  | pause (quanta : Nat)
  | macControl (opcode : Nat)
  | arpRequest (target senderIp senderMac : Nat)
  | arpOther
  | ptp (m : PtpMsg)
  | ip (p : Packet)
  | other (ethertype : Nat)
  deriving DecidableEq, Repr

/-- A received Ethernet frame, given by its fields: length of R136, FCS, addresses, VLAN tag (VID, PCP), SecTAG, content. -/
structure Frame where
  len : Nat
  fcsOk : Bool
  dst : Nat
  srcMac : Nat
  vlan : Option (Nat × Nat)
  sec : Option SecTag
  content : Content
  deriving DecidableEq, Repr

/-- A peer's answer to this member's PULL (R262, R263): which member, mode, measure, shard, stanza index, status, and the
response body put together from its pieces. -/
structure PullAnswer where
  member : Fin 8
  mode : Nat
  measure : Nat
  shard : Nat
  index : Nat
  status : Nat
  body : Bytes
  deriving DecidableEq, Repr

/-! ## Commands through a mailbox -/

/-- A Cantor command as it stands in its mailbox: mailbox number, envelope SEQUENCE, argument bytes (Table 4.7). -/
structure Cmd where
  mailbox : Fin 8
  sequence : Nat
  args : Bytes
  deriving DecidableEq, Repr

/-! ## Environment data -/

/-- Access types that memory protection tells apart (R74), coded as the PROT_FAULT entry codes them. -/
inductive Access where
  | load
  | store
  | fetch
  | descriptor
  deriving DecidableEq, Repr

/-- What a NAND operation that is over reports (R185, R188, R189): pass; fail on a plane; a status read that failed; or what the
LDPC decoder gives for the codeword read (its first 4,128 bytes, none where it does not converge): one hard decode at the
reference and one for each retry step the drive takes, in order, then the soft decode; and the codewords at that place in the
other pages of the stripe, for stage 4. -/
inductive NandResult where
  | pass
  | fail (plane : Nat)
  | statusError
  | read (hard : List (Option Bytes)) (soft : Option Bytes) (others : List Bytes)
  deriving DecidableEq, Repr

/-- How the training of a channel ended at start-up (Table 8.8): at half rate, full rate having failed; or half rate failed
once, or twice. -/
inductive Training where
  | half
  | failedOnce
  | failedTwice
  deriving DecidableEq, Repr

/-- What the tests of a start-up find before the first measure (Tables 7.3, 8.8, 8.12, 9.7; R156, R241): LUNs that do not answer
the reset, channels that do not train at full rate, LPDDR5 ranks that fail training, Larkspur banks that fail the march test,
ports whose PHY does not answer MDIO after its reset. -/
structure Found where
  luns : List Nat
  channels : List (Fin 8 × Training)
  ranks : List (Fin 2)
  banks : List (Fin 16)
  phys : List (Fin 2)
  deriving DecidableEq, Repr

/-- Why a cascade is declared lost (R247). -/
inductive CascadeLoss where
  | clock
  | silence
  | malformed
  deriving DecidableEq, Repr

/-- A soft or hard error in the cells of the Larkspur array: the array unit at `pos` (bank x 8,192 + unit), or its shadow word with its
check bits, has these bits inverted; `stuck` cells of the array cannot be rewritten (R216, R221, R238). -/
structure Upset where
  pos : Nat
  shadow : Bool
  flips : Nat
  stuck : Bool
  deriving DecidableEq, Repr

/-- What a tick samples of the board (log entry 13): the junction temperature [°C], and the edges of signals since the tick before
which no row of the table gives: THERM_ALERT_n deasserted, HOLDUP_OK high again, the 32.768 kHz oscillator no longer stable. -/
structure TickSample where
  tj : Int
  alertEnds : Bool
  holdupBack : Bool
  xtal32Lost : Bool
  deriving DecidableEq, Repr

/-- The end of a start-up: the time at which the first measure opens, and what the tests before it found. -/
structure StartUpEnd where
  time : Nat
  found : Found
  deriving DecidableEq, Repr

/-- The blocks of a superblock on one LUN. -/
structure SbOnLun where
  superblock : Nat
  lun : Nat
  deriving DecidableEq, Repr

/-- A PHY whose reset is released: its port, and whether it then answers MDIO (R156). -/
structure PhyRelease where
  port : Fin 2
  answers : Bool
  deriving DecidableEq, Repr

/-- The commands of the block: one constructor per row of spec/opcode_table.json. -/
inductive Instr where
  -- DEVICE, TIME, UNIT
  | deviceIdentify (c : Cmd)
  | deviceEcho (c : Cmd)
  | deviceStartupStatus (c : Cmd)
  | deviceEnterCustody (c : Cmd)
  | deviceSetThermal (c : Cmd)
  | deviceReset (c : Cmd)
  | devicePowerStatus (c : Cmd)
  | timeStatus (c : Cmd)
  | timeSetLength (c : Cmd)
  | timeSealLog (c : Cmd)
  | unitQuery (c : Cmd)
  | unitSetState (c : Cmd)
  | unitList (c : Cmd)
  -- NAMESPACE
  | namespaceCreate (c : Cmd)
  | namespaceDelete (c : Cmd)
  | namespaceSetQuota (c : Cmd)
  | namespaceInfo (c : Cmd)
  | namespaceList (c : Cmd)
  | namespaceDigest (c : Cmd)
  | namespaceLedgerHead (c : Cmd)
  | namespaceLedgerTrim (c : Cmd)
  | namespaceSetRetention (c : Cmd)
  | namespaceLedgerExport (c : Cmd)
  | namespaceValueDigest (c : Cmd)
  -- SEARCH
  | searchSetTables (c : Cmd)
  | searchEntryWrite (c : Cmd)
  | searchEntryDelete (c : Cmd)
  | searchPatternLoad (c : Cmd)
  | searchPatternUnload (c : Cmd)
  | searchCascadeSet (c : Cmd)
  | searchCascadeSwitch (c : Cmd)
  | searchProbe (c : Cmd)
  | searchStats (c : Cmd)
  -- NET
  | netSetPort (c : Cmd)
  | netSetFilter (c : Cmd)
  | netSetAddress (c : Cmd)
  | netSetMgmtPeers (c : Cmd)
  | netSetHeartbeat (c : Cmd)
  | netMacsecPolicy (c : Cmd)
  | netMacsecInstallSa (c : Cmd)
  | netMacsecRemoveSa (c : Cmd)
  | netPhyReset (c : Cmd)
  | netMdioWrite (c : Cmd)
  | netMdioRead (c : Cmd)
  | netTxFlush (c : Cmd)
  | netPortStatus (c : Cmd)
  | netCounters (c : Cmd)
  -- MEDIA
  | mediaFormat (c : Cmd)
  | mediaSetReadPolicy (c : Cmd)
  | mediaSetWarn (c : Cmd)
  | mediaAckWarnings (c : Cmd)
  | mediaHealth (c : Cmd)
  | mediaLunHealth (c : Cmd)
  -- CHORUS
  | chorusForm (c : Cmd)
  | chorusLeave (c : Cmd)
  | chorusStatus (c : Cmd)
  | chorusCheckpoint (c : Cmd)
  | chorusCheckpointEnd (c : Cmd)
  | chorusRestoreEnd (c : Cmd)
  | chorusNsCommand (c : Cmd)
  | chorusPark (c : Cmd)
  | chorusResume (c : Cmd)
  -- EVENT
  | eventConfigure (c : Cmd)
  | eventSetOwner (c : Cmd)
  | eventLock (c : Cmd)
  | eventEvioConfig (c : Cmd)
  | eventSetParams (c : Cmd)
  | eventTrigger (c : Cmd)
  | eventQuery (c : Cmd)
  | eventClear (c : Cmd)
  -- UPDATE
  | updateStatus (c : Cmd)
  | updateStage (c : Cmd)
  | updateActivate (c : Cmd)
  | updateConfirm (c : Cmd)
  | updateRollback (c : Cmd)
  | updateDiscard (c : Cmd)
  | updateRdlBegin (c : Cmd)
  | updateRdlData (c : Cmd)
  | updateRdlEnd (c : Cmd)
  -- CODA, SECURITY
  | codaRead (c : Cmd)
  | codaList (c : Cmd)
  | codaFreeze (c : Cmd)
  | codaSetTriggers (c : Cmd)
  | codaKeep (c : Cmd)
  | securityMrsUnlock (c : Cmd)
  | securityMrsLock (c : Cmd)
  | securitySetMailboxOwner (c : Cmd)
  | securityLedgerKey (c : Cmd)
  | securityProvision (c : Cmd)
  | securityStatus (c : Cmd)
  -- SKP requests
  | get (r : Request)
  | put (r : Request)
  | delete (r : Request)
  | cas (r : Request)
  | append (r : Request)
  | scan (r : Request)
  | watch (r : Request)
  | watchStop (r : Request)
  | batchOpen (r : Request)
  | batchClose (r : Request)
  | cancel (r : Request)
  | segment (r : Request)
  | segmentCommit (r : Request)
  | segmentAbort (r : Request)
  | hello (r : Request)
  | bye (r : Request)
  | credit (r : Request)
  | heartbeat (r : Request)
  | digest (r : Request)
  | pullList (r : Request)
  | pullFetch (r : Request)
  | pullSets (r : Request)
  | pullTransfer (r : Request)
  | pullResponseReceive (a : PullAnswer)
  | stanzaRead (r : Request)
  | stanzaLoad (r : Request)
  | mgmtMessage (src : Source) (payload : Bytes)
  | mgmtMessageCancel (src : Source) (payload : Bytes)
  | rdlBegin (src : Source) (payload : Bytes)
  | rdlData (src : Source) (payload : Bytes)
  | rdlEnd (src : Source) (payload : Bytes)
  | rdlStatus (src : Source) (payload : Bytes)
  -- Ethernet receive
  | rxFrameAdmit (port : Fin 2)
  | rxFrameCheck (port : Fin 2) (frame : Frame)
  | pauseReceive (port : Fin 2) (quanta : Nat)
  | receivedPauseExpiry (port : Fin 2) (pausedUs : Nat)
  | pauseRepeat (port : Fin 2)
  | gptpSyncReceive (port : Fin 2) (logInterval : Int) (time : Nat)
  | syncLoss (port : Fin 2)
  | holdoverExpiry
  | startupGptpWaitExpiry
  | pdelayReqReceive (port : Fin 2) (seq : Nat) (t2 : Nat)
  | pdelayRespReceive (port : Fin 2) (seq : Nat) (t2 t3 t4 : Nat)
  | pdelayReqSend (port : Fin 2) (t1 : Nat)
  | arpRequestReceive (port : Fin 2) (vid target senderIp senderMac : Nat)
  | neighborSolicitationReceive (port : Fin 2) (vid target source : Nat)
  | echoRequestReceive (port : Fin 2) (vid : Nat) (packet : Packet)
  -- The measure
  | requestToAdmissionPort (port : Fin 2)
  | measureTick (time : Nat) (sample : TickSample)
  | chainConfirmDeadline (measure : Nat)
  | sealedListExecute
  | executionWindowOverrun
  | stagingBankDurable
  | heartbeatQueue
  | frameTransmitStart (port : Fin 2)
  | txDescriptorCancel (port : Fin 2) (descriptor : Nat)
  | linkDown (port : Fin 2)
  | linkUp (port : Fin 2) (rate : Nat) (fullDuplex : Bool)
  | phyIntPoll (port : Fin 2) (register value : Nat)
  | ppsInEdge (time : Nat)
  | ppsOutSecond
  | mailboxFetch
  | mailboxLoadingTimeout (mailbox : Fin 8)
  | commandTimeout (mailbox : Fin 8)
  | gapTimeout (session : Nat)
  | batchDeadline (session : Nat)
  | segmentedValueDeadline (session : Nat)
  | sessionIdleClose (session : Nat)
  | watchDurationEnd (session seq : Nat)
  | watchLimitReached (session seq : Nat)
  -- Flash, LPDDR5
  | lunSlotBoundary (lun : Nat) (slot : Fin 16)
  | backgroundDenialExpiry (unit : Nat)
  | nandOpComplete (lun : Nat) (result : NandResult)
  | nandOpTimeout (lun : Nat)
  | eraseDone (group : Nat) (blocks : SbOnLun)
  | garbageCollection (group : Nat)
  | folding (group : Nat)
  | wearMove (group : Nat)
  | scrub (group : Nat) (blocks : SbOnLun) (errLow errMid errHigh : Nat)
  | refresh (group superblock : Nat)
  | evacuation (lun : Nat)
  | temperatureSample (temps : List (Nat × Int))
  | lpddr5PatrolPass (rank : Fin 2) (corrected : Nat) (uncorrectable : Bool)
  -- Larkspur
  | larkspurScrub (upsets : List Upset)
  | larkspurForcedScrub
  | onePlaceMove (table : Fin 5)
  | shadowRebuild (pair : Fin 8)
  | bankRequalify (bank : Fin 16) (passed : Bool)
  | cascadeTransaction (header : Byte) (word : Bytes) (matchIn : Bool) (result : Bytes)
  | cascadeLoss (why : CascadeLoss)
  | cascadeGenerationCopy
  -- Chorus
  | digestRoundSend (round : Fin 2) (copy : Bool)
  | peerSilenceTimeout (member : Fin 8)
  | chorusCatchUp
  | chorusTransferRejoin
  | transferWindowExpiry
  | snapshotExpiry
  -- Event fabric
  | evioInputEdge (ball : Fin 16) (rising : Bool) (time : Nat)
  | eventDeliver (channel : Fin 32) (consumer : Fin 64) (merged : Bool) (time : Nat)
  | consumerActionComplete (consumer : Fin 64)
  | aonTimerExpiry
  -- Power and modes
  | porstNAssert
  | sysRstNAssert
  | controllerResetRelease (modeRecov : Fin 8) (cascId0 cascId1 : Fin 8)
  | firstMeasureOpen (start : StartUpEnd)
  | watchdogExpiry
  | wdogWarn (core : Fin 4)
  | internalFatalError (reason : Nat) (core : Fin 4)
  | protectionFault (core : Fin 4) (access : Access) (start size : Nat)
  | ownershipRequest (line : Nat) (cores : List (Fin 4)) (writeback : Bool)
  | ownershipRetry (line : Nat)
  | pwrFailAssert (offsetUs : Nat)
  | stopQuiesceComplete (quiesce10us : Nat)
  | powerReturn
  | deviceResetQuiesceStart
  | holdupOkFall
  | thermAlertAssert
  | thermalShutdown (tj : Int)
  | thermalShutdownRelease (tj : Int)
  | custodyPortStopTimeout
  | custodyEntryComplete
  | wakeRise
  | xtal32Stable
  -- Update
  | pendingRegionWritten
  | bootRecordArmedWrite
  | archiveDurable
  | installReady
  | loaderInstall
  | bootRecordRevertingWrite
  | rollbackFuseBurn
  | provisionFuseBurn
  | settingsMirrorWrite
  | recoveryInstallComplete
  -- Coda, debug
  | codaEntryWrite
  | freezeTimeout
  | codaRecordCopy
  | vaultFlush
  | debugHalt (core : Fin 4) (halt : Bool)
  | jtagBypass
  | jtagIdcode
  | jtagSamplePreload (boundary : Nat)
  | jtagExtest
  | jtagClamp
  | jtagHighz
  -- Mailbox and register accesses
  | mbxDoorbell (mailbox : Fin 8)
  | mbxCtrlCancel (mailbox : Fin 8)
  | mbxRelease (mailbox : Fin 8)
  | mbxRequestWindowWrite (offset : Nat) (data : Bytes)
  | tmbMeasureLoRead
  | macCounterLowRead (port : Fin 2) (counter : Fin 30)
  | mac0PpsLoRead
  | evfChTsLoRead
  | spiWriteFrame (mosi : Bytes)
  | spiReadFrame (mosi : Bytes)
  | ppsOutPulseEnd
  | phyResetRelease (phy : PhyRelease)
  | departureHeartbeatExpiry (port : Fin 2)
  deriving DecidableEq, Repr

end Sys2Proof
end

