-- ==== Sys2Proof/WellFormed.lean ====
section
/-! DEFINITION. Which commands are well formed: every number fits the width the manual gives its field, every byte string
the length its carrier can hold. A meaning is total on every command; statements about encodings ask for these checks. -/

namespace Sys2Proof

/-- The number fits `bits` bits. -/
def fits (bits n : Nat) : Bool := decide (n < 2 ^ bits)

/-- Widths of R105, R141. -/
def Source.wf (x : Source) : Bool := fits 12 x.vid && fits 128 x.ip && fits 16 x.udp

/-- Widths of Table 5.2; key and body of R102. -/
def Request.wf (r : Request) : Bool :=
  r.src.wf && fits 8 r.op && fits 16 r.flags && fits 8 r.ns && fits 16 r.session && fits 16 r.resv10 && fits 32 r.seq &&
  fits 48 r.target && fits 16 r.status && fits 64 r.offset && fits 32 r.length && fits 16 r.segment && fits 16 r.resv38 &&
  fits 8 r.key.length && decide (r.body.length ≤ 8192)

/-- Table 4.7: SEQUENCE of 32 bits, at most 496 argument bytes that a mailbox holds. -/
def Cmd.wf (c : Cmd) : Bool := fits 32 c.sequence && decide (c.args.length ≤ 496)

/-- R148: AN of 2 bits, PN of 64 bits at most, an ICV of 16 bytes. -/
def SecTag.wf (t : SecTag) : Bool := fits 2 t.an && fits 64 t.pn && decide (t.icv.length = 16)

/-- Widths of the fields of an IP packet. -/
def Proto.wf : Proto → Bool
  | .udp a b _ _ _ => fits 16 a && fits 16 b
  | .neighborSol t => fits 128 t
  | .echo _ => true
  | .otherIcmp => true
  | .other => true

/-- Widths of R142. -/
def Packet.wf (p : Packet) : Bool := fits 128 p.srcIp && fits 128 p.dstIp && p.proto.wf

/-- Widths of the control frames. -/
def Content.wf : Content → Bool
  | .pause q => fits 16 q
  | .macControl o => fits 16 o
  | .arpRequest t i m => fits 32 t && fits 32 i && fits 48 m
  | .arpOther => true
  | .ptp _ => true
  | .ip p => p.wf
  | .other e => fits 16 e

/-- Widths of R136 to R142. -/
def Frame.wf (f : Frame) : Bool :=
  fits 48 f.dst && fits 48 f.srcMac &&
  (match f.vlan with | none => true | some (v, p) => fits 12 v && fits 3 p) &&
  (match f.sec with | none => true | some t => t.wf) && f.content.wf

/-- A measure number (R28: 48 bits). -/
def measureWf (n : Nat) : Bool := fits 48 n

/-- The well-formed commands. -/
def Instr.wf : Instr → Bool
  | .deviceIdentify c | .deviceEcho c | .deviceStartupStatus c | .deviceEnterCustody c | .deviceSetThermal c
  | .deviceReset c | .devicePowerStatus c | .timeStatus c | .timeSetLength c | .timeSealLog c | .unitQuery c
  | .unitSetState c | .unitList c | .namespaceCreate c | .namespaceDelete c | .namespaceSetQuota c | .namespaceInfo c
  | .namespaceList c | .namespaceDigest c | .namespaceLedgerHead c | .namespaceLedgerTrim c | .namespaceSetRetention c
  | .namespaceLedgerExport c | .namespaceValueDigest c | .searchSetTables c | .searchEntryWrite c
  | .searchEntryDelete c | .searchPatternLoad c | .searchPatternUnload c | .searchCascadeSet c | .searchCascadeSwitch c
  | .searchProbe c | .searchStats c | .netSetPort c | .netSetFilter c | .netSetAddress c | .netSetMgmtPeers c
  | .netSetHeartbeat c | .netMacsecPolicy c | .netMacsecInstallSa c | .netMacsecRemoveSa c | .netPhyReset c
  | .netMdioWrite c | .netMdioRead c | .netTxFlush c | .netPortStatus c | .netCounters c | .mediaFormat c
  | .mediaSetReadPolicy c | .mediaSetWarn c | .mediaAckWarnings c | .mediaHealth c | .mediaLunHealth c | .chorusForm c
  | .chorusLeave c | .chorusStatus c | .chorusCheckpoint c | .chorusCheckpointEnd c | .chorusRestoreEnd c
  | .chorusNsCommand c | .chorusPark c | .chorusResume c | .eventConfigure c | .eventSetOwner c | .eventLock c
  | .eventEvioConfig c | .eventSetParams c | .eventTrigger c | .eventQuery c | .eventClear c | .updateStatus c
  | .updateStage c | .updateActivate c | .updateConfirm c | .updateRollback c | .updateDiscard c | .updateRdlBegin c
  | .updateRdlData c | .updateRdlEnd c | .codaRead c | .codaList c | .codaFreeze c | .codaSetTriggers c | .codaKeep c
  | .securityMrsUnlock c | .securityMrsLock c | .securitySetMailboxOwner c | .securityLedgerKey c
  | .securityProvision c | .securityStatus c => c.wf
  | .get r | .put r | .delete r | .cas r | .append r | .scan r | .watch r | .watchStop r | .batchOpen r | .batchClose r
  | .cancel r | .segment r | .segmentCommit r | .segmentAbort r | .hello r | .bye r | .credit r | .heartbeat r
  | .digest r | .pullList r | .pullFetch r | .pullSets r | .pullTransfer r | .stanzaRead r | .stanzaLoad r => r.wf
  | .pullResponseReceive a => fits 16 a.status && measureWf a.measure && fits 16 a.shard && fits 32 a.index
  | .mgmtMessage x _ | .mgmtMessageCancel x _ | .rdlBegin x _ | .rdlData x _ | .rdlEnd x _ | .rdlStatus x _ => x.wf
  | .rxFrameCheck _ f => f.wf
  | .pauseReceive _ q => fits 16 q
  | .receivedPauseExpiry _ _ => true
  | .gptpSyncReceive _ _ t => fits 64 t
  | .pdelayReqReceive _ q t => fits 16 q && fits 64 t
  | .pdelayRespReceive _ q a b c => fits 16 q && fits 64 a && fits 64 b && fits 64 c
  | .pdelayReqSend _ t => fits 64 t
  | .arpRequestReceive _ v t i m => fits 12 v && fits 32 t && fits 32 i && fits 48 m
  | .neighborSolicitationReceive _ v t a => fits 12 v && fits 128 t && fits 128 a
  | .echoRequestReceive _ v p => fits 12 v && p.wf
  | .measureTick t b => fits 64 t && decide (-128 ≤ b.tj ∧ b.tj ≤ 127)
  | .chainConfirmDeadline m => measureWf m
  | .txDescriptorCancel _ _ => true
  | .linkUp _ r _ => decide (1 ≤ r ∧ r ≤ 4)
  | .phyIntPoll _ r v => fits 16 r && fits 16 v
  | .ppsInEdge t => fits 64 t
  | .gapTimeout n | .batchDeadline n | .segmentedValueDeadline n | .sessionIdleClose n => fits 16 n
  | .watchDurationEnd n q | .watchLimitReached n q => fits 16 n && fits 32 q
  | .lunSlotBoundary l _ | .backgroundDenialExpiry l | .nandOpTimeout l | .evacuation l => fits 16 l
  | .nandOpComplete l r => fits 16 l && (match r with
    | .read h _ o => decide (h.length ≤ 8 ∧ o.length ≤ 15)
    | .fail p => decide (p < 4)
    | .pass | .statusError => true)
  | .eraseDone _ k | .scrub _ k _ _ _ => fits 16 k.lun
  | .garbageCollection _ | .folding _ | .wearMove _ | .refresh _ _ => true
  | .temperatureSample ts => ts.all fun p => fits 16 p.1 && decide (-127 ≤ p.2 ∧ p.2 ≤ 127)
  | .lpddr5PatrolPass _ _ _ => true
  | .larkspurScrub us => us.all fun u => fits 17 u.pos && fits (if u.shadow then 266 else 256) u.flips
  | .cascadeTransaction _ w _ r => decide (w.length ≤ 64 ∧ r.length = 4)
  | .evioInputEdge _ _ t => fits 64 t
  | .eventDeliver _ _ _ t => fits 64 t
  | .firstMeasureOpen b => fits 64 b.time && b.found.luns.all (fits 16)
  | .internalFatalError r _ => fits 16 r
  | .protectionFault _ _ a n => fits 32 a && fits 32 n
  | .ownershipRequest _ cs _ => decide cs.Nodup
  | .thermalShutdown j | .thermalShutdownRelease j => decide (-128 ≤ j ∧ j ≤ 255)
  | .mbxRequestWindowWrite o d => decide (o + d.length ≤ 512 ∧ o % 4 = 0 ∧ d.length % 4 = 0 ∧ 0 < d.length)
  | .spiWriteFrame m | .spiReadFrame m => decide (m.length ≤ 1032)
  | .rxFrameAdmit _ | .pauseRepeat _ | .syncLoss _ | .holdoverExpiry | .startupGptpWaitExpiry
  | .requestToAdmissionPort _ | .sealedListExecute | .executionWindowOverrun | .stagingBankDurable | .heartbeatQueue
  | .frameTransmitStart _ | .linkDown _ | .ppsOutSecond | .mailboxFetch | .mailboxLoadingTimeout _ | .commandTimeout _
  | .larkspurForcedScrub | .onePlaceMove _ | .shadowRebuild _ | .bankRequalify _ _ | .cascadeLoss _
  | .cascadeGenerationCopy | .digestRoundSend _ _ | .peerSilenceTimeout _ | .chorusCatchUp | .chorusTransferRejoin
  | .transferWindowExpiry | .snapshotExpiry | .consumerActionComplete _ | .aonTimerExpiry | .porstNAssert | .sysRstNAssert
  | .controllerResetRelease _ _ _ | .watchdogExpiry | .wdogWarn _ | .ownershipRetry _ | .pwrFailAssert _
  | .stopQuiesceComplete _ | .powerReturn | .deviceResetQuiesceStart | .holdupOkFall | .thermAlertAssert
  | .custodyPortStopTimeout | .custodyEntryComplete | .wakeRise | .xtal32Stable | .pendingRegionWritten
  | .bootRecordArmedWrite | .archiveDurable | .installReady | .loaderInstall | .bootRecordRevertingWrite
  | .rollbackFuseBurn | .provisionFuseBurn | .settingsMirrorWrite | .recoveryInstallComplete | .codaEntryWrite
  | .freezeTimeout | .codaRecordCopy | .vaultFlush | .debugHalt _ _ | .jtagBypass | .jtagIdcode | .jtagSamplePreload _
  | .jtagExtest | .jtagClamp | .jtagHighz | .mbxDoorbell _ | .mbxCtrlCancel _ | .mbxRelease _ | .tmbMeasureLoRead
  | .macCounterLowRead _ _ | .mac0PpsLoRead | .evfChTsLoRead | .ppsOutPulseEnd | .phyResetRelease _
  | .departureHeartbeatExpiry _ => true

end Sys2Proof
end

