-- ==== Sys2Proof/Decode.lean ====
section
/-! DEFINITION. The decoder of the rows of spec/opcode_table.json that give bits. No row of this block's table gives any:
its commands arrive as frames, mailbox envelopes, register accesses and events, which Machine/Operands.lean reads. -/

namespace Sys2Proof

/-- The command that `nbits` bits of value `w` spell by the table: none, because the table gives no row any bits. -/
def decodeTableWord (_nbits _w : Nat) : Option Instr := none

end Sys2Proof
end

