-- ==== Sys2Proof/Machine/Kinds.lean ====
section
/-! DEFINITION. The fixed sets of names the manual gives the block: modes, unit states, timebase states, owners, status
codes, update states, namespace types, counters. -/

namespace Sys2Proof.Machine

open Sys2Proof

/-- Modes and sub-states (R307). The stop form and the Custody form of Quiesce are told apart. -/
inductive Mode where
  | startup
  | service
  | quiesceStop
  | quiesceCustody
  | custody
  | recovery
  deriving DecidableEq, Repr

/-- Unit states of Table 4.12, lowest first. -/
inductive UnitState where
  | offline
  | fenced
  | degraded
  | online
  deriving DecidableEq, Repr

/-- Timebase states of Table 2.1. -/
inductive TbState where
  | start
  | locked
  | holdover
  | freerun
  | ahead
  | aligning
  deriving DecidableEq, Repr

/-- Owners of mailboxes and channels (Table 4.8). -/
inductive Owner where
  | sec
  | mgmt
  | rt
  deriving DecidableEq, Repr

/-- Status codes of Table 4.10. -/
inductive Status where
  | ok
  | notFound
  | versionMismatch
  | noSpace
  | credit
  | denied
  | sealed
  | range
  | late
  | diverged
  | cancelLate
  | busy
  | unitOffline
  | integrity
  | signature
  | arraySelf
  | rollbackDenied
  | mode
  | internal
  deriving DecidableEq, Repr

/-- Mailbox states (Table 4.5). -/
inductive MbxState where
  | idle
  | loading
  | posted
  | running
  | done
  deriving DecidableEq, Repr

/-- Namespace types a host can create (Table 7.4). -/
inductive NsType where
  | ordinary
  | ledger
  | staging
  deriving DecidableEq, Repr

/-- Update states (Table 13.6). -/
inductive UpdState where
  | idle
  | staged
  | armed
  | trial
  | reverting
  deriving DecidableEq, Repr

/-- MACsec policies (R148). -/
inductive MacsecPolicy where
  | disabled
  | check
  | strict
  deriving DecidableEq, Repr

/-- States of the Coda ring (Table 14.6). -/
inductive RingState where
  | live
  | collecting
  | held
  deriving DecidableEq, Repr

/-- The 30 port counters of Table 6.10, in register order. -/
inductive Ctr where
  | rxFramesOk | rxBytesOk | rxFcsErr | rxOversize | rxUndersize | rxFiltered | rxVlanDiscard | rxEtypeDiscard
  | rxIpDiscard | rxFragment | rxOverflow | rxPauseFrames | rxMacctrlUnsupported | rxMacsecUnprotected
  | rxMacsecIcvFail | rxMacsecReplay | rxMacsecNoSa | skpDiscard | mgmtDiscard | fencedDiscard
  | txFrames | txBytes | txPauseFrames | txPausedUs | txNotifyDropped | txHeartbeats | txHbReplaced | txCancelled
  | linkDownEvents | linkRefused
  deriving DecidableEq, Repr

/-- Larkspur tables by the codes of R388 (0 unassigned). -/
inductive Table where
  | unassigned
  | peer
  | acl
  | route
  | automaton
  deriving DecidableEq, Repr

/-- Reset sources of Table 12.2. -/
inductive ResetCause where
  | porst
  | sysRst
  | watchdog
  | fatal
  | deviceReset
  | powerReturn
  | thermal
  | recoveryDone
  deriving DecidableEq, Repr

/-- States of a block (R205). -/
inductive BlockState where
  | free
  | opened
  | closed
  | erasePending
  | retired
  deriving DecidableEq, Repr

/-- Streams of Table 8.3. -/
inductive Stream where
  | slcHost
  | fold
  | gc
  | wearMove
  | system
  deriving DecidableEq, Repr

/-- What a NAND operation is (Table 8.2), with who issued it. -/
inductive NandKind where
  | readFg
  | programFg
  | readBg
  | programBg
  | eraseBg
  | suspend
  | lunReset
  | feature
  deriving DecidableEq, Repr

/-- Phases of a Recovery download (Table 13.9). -/
inductive RdlPhase where
  | idle
  | receiving
  | verifying
  | installing
  | done
  | failed
  deriving DecidableEq, Repr

/-- JTAG instructions (R367). -/
inductive JtagInstr where
  | bypass
  | idcode
  | samplePreload
  | extest
  | clamp
  | highz
  deriving DecidableEq, Repr

/-- Transmit classes of Table 6.6, in their order. -/
inductive TxClass where
  | pause
  | ptp
  | heartbeat
  | control
  | queue
  deriving DecidableEq, Repr

end Sys2Proof.Machine
end

