-- ==== Sys2Proof/Machine/State.lean ====
section
/-! DEFINITION. The state of the DZ4810 drive as plain data, its fault and refusal names, and the state right after reset.
Each field's comment gives its meaning, its width, the rule or table that names it, and its reset value; INVENTORY.md's
list of state is made from these comments. DC n and PR n name assumption-log entry n (DESIGN CHOICE, PRESUMED). -/

namespace Sys2Proof.Machine

open Sys2Proof

/-! ## Board and fuses -/

/-- What the board and the device carry; no command changes it. -/
structure Board where
  /-- Serial number; 64 bits; Table 4.2 ID_SERIAL; reset DC 3 value 1. -/
  serial : Nat
  /-- Grade, true for DZ4810-A2; 8 bits as GRADE; Table 4.2, R21; reset DC 3 value true. -/
  gradeA2 : Bool
  /-- Fused base MAC address; 48 bits; Table 6.5; reset DC 3 value 0. -/
  baseMac : Nat
  /-- Chip enables per channel; 1, 2 or 4; R184; reset DC 3 value 2. -/
  ce : Nat
  /-- LUNs per chip enable; 1, 2 or 4; R184; reset DC 3 value 2. -/
  lunsPerCe : Nat
  /-- Blocks of a LUN; R193, R209; reset DC 3 value 2,048. -/
  blocks : Nat
  /-- Pages of a block in native cells, 16 KiB each; Table 8.1; reset DC 3 value 4,096. -/
  pages : Nat
  /-- Factory bad-block marks: the bad blocks of each LUN; R194; reset DC 3 value the last 42 of each LUN. -/
  factoryBad : List (Nat × List Nat)
  /-- Bits per native cell, 3 or 4; R193; reset DC 3 value 3. -/
  cellBits : Nat
  /-- The NAND matches a device profile and R184; 1 bit; R184; reset DC 3 value true. -/
  nandOk : Bool
  /-- Device profile in use; 16 bits; Table 8.10 PROFILE; reset DC 3 value 1. -/
  profile : Nat
  /-- Installed LPDDR5 [GiB]; 16 bits; R161, Table 15.3; reset DC 3 value 8. -/
  lpddrGib : Nat
  /-- LPDDR5 ranks fitted; 1 or 2; R413; reset DC 3 value 1. -/
  ranks : Nat
  /-- Planes of a LUN, 2 or 4; Table 8.1; reset DC 3 value 2. -/
  planes : Nat
  /-- The board fits port 1; 1 bit; R407, R389 intro of NET; reset DC 3 value true. -/
  port1 : Bool
  deriving DecidableEq, Repr

/-- Fuses. -/
structure Fuses where
  /-- PROVISIONED; 1 bit; Table 4.2 ID_FUSE; reset DC 3 value false. -/
  provisioned : Bool
  /-- DEBUG_LOCKED; 1 bit; Table 4.2, R367; reset DC 3 value false. -/
  debugLocked : Bool
  /-- OEM_KEY; 1 bit; Table 4.2, R335; reset DC 3 value false. -/
  oemKey : Bool
  /-- OEM key hash; 48 bytes; Table 13.2; reset DC 3 value empty (not fused). -/
  oemHash : Bytes
  /-- OEM firmware key, slot 1; 32 bytes; Table 13.2; reset DC 3 value empty (not fused). -/
  oemFwKey : Bytes
  /-- Anti-rollback bits burnt, 0 to 64; 64 fuse bits; R339, Table 13.2; reset 0 (Table 13.2: 0 at manufacture). -/
  rollback : Nat
  deriving DecidableEq, Repr

/-! ## Units -/

/-- A hardware unit with two views (R94). -/
structure HwUnit where
  /-- Unit identifier; 16 bits; Table 4.11; reset the units of the board. -/
  id : Nat
  /-- Data-path view (the management view is in Store); 2 bits; R94; reset DC 4: OFFLINE for ports (Table 6.9 DATA_VIEW 0), FENCED for members (R283), ONLINE otherwise. -/
  data : UnitState
  /-- Measures since the views last agreed, saturating at 0xFFFF; 16 bits; R99; reset 0. -/
  apart : Nat
  /-- Boundaries the present pair of differing views has lasted; R98; reset 0. -/
  pairAge : Nat
  /-- A disagreement entry was made since the views last agreed; 1 bit; R98; reset false. -/
  noted : Bool
  /-- The unit has passed its self-qualification and rises at the next boundary; 1 bit; R96; reset false. -/
  qualified : Bool
  /-- Measure in which a condition that lowers the view last held; 48 bits; R138, R210, R241, R268, R269; reset none. -/
  degradedAt : Option Nat
  /-- Measures of the counted events: retries, FCS errors, repairs, corrected errors, missed rounds; R138, Table 8.8, Table 9.7, Table 10.6; reset empty. -/
  events : List Nat
  /-- Measures of reconstructions, pulls or failed requalifications; Table 8.8, Table 9.7, Table 10.6; reset empty. -/
  events2 : List Nat
  /-- Measures of operation timeouts; R185, Table 8.8; reset empty. -/
  timeouts : List Nat
  /-- The unit never requalifies above FENCED; 1 bit; R209; reset false. -/
  spent : Bool
  /-- Consecutive good measures or turns towards requalification; R247, R269; reset 0. -/
  good : Nat
  deriving DecidableEq, Repr

/-! ## Sealed items -/

/-- A Cantor command in the sealed sequence (R39, R86): its opcode, the command, and the measure A that admitted it. -/
structure SealedCmd where
  /-- Opcode; 16 bits; Table 4.7. -/
  opcode : Nat
  /-- The command. -/
  cmd : Cmd
  /-- Admission count, the command's session sequence; 32 bits; R86. -/
  count : Nat
  /-- Measure that admitted it; 48 bits; R371. -/
  adm : Nat
  deriving DecidableEq, Repr

/-- One item of the sealed sequence (R38, R39). -/
inductive Item where
  | skp (r : Request)
  | cmd (c : SealedCmd)
  deriving DecidableEq, Repr

/-- A sealed list waiting for execution (R38, Table 3.1 SEAL). The first `chorus` items are the Chorus set (R264). -/
structure SealedList where
  /-- Measure; 48 bits; R38. -/
  measure : Nat
  /-- Items in sealed order; R38. -/
  items : List Item
  /-- Items of the Chorus set at the head; R264. -/
  chorus : Nat
  /-- Digest; 32 bytes; R260. -/
  digest : Bytes
  /-- Requests refused as sealed results (DIVERGED, LATE, BUSY); R265. -/
  refused : List (Request × Status)
  deriving DecidableEq, Repr

/-! ## Sessions -/

/-- One replay record (R110). -/
structure Replay where
  /-- Session sequence; 32 bits; R110. -/
  seq : Nat
  /-- Measure with whose seal record or writes it becomes durable; 48 bits; R110. -/
  measure : Nat
  /-- Measure that admitted or refused it, the TARGET of its response; 48 bits; Table 5.2. -/
  target : Nat
  /-- Opcode of the request; 8 bits; R102 (the response copies it). -/
  op : Nat
  /-- Status, none until known; 16 bits; R110. -/
  status : Option Status
  /-- ABORTED was set; 1 bit; R129. -/
  aborted : Bool
  /-- Body, kept when at most 40 bytes; R110. -/
  body : Bytes
  /-- The response was placed for transmission; 1 bit; R111. -/
  placed : Bool
  /-- The request was admitted, not refused; 1 bit; R68. -/
  admitted : Bool
  /-- Sequence of the CANCEL that removed it before its measure was sealed; R68. -/
  removedBy : Option Nat
  deriving DecidableEq, Repr

/-- A session (R104 to R113). -/
structure Session where
  /-- Session id; 16 bits; R105. -/
  id : Nat
  /-- Open; 1 bit; R105. -/
  opened : Bool
  /-- Bound source address; 128 bits; R105. -/
  bindIp : Nat
  /-- Bound source UDP port; 16 bits; R105. -/
  bindUdp : Nat
  /-- Chorus session; 1 bit; R255. -/
  chorus : Bool
  /-- Window; 9 bits; R60. -/
  window : Nat
  /-- Sequences of the requests that hold a credit, newest first; 32 bits each; R61. -/
  holding : List Nat
  /-- Closed sessions of this id that have requests without a response yet, oldest first: the window each still takes from
  the pool, and the sequences of those requests; R64. -/
  closing : List (Nat × List Nat)
  /-- Measure of the last datagram of the session; 48 bits; R107. -/
  lastSeen : Nat
  /-- Next sequence; 32 bits; R106. -/
  next : Nat
  /-- Chorus sequences consumed above the next sequence; R257. -/
  above : List Nat
  /-- Next sequence at the close of measures not yet persisted; R107, R16. -/
  history : List (Nat × Nat)
  /-- Replay records, newest first: the last 256, and behind them those that a fault at the last persisted measure would
  bring back; R110, R16. -/
  replay : List Replay
  /-- The next sequence has passed 2^32 - 1, so that sequence 0 has been received; R68. -/
  wrapped : Bool
  deriving DecidableEq, Repr

/-- An active watch (R124 to R127). -/
structure Watch where
  /-- Session and sequence of the WATCH; R124. -/
  session : Nat
  seq : Nat
  /-- Source to notify; R101. -/
  src : Source
  /-- Namespace and prefix; R124. -/
  ns : Nat
  pre : Bytes
  /-- Pattern slot, 0 for prefix only; R124. -/
  pattern : Nat
  /-- Measure that admitted the WATCH; R124. -/
  from_ : Nat
  /-- DURATION in measures; 32 bits; Table 5.8. -/
  duration : Nat
  /-- LIMIT; 32 bits; Table 5.8. -/
  limit : Nat
  /-- CLASS of the WATCH, copied into its NOTIFYs; Table 5.3. -/
  cls : Nat
  /-- Notifications so far; R125. -/
  count : Nat
  deriving DecidableEq, Repr

/-! ## Transmission -/

/-- A frame waiting for the MAC (Table 6.6). -/
structure TxFrame where
  /-- Descriptor sequence number; R71. -/
  desc : Nat
  /-- Transmit class; Table 6.6. -/
  cls : TxClass
  /-- Held while the port is FENCED (a response to UDP 47810); Table 6.3, R59. -/
  dataResp : Bool
  /-- Session whose close may release it; R59. -/
  session : Option Nat
  /-- NOTIFY of this watch sequence, counted under R126. -/
  notify : Option Nat
  /-- VLAN; R147. -/
  vid : Nat
  /-- Priority code point; R147. -/
  pcp : Nat
  /-- Destination address; 128 bits. -/
  dstIp : Nat
  /-- Destination UDP port; 16 bits. -/
  dstUdp : Nat
  /-- Source UDP port of a datagram; 16 bits; R90, R100, R153. -/
  srcUdp : Nat
  /-- Destination address of a frame whose rule names it (R144, R151) or that answers it (R142); 48 bits; none where the next hop is
  resolved. -/
  dstMac : Option Nat
  /-- UDP payload, or the fields of a control frame, big-endian. -/
  payload : Bytes
  /-- Association number and packet number used (R149). -/
  sa : Option (Nat × Nat)
  deriving DecidableEq, Repr

/-- A response that waits for its window (R43, R44, R47, R267). -/
structure Reply where
  /-- Measure whose window it leaves in; R43. -/
  due : Nat
  /-- Measure that must be persisted first (0 for a read); R43. -/
  durable : Nat
  /-- Destination: a mailbox or a source; R101, R82. -/
  mailbox : Option (Fin 8)
  src : Source
  /-- SKP header fields of the response; Table 5.2. -/
  op : Nat
  flags : Nat
  ns : Nat
  session : Nat
  seq : Nat
  target : Nat
  status : Status
  /-- Pieces: OFFSET, LENGTH, key, body of each datagram, in order; R114. -/
  pieces : List (Nat × Nat × Bytes × Bytes)
  /-- The reply returns one credit to its session when placed; R61. -/
  credit : Bool
  /-- NOTIFY; R125. -/
  notify : Bool
  /-- Value bytes counted against the read transfer allowance; R44. -/
  bytes : Nat
  /-- Ordinal of the next datagram; SEGMENT of Table 5.2. -/
  segment : Nat
  /-- What remains are later slices of a read; Table 2.5. -/
  sliced : Bool
  /-- Chorus measure T whose chain must be confirmed before it leaves; R266, R267. -/
  set : Option Nat
  /-- Codewords still to be read from flash, as extent and index; R189. -/
  reads : List (Nat × Nat) := []
  deriving DecidableEq, Repr

/-! ## Ports -/

/-- Settings of a port (Table 6.2, Table 15.9). -/
structure PortSettings where
  /-- INTERFACE, true for SGMII; 1 bit; Table 6.2; reset USXGMII. -/
  sgmii : Bool
  /-- MAX_RATE code 1 to 4; 3 bits; Table 6.2; reset 4 (10 Gb/s). -/
  maxRate : Nat
  /-- MTU is JUMBO; 1 bit; Table 6.2; reset STANDARD. -/
  jumbo : Bool
  /-- RX_MODE is FLOW; 1 bit; Table 6.2; reset FLOW. -/
  flow : Bool
  /-- HONOUR_PAUSE; 1 bit; Table 6.2; reset ON. -/
  honourPause : Bool
  /-- PHY_ADDR; 5 bits; Table 15.9; reset DC 3 value the port number. -/
  phyAddr : Nat
  /-- HIGH_WM [KiB]; 16 bits; Table 6.2; reset 384. -/
  highWm : Nat
  /-- LOW_WM [KiB]; 16 bits; Table 6.2; reset 256. -/
  lowWm : Nat
  /-- DATA_VID; 12 bits; Table 6.2; reset 0. -/
  dataVid : Nat
  /-- MGMT_VID; 12 bits; Table 6.2; reset 0. -/
  mgmtVid : Nat
  /-- DATA_PCP; 3 bits; Table 6.2; reset 0. -/
  dataPcp : Nat
  /-- MGMT_PCP; 3 bits; Table 6.2; reset 7. -/
  mgmtPcp : Nat
  /-- PTP_LATENCY_RX [ns]; 12 bits; Table 6.2; reset 0. -/
  ptpRx : Nat
  /-- PTP_LATENCY_TX [ns]; 12 bits; Table 6.2; reset 0. -/
  ptpTx : Nat
  deriving DecidableEq, Repr

/-- A MACsec secure association (R149, Table 15.10). -/
structure Sa where
  /-- Association number 0 to 3. -/
  an : Nat
  /-- SUITE 1 to 4. -/
  suite : Nat
  /-- PERSIST. -/
  persist : Bool
  /-- SCI; 64 bits. -/
  sci : Nat
  /-- Next packet number to send, or lowest acceptable; 64 bits; R148, R149. -/
  pn : Nat
  /-- Persisted packet-number block start; R149. -/
  pnPersisted : Nat
  /-- Its packet number has passed R150's threshold; R150. -/
  warned : Bool
  /-- SSCI; 32 bits. -/
  ssci : Nat
  /-- SALT; 12 bytes. -/
  salt : Bytes
  /-- KEY; 16 or 32 bytes; never readable. -/
  key : Bytes
  deriving DecidableEq, Repr

/-- Settings of a port that other NET commands set; all persist (15, NET). -/
structure PortNet where
  /-- The settings of Table 6.2. -/
  set : PortSettings
  /-- Address of filter entry 0; 48 bits; Table 6.5; reset the fused base address plus the port number. -/
  filter0 : Nat
  /-- Entry 0 is enabled; 1 bit; R140; reset true. -/
  filter0On : Bool
  /-- Entries 4 to 7: the enabled address or none; 48 bits each; Table 6.5; reset none. -/
  filter4 : Vector (Option Nat) 4
  /-- Configured IPv6 address; 128 bits; R142; reset none. -/
  ipv6 : Option Nat
  /-- Configured IPv4 address; 32 bits; R142; reset none. -/
  ipv4 : Option Nat
  /-- Heartbeat destination address (mapped) and UDP port; R153; reset none (default of R153). -/
  hbDest : Option (Nat × Nat)
  /-- MACsec policy; 2 bits; R148; reset DISABLED (Table 6.9 MACSEC 0). -/
  policy : MacsecPolicy
  /-- Replay window; 8 bits; R148; reset 0. -/
  replayWindow : Nat
  /-- Installed transmit associations, the one in use first; R149; reset empty. -/
  txSa : List Sa
  /-- Installed receive associations; R149; reset empty. -/
  rxSa : List Sa
  deriving DecidableEq, Repr

/-- A frame admitted to the receive buffer and not yet checked: the settings and the port's state as it arrived, and the space it
holds (R135, R143). -/
structure RxSlot where
  /-- Settings in force when it arrived; R135. -/
  set : PortSettings
  /-- Effective state of the port when it arrived. -/
  state : UnitState
  /-- Bytes reserved for it; R143. -/
  bytes : Nat
  deriving DecidableEq, Repr

/-- The volatile state of a port. -/
structure Port where
  /-- MACn_STATUS.LINK; 1 bit; Table 6.9; reset 0. -/
  link : Bool
  /-- MACn_STATUS.RATE; 3 bits; Table 6.9; reset 0. -/
  rate : Nat
  /-- MACn_STATUS.PAUSED; 1 bit; Table 6.9, R146; reset 0. -/
  paused : Bool
  /-- Quanta of the received PAUSE in force; 16 bits; R146; reset 0. -/
  pauseQuanta : Nat
  /-- MACn_STATUS.XOFF; 1 bit; Table 6.9, R144; reset 0. -/
  xoff : Bool
  /-- MACn_STATUS.PHY_INT; 1 bit; Table 6.9, R156; reset 0. -/
  phyInt : Bool
  /-- MACn_STATUS.LINK_CHANGE; 1 bit W1C; Table 6.9; reset 0. -/
  linkChange : Bool
  /-- MACn_STATUS.PN_HIGH; 1 bit W1C; Table 6.9, R150; reset 0. -/
  pnHigh : Bool
  /-- Receive buffer in use [bytes]; MACn_RXBUF.OCCUPIED in KiB; Table 6.9; reset 0. -/
  rxBytes : Nat
  /-- Receive descriptors in use; 7 bits; MACn_RXBUF.DESCRIPTORS; Table 6.9; reset 0. -/
  rxDesc : Nat
  /-- Frames admitted under R143 and not yet checked, oldest first; reset empty. -/
  rxPending : List RxSlot
  /-- MACn_HOLD; 32 bits; Table 6.9, R158; reset 0. -/
  hold : Nat
  /-- The 30 counters; 64 bits each; Table 6.10; reset 0. -/
  counters : Vector Nat 30
  /-- Datagrams waiting for the parser, oldest first, each with the buffer bytes it holds; Table 3.1 RX; R426; reset empty. -/
  parser : List (Nat × Request)
  /-- Class 5 descriptors and then the transmit spill, in queue order; Table 3.1 TX, R58; reset empty. -/
  queue : List TxFrame
  /-- Frames of classes 1, 2 and 4, oldest first; Table 6.6; reset empty. -/
  urgent : List TxFrame
  /-- Queued heartbeat, and whether it is a departure heartbeat; R153; reset none. -/
  hb : Option (TxFrame × Bool)
  /-- Frame whose preamble started last; R147; reset none. -/
  inFlight : Option TxFrame
  /-- Heartbeats since start-up, SEQUENCE of the next; 32 bits; R154; reset 1. -/
  hbSeq : Nat
  /-- Next descriptor sequence number; R71; reset 0. -/
  nextDesc : Nat
  /-- What the last firmware cancel of a transmit descriptor reported: its sequence number and OK or CANCEL_LATE; R71; reset none. -/
  txCancel : Option (Nat × Status)
  /-- The link has been up at full duplex without FCS error since the measure opened; R138; reset false. -/
  cleanMeasure : Bool
  /-- PHY_RSTn_n level, true for deasserted; Table 16.7, R155; reset asserted (low). -/
  phyRun : Bool
  /-- The PHY has not answered MDIO after its last reset, which keeps the port OFFLINE; R156; reset false. -/
  phySilent : Bool
  /-- gPTP synchronised on this port; R25; reset false. -/
  synced : Bool
  /-- logMessageInterval of the last valid Sync; R25; reset 0. -/
  syncInterval : Int
  /-- Sync intervals the port has been synchronised; R151; reset 0. -/
  syncCount : Nat
  /-- Sequence id and send time of the own outstanding Pdelay_Req; R151; reset none. -/
  pdelaySent : Option (Nat × Nat)
  /-- Next Pdelay_Req sequence id; 16 bits; IEEE 802.1AS by R151; reset DC 3 value 0. -/
  pdelaySeq : Nat
  /-- Measured peer delay [ns]; R151; reset 0. -/
  peerDelay : Nat
  deriving DecidableEq, Repr

/-! ## Mailboxes -/

/-- A mailbox (Tables 4.5, 4.6). -/
structure Mailbox where
  /-- STATE; 3 bits; Table 4.5; reset IDLE. -/
  state : MbxState
  /-- PATH is Ethernet; 1 bit; Table 4.5; reset 0. -/
  eth : Bool
  /-- CANCELLED; 1 bit W1C; Table 4.5; reset 0. -/
  cancelled : Bool
  /-- LATE; 1 bit W1C; Table 4.5; reset 0. -/
  late : Bool
  /-- ABANDONED; 1 bit W1C; Table 4.5; reset 0. -/
  abandoned : Bool
  /-- CODE; 16 bits; Table 4.5; reset 0. -/
  code : Nat
  /-- MBXn_SEQ; 32 bits; Table 4.5; reset 0. -/
  seqReg : Nat
  /-- Request buffer; 512 bytes; Table 4.5; reset zero (DC 5). -/
  request : Bytes
  /-- Response buffer; 512 bytes; Table 4.5; reset zero (DC 5). -/
  response : Bytes
  /-- SEQUENCE of the previous command; 32 bits; R88; reset none. -/
  prevSeq : Option Nat
  /-- A stored response exists for the previous command; R88; reset false. -/
  stored : Bool
  /-- SEQUENCE of the command last completed; 32 bits; R92; reset none. -/
  lastDone : Option Nat
  /-- A CANCEL has lost to the grant and is reported at completion; R82; reset false. -/
  cancelPending : Bool
  /-- Source of the management message that claimed it; R90; reset none. -/
  peer : Option Source
  deriving DecidableEq, Repr

/-! ## Key store -/

/-- A key with its value and metadata (07). -/
structure KeyEnt where
  /-- Key; 1 to 240 bytes; R102. -/
  key : Bytes
  /-- Value; up to 64 MiB; R115. -/
  value : Bytes
  /-- Version; 64 bits; R164. -/
  version : Nat
  /-- Admission measure of a ledger record; 48 bits; R177. -/
  adm : Nat
  /-- SHA-384 of a staging value; 48 bytes; R180. -/
  sha384 : Bytes
  /-- Logical extent number; 40 bits; R160. -/
  extent : Nat
  deriving DecidableEq, Repr

/-- A namespace (R164 to R183). -/
structure Namespace where
  /-- Id; 8 bits; R166. -/
  id : Nat
  /-- Type; Table 7.4. -/
  typ : NsType
  /-- QUOTA [bytes]; 64 bits; R166. -/
  quota : Nat
  /-- GUARANTEE [bytes]; 64 bits; R166. -/
  guarantee : Nat
  /-- RETENTION [measures]; 64 bits; R166. -/
  retention : Nat
  /-- EPOCH; 64 bits; R166. -/
  epoch : Nat
  /-- Keys in ascending order; R102, 07. -/
  keys : List KeyEnt
  /-- Newest record number ever appended; 64 bits; Table 7.6. -/
  record : Nat
  /-- Chain hash after it; 32 bytes; R175. -/
  head : Bytes
  /-- Oldest retained record number; 64 bits; Table 7.6. -/
  oldest : Nat
  deriving DecidableEq, Repr

/-- An open segmented value (R115 to R119). -/
structure OpenSeg where
  /-- Session; R116. -/
  session : Nat
  /-- Namespace and key aimed at; R116. -/
  ns : Nat
  key : Bytes
  /-- Value length T; 32 bits; R115. -/
  total : Nat
  /-- Segments received; R117. -/
  count : Nat
  /-- Bytes received; R117. -/
  data : Bytes
  /-- Expected version when opened by CAS; R118. -/
  expected : Option Nat
  /-- Measure that admitted the opening request; R119. -/
  adm : Nat
  deriving DecidableEq, Repr

/-- An open batch (R128). -/
structure Batch where
  /-- Session; R128. -/
  session : Nat
  /-- Measure that admitted BATCH_OPEN; R130. -/
  adm : Nat
  /-- Members in sequence order with their admitting measures; R128. -/
  members : List (Request × Nat)
  deriving DecidableEq, Repr

/-- Format of the media (R193, R194). -/
structure Format where
  /-- Logical capacity C_L [GiB]; 32 bits; R193. -/
  cl : Nat
  /-- Key capacity K; 32 bits; R161. -/
  k : Nat
  /-- SLC_GIB; 16 bits; Table 8.5. -/
  slcGib : Nat
  /-- ENDURANCE_NATIVE; 32 bits; Table 8.5. -/
  endNative : Nat
  /-- ENDURANCE_SLC; 32 bits; Table 8.5. -/
  endSlc : Nat
  deriving DecidableEq, Repr

/-! ## Larkspur -/

/-- An entry of a table (R217). -/
structure Entry where
  /-- Table address: pair x 8,192 + first unit; 16 bits; R218. -/
  addr : Nat
  /-- Stable tag; 20 bits; R217. -/
  tag : Nat
  /-- Priority; 12 bits; R217. -/
  prio : Nat
  /-- Value bits, as a number of 128 w bits; R216. -/
  value : Nat
  /-- Care bits; R216. -/
  care : Nat
  deriving DecidableEq, Repr

/-- Assignment of a bank pair (R218). -/
structure Pair where
  /-- Table; R388; reset of pairs 0 to 7 Table 9.1: ROUTE, PEER, ACL, ACL, AUTOMATON four times. -/
  table : Table
  /-- Width 1, 2 or 4; R388; reset Table 9.1: 1 for ROUTE and AUTOMATON, 2 for PEER and ACL. -/
  width : Nat
  /-- Address-ordered; R388; reset Table 9.1: ACL and AUTOMATON. -/
  ordered : Bool
  /-- Hole interval; R388; reset Table 9.1: 16 for ACL, 0 for the others. -/
  holes : Nat
  deriving DecidableEq, Repr

/-- A transition of a loaded automaton (Table 9.6): state, value and care of its 112 input bits, NEXT, CONSUME, VERDICT. -/
structure Transition where
  /-- Table address; 16 bits; R218. -/
  addr : Nat
  /-- Stable tag, its index in the automaton action memory; 20 bits; R234. -/
  tag : Nat
  state : Nat
  value : Nat
  care : Nat
  next : Nat
  consume : Nat
  verdict : Nat
  deriving DecidableEq, Repr

/-- A loaded pattern (R233, R234). -/
structure Pattern where
  /-- Slot 1 to 64. -/
  slot : Nat
  /-- STRIDE, STATES and START; Table 9.5. -/
  stride : Nat
  states : Nat
  start : Nat
  /-- Records in image order; Table 9.6. -/
  recs : List Transition
  deriving DecidableEq, Repr

/-- Cascade setting and progress (R243 to R247). -/
structure Cascade where
  /-- Chips, 2 to 4; R243. -/
  chips : Nat
  /-- Cascaded table; R243. -/
  table : Table
  /-- Active generation; 1 bit; R246. -/
  gen : Bool
  /-- Switch measures E whose copy has not been made, ascending; 48 bits each; R246. -/
  switches : List Nat
  deriving DecidableEq, Repr

/-- The Larkspur state that namespace 0 holds (R229, R248). -/
structure Tables where
  /-- Assignment of pairs 0 to 7; Table 9.1; reset Table 9.1. -/
  pairs : Vector Pair 8
  /-- Entries of PEER, ascending table address; R222; reset empty. -/
  peer : List Entry
  /-- Entries of ACL, ascending table address; R223; reset the one that permits everything. -/
  acl : List Entry
  /-- Entries of ROUTE, ascending table address; R226; reset empty. -/
  route : List Entry
  /-- Loaded patterns; R234; reset empty. -/
  patterns : List Pattern
  /-- Cascade; R243; reset none. -/
  cascade : Option Cascade
  deriving DecidableEq, Repr

/-! ## Chorus -/

/-- A namespace of a Chorus (Table 10.2). -/
structure ChorusNs where
  /-- Namespace; 8 bits. -/
  ns : Nat
  /-- SHARDS_LOG2; 0 to 10. -/
  log2 : Nat
  /-- MAX_KEYS; 32 bits. -/
  maxKeys : Nat
  /-- QUOTA [bytes]; 64 bits. -/
  quota : Nat
  deriving DecidableEq, Repr

/-- A shard held by this member: version counter and generation (R251, R282). -/
structure Shard where
  /-- Global number; R249. -/
  num : Nat
  /-- Namespace and index. -/
  ns : Nat
  index : Nat
  /-- Version counter; 64 bits; R251. -/
  counter : Nat
  /-- Generation; 16 bits; R249, R282. -/
  gen : Nat
  deriving DecidableEq, Repr

/-- A snapshot served to others: a checkpoint's or a transfer's (R273, R271): cut, and namespaces as at the cut. -/
structure Snapshot where
  /-- Checkpoint identifier; 64 bits; 0 for a transfer. -/
  id : Nat
  /-- Cut measure X; 48 bits. -/
  cut : Nat
  /-- STANZA_SIZE; 16 bits. -/
  size : Nat
  /-- Members counted in sealing F(X - 2); R273. -/
  counted : List Nat
  /-- Namespaces as at the cut, only keys of held shards. -/
  content : List Namespace
  /-- Shards as at the cut. -/
  shards : List Shard
  /-- C(X - 2); 32 bytes. -/
  chain : Bytes
  /-- Namespace entries of the Chorus as at the cut; R279. -/
  nss : List ChorusNs
  /-- Measure length code as at the cut; R279. -/
  length : Nat
  /-- The ledger key as at the cut; R176. -/
  key : Option Nat
  deriving DecidableEq, Repr

/-- Progress of loading a source shard (R281): shard number, next index, kept bytes digest input, keys kept, ended. -/
structure LoadShard where
  shard : Nat
  ns : Nat
  lo : Nat
  hi : Nat
  next : Nat
  folded : Bytes
  kept : List Bytes
  /-- A value whose further fragments are still to come; Table 10.8 MORE. -/
  part : Option KeyEnt
  /-- Key of the last record read, empty before the first; R278. -/
  last : Bytes
  /-- Keys read; R278 KEYS. -/
  keys : Nat
  ended : Bool
  counter : Nat
  lastRecord : Nat
  deriving DecidableEq, Repr

/-- A restore in progress (R280 to R282). -/
structure Restore where
  /-- Checkpoint identifier; 64 bits. -/
  checkpoint : Nat
  /-- Manifest payload so far, complete flag, next index; R279. -/
  manifest : Bytes
  complete : Bool
  next : Nat
  /-- Cut of the checkpoint; 48 bits. -/
  cut : Nat
  /-- Source shards under load. -/
  loads : List LoadShard
  /-- Records discarded because their key lies in no shard held; R281. -/
  discarded : Nat
  /-- E of the first RESTORE_END that found the load incomplete; R282. -/
  firstEnd : Option Nat
  deriving DecidableEq, Repr

/-- The Chorus state that namespace 0 holds (R249 to R283). -/
structure Chorus where
  /-- CHORUS_ID; 64 bits; Table 10.2. -/
  id : Nat
  /-- Effective measure E of its formation; 48 bits. -/
  e : Nat
  /-- MEMBERS, SELF, RF; Table 10.2. -/
  members : Nat
  self : Nat
  rf : Nat
  /-- Group IPv6 and IPv4 addresses; Table 10.2. -/
  group6 : Nat
  group4 : Nat
  /-- Member table: serial and IPv6 address; Table 10.2. -/
  table : List (Nat × Nat)
  /-- Namespace table; Table 10.2. -/
  nss : List ChorusNs
  /-- Shards held; R249. -/
  shards : List Shard
  /-- Chain values of measures from E - 1, newest first; 32 bytes each; R266. -/
  chain : List (Nat × Bytes)
  /-- Last measure whose Chorus set was sealed; 48 bits; R397. -/
  lastSealed : Nat
  /-- Chorus log: sets of the last 65,536 measures, newest first; R270. -/
  log : List (Nat × List Request)
  /-- Parked from this measure; R272. -/
  parked : Option Nat
  /-- Resuming from this measure; R272. -/
  resuming : Option Nat
  /-- Open checkpoint; R273. -/
  checkpoint : Option Snapshot
  /-- Restore in progress; R280. -/
  restore : Option Restore
  /-- Generation the shards were restored from plus one, or 0; R282. -/
  generation : Nat
  deriving DecidableEq, Repr

/-- What a member reported for a measure (R261, Table 10.4). -/
structure Report where
  /-- Reporting member. -/
  member : Nat
  /-- Measure T. -/
  measure : Nat
  /-- Round 1 or 2. -/
  round : Nat
  /-- FENCED, PARKED and RESUMING flags. -/
  fenced : Bool
  parked : Bool
  resuming : Bool
  /-- LENGTH code. -/
  length : Nat
  /-- COUNT, SET, CHAIN. -/
  count : Nat
  set : Bytes
  chain : Bytes
  /-- Gap ids: session, sequence. -/
  gaps : List (Nat × Nat)
  deriving DecidableEq, Repr

/-- An entry of a set as LIST reports it (R260, R263): class, opcode, session, sequence, request hash. -/
structure Listed where
  cls : Nat
  op : Nat
  session : Nat
  seq : Nat
  hash : Bytes
  deriving DecidableEq, Repr

/-- The volatile Chorus state of a member. -/
structure ChorusRun where
  /-- On-time sets A(T) of recent measures; R261; reset empty. -/
  onTime : List (Nat × List Request)
  /-- Chorus requests received after their T closed, or pulled; R263; reset empty. -/
  late : List Request
  /-- Entries learned by LIST, by measure; R263; reset empty. -/
  listed : List (Nat × List Listed)
  /-- Received DIGEST reports of recent measures; R261; reset empty. -/
  reports : List Report
  /-- Second copies received with another hash, with their target; R263; reset empty. -/
  clash : List (Nat × Listed)
  /-- Sealed sets whose chain no majority has confirmed; R266; reset empty. -/
  unconfirmed : List Nat
  /-- Sets applied by catch-up in the open measure; R270; reset 0. -/
  caughtUp : Nat
  /-- The set sealed last, and the members whose round 2 counted for it; R264, R273; reset none. -/
  counted : Nat × List Nat
  /-- The member must rejoin by transfer; R271; reset false. -/
  transferDue : Bool
  /-- Fetched sets waiting to be applied; R270; reset empty. -/
  fetched : List (Nat × List Request)
  /-- Transfer snapshots served, with the shard; R271; reset empty. -/
  serving : List (Nat × Snapshot)
  /-- PULL TRANSFERs with MEASURE 0 that wait for the cut at the head of the next sealed list; R271; reset empty. -/
  asks : List Request
  /-- Measure of the last DIGEST of each member; R268; reset 0. -/
  lastHeard : Vector Nat 8
  /-- Shards received by transfer: the cut, and the progress of loading; R271; reset empty. -/
  receiving : List (Nat × LoadShard)
  /-- Sealing fails since this rule of Table 14.2; reset none. -/
  fencedBy : Option Nat
  deriving DecidableEq, Repr

/-! ## Settings and the sealed-sequence store -/

/-- Configuration of an event channel that persists (R293, R295). -/
structure ChanCfg where
  /-- ENABLE; 1 bit; Table 11.5; reset 0. -/
  enable : Bool
  /-- POLICY, true for REMEMBER_ONCE; 1 bit; Table 11.5; reset 0. -/
  remember : Bool
  /-- SECURE; 1 bit; Table 11.5, R295; reset not secure. -/
  secure : Bool
  /-- OWNER; 2 bits; Table 11.5, R295; reset R295 defaults. -/
  owner : Owner
  /-- PRODUCERS mask; 64 bits; Table 11.5; reset 0. -/
  producers : BitVec 64
  /-- CONSUMERS mask; 64 bits; Table 11.5; reset 0. -/
  consumers : BitVec 64
  deriving DecidableEq, Repr

/-- Configuration of an EVIO ball (R299): DIR 0 OFF, 1 IN, 2 OUT; edge, filter, toggle. -/
structure EvioCfg where
  /-- DIR; 2 bits; R299; reset 0 OFF. -/
  dir : Nat
  /-- Edge; 2 bits; R299; reset 0. -/
  edge : Nat
  /-- Filter; 2 bits; R299; reset 0. -/
  filter : Nat
  /-- Toggle; 1 bit; R299; reset false. -/
  toggle : Bool
  deriving DecidableEq, Repr

/-- The settings (13, R348): what commands describe as persisting. -/
structure Settings where
  /-- Settings of ports 0 and 1; R135 and 15 NET; reset Table 6.2. -/
  ports : Vector PortNet 2
  /-- Management peer list; up to 8 addresses; R90; reset empty. -/
  peers : List Nat
  /-- Throttle thresholds S1 to S4 [signed degC]; 8 bits each; R323; reset Table 12.6 defaults. -/
  thermal : Vector Int 4
  /-- Read-reference windows by area and level: area, level, min, max; R200; reset empty (window of manufacture -32, 31). -/
  readPolicy : List (Nat × Nat × Int × Int)
  /-- SPARE_LOW [per mille]; R214; reset 250. -/
  spareLow : Nat
  /-- WEAR_HIGH [%]; R214; reset 80. -/
  wearHigh : Nat
  /-- TEMP_HIGH [degC]; R214; reset 85. -/
  tempHigh : Int
  /-- Coda trigger mask; 32 bits; R356, Table 14.3; reset 0x2FF (Table 14.3). -/
  codaMask : BitVec 32
  /-- Event channels 0 to 31; R293; reset R295. -/
  channels : Vector ChanCfg 32
  /-- EVIO balls 0 to 15; R299; reset OFF. -/
  evio : Vector EvioCfg 16
  /-- AON timer period [ms], 0 off; 32 bits; R294; reset DC 3 value 0. -/
  aonTimer : Nat
  /-- TICK_DIV exponent k; 0 to 16; R294; reset DC 3 value 0. -/
  tickDiv : Nat
  /-- Owners of mailboxes 0 to 7; R89; reset Table 4.8. -/
  owners : Vector Owner 8
  /-- Settings version in force; 16 bits; R348; reset DC 3 value 7. -/
  version : Nat
  deriving DecidableEq, Repr

/-- A staged package (R341). -/
structure Package where
  /-- PACKAGE_ID; 64 bits; Table 13.3. -/
  id : Nat
  /-- MAJOR, MINOR, PATCH, ROLLBACK; Table 13.3. -/
  major : Nat
  minor : Nat
  patch : Nat
  rollback : Nat
  /-- SETTINGS_VERSION; 16 bits; Table 13.3. -/
  settings : Nat
  /-- The stream; R334. -/
  stream : Bytes
  deriving DecidableEq, Repr

/-- Everything the sealed sequence changes and namespace 0, the flash layer and the settings keep (R16, R229, R340). -/
structure Store where
  /-- Format; R194; reset none (unformatted), DC 3. -/
  format : Option Format
  /-- Formats made, the MODEL's own count that tells whose superblocks a bank belongs to; no rule names it; reset DC 3 value 0. -/
  formats : Nat
  /-- Namespaces 1 to 255 that exist, ascending; R166; reset empty. -/
  nss : List Namespace
  /-- Version counters of namespace ids, never decreasing: id, counter; 64 bits; R164; reset empty (0). -/
  counters : List (Nat × Nat)
  /-- Open segmented values; R116; reset empty. -/
  segs : List OpenSeg
  /-- Open batches; R128; reset empty. -/
  batches : List Batch
  /-- Admission counts of mailboxes 0 to 7; 32 bits; R86; reset 0. -/
  admCount : Vector Nat 8
  /-- Free values that the sealed sequence has drawn, the MODEL's own counter; no rule names it; reset DC 2 value 0. -/
  draws : Nat
  /-- Namespace 0's use [bytes] and key count after the last list; 64 bits each; R170; reset DC 18 value 0. -/
  sysUse : Nat
  sysKeys : Nat
  /-- Next logical extent number; 40 bits; R160; reset 0. -/
  nextExtent : Nat
  /-- Management views that are not ONLINE, by unit identifier; 2 bits each; R94, R97; reset empty: every view ONLINE (Table 6.9 MGMT_VIEW 3; DC 4 for other kinds). -/
  mgmt : List (Nat × UnitState)
  /-- Raises of management views pending for the next boundary, by unit identifier; R97; reset empty. -/
  raises : List (Nat × UnitState)
  /-- Larkspur tables; R229; reset Table 9.1. -/
  tables : Tables
  /-- Settings; R348; reset of manufacture. -/
  settings : Settings
  /-- Settings of the old format kept during a trial; R348; reset none. -/
  oldSettings : Option Settings
  /-- Measure anchor T0 [ns], N0, length code; R22; reset (0, 0, 1). -/
  t0 : Nat
  n0 : Nat
  length : Nat
  /-- Pending anchor T_E, E, length code; R31; reset none. -/
  pendingAnchor : Option (Nat × Nat × Nat)
  /-- Commands that act at the next boundary, in sealed order; R371 SB; reset empty. -/
  boundary : List SealedCmd
  /-- Chorus-effective commands waiting for their E, in sealed order; R250; reset empty. -/
  effective : List (Nat × SealedCmd)
  /-- Chorus; R251; reset none. -/
  chorus : Option Chorus
  /-- Update state; 3 bits; Table 13.6; reset IDLE. -/
  upd : UpdState
  /-- Staged or trial package; R341; reset none. -/
  package : Option Package
  /-- Held keys of staging namespaces; R181; reset empty. -/
  held : List (Nat × Bytes)
  /-- RESET_WHEN_READY of ACTIVATE; R342; reset false. -/
  resetWhenReady : Bool
  /-- RESET of ROLLBACK; R347; reset false. -/
  resetOnRevert : Bool
  /-- PROVISION flags awaiting the fuse burn: OEM, LOCK_DEBUG, key hash, key; R402; reset none. -/
  provision : Option (Bool × Bool × Bytes × Bytes)
  /-- Ledger key generated, as a key number; R176, R402; reset none. -/
  ledgerKey : Option Nat
  deriving DecidableEq, Repr

/-- An entry of the erase journal: ERASE_PENDING or ERASE_DONE of the blocks of a superblock on one LUN (R205). -/
structure JournalEntry where
  group : Nat
  num : Nat
  lun : Nat
  done : Bool
  deriving DecidableEq, Repr

/-- A staging bank (R190): the store after the list of its measure executed (R321), whether it is programming (Table 2.3), the
erase-journal entries it carries (R205), and the relocations whose map updates it carries, as extent, index and the superblock
that holds the copy (R191, R196, R207). -/
structure Snap where
  measure : Nat
  store : Store
  programming : Bool
  journal : List JournalEntry
  moves : List (Nat × Nat × Nat × Nat)
  deriving DecidableEq, Repr

/-! ## Timebase, sequencer -/

/-- The timebase (02). -/
structure Timebase where
  /-- TMB_STATUS.STATE; 3 bits; Table 2.2; reset START. -/
  state : TbState
  /-- A measure is open; 1 bit; R28, Table 2.1; reset false. -/
  opened : Bool
  /-- Current measure; 48 bits; TMB_MEASURE_LO; Table 2.2; reset 0. -/
  measure : Nat
  /-- TMB_MEASURE_HI; 16 bits; Table 2.2; reset 0. -/
  measureHi : Nat
  /-- TMB_STATUS.STEP; 1 bit W1C; Table 2.2; reset 0. -/
  step : Bool
  /-- TMB_STATUS.OVERRUN; 1 bit W1C; Table 2.2; reset 0. -/
  overrun : Bool
  /-- A forward step has occurred since reset; TIME.STATUS FLAGS bit 0, R376; reset false. -/
  everStep : Bool
  /-- An overrun has occurred since reset; TIME.STATUS FLAGS bit 1, R376; reset false. -/
  everOverrun : Bool
  /-- TMB_OFFSET [ns]; 32 bits two's complement; Table 2.2; reset 0. -/
  offset : Int
  /-- TMB_SKIPPED; 32 bits saturating; Table 2.2; reset 0. -/
  skipped : Nat
  /-- TMB_PERSIST, the last persisted measure; 48 bits; Table 2.2; reset DC 3 value 0. -/
  persisted : Nat
  /-- Highest measure ever opened, so that none is used twice; 48 bits; R28; reset DC 3 value 0. -/
  highest : Nat
  /-- The open measure is the first after a forward step; R153; reset false. -/
  afterStep : Bool
  /-- Time of the tick that opened the measure [ns]; R22; reset 0. -/
  tickTime : Nat
  /-- Port the timebase takes time from; 1 bit; R151, Table 6.9 PTP_SOURCE; reset none. -/
  source : Option (Fin 2)
  /-- The start-up wait for gPTP has ended; R29; reset false. -/
  waitOver : Bool
  /-- gPTP time of the last Sync [ns]; R25; reset 0. -/
  gptp : Nat
  /-- Digests of the last 4,096 sealed measures, newest first; R51; reset empty. -/
  sealLog : List (Nat × Bytes)
  /-- Extrapolated measure count in Custody; 48 bits; R30; reset 0. -/
  extrapolated : Nat
  /-- PPS_OUT level; Table 16.7, R152; reset low. -/
  ppsOut : Bool
  /-- MAC0_PPS timestamp; 64 bits; Table 6.9; reset 0. -/
  ppsTime : Nat
  /-- MAC0_PPS_HI; 32 bits; Table 6.9; reset 0. -/
  ppsHi : Nat
  /-- MAC0_PPS_COUNT; 32 bits saturating; Table 6.9; reset 0. -/
  ppsCount : Nat
  /-- A tick is being made: views that move at one boundary are compared when it is done; R97, R98; reset false. -/
  ticking : Bool
  deriving DecidableEq, Repr

/-- The part of a namespace that an item touches: all of it, one key, or the keys under a prefix (R46). -/
inductive Scope where
  | all
  | key (k : Bytes)
  | under (p : Bytes)
  deriving DecidableEq, Repr

/-- What an item reads or changes, for R46: a namespace (or 256 + a pattern slot, R234) and the part of it. -/
structure Touch where
  ns : Nat
  scope : Scope
  deriving DecidableEq, Repr

/-- What later items wait for until the final measure F (R46). -/
structure Hold where
  touch : Touch
  /-- Final measure F; 48 bits; R47. -/
  final : Nat
  deriving DecidableEq, Repr

/-- A SCAN whose traversal goes on (R236). -/
structure ScanRun where
  /-- Its reply, complete as of its snapshot. -/
  reply : Reply
  /-- Automaton steps of the keys still to visit. -/
  costs : List Nat
  /-- Pattern slot, 0 for none. -/
  slot : Nat
  /-- Replies of PATTERN_UNLOADs held behind it; R234. -/
  behind : List Reply
  deriving DecidableEq, Repr

/-- The Sequencer and the admission store (02, 03). -/
structure Sequencer where
  /-- Slots used by local items in the open measure; R34; reset 0. -/
  slots : Nat
  /-- Write allowance used by local requests [bytes]; R34; reset 0. -/
  bytes : Nat
  /-- Items admitted in the open measure, in order of admission; R33; reset empty. -/
  admitted : List Item
  /-- Held pinned requests; R48; reset empty. -/
  held : List Request
  /-- Requests in reorder windows, by arrival, each with the measure of its arrival; R36, R112; reset empty. -/
  reorder : List (Request × Nat)
  /-- Unpinned requests and granted commands that wait for room, by arrival; R35, R39; reset empty. -/
  waiting : List Item
  /-- Sealed lists waiting for execution, oldest first; Table 3.1 SEAL; reset empty. -/
  sealed : List SealedList
  /-- Measures of overrun of the list in execution; R45; reset 0. -/
  overrunBy : Nat
  /-- Measure in whose execution window list execution runs: last executed list; reset 0. -/
  executed : Nat
  /-- What sliced operations still running change, and what items held behind them read or change; R46, R234; reset empty. -/
  slicing : List Hold
  /-- Measures by which the list in execution runs late; R45; reset 0. -/
  late : Nat
  /-- Final measure of the sliced operation that the item in execution is held behind, 0 for none; R46, R47; reset 0. -/
  behind : Nat
  /-- Responses waiting for their window, in sealed order; R43; reset empty. -/
  replies : List Reply
  /-- Read transfer allowance used in the open measure [bytes]; R44; reset 0. -/
  readUsed : Nat
  /-- SCANs whose traversal goes on, in sealed order; R236; reset empty. -/
  scans : List ScanRun
  /-- Automaton steps used in the open measure, and whether a SCAN has taken a slice in it; R236; reset 0, false. -/
  scanSteps : Nat
  scanRan : Bool
  /-- Active watches; R124; reset empty. -/
  watches : List Watch
  /-- CRD_REFUSED; 32 bits saturating; Table 3.3; reset 0. -/
  refusedCredit : Nat
  /-- CRD_RELEASED; 32 bits saturating; Table 3.3; reset 0. -/
  released : Nat
  /-- CRD_QSEL; 5 bits; Table 3.3; reset 0. -/
  qsel : Nat
  /-- CRD_SSEL; 16 bits; Table 3.3; reset 0. -/
  ssel : Nat
  /-- CRD_QWAIT of queues 0 to 31; 32 bits saturating; Table 3.3; reset 0. -/
  qwait : Vector Nat 32
  deriving DecidableEq, Repr

/-! ## Flash -/

/-- A codeword placed in a superblock (Table 8.3): its metadata and user data, its page, and what the map makes of it. -/
structure Codeword where
  /-- Extent number; 40 bits; Table 8.3. -/
  ext : Nat
  /-- Index within the extent; 32 bits; Table 8.3. -/
  idx : Nat
  /-- Namespace; 8 bits; Table 8.3. -/
  ns : Nat
  /-- Measure whose bank wrote it; 32 bits of it in Table 8.3. -/
  measure : Nat
  /-- User data; 4,096 bytes; Table 8.3. -/
  data : Bytes
  /-- Stripe and LUN of its page; R186. -/
  stripe : Nat
  lun : Nat
  /-- Its page is programmed with pass status; R190. -/
  programmed : Bool
  /-- The live map points to it; R196. -/
  live : Bool
  /-- The map of M_r points to it; R160, R207. -/
  durable : Bool
  /-- Superblock it was copied from, while its relocation is not durable; R196. -/
  source : Option (Nat × Nat)
  /-- Every stage of R189 has failed on it. -/
  unread : Bool
  deriving DecidableEq, Repr

/-- An erase block of a superblock (R186, R205). -/
structure NandBlock where
  /-- LUN; R186. -/
  lun : Nat
  /-- Block number on its LUN, whose plane is the remainder by the planes; R209. -/
  id : Nat
  /-- State; R205. -/
  state : BlockState
  /-- The durable erase journal shows ERASE_PENDING without ERASE_DONE; R205, R206. -/
  pending : Bool
  /-- Its erase has ended with pass status; R205. -/
  erased : Bool
  /-- Erase-indeterminate; R206. -/
  indeterminate : Bool
  /-- Erase count; R195, R205. -/
  erases : Nat
  /-- Reads since its last program; Table 8.7. -/
  reads : Nat
  /-- Measure it was opened for programming; Table 8.7. -/
  openedAt : Nat
  /-- Measure of its last scrub; Table 8.7. -/
  scrubbedAt : Nat
  /-- Reconstructions within 1,024 measures of its program; Table 8.7. -/
  rebuilt : Nat
  deriving DecidableEq, Repr

/-- A superblock (R186, R205). -/
structure Superblock where
  /-- Parity group and superblock number; R186. -/
  group : Nat
  num : Nat
  /-- SLC or native area; Table 8.4. -/
  native : Bool
  /-- Stream; Table 8.3. -/
  stream : Stream
  /-- Its blocks: one of each plane of each LUN of the group; R186. -/
  blocks : List NandBlock
  /-- LUNs it was opened over, W of them; R186, R187. -/
  luns : List Nat
  /-- Codewords placed in it; R186, R188. -/
  words : List Codeword
  /-- Data codeword places used, in stripe order; R187. -/
  used : Nat
  /-- Measure it was closed; R195. -/
  closedAt : Nat
  /-- Read references by level; R199. -/
  refs : List Int
  /-- A read of it needed a retry step of 4 or more, soft decode or reconstruction: a refresh is due; Table 8.7. -/
  hard : Bool
  /-- It is being relocated, and becomes ERASE_PENDING once no codeword of it is valid; R191, R198. -/
  draining : Bool
  deriving DecidableEq, Repr

/-- Where a NAND operation stands (R204): its data waits for the channel bus or moves to the device; the device works; what it
read waits for the bus or moves to the controller. -/
inductive NandPhase where
  | dataIn
  | array
  | dataOut (r : NandResult)
  deriving DecidableEq, Repr

/-- A NAND operation (R185, R202 to R204). -/
structure NandOp where
  /-- Kind; Table 8.2. -/
  kind : NandKind
  /-- Superblock and stripe. -/
  group : Nat
  num : Nat
  stripe : Nat
  /-- Codeword to be read, as extent and index; R189. -/
  word : Option (Nat × Nat)
  /-- The codeword is rebuilt from the rest of its stripe alone; R212. -/
  rebuild : Bool
  /-- Measure of the staging bank that a program belongs to; R190. -/
  bank : Option Nat
  /-- Where it stands; R204. -/
  phase : NandPhase
  /-- Suspends so far; R203. -/
  suspends : Nat
  /-- Slot boundaries it has run through since its last issue or resume; R203. -/
  ran : Nat
  /-- It is the one reissue after a timeout; R185. -/
  reissued : Bool
  deriving DecidableEq, Repr

/-- A LUN's flash-layer state. -/
structure Lun where
  /-- Unit identifier; Table 4.11; reset the LUNs of the board. -/
  id : Nat
  /-- Operation in progress; R202; reset none. -/
  op : Option NandOp
  /-- Suspended background operation; R203; reset none. -/
  held : Option NandOp
  /-- Operation that follows the suspend or the LUN reset in progress; R185, R203; reset none. -/
  next : Option NandOp
  /-- Foreground operations waiting for a slot; R52; reset empty. -/
  fg : List NandOp
  /-- Background operations waiting; R52; reset empty. -/
  bg : List NandOp
  /-- Consecutive measures in which background was refused every slot; 3 bits; R52; reset 0. -/
  denied : Nat
  /-- Background obtained a slot in the open measure; R52; reset false. -/
  bgRan : Bool
  /-- Background was refused a slot in the open measure; R52; reset false. -/
  bgRefused : Bool
  /-- Background takes the first slot of the open measure; R52; reset false. -/
  bgFirst : Bool
  /-- Spare blocks remaining, as block number and erase count, and how many there were at format; R209; reset DC 3 value empty, 0. -/
  spares : List (Nat × Nat)
  spareFormat : Nat
  /-- Grown-bad list: retired blocks; R194, R209; reset DC 3 value empty. -/
  retired : List Nat
  /-- Decodes at stages 2, 3, 4; 32 bits each; R213; reset 0. -/
  stage2 : Nat
  stage3 : Nat
  stage4 : Nat
  /-- Evacuation complete while below DEGRADED; R212; reset false. -/
  evacuated : Bool
  /-- Last measure at whose close it reached ONLINE or DEGRADED; R211; reset 0. -/
  soundAt : Nat
  deriving DecidableEq, Repr

/-- A channel bus (R204). -/
structure Bus where
  /-- LUN whose transfer is under way; reset none. -/
  moving : Option Nat
  /-- Consecutive measures in which background transfers were refused; 3 bits; reset 0. -/
  denied : Nat
  /-- A background transfer started, or was refused, in the open measure; reset false. -/
  bgRan : Bool
  bgRefused : Bool
  /-- The first transfer of the open measure is a background one; reset false. -/
  bgFirst : Bool
  deriving DecidableEq, Repr

/-- A relocation of a superblock (R191, R196, R212). -/
structure Relocation where
  /-- Superblock it reads; R196. -/
  group : Nat
  num : Nat
  /-- Stream it writes; Table 8.3. -/
  stream : Stream
  /-- It is an evacuation, which reads FENCED LUNs; R212. -/
  evac : Bool
  /-- Codewords still to be read, and those read, as extent and index. -/
  pending : List (Nat × Nat)
  got : List (Nat × Nat)
  deriving DecidableEq, Repr

/-- The flash layer (08). -/
structure Flash where
  /-- LUNs present; R184; reset the board's. -/
  luns : List Lun
  /-- Superblocks of the SLC and native areas; R186; reset empty: none before the first format. -/
  sbs : List Superblock
  /-- Channel buses 0 to 7; R204; reset idle. -/
  buses : Vector Bus 8
  /-- Operations, with their LUN, that wait for a place in their channel's queue; R54; reset empty. -/
  waiting : List (Nat × NandOp)
  /-- Programs, with their LUN, whose page is to be placed again once there is room; R190, R192; reset empty. -/
  again : List (Nat × NandOp)
  /-- Relocations under way; R196; reset empty. -/
  moves : List Relocation
  /-- Erase-journal entries that no bank carries yet, in order; R205; reset empty. -/
  journal : List JournalEntry
  /-- Parity groups in which garbage collection runs, from 4% free until 6% are free; R195; reset empty. -/
  collecting : List Nat
  /-- Blocks retired since format; 32 bits; Table 8.10; reset 0. -/
  blocksRetired : Nat
  /-- WARN_ACTIVE; 32 bits; Table 8.10; reset 0. -/
  active : BitVec 32
  /-- WARN_LATCHED; 32 bits; Table 8.10; reset 0. -/
  latched : BitVec 32
  /-- Host value bytes written, NAND bytes programmed; 64 bits each; Table 8.10; reset 0. -/
  hostBytes : Nat
  nandBytes : Nat
  /-- Codewords decoded at stages 2, 3, 4 and unreadable; 64 bits each; Table 8.10; reset 0. -/
  stage2 : Nat
  stage3 : Nat
  stage4 : Nat
  unreadable : Nat
  /-- Program fails, erase fails, erase-indeterminate blocks found, POLICY_OVERRIDDEN reads, timeouts; 32 bits each; Table 8.10; reset 0. -/
  programFails : Nat
  eraseFails : Nat
  indeterminate : Nat
  overridden : Nat
  timeouts : Nat
  /-- Temperature of the last sample, highest ever, and its measure; 8, 8, 48 bits; Table 8.10; reset none (0x80). -/
  temp : Option Int
  tempMax : Option Int
  tempMeasure : Nat
  /-- TEMP_HIST; 8 counters of 64 bits; Table 8.10; reset 0. -/
  hist : Vector Nat 8
  /-- LPDDR5 rank that carries the fixed regions; 1 bit; R162, R163; reset 0. -/
  fixedRank : Nat
  /-- LPDDR5 rank whose fixed region failed; it starts FENCED at the next start-up; R163; reset none. -/
  badRank : Option Nat
  deriving DecidableEq, Repr

/-! ## Larkspur array health -/

/-- Cells of an array unit that do not hold what was written into them (R216). -/
structure CellFault where
  /-- Bank x 8,192 + unit; 17 bits. -/
  pos : Nat
  /-- The inverted bits: 128 value bits, then 128 care bits. -/
  flips : Nat
  /-- The cells cannot be rewritten; R221. -/
  stuck : Bool
  deriving DecidableEq, Repr

/-- A shadow word that is not a correct image of what was written into its unit (R216, R239). -/
structure ShadowFault where
  /-- Bank x 8,192 + unit; 17 bits. -/
  pos : Nat
  /-- Data bits of the stored word that differ from what was written into the unit, under check bits of their own. -/
  off : Nat
  /-- Inverted bits of the 256 data and 10 check bits. -/
  flips : Nat
  deriving DecidableEq, Repr

/-- The physical condition of the Larkspur array (R216, R238 to R241): what the array units and the shadow words hold follows from
the tables but for the faults listed here. -/
structure LksArray where
  /-- Faulty array units; R221, R238; reset empty. -/
  cells : List CellFault
  /-- Faulty shadow words; R239; reset empty. -/
  shadow : List ShadowFault
  /-- Pairs that must be rebuilt, each with the measure in which the error was found; R239; reset empty. -/
  rebuild : List (Nat × Nat)
  /-- Scrub position: bank x 8,192 + unit; 17 bits; R238; reset 0. -/
  scrubAt : Nat
  /-- Scrub position within the DEGRADED banks taken together, which get every second read; R240; reset 0. -/
  weakAt : Nat
  /-- The scrub reads of the open measure are made; R238; reset false. -/
  scrubbed : Bool
  /-- Measures since scrub last had an idle array cycle; R53; reset 0. -/
  noIdle : Nat
  /-- Forced scrub is in force; R53; reset false. -/
  forced : Bool
  /-- Repairs by unit in the last 4,096 measures: position, measure; R240; reset empty. -/
  repaired : List (Nat × Nat)
  /-- REPAIRS, REBUILDS, MOVES, CASCADE_TURNS; 32 bits each; R389; reset 0. -/
  repairs : Nat
  rebuilds : Nat
  moves : Nat
  turns : Nat
  /-- SEARCHES of tables 1 to 4; 64 bits each; R389; reset 0. -/
  searches : Vector Nat 4
  /-- CASC_ID strap; 2 bits; R243, R408; reset 0 (pull-downs, R407). -/
  chipId : Nat
  /-- Chip whose turn it is, transaction count modulo 16; R244; reset 0. -/
  turn : Nat
  txn : Nat
  /-- The cascade is lost; R247; reset false. -/
  lost : Bool
  /-- Consecutive well-formed turns; R247; reset 0. -/
  goodTurns : Nat
  /-- MATCH_OUT level, the header of the last transaction, and the last result bytes on the bus; R244; reset low, 0, empty. -/
  matchOut : Bool
  header : Nat
  result : Bytes
  /-- This chip drives the result bytes; R244; reset false. -/
  wins : Bool
  deriving DecidableEq, Repr

/-! ## Event fabric -/

/-- The run-time state of an event channel (Table 11.5). -/
structure Chan where
  /-- Configuration in force; R293; reset disabled. -/
  cfg : ChanCfg
  /-- LOCKED; 1 bit; R296, R7; reset 0. -/
  locked : Bool
  /-- EVENTS, MERGED, OVERRUNS, ABSENT; 32 bits saturating each; Table 11.5; reset 0. -/
  events : Nat
  merged : Nat
  overruns : Nat
  absent : Nat
  /-- EVF_OVERRUN bit; 1 bit W1C; Table 11.5; reset 0. -/
  overrunFlag : Bool
  /-- Timestamp; 64 bits; R298; reset 0. -/
  ts : Nat
  /-- Consumers whose pending bit for this channel is set; 64 bits; R289; reset 0. -/
  pending : BitVec 64
  /-- Pulse time of the event that TIMESTAMP's pending bit stands for; 64 bits; R290, R298; reset 0. -/
  tsWait : Nat
  /-- Cantor interrupt bit; 1 bit; Table 11.2 CANTOR_IRQ; reset 0. -/
  irq : Bool
  deriving DecidableEq, Repr

/-- The event fabric (11). -/
structure Fabric where
  /-- Channels 0 to 31; R284; reset disabled. -/
  chans : Vector Chan 32
  /-- Consumers busy with an action: consumer, channel, pulse time of the event; R289; reset empty. -/
  busy : List (Nat × Nat × Nat)
  /-- Events on their way: channel, consumer, and REMEMBER_ONCE as it was at the pulse; R287, R293; reset empty. -/
  flight : List (Nat × Nat × Bool)
  /-- EVIO balls in force; R299, EVF_EVIO_DIR; reset OFF. -/
  evio : Vector EvioCfg 16
  /-- EVF_EVIO_LEVEL; 16 bits; Table 11.5; reset 0 (pull-downs, Table 16.7). -/
  level : BitVec 16
  /-- AON timer period in force [ms]; R294; reset 0. -/
  aonTimer : Nat
  /-- TICK_DIV exponent in force; R294; reset 0. -/
  tickDiv : Nat
  /-- EVF_CHSEL; 5 bits; Table 11.5; reset 0. -/
  chsel : Fin 32
  /-- EVF_CH_TS_HI; 32 bits; Table 11.5; reset 0. -/
  tsHi : Nat
  deriving DecidableEq, Repr

/-! ## Coda -/

/-- A report waiting in the CODA queue (Table 3.1, Table 14.1). -/
structure Report14 where
  /-- CODE, SOURCE; Table 14.1. -/
  code : Nat
  source : Nat
  /-- SECURE flag; R295. -/
  secure : Bool
  /-- PAYLOAD, leading bytes; Table 14.2. -/
  payload : Bytes
  /-- Trigger bit of Table 14.3 that this report raises; R356. -/
  trigger : Option Nat
  deriving DecidableEq, Repr

/-- A Coda entry in the ring (Table 14.1). -/
structure CodaEntry where
  seq : Nat
  code : Nat
  source : Nat
  secure : Bool
  trigger : Bool
  post : Bool
  extrapolated : Bool
  measure : Nat
  time : Nat
  payload : Bytes
  deriving DecidableEq, Repr

/-- A record in a vault slot (Table 14.4). -/
structure VaultRecord where
  kind : Nat
  part : Bool
  stop : Bool
  kept : Bool
  firstSeq : Nat
  triggerSeq : Nat
  post : Nat
  triggerCode : Nat
  merged : Nat
  dropped : Nat
  starts : Nat
  triggerMeasure : Nat
  serial : Nat
  major : Nat
  minor : Nat
  patch : Nat
  entries : List CodaEntry
  deriving DecidableEq, Repr

/-- Coda (14). -/
structure Coda where
  /-- CODA queue; depth 32; Table 3.1; reset empty. -/
  queue : List Report14
  /-- Ring entries, newest first, at most 4,096; R355; reset DC 3 value empty. -/
  ring : List CodaEntry
  /-- CDA_HEAD_SEQ, SEQ of the newest entry; 32 bits; Table 14.6; reset DC 3 value 0. -/
  headSeq : Nat
  /-- CDA_HEAD_SLOT; 12 bits; Table 14.6; reset DC 3 value 0. -/
  headSlot : Nat
  /-- CDA_STATUS.STATE; 2 bits; Table 14.6; reset DC 3 value LIVE. -/
  state : RingState
  /-- CDA_STATUS.POST; 16 bits; Table 14.6; reset 0. -/
  post : Nat
  /-- Triggers merged into the current record; 16 bits; R357; reset 0. -/
  merged : Nat
  /-- CDA_STATUS.PENDING: trigger bit, causing code, SEQ, NOTE of the pending freeze; R357; reset none. -/
  pendingFreeze : Option (Nat × Nat × Nat × Nat)
  /-- CDA_STATUS.UNFLUSHED: records copied out and waiting for the vault, oldest first; R358, R360; reset empty. -/
  unflushed : List VaultRecord
  /-- CDA_STATUS.UNKEPT; 8 bits saturating; Table 14.6; reset 0. -/
  unkept : Nat
  /-- CDA_DROPPED; 32 bits saturating; Table 14.6; reset 0. -/
  dropped : Nat
  /-- Entries dropped in the present hold, first and last MEASURE; R358; reset none. -/
  holdDrops : Option (Nat × Nat × Nat)
  /-- CDA_TRIGGERS shown; 32 bits; Table 14.6; reset 0x0000_000B. -/
  mask : BitVec 32
  /-- CDA_WINSEL; 12 bits; Table 14.6; reset 0. -/
  winsel : Nat
  /-- Record slots 1 to 16 and stop slot 17; R360; reset DC 3 value empty. -/
  vault : Vector (Option VaultRecord) 17
  deriving DecidableEq, Repr

/-! ## Power and modes -/

/-- A planned stop through a command (Table 12.3): admitting measure A, and whether it leads to Custody. -/
structure Plan where
  adm : Nat
  custody : Bool
  deriving DecidableEq, Repr

/-- The power and mode controller (12). -/
structure Power where
  /-- Mode; PWR_STATUS.MODE; Table 12.11; reset Start-up. -/
  mode : Mode
  /-- A controller reset is asserted, released by CONTROLLER_RESET_RELEASE; R305; reset true. -/
  inReset : Bool
  /-- Start-up is held by PWR_FAIL_n; R310; reset false. -/
  held : Bool
  /-- The running image is loaded; R358; reset false. -/
  loaded : Bool
  /-- Replay is complete and settings are applied; R308; reset false. -/
  ready : Bool
  /-- PWR_STATUS.STEP; 3 bits; Table 12.11; reset 0. -/
  step : Nat
  /-- Measure of the last change of step; R322; reset 0. -/
  stepAt : Nat
  /-- PWR_STATUS.TJ; 8 bits signed; Table 12.11; reset 0. -/
  tj : Int
  /-- PWR_THERMAL.TJ_MAX; 8 bits signed; Table 12.11; reset 0. -/
  tjMax : Int
  /-- MEASURES_THROTTLED; 32 bits saturating; R329; reset 0. -/
  throttled : Nat
  /-- PWR_FAIL_n asserted; 1 bit; Table 12.11; reset DC 3 value false. -/
  pwrFail : Bool
  /-- HOLDUP_OK high; 1 bit; Table 12.11; reset DC 3 value true. -/
  holdupOk : Bool
  /-- THERM_ALERT_n asserted; 1 bit; Table 12.11; reset DC 3 value false. -/
  thermAlert : Bool
  /-- PWR_STATUS.XTAL32_OK; 1 bit; Table 12.11, R419; reset 0. -/
  xtal32 : Bool
  /-- PWR_STATUS.HOLDUP_LOW; 1 bit W1C; Table 12.11; reset 0. -/
  holdupLow : Bool
  /-- PWR_RESET_CAUSE.CAUSE, PREVIOUS; 4 bits each, sticky; Table 12.11; reset DC 3 value 0. -/
  cause : ResetCause
  previous : ResetCause
  /-- PWR_RESET_CAUSE.BOOT_FAILS; 2 bits sticky; Table 12.11, R350; reset DC 3 value 0. -/
  bootFails : Nat
  /-- The image has been started and has not opened its first measure; R350; reset false. -/
  starting : Bool
  /-- The last start followed a fallback; R350; reset false. -/
  afterFallback : Bool
  /-- The last start failed, by a reset of code 2 or 3 before its first measure; R350; reset false. -/
  failed : Bool
  /-- PWR_STARTUP flags; 32 bits; Table 12.5; reset 0. -/
  flags : BitVec 32
  /-- PWR_MR, M_r; 48 bits; Table 12.11; reset 0. -/
  mr : Nat
  /-- PWR_TIMES.STARTUP_MS; 16 bits; Table 12.11; reset 0. -/
  startupMs : Nat
  /-- PWR_TIMES.QUIESCE [10 us]; 16 bits; Table 12.11; reset 0. -/
  quiesce : Nat
  /-- Start-ups since manufacture; 32 bits; R329; reset DC 3 value 0. -/
  starts : Nat
  /-- Stop record in the system area: X, HOLDUP_OK at entry, duration [10 us]; R319; reset none. -/
  stopRecord : Option (Nat × Bool × Nat)
  /-- A measure was opened since the stop record was last written; R311; reset false. -/
  hasRun : Bool
  /-- STOP_MEASURE reported: the X of the previous stop record, 0 if unclean; 48 bits; R329; reset 0. -/
  stopMeasure : Nat
  /-- The reset of code 6 is held until Tj has fallen; R324; reset false. -/
  thermalHold : Bool
  /-- X and HOLDUP_OK at the entry of the Quiesce in progress; R319; reset none. -/
  stopping : Option (Nat × Bool)
  /-- Quiesce of the stop form is complete; R319; reset false. -/
  stopped : Bool
  /-- Code of the reset that ends the stop form when it does not wait for PWR_FAIL_n; R320; reset none. -/
  stopCode : Option ResetCause
  /-- Planned stop by command; R307; reset none. -/
  plan : Option Plan
  /-- Recovery request left by DEVICE.RESET with TARGET 1; Table 12.10; reset false. -/
  recoveryRequest : Bool
  /-- TARGET of the planned DEVICE.RESET is 1; reset false. -/
  planRecovery : Bool
  /-- The ports have stopped in Custody entry; R313; reset false. -/
  portsStopped : Bool
  /-- A wake event was kept during Custody entry: source, channel; R315; reset none. -/
  wakeKept : Option (Nat × Nat)
  /-- PRESENT_n asserted (low); Table 12.7; reset false (released). -/
  present : Bool
  /-- ALIVE high; Table 12.7; reset false (low). -/
  alive : Bool
  /-- Core that last served the watchdog; Table 14.2 WATCHDOG_WARN; reset 0. -/
  lastServe : Nat
  /-- Watchdog paused by a debugger halt; R367; reset false. -/
  wdogPaused : Bool
  /-- Reason of entry of the present Recovery; Table 14.2; reset 0. -/
  recoveryReason : Nat
  deriving DecidableEq, Repr

/-! ## Update and NOR -/

/-- An image at rest: release, ROLLBACK, settings version, and whether it passes its checks (R345). -/
structure Image where
  /-- Release, 8 bits each; R331; reset of the running image DC 3 value 3, 2 and 0. -/
  major : Nat
  minor : Nat
  patch : Nat
  /-- ROLLBACK; 8 bits; R339; reset of the running image DC 3 value 0. -/
  rollback : Nat
  /-- Settings version it reads and writes, and the oldest it migrates; 16 bits each; R348; reset of the running image DC 3 value 7 and 7. -/
  settings : Nat
  migrates : Nat
  /-- It passes its checks; 1 bit; R345; reset of the running image DC 3 value true. -/
  valid : Bool
  deriving DecidableEq, Repr

/-- A settings region of the NOR (R348, Table 13.8). -/
structure Region where
  /-- SETTINGS_VERSION, SEQUENCE and the settings it holds. -/
  version : Nat
  sequence : Nat
  content : Settings
  deriving DecidableEq, Repr

/-- A Recovery download (R351, R352). -/
structure Rdl where
  /-- PHASE; Table 13.9; reset idle. -/
  phase : RdlPhase
  /-- RESULT; 16 bits; Table 13.9; reset OK. -/
  result : Status
  /-- Opened over Ethernet; R351; reset false. -/
  eth : Bool
  /-- Bound transfer id and source; R352; reset none. -/
  session : Nat
  src : Option Source
  /-- Blocks under assembly: index, chunks as offset and bytes; at most 8; R351; reset empty. -/
  assembling : List (Nat × List (Nat × Bytes))
  /-- Stored blocks: index and data; R351; reset empty. -/
  stored : List (Nat × Bytes)
  deriving DecidableEq, Repr

/-- The boot NOR, the xSPI controller and the update machinery (13). -/
structure Nor where
  /-- Active loader slot; boot record; R331; reset DC 3 value 0. -/
  activeSlot : Fin 2
  /-- The loader slots pass R345; reset DC 3 value true. -/
  slotOk : Vector Bool 2
  /-- ROLLBACK that each loader slot's header carries; 8 bits each; R339, R343; reset DC 3 value 0. -/
  slotRollback : Vector Nat 2
  /-- Update state mirrored in the boot record; R342; reset IDLE. -/
  bootState : UpdState
  /-- The boot record shows INSTALLING; R343; reset false. -/
  installing : Bool
  /-- Confirmed ROLLBACK recorded in the boot record; R339; reset 0. -/
  confirmed : Nat
  /-- Running image region; R331; reset DC 3 value release 3.2.0. -/
  running : Image
  /-- Pending region: the stream written and read back; R341; reset none. -/
  pending : Option Bytes
  /-- PENDING_READY; R341; reset false. -/
  pendingReady : Bool
  /-- Firmware archive in NAND: image, loader slot, settings version; R342; reset none. -/
  archive : Option (Image × Fin 2 × Nat)
  /-- ARCHIVE_READY: the archive is durable; R342; reset false. -/
  archiveReady : Bool
  /-- Settings regions A and B; R348; reset none. -/
  regionA : Option Region
  regionB : Option Region
  /-- XIP is enabled for the device; R332; reset DC 3 value false. -/
  xip : Bool
  /-- LAST_NOR_STATUS, status of the last refused NOR command; 16 bits; R354; reset 0. -/
  lastStatus : Nat
  /-- Recovery download; R351; reset idle. -/
  rdl : Rdl
  deriving DecidableEq, Repr

/-! ## Cantor cores and debug -/

/-- A protection region: base, limit (one past), read, write, execute (R74). -/
structure ProtRegion where
  base : Nat
  limit : Nat
  r : Bool
  w : Bool
  x : Bool
  deriving DecidableEq, Repr

/-- An L2 line in the directory: owner, requests waiting with whether each has lost (R72). -/
structure DirLine where
  line : Nat
  owner : Option (Fin 4)
  /-- Requests that wait, with the grants each has waited behind; R72, R73. -/
  waiting : List (Fin 4 × Nat)
  deriving DecidableEq, Repr

/-- An MDIO write on the bus (R156, R393). -/
structure MdioWrite where
  clause : Nat
  phy : Nat
  mmd : Nat
  register : Nat
  value : Nat
  deriving DecidableEq, Repr

/-- The Cantor cluster, the MDIO bus and the JTAG port (04, R156, R367). -/
structure Cluster where
  /-- Last write driven on the MDIO bus; R156, R393; reset none. -/
  mdio : Option MdioWrite
  /-- Protection regions of cores 0 to 3, at most 16 each; R74; reset DC 3 value empty. -/
  regions : Vector (List ProtRegion) 4
  /-- L2 directory lines with an owner or waiting requests; R72; reset empty. -/
  dir : List DirLine
  /-- Cores halted by a debugger; R367; reset none. -/
  halted : Vector Bool 4
  /-- JTAG instruction in effect; R367; reset PR 6 IDCODE. -/
  jtag : JtagInstr
  /-- Boundary-scan register; R367; reset 0. -/
  boundary : Nat
  /-- Data shifted out by the last JTAG instruction; R367; reset 0. -/
  tdo : Nat
  deriving DecidableEq, Repr

/-- MRS state that is the SPI port's own (04). -/
structure Spi where
  /-- MBX_WINSEL; 3 bits; Table 4.5; reset 0. -/
  winsel : Fin 8
  /-- MBX_PORT_STAT; 8 bits; Table 4.5; reset 0. -/
  portStat : Nat
  /-- MBX_FAULT_START; 24 bits; Table 4.5; reset 0. -/
  faultStart : Nat
  /-- MBX_FAULT_FIRST; 24 bits; Table 4.5; reset 0. -/
  faultFirst : Nat
  /-- Secured blocks are open to SPI; R76, R399; reset false. -/
  unlocked : Bool
  /-- MISO bytes of the last frame; Table 4.3; reset empty. -/
  miso : Bytes
  deriving DecidableEq, Repr

/-! ## The whole state -/

/-- The DZ4810 drive. -/
structure State where
  /-- Commands that wait, first in first out; the model's queue; reset empty. -/
  pending : List Instr
  /-- Board facts. -/
  board : Board
  /-- Fuses. -/
  fuses : Fuses
  /-- Units present, ascending identifier; R94; reset the units of the board, as under HwUnit. -/
  units : List HwUnit
  /-- Timebase. -/
  tb : Timebase
  /-- Sequencer. -/
  seq : Sequencer
  /-- Sessions known: open, or with sealed session state; R107; reset empty. -/
  sessions : List Session
  /-- Mailboxes 0 to 7. -/
  mbx : Vector Mailbox 8
  /-- SPI management port. -/
  spi : Spi
  /-- Ports 0 and 1. -/
  ports : Vector Port 2
  /-- Sealed-sequence state, live. -/
  store : Store
  /-- Stores of measures executed and not yet durable, oldest first; R321; reset empty. -/
  snaps : List Snap
  /-- Store of the last persisted measure; R321; reset the live one. -/
  durable : Store
  /-- Chorus run-time state. -/
  chorus : ChorusRun
  /-- Flash layer. -/
  flash : Flash
  /-- Larkspur array condition. -/
  lks : LksArray
  /-- Event fabric. -/
  fabric : Fabric
  /-- Coda. -/
  coda : Coda
  /-- Power and mode controller. -/
  power : Power
  /-- NOR and update. -/
  nor : Nor
  /-- Cantor cluster and debug. -/
  cluster : Cluster
  /-- The MODEL's own counter of free values drawn; no rule names it; reset DC 2 value 0. -/
  fresh : Nat
  deriving DecidableEq, Repr

/-- The ways the block could stop with a fault: none. The manual's faults (a protection fault, an internal fatal error, a
loss of power) are changes of state that the commands make, so no meaning ends in one. -/
inductive Fault where
  deriving DecidableEq, Repr

/-- The ways a command can be refused by the model. -/
inductive Refusal where
  /-- The command has no meaning yet. Raised by the dispatcher only, for an arm that waits for its meaning. Safe: the
  block stops where the hardware goes on. -/
  | notModelled (mnemonic : String)
  deriving DecidableEq, Repr

/-! ## Reset values -/

/-- LUN identifiers of a board with `ce` chip enables a channel and `luns` LUNs a chip enable (Table 4.11), ascending. -/
def lunIds (ce luns : Nat) : List Nat :=
  (List.range 8).flatMap fun c => (List.range ce).flatMap fun e =>
    (List.range luns).map fun l => 0x1000 + c * 16 + e * 4 + l

/-- Reset of the board facts: the drives of the manual's road train with one LPDDR5 rank (DC 3). -/
def Board.reset : Board where
  serial := 1
  gradeA2 := true
  baseMac := 0
  ce := 2
  lunsPerCe := 2
  blocks := 2048
  pages := 4096
  factoryBad := (lunIds 2 2).map fun l => (l, (List.range 42).map (2006 + ·))
  cellBits := 3
  nandOk := true
  profile := 1
  lpddrGib := 8
  ranks := 1
  planes := 2
  port1 := true

/-- Fuses of an unprovisioned drive (DC 3); the anti-rollback counter is 0 at manufacture (Table 13.2). -/
def Fuses.reset : Fuses where
  provisioned := false
  debugLocked := false
  oemKey := false
  oemHash := []
  oemFwKey := []
  rollback := 0

/-- A unit whose data path starts at `v`. -/
def HwUnit.fresh (id : Nat) (v : UnitState) : HwUnit where
  id := id
  data := v
  apart := 0
  pairAge := 0
  noted := false
  qualified := false
  degradedAt := none
  events := []
  events2 := []
  timeouts := []
  spent := false
  good := 0

/-- Units of the board, ascending (Table 4.11). Members appear when a Chorus is formed. -/
def HwUnit.present (b : Board) : List HwUnit :=
  (lunIds b.ce b.lunsPerCe).map (HwUnit.fresh · .online) ++
  (List.range 8).map (fun c => HwUnit.fresh (0x2000 + c) .online) ++
  (List.range b.ranks).map (fun r => HwUnit.fresh (0x3000 + r) .online) ++
  (List.range 16).map (fun k => HwUnit.fresh (0x4000 + k) .online) ++
  (List.range (if b.port1 then 2 else 1)).map (fun p => HwUnit.fresh (0x5000 + p) .offline)

/-- Table 6.2 from manufacture. -/
def PortSettings.reset (n : Nat) : PortSettings where
  sgmii := false
  maxRate := 4
  jumbo := false
  flow := true
  honourPause := true
  phyAddr := n
  highWm := 384
  lowWm := 256
  dataVid := 0
  mgmtVid := 0
  dataPcp := 0
  mgmtPcp := 7
  ptpRx := 0
  ptpTx := 0

/-- Settings of a port from manufacture. -/
def PortNet.reset (b : Board) (n : Nat) : PortNet where
  set := .reset n
  filter0 := b.baseMac + n
  filter0On := true
  filter4 := Vector.replicate 4 none
  ipv6 := none
  ipv4 := none
  hbDest := none
  policy := .disabled
  replayWindow := 0
  txSa := []
  rxSa := []

/-- A port at reset (Table 6.9). -/
def Port.reset : Port where
  link := false
  rate := 0
  paused := false
  pauseQuanta := 0
  xoff := false
  phyInt := false
  linkChange := false
  pnHigh := false
  rxBytes := 0
  rxDesc := 0
  rxPending := []
  hold := 0
  counters := Vector.replicate 30 0
  parser := []
  queue := []
  urgent := []
  hb := none
  inFlight := none
  hbSeq := 1
  nextDesc := 0
  txCancel := none
  cleanMeasure := false
  phyRun := false
  phySilent := false
  synced := false
  syncInterval := 0
  syncCount := 0
  pdelaySent := none
  pdelaySeq := 0
  peerDelay := 0

/-- A mailbox at reset (Table 4.5; buffers DC 5). -/
def Mailbox.reset : Mailbox where
  state := .idle
  eth := false
  cancelled := false
  late := false
  abandoned := false
  code := 0
  seqReg := 0
  request := List.replicate 512 0
  response := List.replicate 512 0
  prevSeq := none
  lastDone := none
  stored := false
  cancelPending := false
  peer := none

/-- A pair's assignment. -/
def Pair.make (t : Table) (w : Nat) (ordered : Bool) (holes : Nat) : Pair := ⟨t, w, ordered, holes⟩

/-- Larkspur tables at manufacture (Table 9.1; R223: one ACL entry that permits everything). -/
def Tables.reset : Tables where
  pairs := #v[.make .route 1 false 0, .make .peer 2 false 0, .make .acl 2 true 16, .make .acl 2 true 16,
    .make .automaton 1 true 0, .make .automaton 1 true 0, .make .automaton 1 true 0, .make .automaton 1 true 0]
  peer := []
  acl := [{ addr := 2 * 8192, tag := 0, prio := 0, value := 0, care := 0 }]
  route := []
  patterns := []
  cascade := none

/-- Owner of a channel from manufacture (R295). -/
def ChanCfg.reset (n : Nat) : ChanCfg where
  enable := false
  remember := false
  secure := false
  owner := if n < 8 then .sec else if n < 20 then .mgmt else .rt
  producers := 0
  consumers := 0

/-- An EVIO ball that is off. -/
def EvioCfg.reset : EvioCfg := ⟨0, 0, 0, false⟩

/-- Settings from manufacture. -/
def Settings.reset (b : Board) : Settings where
  ports := #v[.reset b 0, .reset b 1]
  peers := []
  thermal := if b.gradeA2 then #v[110, 115, 120, 125] else #v[95, 100, 105, 110]
  readPolicy := []
  spareLow := 250
  wearHigh := 80
  tempHigh := 85
  codaMask := 0x2FF
  channels := Vector.ofFn fun n : Fin 32 => .reset n
  evio := Vector.replicate 16 .reset
  aonTimer := 0
  tickDiv := 0
  owners := #v[.sec, .mgmt, .mgmt, .mgmt, .rt, .rt, .rt, .rt]
  version := 7

/-- The store of a drive that was never formatted (DC 3). -/
def Store.reset (b : Board) : Store where
  format := none
  formats := 0
  nss := []
  counters := []
  segs := []
  batches := []
  admCount := Vector.replicate 8 0
  draws := 0
  sysUse := 0
  sysKeys := 0
  nextExtent := 0
  mgmt := []
  raises := []
  tables := .reset
  settings := .reset b
  oldSettings := none
  t0 := 0
  n0 := 0
  length := 1
  pendingAnchor := none
  boundary := []
  effective := []
  chorus := none
  upd := .idle
  package := none
  held := []
  resetWhenReady := false
  resetOnRevert := false
  provision := none
  ledgerKey := none

/-- The timebase at reset (Table 2.2). -/
def Timebase.reset : Timebase where
  state := .start
  opened := false
  measure := 0
  measureHi := 0
  step := false
  overrun := false
  everStep := false
  everOverrun := false
  offset := 0
  skipped := 0
  persisted := 0
  highest := 0
  afterStep := false
  tickTime := 0
  source := none
  waitOver := false
  gptp := 0
  sealLog := []
  extrapolated := 0
  ppsOut := false
  ppsTime := 0
  ppsHi := 0
  ppsCount := 0
  ticking := false

/-- The Sequencer at reset. -/
def Sequencer.reset : Sequencer where
  slots := 0
  bytes := 0
  admitted := []
  held := []
  reorder := []
  waiting := []
  sealed := []
  overrunBy := 0
  executed := 0
  slicing := []
  late := 0
  behind := 0
  replies := []
  readUsed := 0
  scans := []
  scanSteps := 0
  scanRan := false
  watches := []
  refusedCredit := 0
  released := 0
  qsel := 0
  ssel := 0
  qwait := Vector.replicate 32 0

/-- Run-time Chorus state at reset. -/
def ChorusRun.reset : ChorusRun where
  onTime := []
  late := []
  listed := []
  reports := []
  clash := []
  unconfirmed := []
  caughtUp := 0
  counted := (0, [])
  transferDue := false
  fetched := []
  serving := []
  asks := []
  lastHeard := Vector.replicate 8 0
  receiving := []
  fencedBy := none

/-- A LUN at reset. -/
def Lun.reset (id : Nat) : Lun where
  id := id
  op := none
  held := none
  next := none
  fg := []
  bg := []
  denied := 0
  bgRan := false
  bgRefused := false
  bgFirst := false
  spares := []
  spareFormat := 0
  retired := []
  stage2 := 0
  stage3 := 0
  stage4 := 0
  evacuated := false
  soundAt := 0

/-- An idle channel bus. -/
def Bus.reset : Bus := ⟨none, 0, false, false, false⟩

/-- The flash layer at reset. -/
def Flash.reset (b : Board) : Flash where
  luns := (lunIds b.ce b.lunsPerCe).map .reset
  sbs := []
  buses := Vector.replicate 8 .reset
  waiting := []
  again := []
  moves := []
  journal := []
  collecting := []
  blocksRetired := 0
  active := 0
  latched := 0
  hostBytes := 0
  nandBytes := 0
  stage2 := 0
  stage3 := 0
  stage4 := 0
  unreadable := 0
  programFails := 0
  eraseFails := 0
  indeterminate := 0
  overridden := 0
  timeouts := 0
  temp := none
  tempMax := none
  tempMeasure := 0
  hist := Vector.replicate 8 0
  fixedRank := 0
  badRank := none

/-- The Larkspur array at reset. -/
def LksArray.reset : LksArray where
  cells := []
  shadow := []
  rebuild := []
  scrubAt := 0
  weakAt := 0
  scrubbed := false
  noIdle := 0
  forced := false
  repaired := []
  repairs := 0
  rebuilds := 0
  moves := 0
  turns := 0
  searches := Vector.replicate 4 0
  chipId := 0
  turn := 0
  txn := 0
  lost := false
  goodTurns := 0
  matchOut := false
  header := 0
  result := []
  wins := false

/-- A channel at reset. -/
def Chan.reset (n : Nat) : Chan where
  cfg := .reset n
  locked := false
  events := 0
  merged := 0
  overruns := 0
  absent := 0
  overrunFlag := false
  ts := 0
  pending := 0
  tsWait := 0
  irq := false

/-- The event fabric at reset. -/
def Fabric.reset : Fabric where
  chans := Vector.ofFn fun n : Fin 32 => .reset n
  busy := []
  flight := []
  evio := Vector.replicate 16 .reset
  level := 0
  aonTimer := 0
  tickDiv := 0
  chsel := 0
  tsHi := 0

/-- Coda at reset: the ring and the vault hold nothing (DC 3); Table 14.6. -/
def Coda.reset : Coda where
  queue := []
  ring := []
  headSeq := 0
  headSlot := 0
  state := .live
  post := 0
  merged := 0
  pendingFreeze := none
  unflushed := []
  unkept := 0
  dropped := 0
  holdDrops := none
  mask := 0x0000000B
  winsel := 0
  vault := Vector.replicate 17 none

/-- The power controller with PORST_n asserted at power-up (R305). -/
def Power.reset : Power where
  mode := .startup
  inReset := true
  held := false
  loaded := false
  ready := false
  step := 0
  stepAt := 0
  tj := 0
  tjMax := 0
  throttled := 0
  pwrFail := false
  holdupOk := true
  thermAlert := false
  xtal32 := false
  holdupLow := false
  cause := .porst
  previous := .porst
  bootFails := 0
  starting := false
  afterFallback := false
  failed := false
  flags := 0
  mr := 0
  startupMs := 0
  quiesce := 0
  starts := 0
  stopRecord := none
  hasRun := false
  stopMeasure := 0
  thermalHold := false
  stopping := none
  stopped := false
  stopCode := none
  plan := none
  recoveryRequest := false
  planRecovery := false
  portsStopped := false
  wakeKept := none
  present := false
  alive := false
  lastServe := 0
  wdogPaused := false
  recoveryReason := 0

/-- No download (Table 13.9). -/
def Rdl.reset : Rdl where
  phase := .idle
  result := .ok
  eth := false
  session := 0
  src := none
  assembling := []
  stored := []

/-- Release 3.2.0, the firmware of this edition (Table 4.2). -/
def Image.reset : Image := ⟨3, 2, 0, 0, 7, 7, true⟩

/-- The NOR of a drive that runs release 3.2.0 (DC 3). -/
def Nor.reset : Nor where
  activeSlot := 0
  slotOk := Vector.replicate 2 true
  slotRollback := Vector.replicate 2 0
  bootState := .idle
  installing := false
  confirmed := 0
  running := .reset
  pending := none
  pendingReady := false
  archive := none
  archiveReady := false
  regionA := none
  regionB := none
  xip := false
  lastStatus := 0
  rdl := .reset

/-- The Cantor cluster at reset. -/
def Cluster.reset : Cluster where
  mdio := none
  regions := Vector.replicate 4 []
  dir := []
  halted := Vector.replicate 4 false
  jtag := .idcode
  boundary := 0
  tdo := 0

/-- The SPI port at reset (Table 4.5). -/
def Spi.reset : Spi where
  winsel := 0
  portStat := 0
  faultStart := 0
  faultFirst := 0
  unlocked := false
  miso := []

/-- The drive right after reset: PORST_n asserted, the controller in reset, nothing formatted. -/
def State.reset : State where
  pending := []
  board := .reset
  fuses := .reset
  units := HwUnit.present .reset
  tb := .reset
  seq := .reset
  sessions := []
  mbx := Vector.replicate 8 .reset
  spi := .reset
  ports := Vector.replicate 2 .reset
  store := .reset .reset
  snaps := []
  durable := .reset .reset
  chorus := .reset
  flash := .reset .reset
  lks := .reset
  fabric := .reset
  coda := .reset
  power := .reset
  nor := .reset
  cluster := .reset
  fresh := 0

end Sys2Proof.Machine
end

