-- ==== Sys2Proof/Machine/Operands.lean ====
section
/-! DEFINITION. Every operand form of the block: big-endian and little-endian fields (R3), signed fields, the SKP header
(Table 5.2), the envelope (Table 4.7), and reading them back. -/

namespace Sys2Proof.Machine

open Sys2Proof

/-! ## Byte strings and numbers -/

/-- The number a byte string spells, most significant byte first (R3). -/
def beNat : Bytes → Nat
  | [] => 0
  | b :: bs => b.toNat * 256 ^ bs.length + beNat bs

/-- `n` bytes of `v`, most significant first; the bits above are dropped. -/
def be : Nat → Nat → Bytes
  | 0, _ => []
  | n + 1, v => BitVec.ofNat 8 (v / 256 ^ n) :: be n v

/-- `n` bytes of `v`, least significant first (R3: the management register space). -/
def le : Nat → Nat → Bytes
  | 0, _ => []
  | n + 1, v => BitVec.ofNat 8 v :: le n (v / 256)

/-- The number a byte string spells, least significant byte first. -/
def leNat : Bytes → Nat
  | [] => 0
  | b :: bs => b.toNat + 256 * leNat bs

/-- `n` zero bytes (reserved fields, R4). -/
def zeros (n : Nat) : Bytes := List.replicate n 0

/-- The bytes at [off, off + n). -/
def sub (b : Bytes) (off n : Nat) : Bytes := (b.drop off).take n

/-- The field of `n` bytes at `off`, big-endian. -/
def fld (b : Bytes) (off n : Nat) : Nat := beNat (sub b off n)

/-- One byte as a number. -/
def u8 (b : Bytes) (off : Nat) : Nat := fld b off 1

/-- The value of `v` as a signed number of `bits` bits. -/
def signed (bits v : Nat) : Int := if v < 2 ^ (bits - 1) then v else (v : Int) - 2 ^ bits

/-- The two's complement of `z` on `bits` bits. -/
def unsigned (bits : Nat) (z : Int) : Nat := (z % (2 ^ bits : Int)).toNat

/-- `n` padded with zero bytes or cut to `n` bytes. -/
def padTo (n : Nat) (b : Bytes) : Bytes := b.take n ++ zeros (n - b.length)

/-- Bit `i` of a number. -/
def bit (v i : Nat) : Bool := v.testBit i

/-- A Bool as a bit. -/
def b2n (b : Bool) : Nat := if b then 1 else 0

/-- The largest value of a saturating counter of `bits` bits. -/
def satMax (bits : Nat) : Nat := 2 ^ bits - 1

/-- `v` saturated to `bits` bits. -/
def sat (bits v : Nat) : Nat := min v (satMax bits)

/-- Prefix test on byte strings. -/
def isPrefix : Bytes → Bytes → Bool
  | [], _ => true
  | _ :: _, [] => false
  | a :: as, b :: bs => a == b && isPrefix as bs

/-- Byte strings in key order: bytewise, a prefix before its extensions (R102, 07). -/
def bytesLt : Bytes → Bytes → Bool
  | [], [] => false
  | [], _ :: _ => true
  | _ :: _, [] => false
  | a :: as, b :: bs => if a == b then bytesLt as bs else decide (a.toNat < b.toNat)

/-! ## SKP messages (Table 5.2) -/

/-- The 40-byte header: magic 0x534B and version 0x03 in front. -/
def skpHeader (op flags ns keyLen session resv10 seq target status offset length segment resv38 : Nat) : Bytes :=
  [0x53, 0x4B, 0x03] ++ be 1 op ++ be 2 flags ++ be 1 ns ++ be 1 keyLen ++ be 2 session ++ be 2 resv10 ++ be 4 seq ++
  be 6 target ++ be 2 status ++ be 8 offset ++ be 4 length ++ be 2 segment ++ be 2 resv38

/-- A request as its UDP payload. -/
def encodeRequest (r : Request) : Bytes :=
  skpHeader r.op r.flags r.ns r.key.length r.session r.resv10 r.seq r.target r.status r.offset r.length r.segment r.resv38
    ++ r.key ++ r.body

/-- A request read from a UDP payload of at least 40 bytes. Magic and version are checked on the payload (R104 step 2);
a payload shorter than its key gives the bytes there are. -/
def parseRequest (src : Source) (p : Bytes) : Request where
  src := src
  op := u8 p 3
  flags := fld p 4 2
  ns := u8 p 6
  session := fld p 8 2
  resv10 := fld p 10 2
  seq := fld p 12 4
  target := fld p 16 6
  status := fld p 22 2
  offset := fld p 24 8
  length := fld p 32 4
  segment := fld p 36 2
  resv38 := fld p 38 2
  key := sub p 40 (u8 p 7)
  body := p.drop (40 + u8 p 7)

/-! ## The command envelope (Table 4.7) -/

/-- The 16-byte envelope of a response followed by its result. -/
def responseEnvelope (opcode mailbox : Nat) (cancel : Bool) (sequence : Nat) (status measure : Nat) (result : Bytes) :
    Bytes :=
  be 2 opcode ++ be 1 mailbox ++ be 1 (1 + if cancel then 2 else 0) ++ be 4 sequence ++ be 2 result.length ++
  be 2 status ++ be 4 measure ++ result

/-- The envelope of a request and its arguments. -/
def requestEnvelope (opcode mailbox flags sequence : Nat) (args : Bytes) : Bytes :=
  be 2 opcode ++ be 1 mailbox ++ be 1 flags ++ be 4 sequence ++ be 2 args.length ++ be 2 0 ++ be 4 0 ++ args

end Sys2Proof.Machine
end

