-- ==== Sys2Proof/Config.lean ====
section
/-! DEFINITION. What the manual leaves open, as constants with no body: nothing in Lean can evaluate them, so no proof can
rest on a value of theirs. Each is named in an assumption-log entry. -/

namespace Sys2Proof.Config

/-- The n-th free value drawn by the block: a value the manual does not give (log entry 2). -/
opaque freeValue : Nat → Nat

/-- ECDSA P-384 verification of a signature over a digest under a public key (R335): the arithmetic of the curve is not in
the manual (log entry 8). -/
opaque ecdsaP384 : (key digest signature : List (BitVec 8)) → Bool

/-- AES-256-GCM decryption: key, nonce, additional data, ciphertext and tag to plaintext, or none when the tag fails
(R334, R336, R402; log entry 8). -/
opaque gcmOpen : (key nonce extra cipher tag : List (BitVec 8)) → Option (List (BitVec 8))

/-- Firmware key slot 0, fused at manufacture (Table 13.2; log entry 8). -/
opaque fleetKey : List (BitVec 8)

/-- The Kararn root key hash, fused at manufacture (Table 13.2; log entry 8). -/
opaque rootHash : List (BitVec 8)

/-- During a trial, the n-th settings change does not fit the settings region (R349): how long its records are is not in the
manual (log entry 25). -/
opaque regionFull : Nat → Bool

/-- MACsec check of a received frame under an association's key, salt, SCI and SSCI (R148; log entry 8). -/
opaque macsecVerify : (key salt : List (BitVec 8)) → (sci ssci : Nat) → (frame : Frame) → Bool

/-- Kararn's JEP106 manufacturer code, 11 bits as IEEE 1149.1 places it (R367; log entry 6). -/
opaque jep106 : Nat

/-- The n-th ledger key that PROVISION generates (R402; log entry 8). -/
opaque ledgerSecret : (key : Nat) → Nat

/-- The certificate of the n-th generated ledger key (R401; log entry 8). -/
opaque ledgerCertificate : (key : Nat) → List (BitVec 8)

/-- The n-th free choice of the drive: which parity group takes a bank or a relocation (R427), which free slot of a table an
entry takes (R218; log entry 9). -/
opaque placement : Nat → Nat

/-- The parity group in which a codeword of a staging bank is tried first (R190, R427; log entry 9). -/
opaque wordGroup : (extent index : Nat) → Nat

/-- Which data page of a stripe is filled first (R427; log entry 9). -/
opaque pageOrder : (group superblock stripe : Nat) → Nat

/-- A page of the system area that an item needs lies on one of these LUNs. Kind 1 is the map page of an extent, 2 the
key-directory leaf that holds a key or would, 3 the metadata page of a staging key; `item` is the extent number, or namespace and
key as one number (R427; log entry 9). -/
opaque onLost : (kind item : Nat) → (luns : List Nat) → Bool

/-- Stored length of a record of namespace 0: of a kind (0 session state, 1 replay record, 2 ledger metadata, 3 accounting, 4 update
state, 5 settings state, 6 Chorus log), for the item `id` with `size` bytes or requests of its own. The lengths are not in the
manual (R170; log entry 18). -/
opaque storedLength : (kind id size : Nat) → Nat

/-- The n-th free value that the sealed sequence draws: counted apart from the others, so that nothing that only takes time can change
a result (R14; log entry 2). -/
opaque sealedValue : Nat → Nat

/-- The tag that a chip below (`lower`) or above this one finds for a search word of a cascaded table in a measure (R245):
what other drives hold is not this block's state (log entry 19). -/
opaque cascadeHit : (lower : Bool) → (table measure word : Nat) → Option Nat

/-- The verdict (true for permit) that a chip below or above this one reaches in a cover walk over a cascaded table, or none
when its segment does not decide (R225, R245; log entry 19). -/
opaque cascadeCover : (lower : Bool) → (measure value care : Nat) → Option Bool

/-- The value that register `register` of PHY `phy` (clause, MMD) drives on the MDIO bus on the n-th read, or none when no
PHY drives the turnaround (R156, R393; log entry 10). -/
opaque mdioRead : (n clause phy mmd register : Nat) → Option Nat

end Sys2Proof.Config
end

