-- ==== Sys2Proof/Machine/Flags.lean ====
section
/-! DEFINITION. The numbers of the manual's codes (status, mode, unit, timebase, owner, reset) and the flag bits. -/

namespace Sys2Proof.Machine

open Sys2Proof

/-- Table 4.10. -/
def Status.num : Status → Nat
  | .ok => 0x0000
  | .notFound => 0x0101
  | .versionMismatch => 0x0102
  | .noSpace => 0x0201
  | .credit => 0x0202
  | .denied => 0x0301
  | .sealed => 0x0302
  | .range => 0x0303
  | .late => 0x0401
  | .diverged => 0x0402
  | .cancelLate => 0x0403
  | .busy => 0x0501
  | .unitOffline => 0x0502
  | .integrity => 0x0601
  | .signature => 0x0602
  | .arraySelf => 0x0603
  | .rollbackDenied => 0x0604
  | .mode => 0x0701
  | .internal => 0x0FFF

/-- PWR_STATUS.MODE: Table 12.11. -/
def Mode.num : Mode → Nat
  | .startup => 0
  | .service => 1
  | .quiesceStop => 2
  | .quiesceCustody => 2
  | .custody => 3
  | .recovery => 4

/-- Table 4.12. -/
def UnitState.num : UnitState → Nat
  | .offline => 0
  | .fenced => 1
  | .degraded => 2
  | .online => 3

/-- Table 4.12, by code. -/
def UnitState.ofNum : Nat → UnitState
  | 0 => .offline
  | 1 => .fenced
  | 2 => .degraded
  | _ => .online

/-- The lower of two views (R94). -/
def UnitState.lower (a b : UnitState) : UnitState := if a.num ≤ b.num then a else b

/-- TMB_STATUS.STATE: Table 2.2. -/
def TbState.num : TbState → Nat
  | .start => 0
  | .locked => 1
  | .holdover => 2
  | .freerun => 3
  | .ahead => 4
  | .aligning => 5

/-- Table 4.5 OWNER. -/
def Owner.num : Owner → Nat
  | .sec => 0
  | .mgmt => 1
  | .rt => 2

/-- Owners by code. -/
def Owner.ofNum : Nat → Option Owner
  | 0 => some .sec
  | 1 => some .mgmt
  | 2 => some .rt
  | _ => none

/-- The owner may issue what `need` may issue (R89: SEC above MGMT above RT). -/
def Owner.covers (o need : Owner) : Bool := decide (o.num ≤ need.num)

/-- Table 12.2. -/
def ResetCause.num : ResetCause → Nat
  | .porst => 0
  | .sysRst => 1
  | .watchdog => 2
  | .fatal => 3
  | .deviceReset => 4
  | .powerReturn => 5
  | .thermal => 6
  | .recoveryDone => 7

/-- Table 4.5 STATE. -/
def MbxState.num : MbxState → Nat
  | .idle => 0
  | .loading => 1
  | .posted => 2
  | .running => 3
  | .done => 4

/-- Table 7.4. -/
def NsType.num : NsType → Nat
  | .ordinary => 1
  | .ledger => 2
  | .staging => 3

/-- Table 7.4, by code. -/
def NsType.ofNum : Nat → Option NsType
  | 1 => some .ordinary
  | 2 => some .ledger
  | 3 => some .staging
  | _ => none

/-- Table 13.6. -/
def UpdState.num : UpdState → Nat
  | .idle => 0
  | .staged => 1
  | .armed => 2
  | .trial => 3
  | .reverting => 4

/-- Table 14.6. -/
def RingState.num : RingState → Nat
  | .live => 0
  | .collecting => 1
  | .held => 2

/-- R148. -/
def MacsecPolicy.num : MacsecPolicy → Nat
  | .disabled => 0
  | .check => 1
  | .strict => 2

/-- R388. -/
def Table.num : Table → Nat
  | .unassigned => 0
  | .peer => 1
  | .acl => 2
  | .route => 3
  | .automaton => 4

/-- R388, by code. -/
def Table.ofNum : Nat → Option Table
  | 0 => some .unassigned
  | 1 => some .peer
  | 2 => some .acl
  | 3 => some .route
  | 4 => some .automaton
  | _ => none

/-- Table 13.9 PHASE. -/
def RdlPhase.num : RdlPhase → Nat
  | .idle => 0
  | .receiving => 1
  | .verifying => 2
  | .installing => 3
  | .done => 4
  | .failed => 5

/-- R74, as PROT_FAULT codes it. -/
def accessNum : Access → Nat
  | .load => 0
  | .store => 1
  | .fetch => 2
  | .descriptor => 3

/-- Position of a counter in Table 6.10's order. -/
def Ctr.idx : Ctr → Fin 30
  | .rxFramesOk => 0 | .rxBytesOk => 1 | .rxFcsErr => 2 | .rxOversize => 3 | .rxUndersize => 4 | .rxFiltered => 5
  | .rxVlanDiscard => 6 | .rxEtypeDiscard => 7 | .rxIpDiscard => 8 | .rxFragment => 9 | .rxOverflow => 10
  | .rxPauseFrames => 11 | .rxMacctrlUnsupported => 12 | .rxMacsecUnprotected => 13 | .rxMacsecIcvFail => 14
  | .rxMacsecReplay => 15 | .rxMacsecNoSa => 16 | .skpDiscard => 17 | .mgmtDiscard => 18 | .fencedDiscard => 19
  | .txFrames => 20 | .txBytes => 21 | .txPauseFrames => 22 | .txPausedUs => 23 | .txNotifyDropped => 24
  | .txHeartbeats => 25 | .txHbReplaced => 26 | .txCancelled => 27 | .linkDownEvents => 28 | .linkRefused => 29

/-! Bits of the SPI status byte (Table 4.4). -/

/-- DONE. -/
def spiDone : Nat := 0x01
/-- ADDR. -/
def spiAddr : Nat := 0x02
/-- SECURE. -/
def spiSecure : Nat := 0x04
/-- LOCKED. -/
def spiLocked : Nat := 0x08
/-- BUSY. -/
def spiBusy : Nat := 0x10
/-- FRAME. -/
def spiFrame : Nat := 0x20
/-- MODE. -/
def spiMode : Nat := 0x40
/-- IRQ. -/
def spiIrq : Nat := 0x80

end Sys2Proof.Machine
end

