-- ==== Sys2Proof/Machine/Ops.lean ====
section
/-! DEFINITION. The named operations every family shares: reading and changing one part of the state, free values, Coda
reports, event-fabric pulses, and the two views of a unit. -/

namespace Sys2Proof.Machine

open Sys2Proof

/-- The outcome type of every meaning. -/
abbrev Out := Host.Outcome State Fault Refusal

/-! ## Changing one part -/

/-- Change the timebase. -/
def State.modTb (s : State) (f : Timebase → Timebase) : State := { s with tb := f s.tb }
/-- Change the Sequencer. -/
def State.modSeq (s : State) (f : Sequencer → Sequencer) : State := { s with seq := f s.seq }
/-- Change the live store. -/
def State.modStore (s : State) (f : Store → Store) : State := { s with store := f s.store }
/-- Change the settings in the live store. -/
def State.modSettings (s : State) (f : Settings → Settings) : State :=
  { s with store := { s.store with settings := f s.store.settings } }
/-- Change the power controller. -/
def State.modPower (s : State) (f : Power → Power) : State := { s with power := f s.power }
/-- Change Coda. -/
def State.modCoda (s : State) (f : Coda → Coda) : State := { s with coda := f s.coda }
/-- Change the flash layer. -/
def State.modFlash (s : State) (f : Flash → Flash) : State := { s with flash := f s.flash }
/-- Change the Larkspur array. -/
def State.modLks (s : State) (f : LksArray → LksArray) : State := { s with lks := f s.lks }
/-- Change the event fabric. -/
def State.modFabric (s : State) (f : Fabric → Fabric) : State := { s with fabric := f s.fabric }
/-- Change the Chorus run-time state. -/
def State.modChorus (s : State) (f : ChorusRun → ChorusRun) : State := { s with chorus := f s.chorus }
/-- Change the NOR. -/
def State.modNor (s : State) (f : Nor → Nor) : State := { s with nor := f s.nor }
/-- Change the Cantor cluster. -/
def State.modCluster (s : State) (f : Cluster → Cluster) : State := { s with cluster := f s.cluster }
/-- Change the SPI port. -/
def State.modSpi (s : State) (f : Spi → Spi) : State := { s with spi := f s.spi }

/-- Port `p`. -/
def State.port (s : State) (p : Fin 2) : Port := s.ports[p]
/-- Change port `p`. -/
def State.modPort (s : State) (p : Fin 2) (f : Port → Port) : State :=
  { s with ports := s.ports.set p (f s.ports[p]) }
/-- Settings of port `p`. -/
def State.net (s : State) (p : Fin 2) : PortNet := s.store.settings.ports[p]
/-- Change the settings of port `p`. -/
def State.modNet (s : State) (p : Fin 2) (f : PortNet → PortNet) : State :=
  s.modSettings fun t => { t with ports := t.ports.set p (f t.ports[p]) }
/-- Mailbox `m`. -/
def State.mb (s : State) (m : Fin 8) : Mailbox := s.mbx[m]
/-- Change mailbox `m`. -/
def State.modMbx (s : State) (m : Fin 8) (f : Mailbox → Mailbox) : State :=
  { s with mbx := s.mbx.set m (f s.mbx[m]) }
/-- Channel `c`. -/
def State.chan (s : State) (c : Fin 32) : Chan := s.fabric.chans[c]
/-- Change channel `c`. -/
def State.modChan (s : State) (c : Fin 32) (f : Chan → Chan) : State :=
  s.modFabric fun g => { g with chans := g.chans.set c (f g.chans[c]) }

/-- Add `n` to counter `c` of port `p`; 64 bits (Table 6.10). -/
def State.count (s : State) (p : Fin 2) (c : Ctr) (n : Nat := 1) : State :=
  s.modPort p fun q => { q with counters := q.counters.set c.idx (sat 64 (q.counters[c.idx] + n)) }

/-- One more, saturating at 32 bits. -/
def bump (v : Nat) (n : Nat := 1) : Nat := sat 32 (v + n)

/-! ## Free values -/

/-- A free value that fits `bits` bits, and the state with the next one due (log entry 2). -/
def State.draw (s : State) (bits : Nat) : Nat × State :=
  (Config.freeValue s.fresh % 2 ^ bits, { s with fresh := s.fresh + 1 })

/-- The state with its next sealed choice used. -/
def State.drawn (s : State) : State := s.modStore fun t => { t with draws := t.draws + 1 }

/-- The state with `n` of its sealed choices used. -/
def State.drawnBy (s : State) (n : Nat) : State := s.modStore fun t => { t with draws := t.draws + n }

/-- A free value that a result of the sealed sequence depends on (R14; log entry 2). -/
def State.drawSealed (s : State) (bits : Nat) : Nat × State := (Config.sealedValue s.store.draws % 2 ^ bits, s.drawn)

/-! ## Lists by key -/

/-- The list with `k` bound to `v`, in ascending order of key. -/
def insertKey {α : Type} (k : Nat) (v : α) : List (Nat × α) → List (Nat × α)
  | [] => [(k, v)]
  | (j, w) :: t => if k < j then (k, v) :: (j, w) :: t else if k = j then (k, v) :: t else (j, w) :: insertKey k v t

/-- The list with no entry for `k`. -/
def dropKey {α : Type} (k : Nat) (l : List (Nat × α)) : List (Nat × α) := l.filter fun p => p.1 != k

/-- The value bound to `k`. -/
def getKey {α : Type} (k : Nat) (l : List (Nat × α)) : Option α := (l.find? fun p => p.1 == k).map (·.2)

/-! ## Modes -/

/-- The drive runs a measure sequence: Service or either form of Quiesce, out of reset. -/
def State.inService (s : State) : Bool := s.power.mode == .service && !s.power.inReset

/-- Length of a measure in microseconds, by code (Table 2.2). -/
def lengthUs (code : Nat) : Nat := 125 * 2 ^ code

/-- Length of a measure in nanoseconds. -/
def State.lengthNs (s : State) : Nat := lengthUs s.store.length * 1000

/-! ## Coda reports (Table 14.1) -/

/-- Queue a report for Coda (Table 3.1 CODA, R54: a producer waits for credit, so nothing is lost before the ring). -/
def State.report (s : State) (code source : Nat) (payload : Bytes) (trigger : Option Nat := none)
    (secure : Bool := false) : State :=
  s.modCoda fun c => { c with queue := c.queue ++ [{ code, source, secure, payload, trigger }] }

/-! ## Event-fabric pulses (R284 to R288) -/

/-- Consumer numbers of Table 11.2, ascending. -/
def consumers : List Nat := [0, 1, 2] ++ (List.range 16).map (· + 8) ++ [32, 33]

/-- Producer numbers of Table 11.1, ascending. -/
def producers : List Nat :=
  [0, 1, 2, 3, 4, 5] ++ (List.range 16).map (· + 8) ++ (List.range 16).map (· + 32)

/-- A mask over the producers of Table 11.1 or the consumers of Table 11.2 selects no absent number. -/
def maskOk (numbers : List Nat) (m : BitVec 64) : Bool :=
  (List.range 64).all fun i => !m.getLsbD i || numbers.contains i

/-- Channel `c` carries events now (Table 11.6). -/
def State.channelRuns (s : State) (c : Nat) : Bool :=
  !s.power.inReset && match s.power.mode with
  | .service => true
  | .quiesceStop => true
  | .quiesceCustody => true
  | .custody => decide (c < 8)
  | .startup => false
  | .recovery => false

/-- Producer `p` is alive now (Table 11.1). -/
def State.producerAlive (s : State) (p : Nat) : Bool :=
  s.power.mode != .custody || decide (p ≤ 5) || (decide (8 ≤ p) && decide (p ≤ 15))

/-- Consumer `k` has power now (R291, R299: in Custody the AON consumers without EVIO8 to EVIO15). -/
def State.consumerPresent (s : State) (k : Nat) : Bool :=
  s.power.mode != .custody || decide (k < 16)

/-- Channel `c` takes a pulse of producer `p`. -/
def State.takes (s : State) (p : Nat) (c : Fin 32) : Bool :=
  s.channelRuns c && (s.chan c).cfg.enable && (s.chan c).cfg.producers.getLsbD p

/-- Inject one event into channel `c` (R285, R287, R291): EVENTS counts it, every enabled consumer with power is to see it,
and ABSENT counts the others. -/
def State.inject (s : State) (c : Fin 32) : State :=
  let on := consumers.filter fun k => (s.chan c).cfg.consumers.getLsbD k
  let here := on.filter s.consumerPresent
  let s1 := s.modChan c fun h =>
    { h with events := bump h.events, absent := bump h.absent (on.length - here.length) }
  s1.modFabric fun g => { g with flight := g.flight ++ here.map fun k => (c.val, k, (s.chan c).cfg.remember) }

/-- Inject one event into each channel of the list. -/
def State.injectAll (s : State) (cs : List (Fin 32)) : State := cs.foldl State.inject s

/-- Producers pulse in one cycle: a channel that takes several of them carries one event (R285). -/
def State.pulseAll (s : State) (ps : List Nat) : State :=
  s.injectAll ((List.finRange 32).filter fun c => ps.any fun p => s.producerAlive p && s.takes p c)

/-- Producer `p` pulses (R285). -/
def State.pulse (s : State) (p : Nat) : State := s.pulseAll [p]

/-! ## Units (R94 to R99) -/

/-- The unit with identifier `id`, if the board has it. -/
def State.unit (s : State) (id : Nat) : Option HwUnit := s.units.find? fun u => u.id == id

/-- Change the unit `id`. -/
def State.modUnit (s : State) (id : Nat) (f : HwUnit → HwUnit) : State :=
  { s with units := s.units.map fun u => if u.id == id then f u else u }

/-- Management view in a store: ONLINE unless listed. -/
def Store.mgmtView (t : Store) (id : Nat) : UnitState := (getKey id t.mgmt).getD .online

/-- Set a management view in a store. -/
def Store.setMgmt (t : Store) (id : Nat) (v : UnitState) : Store :=
  { t with mgmt := if v = .online then dropKey id t.mgmt else insertKey id v t.mgmt }

/-- Management view of a unit. -/
def State.mgmtView (s : State) (id : Nat) : UnitState := s.store.mgmtView id

/-- Data-path view of a unit; OFFLINE for a unit the board does not have. -/
def State.dataView (s : State) (id : Nat) : UnitState := ((s.unit id).map (·.data)).getD .offline

/-- Effective state: the lower of the two views (R94). -/
def State.effective (s : State) (id : Nat) : UnitState := (s.mgmtView id).lower (s.dataView id)

/-- Identifier of port `p`. -/
def portId (p : Fin 2) : Nat := 0x5000 + p

/-- Effective state of port `p` is ONLINE or DEGRADED. -/
def State.portUsable (s : State) (p : Fin 2) : Bool := decide (2 ≤ (s.effective (portId p)).num)

/-- Coda SOURCE of the block a unit belongs to (Table 14.1; log entry 7). -/
def unitSource (id : Nat) : Nat :=
  match id / 0x1000 with
  | 1 => 6
  | 2 => 6
  | 3 => 4
  | 4 => 5
  | 5 => 7 + id % 2
  | _ => 3

/-- What a change of a view of unit `id` leaves (R98): when the views agree, an agreement entry closes a noted disagreement;
otherwise a new pair begins, of age `age` (1 when it begins at a boundary). -/
def State.noteViews (s : State) (id age : Nat) : State :=
  match s.unit id with
  | none => s
  | some u =>
    if s.mgmtView id = u.data then
      let s1 := s.modUnit id fun v => { v with apart := 0, pairAge := 0, noted := false }
      if u.noted then s1.report 0x0303 3 (be 2 id ++ be 1 u.data.num) else s1
    else s.modUnit id fun v => { v with pairAge := age }

/-- Note that a view of unit `id` has just changed. Views that move at one boundary have moved together (R97): they are compared
once the tick is done. -/
def State.viewsMoved (s : State) (id age : Nat) : State := if s.tb.ticking then s else s.noteViews id age

/-- The data path lowers its view (R95): at once, with VIEW_LOWERED and the UNIT_LOWERED pulse. The reason code is open
(log entry 7). -/
def State.lowerData (s : State) (id : Nat) (v : UnitState) : State :=
  match s.unit id with
  | none => s
  | some u =>
    if v.num < u.data.num then
      let s1 := s.modUnit id fun w => { w with data := v, qualified := false }
      let (reason, s2) := s1.draw 16
      let s3 := s2.report 0x0301 (unitSource id) (be 2 id ++ be 1 u.data.num ++ be 1 v.num ++ be 2 reason)
        (if v = .offline then some 4 else none)
      (s3.pulse 39).viewsMoved id 0
    else s

/-- The data path raises its view at a measure boundary (R96). -/
def State.raiseData (s : State) (id : Nat) (v : UnitState) : State :=
  match s.unit id with
  | none => s
  | some u =>
    if u.data.num < v.num then
      (s.modUnit id fun w => { w with data := v, qualified := false }).viewsMoved id 1
    else s

/-- A DEGRADED condition holds for unit `id` in the open measure (R138, R210, R241, R269): the view falls to DEGRADED and
the measure is kept. -/
def State.degrade (s : State) (id : Nat) : State :=
  (s.modUnit id fun u => { u with degradedAt := some s.tb.measure }).lowerData id .degraded

/-- Events of the last 4,096 measures. -/
def recent (now : Nat) (l : List Nat) : List Nat := l.filter fun m => now < m + 4096

end Sys2Proof.Machine
end

