-- ==== Sys2Proof/Machine/Modes.lean ====
section
/-! DEFINITION. What resets and mode changes clear and keep: the sealed session state, the switched domains, the exit from
Custody (R107, R305, R316, R321). -/

namespace Sys2Proof.Machine

open Sys2Proof

/-! ## Sessions across a start (R107, R321) -/

/-- A session that is closed: its sealed session state is kept, its window and binding are gone. -/
def Session.closed (x : Session) : Session :=
  { x with opened := false, bindIp := 0, bindUdp := 0, chorus := false, window := 0 }

/-- A session as Start-up finds it at M_r: next sequence as at the close of M_r, the last 256 replay records at or below M_r,
which count as placed (R110, R321), and of a Chorus session the sequences consumed above the next one; no credit is held. -/
def Session.restart (mr : Nat) (x : Session) : Session :=
  let next := ((x.history.find? fun p => p.1 ≤ mr).map (·.2)).getD 1
  let replay := ((x.replay.filter fun r => r.measure ≤ mr).map fun r => { r with placed := true }).take 256
  { x.closed with
    holding := []
    closing := []
    lastSeen := 0
    next
    above := (replay.map (·.seq)).filter fun q => decide ((q + 2 ^ 32 - next) % 2 ^ 32 < 2 ^ 31)
    history := (x.history.find? fun p => p.1 ≤ mr).toList
    replay
    wrapped := x.wrapped && decide (next ≤ x.next) }

/-! ## Units across a start (R163, R209, Table 8.12) -/

/-- The data-path view a unit starts with: ports OFFLINE (Table 6.9), members FENCED (R283), LUNs that had fallen as they were,
their evacuation still to be made (Table 8.12), spent ones FENCED at most (R209), the others ONLINE until the start-up tests
say otherwise (log entry 4). -/
def startView (u : HwUnit) : UnitState :=
  match u.id / 0x1000 with
  | 5 => .offline
  | 6 => .fenced
  | 1 => if u.data.num < 2 then u.data else if u.spent then .fenced else .online
  | _ => .online

/-- A unit at Start-up. What persists of its past: a spent reserve (R209) and the time of the last DEGRADED condition; a
member unit starts as at formation (R283). -/
def HwUnit.restart (u : HwUnit) : HwUnit :=
  { HwUnit.fresh u.id (startView u) with spent := u.spent, degradedAt := if u.id / 0x1000 = 6 then none else u.degradedAt }

/-! ## Switched domains (R316) -/

/-- The timebase at Start-up: what R28, R51 and Table 2.2 keep, the rest at its reset value. -/
def Timebase.restart (t : Timebase) : Timebase :=
  { Timebase.reset with
    persisted := t.persisted
    highest := t.highest
    sealLog := t.sealLog.filter fun p => p.1 ≤ t.persisted
    extrapolated := t.extrapolated }

/-- The Larkspur array at Start-up: every unit and shadow word is written anew from namespace 0 (R248); cells that cannot be rewritten
and the strap stay. -/
def LksArray.restart (a : LksArray) : LksArray :=
  { LksArray.reset with cells := a.cells.filter (·.stuck), chipId := a.chipId }

/-- A LUN at Start-up: the reset to every LUN ends its operations (R206). -/
def Lun.restart (l : Lun) : Lun :=
  { Lun.reset l.id with
    spares := l.spares
    spareFormat := l.spareFormat
    retired := l.retired
    stage2 := l.stage2
    stage3 := l.stage3
    stage4 := l.stage4
    evacuated := l.evacuated }

/-- A block that the durable journal shows ERASE_PENDING without ERASE_DONE (R206). -/
def NandBlock.cut (k : NandBlock) : Bool := k.pending && k.state != .retired

/-- A block at Start-up: erase-indeterminate if cut, whatever became of its erase, whose cycle then counts with the fresh one (R206);
an open one is closed (R207), and one whose ERASE_PENDING was not durable is again what it was before (R205). -/
def NandBlock.restart (k : NandBlock) : NandBlock :=
  if k.cut then
    { k with
      state := .erasePending, erased := false, indeterminate := true
      erases := if k.state = .erasePending then k.erases else k.erases - 1 }
  else if k.state = .opened ∨ k.state = .erasePending then { k with state := .closed, erased := false }
  else k

/-- A superblock at Start-up (R206, R207): what lies beyond the last durable seal record or journalled relocation is never read, nor is
anything on an indeterminate block; an open one is closed, with M_r as its measure. -/
def Superblock.restart (mr : Nat) (b : Superblock) : Superblock :=
  let cut := (b.blocks.filter NandBlock.cut).map (·.lun)
  { b with
    blocks := b.blocks.map NandBlock.restart
    words := (b.words.filter fun w => w.durable && !cut.contains w.lun).map fun w => { w with live := true, source := none }
    closedAt := if b.blocks.any fun k => k.state == .opened then mr else b.closedAt
    draining := false }

/-- The flash layer at Start-up: blocks and superblocks as R206 and R207 find them; operations and relocations are gone; lifetime
counters are kept. -/
def Flash.restart (mr : Nat) (f : Flash) : Flash :=
  { f with
    luns := f.luns.map Lun.restart
    sbs := f.sbs.map (Superblock.restart mr)
    buses := Vector.replicate 8 .reset
    waiting := []
    again := []
    moves := []
    journal := []
    collecting := []
    indeterminate := bump f.indeterminate ((f.sbs.flatMap (·.blocks)).filter NandBlock.cut).length
    active := 0 }

/-- Every register and queue held in a switched domain returns to its reset value; what lies in flash or in the AON domain
stays (R316). The sessions are those of M_r. -/
def State.clearSwitched (s : State) : State :=
  { s with
    units := s.units.map HwUnit.restart
    tb := s.tb.restart
    seq := .reset
    sessions := s.sessions.map (Session.restart s.tb.persisted)
    mbx := Vector.replicate 8 .reset
    spi := .reset
    ports := Vector.replicate 2 .reset
    snaps := []
    chorus := .reset
    flash := s.flash.restart s.tb.persisted
    lks := s.lks.restart
    nor := { s.nor with rdl := .reset, xip := false, lastStatus := 0 }
    cluster := { Cluster.reset with jtag := s.cluster.jtag, boundary := s.cluster.boundary, tdo := s.cluster.tdo } }

/-! ## Wake from Custody (R30, R315, R316) -/

/-- The power controller in an exit from Custody: Start-up with ALIVE low and the CUSTODY_EXIT flag, the kept image reloaded
and M_r found again; reset causes, HOLDUP_LOW and PWR_THERMAL are kept. -/
def Power.wake (p : Power) (mr : Nat) : Power :=
  { p with
    mode := .startup
    inReset := false
    held := false
    loaded := true
    ready := false
    step := 0
    stepAt := 0
    tj := 0
    throttled := 0
    flags := 0x400
    mr := mr
    startupMs := 0
    starts := bump p.starts
    plan := none
    portsStopped := false
    wakeKept := none
    present := false
    alive := false
    stopped := false
    stopping := none }

/-- Measures of `us` microseconds in which the AON domain counts `cycles` of 32.768 kHz, at the nominal rate reduced by 250 ppm
(R30). -/
def measuresIn (cycles us : Nat) : Nat := cycles * 999750 / (32768 * us)

/-- In Custody the AON domain extrapolates the measure count from the cycles that have passed, whose number is a free value (R30; log
entry 2). -/
def State.extrapolate (s : State) : State :=
  if s.power.mode = .custody then
    let (cycles, s1) := s.draw 48
    s1.modTb fun t => { t with extrapolated := t.extrapolated + measuresIn cycles (lengthUs s.store.length) }
  else s

/-- The exit from Custody starts: source 0 is the WAKE ball, 1 an event of channel `channel` (Table 14.2 CUSTODY_EXIT).
PHY resets are released at once (R155); there is no gPTP wait (Table 12.4). -/
def State.exitCustody (s : State) (source channel : Nat) : State :=
  let s1 := s.extrapolate.clearSwitched
  let s2 := { s1 with power := s1.power.wake s1.tb.persisted, tb := { s1.tb with waitOver := true } }
  let run := fun (p : Port) => { p with phyRun := true, phySilent := false }
  let s3 := (s2.modPort 0 run).modPort 1 run
  s3.report 0x0107 1 (be 1 source ++ be 1 channel)

/-- A wake event (R315): it ends Custody, is kept during Custody entry, and does nothing else. -/
def State.wake (s : State) (source channel : Nat) : State :=
  match s.power.mode with
  | .custody => s.exitCustody source channel
  | .quiesceCustody =>
    s.modPower fun p => { p with wakeKept := p.wakeKept.or (some (source, channel)) }
  | .startup => s
  | .service => s
  | .quiesceStop => s
  | .recovery => s

end Sys2Proof.Machine
end

