-- ==== Sys2Proof/Machine/Coda.lean ====
section
/-! DEFINITION. Coda and the actions of the event fabric's consumers: writing entries, triggers, freezes, records, the
vault (R355 to R364), and starting and completing a consumer's action (R289, R290). -/

namespace Sys2Proof.Machine

open Sys2Proof

/-! ## Entries (Table 14.1) -/

/-- FLAGS of an entry. -/
def CodaEntry.flags (e : CodaEntry) : Nat :=
  b2n e.secure + 2 * b2n e.trigger + 4 * b2n e.post + 8 * b2n e.extrapolated

/-- Bytes 0 to 59 of an entry. -/
def CodaEntry.head (e : CodaEntry) : Bytes :=
  be 4 e.seq ++ be 2 e.code ++ be 1 e.source ++ be 1 e.flags ++ be 6 e.measure ++ be 2 0 ++ be 8 e.time ++
  padTo 36 e.payload

/-- The 64 bytes of an entry. -/
def CodaEntry.bytes (e : CodaEntry) : Bytes := e.head ++ be 4 (crc32c e.head)

/-- Write one entry into the ring: the next SEQ and slot, the open measure (or its extrapolation in Custody), a time that
the model leaves free while the timebase runs (log entry 12). -/
def State.writeEntry (s : State) (code source : Nat) (secure trigger post : Bool) (payload : Bytes) : State :=
  let (t, s1) := s.extrapolate.draw 64
  let custody := s.power.mode = .custody
  let e : CodaEntry :=
    { seq := s.coda.headSeq + 1, code, source, secure, trigger, post, extrapolated := custody
      measure := if custody then s1.tb.extrapolated else if s.tb.opened then s.tb.measure else 0
      time := if s.tb.opened then t else 0
      payload }
  s1.modCoda fun c =>
    { c with ring := (e :: c.ring).take 4096, headSeq := c.headSeq + 1, headSlot := (c.headSlot + 1) % 4096 }

/-- A trigger of Table 14.3 in force: bits 0, 1 and 3 always, the others by the mask that CDA_TRIGGERS shows (R356). -/
def State.triggerOn (s : State) (b : Nat) : Bool :=
  b == 0 || b == 1 || b == 3 || s.coda.mask.getLsbD b

/-- FREEZE_BEGIN's payload: trigger bit, CODE and SEQ of the causing entry, NOTE. -/
def freezeBegin (b code seq note : Nat) : Bytes := be 1 b ++ be 1 0 ++ be 2 code ++ be 4 seq ++ be 4 note

/-- A trigger reaches Coda (R356, R357): it starts a freeze, is written and counted while one collects, or waits while the
ring is held. -/
def State.trigger (s : State) (b code seq note : Nat) : State :=
  match s.coda.state with
  | .live =>
    let s1 := s.writeEntry 0x0001 0 false true false (freezeBegin b code seq note)
    s1.modCoda fun c => { c with state := .collecting, post := 0 }
  | .collecting =>
    let s1 := s.writeEntry 0x0001 0 false false true (freezeBegin b code seq note)
    s1.modCoda fun c => { c with post := c.post + 1, merged := sat 16 (c.merged + 1) }
  | .held =>
    s.modCoda fun c =>
      match c.pendingFreeze with
      | none => { c with pendingFreeze := some (b, code, seq, note) }
      | some _ => { c with merged := sat 16 (c.merged + 1) }

/-! ## Consumers' actions (Table 11.2) -/

/-- Consumer `k` is performing an action. -/
def Fabric.isBusy (g : Fabric) (k : Nat) : Bool := g.busy.any fun p => p.1 == k

/-- The ball of output consumer `k` (8 to 23) is OUT. -/
def State.ballOut (s : State) (k : Nat) : Bool := (s.fabric.evio.toList[k - 8]?.map (·.dir)).getD 0 == 2

/-- The ball of output consumer `k` toggles. -/
def State.ballToggles (s : State) (k : Nat) : Bool := (s.fabric.evio.toList[k - 8]?.map (·.toggle)).getD false

/-- Drive bit `i` of the EVIO levels to `v`. -/
def setBit16 (x : BitVec 16) (i : Nat) (v : Bool) : BitVec 16 :=
  if v then x ||| (1#16 <<< i) else x &&& ~~~(1#16 <<< i)

/-- Consumer `k` starts its action for channel `c`; `time` is the producer's pulse time (R290, R298, R299). -/
def State.act (s : State) (c : Fin 32) (k time : Nat) : State :=
  let busy := fun (t : State) => t.modFabric fun g => { g with busy := g.busy ++ [(k, c.val, time)] }
  match k with
  | 0 => s.wake 1 c
  | 1 => busy (s.report 0x0901 9 (be 1 c ++ be 3 0 ++ be 4 (s.chan c).events) none (s.chan c).cfg.secure)
  | 2 => busy (if s.triggerOn 2 then s.trigger 2 0 0 0 else s)
  | 32 => busy (s.modChan c fun h => { h with ts := time })
  | 33 => s.modChan c fun h => { h with irq := true }
  | _ =>
    let i := k - 8
    busy (if s.ballOut k then
      s.modFabric fun g =>
        { g with level := setBit16 g.level i (if s.ballToggles k then !g.level.getLsbD i else true) }
    else s)

/-- Consumer `k` completes its action (Table 11.2: an EVIO pulse falls) and starts the pending one of the lowest channel
(R290). -/
def State.finish (s : State) (k : Nat) : State :=
  let s1 := s.modFabric fun g =>
    { g with
      busy := g.busy.filter fun p => p.1 != k
      level := if 8 ≤ k ∧ k ≤ 23 ∧ s.ballOut k ∧ !s.ballToggles k then setBit16 g.level (k - 8) false else g.level }
  match (List.finRange 32).find? fun c => (s1.chan c).pending.getLsbD k with
  | none => s1
  | some c =>
    let s2 := s1.modChan c fun h => { h with pending := h.pending &&& ~~~(1#64 <<< k) }
    s2.act c k (if k = 32 then (s.chan c).tsWait else 0)

/-! ## Completing a freeze (R357) -/

/-- The freeze completes: FREEZE_END, the CODA_FROZEN pulse, the ring is held, CODA_FREEZE is no longer busy. -/
def State.completeFreeze (s : State) (reason : Nat) : State :=
  if s.coda.state = .collecting then
    let s1 := s.writeEntry 0x0002 0 false false false (be 2 s.coda.post ++ be 2 s.coda.merged ++ be 1 reason)
    let s2 := s1.modCoda fun c => { c with state := .held, merged := 0 }
    let s3 := s2.pulse 5
    if s3.fabric.isBusy 2 then s3.finish 2 else s3
  else s

/-- A copy of a held record can be made (R358): in Service, in Quiesce, and in Start-up once the image is loaded. -/
def State.canCopy (s : State) : Bool :=
  match s.power.mode with
  | .service => true
  | .startup => s.power.loaded
  | .quiesceStop => true
  | .quiesceCustody => true
  | .custody => false
  | .recovery => false

/-- One report reaches the ring (R355 to R358): written, or dropped and counted while a held record cannot be copied. -/
def State.accept (s : State) (r : Report14) : State :=
  match s.coda.state with
  | .held =>
    s.modCoda fun c =>
      { c with
        dropped := bump c.dropped
        holdDrops := some (match c.holdDrops with
          | none => (1, s.tb.measure, s.tb.measure)
          | some (n, a, _) => (n + 1, a, s.tb.measure)) }
  | _ =>
    let post := s.coda.state = .collecting
    let s1 := s.writeEntry r.code r.source r.secure false post r.payload
    let s2 := if post then s1.modCoda fun c => { c with post := c.post + 1 } else s1
    let s3 := match r.trigger with
      | none => s2
      | some b => if s2.triggerOn b then s2.trigger b r.code s2.coda.headSeq 0 else s2
    if s3.coda.state = .collecting ∧ 256 ≤ s3.coda.post then s3.completeFreeze 1 else s3

/-- The report that goes next when the first `others + 1` of the queue reach the ring in one AON cycle: the one of the lowest
SOURCE, of equals the earlier (R355), with the queue that remains. -/
def takeReport : Nat → List Report14 → Option (Report14 × List Report14)
  | _, [] => none
  | 0, r :: rest => some (r, rest)
  | n + 1, r :: rest =>
    match takeReport n rest with
    | none => some (r, rest)
    | some (x, xs) => if x.source < r.source then some (x, r :: xs) else some (r, rest)

/-- The next report goes to the ring, `others` of the queue reaching it in the same AON cycle; while the ring is held and a
copy can be made, it waits (R54, R355, R358). -/
def State.codaStep (others : Nat) (s : State) : State :=
  match takeReport others s.coda.queue with
  | none => s
  | some (r, rest) =>
    if s.coda.state = .held ∧ s.canCopy then s
    else (s.modCoda fun c => { c with queue := rest }).accept r

/-! ## Records and the vault (R358, R360) -/

/-- The newest entry with the code, and those before it. -/
def fromNewest (code : Nat) : List CodaEntry → List CodaEntry
  | [] => []
  | e :: rest => if e.code = code then e :: rest else fromNewest code rest

/-- The record that ends with the newest FREEZE_END (R357), oldest entry first; PARTIAL when newer entries have overwritten
some of its slots (R364). -/
def State.frozenRecord (s : State) (stop : Bool) : Option VaultRecord :=
  let l := fromNewest 0x0002 s.coda.ring
  match l with
  | [] => none
  | e :: _ =>
    let begin_ := (l.find? fun x => x.code == 1 && x.trigger)
    some
      { kind := 1
        part := decide (l.length < s.coda.ring.length) && decide (4096 ≤ s.coda.ring.length)
        stop := stop
        kept := false
        firstSeq := (l.getLast?.map (·.seq)).getD 0
        triggerSeq := (begin_.map (·.seq)).getD 0
        post := fld e.payload 0 2
        triggerCode := (begin_.map fun x => fld x.payload 2 2).getD 0
        merged := fld e.payload 2 2
        dropped := s.coda.dropped
        starts := s.power.starts
        triggerMeasure := (begin_.map (·.measure)).getD 0
        serial := s.board.serial
        major := s.nor.running.major
        minor := s.nor.running.minor
        patch := s.nor.running.patch
        entries := l.reverse }

/-- The ring as it stands, for the stop slot (R360, KIND 2). -/
def State.stopRecordOf (s : State) : VaultRecord :=
  { kind := 2, part := false, stop := true, kept := false
    firstSeq := (s.coda.ring.getLast?.map (·.seq)).getD 0
    triggerSeq := 0, post := 0, triggerCode := 0, merged := 0
    dropped := s.coda.dropped, starts := s.power.starts, triggerMeasure := 0, serial := s.board.serial
    major := s.nor.running.major, minor := s.nor.running.minor, patch := s.nor.running.patch
    entries := s.coda.ring.reverse }

/-- The hold ends (R357, R358): a DROPPED entry if there were losses, and the pending freeze starts collecting. -/
def State.endHold (s : State) : State :=
  let s1 := s.modCoda fun c => { c with state := .live }
  let s2 := match s.coda.holdDrops with
    | none => s1
    | some (n, a, b) =>
      (s1.writeEntry 0x0004 0 false false false (be 4 n ++ be 6 a ++ be 6 b)).modCoda fun c => { c with holdDrops := none }
  match s.coda.pendingFreeze with
  | none => s2
  | some (b, code, seq, note) => (s2.modCoda fun c => { c with pendingFreeze := none }).trigger b code seq note

/-- Cantor copies the held record out and ends the hold (R358). -/
def State.copyRecord (s : State) : State :=
  if s.coda.state = .held ∧ s.canCopy then
    (s.modCoda fun c => { c with unflushed := c.unflushed ++ (s.frozenRecord false).toList }).endHold
  else s

/-- The queue drains into the ring before a controller reset; a held ring is copied out first where it can be. -/
def State.codaDrain (s : State) : State := s.coda.queue.foldl (fun t _ => t.copyRecord.codaStep 0) s

/-- The record slot a new record takes (R360), as an index 0 to 15: the lowest free one, else the lowest FIRST_SEQ without
KEPT. -/
def Coda.slotFor (c : Coda) : Option (Fin 17) :=
  let slots := (List.finRange 17).filter fun i => i.val < 16
  match slots.find? fun i => c.vault[i].isNone with
  | some i => some i
  | none =>
    let cand := slots.filterMap fun i => c.vault[i].bind fun r => if r.kept then none else some (i, r.firstSeq)
    (cand.foldl (fun best x => match best with
      | none => some x
      | some y => if x.2 < y.2 then some x else some y) none).map (·.1)

/-- Put a record into its record slot; a record it replaces is counted in UNKEPT. -/
def Coda.keepRecord (c : Coda) (r : VaultRecord) : Coda × Nat :=
  match c.slotFor with
  | none => (c, 0)
  | some i =>
    ({ c with vault := c.vault.set i (some r), unkept := if c.vault[i].isNone then c.unkept else sat 8 (c.unkept + 1) },
      i.val + 1)

/-- FLAGS of a record header (Table 14.4). -/
def VaultRecord.flags (r : VaultRecord) : Nat :=
  b2n r.part + 2 * b2n r.stop + 4 * b2n r.kept + 8 * b2n (r.entries.any (·.secure))

/-- The oldest copied record becomes durable in the vault, and FLUSHED is written (R360). -/
def State.flushVault (s : State) : State :=
  match s.coda.unflushed with
  | [] => s
  | r :: rest =>
    let (c, slot) := s.coda.keepRecord r
    ({ s with coda := { c with unflushed := rest } }).report 0x0003 0
      (be 1 slot ++ be 1 r.flags ++ be 4 r.firstSeq)

/-- The 64-byte record header (Table 14.4). -/
def VaultRecord.header (r : VaultRecord) (slot : Nat) : Bytes :=
  let h := be 4 0x445A4352 ++ be 1 1 ++ be 1 r.kind ++ be 1 r.flags ++ be 1 slot ++ be 4 r.firstSeq ++
    be 4 r.triggerSeq ++ be 2 r.entries.length ++ be 2 r.post ++ be 2 r.triggerCode ++ be 2 r.merged ++ be 4 r.dropped ++
    be 4 r.starts ++ be 6 r.triggerMeasure ++ be 2 0 ++ be 8 r.serial ++ be 1 r.major ++ be 1 r.minor ++ be 1 r.patch ++
    be 1 0 ++ zeros 8
  h ++ be 4 (crc32c h)

/-- Coda's part of a stop-form Quiesce, within 5 ms (R360): a held or unflushed record goes to its record slot with STOP
set; otherwise the ring goes to the stop slot. -/
def State.codaStop (s : State) : State :=
  let waiting := s.coda.unflushed ++ (if s.coda.state = .held then (s.frozenRecord true).toList else [])
  match waiting with
  | [] => s.modCoda fun c => { c with vault := c.vault.set 16 (some s.stopRecordOf) }
  | _ =>
    s.modCoda fun c =>
      { waiting.foldl (fun d r => (d.keepRecord { r with stop := true }).1) c with unflushed := [] }

/-- Coda made durable at Custody entry (R313, R360): the ring goes to the stop slot. -/
def State.codaCustody (s : State) : State :=
  let s1 := s.coda.unflushed.foldl (fun t _ => t.flushVault) s
  s1.modCoda fun c => { c with vault := c.vault.set 16 (some s1.stopRecordOf) }

/-- Coda at the start of a controller reset: the freeze completes, the queue and the volatile registers are lost, the ring
and the vault stay (R357, R305). A record whose FREEZE_END has no later FLUSHED in the ring makes the ring held (R364). -/
def Coda.restart (c : Coda) : Coda :=
  let kept := fromNewest 0x0002 c.ring
  let flushed := (c.ring.takeWhile fun e => e.code != 2).any fun e => e.code == 3
  let held := !kept.isEmpty ∧ !flushed
  { c with
    queue := []
    state := if held then .held else .live
    post := 0
    merged := 0
    pendingFreeze := none
    unflushed := []
    unkept := 0
    dropped := 0
    holdDrops := none
    mask := 0xB
    winsel := 0 }

end Sys2Proof.Machine
end

