-- ==== Sys2Proof/Machine/Transmit.lean ====
section
/-! DEFINITION. What the ports send: descriptors, classes and queue order (R147, Table 6.6), heartbeats (R153, R154), the
spill (R58, R59), MACsec packet numbers (R149, R150). -/

namespace Sys2Proof.Machine

open Sys2Proof

/-! ## Addresses -/

/-- An IPv4-mapped address ::ffff:a.b.c.d (R222). -/
def isV4 (ip : Nat) : Bool := ip / 2 ^ 32 == 0xFFFF

/-- The mapped form of an IPv4 address. -/
def mapV4 (a : Nat) : Nat := 0xFFFF * 2 ^ 32 + a % 2 ^ 32

/-- The link-local IPv6 address of a port by modified EUI-64 from filter entry 0 (R142). -/
def linkLocal (mac : Nat) : Nat :=
  0xFE80 * 2 ^ 112 + ((mac / 2 ^ 24) ^^^ 0x020000) * 2 ^ 40 + 0xFFFE * 2 ^ 24 + mac % 2 ^ 24

/-- The addresses of port `p`. -/
def State.addresses (s : State) (p : Fin 2) : List Nat :=
  linkLocal (s.net p).filter0 :: ((s.net p).ipv6.toList ++ ((s.net p).ipv4.map mapV4).toList)

/-! ## Frame lengths (R136) -/

/-- Bytes of an Ethernet frame that carries `n` bytes after the ethertype: addresses, tag, SecTAG and ICV, FCS; at least
64. -/
def frameLen (tagged macsec : Bool) (n : Nat) : Nat :=
  max 64 (14 + (if tagged then 4 else 0) + (if macsec then 32 else 0) + n + 4)

/-- Bytes after the ethertype: a UDP datagram with its IP header, or the payload itself for control frames. -/
def TxFrame.inner (f : TxFrame) : Nat :=
  match f.cls with
  | .heartbeat => f.payload.length + 8 + if isV4 f.dstIp then 20 else 40
  | .queue => f.payload.length + 8 + if isV4 f.dstIp then 20 else 40
  | .pause => f.payload.length
  | .ptp => f.payload.length
  | .control => f.payload.length

/-! ## Queueing -/

/-- A frame with no descriptor yet. -/
def TxFrame.make (cls : TxClass) (vid pcp dstIp dstUdp : Nat) (payload : Bytes) : TxFrame :=
  { desc := 0, cls, dataResp := false, session := none, notify := none, vid, pcp, dstIp, dstUdp, srcUdp := 0, dstMac := none
    payload, sa := none }

/-- Place a class 5 frame in the TX queue or the spill of port `p` (R58), under the next descriptor number. -/
def State.enqueue (s : State) (p : Fin 2) (f : TxFrame) : State :=
  s.modPort p fun q => { q with queue := q.queue ++ [{ f with desc := q.nextDesc }], nextDesc := q.nextDesc + 1 }

/-- Queue a frame of class 1, 2 or 4. -/
def State.sendUrgent (s : State) (p : Fin 2) (f : TxFrame) : State :=
  s.modPort p fun q => { q with urgent := q.urgent ++ [{ f with desc := q.nextDesc }], nextDesc := q.nextDesc + 1 }

/-- Send a UDP payload back to a source, on its port and VLAN with that VLAN's PCP, from the port it was sent to (R90, R100, R101,
R147). A frame of both VLANs (R141) is answered with DATA_PCP if it is an SKP datagram and MGMT_PCP if it is a management message
(log entry 124). -/
def State.sendTo (s : State) (src : Source) (data : Bool) (session notify : Option Nat) (payload : Bytes) : State :=
  let set := (s.net src.port).set
  s.enqueue src.port
    { TxFrame.make .queue src.vid (if data then set.dataPcp else set.mgmtPcp) src.ip src.udp payload with
      srcUdp := if data then 47810 else if s.power.mode = .recovery then 47812 else 47811
      dataResp := data, session, notify }

/-- Frames of a port's queue that hold an on-chip descriptor or wait for one: all of them, but for the data responses of a
port that is FENCED or OFFLINE (R59). -/
def State.txReady (s : State) (p : Fin 2) : List TxFrame :=
  if s.portUsable p then (s.port p).queue else (s.port p).queue.filter fun f => !f.dataResp

/-- A port's transmit spill: what lies behind the 256 on-chip descriptors, and the data responses of a port that is FENCED or
OFFLINE (R58, R59). -/
def State.txSpilled (s : State) (p : Fin 2) : List TxFrame :=
  (s.txReady p).drop 256 ++ if s.portUsable p then [] else (s.port p).queue.filter fun f => f.dataResp

/-- Bytes of responses in a port's transmit spill. -/
def State.spillBytes (s : State) (p : Fin 2) : Nat := ((s.txSpilled p).map fun f => f.payload.length).sum

/-- NOTIFYs of a watch that wait at a port (R126). -/
def Port.notifies (q : Port) (session seq : Nat) : Nat :=
  (q.queue.filter fun f => f.session == some session && f.notify == some seq).length

/-- An own PAUSE frame (R144); XOFF shows its quanta. -/
def State.sendPause (s : State) (p : Fin 2) (quanta : Nat) : State :=
  (s.sendUrgent p
    { TxFrame.make .pause 0 0 0 0 (be 2 1 ++ be 2 quanta) with dstMac := some 0x0180C2000001 }).modPort p fun q =>
      { q with xoff := quanta != 0 }

/-- A gPTP message (R151), to the address of IEEE 802.1AS. -/
def State.sendPtp (s : State) (p : Fin 2) (payload : Bytes) : State :=
  s.sendUrgent p { TxFrame.make .ptp 0 0 0 0 payload with dstMac := some 0x0180C200000E }

/-! ## Heartbeats (R153, R154) -/

/-- This drive's member number, 0xFF outside a Chorus. -/
def State.memberNum (s : State) : Nat := (s.store.chorus.map (·.self)).getD 0xFF

/-- The 24-byte body of Table 6.7. -/
def State.heartbeatBody (s : State) (p : Fin 2) (mode : Nat) : Bytes :=
  be 8 s.board.serial ++ be 1 mode ++ be 1 s.tb.state.num ++ be 1 s.memberNum ++
  be 1 (s.effective (portId p)).num ++ be 4 s.power.starts ++ be 6 s.tb.persisted ++ be 2 0

/-- The heartbeat's destination: as set, or ff02::1 port 47810 (R153; every port has IPv6, R142). -/
def State.heartbeatDest (s : State) (p : Fin 2) : Nat × Nat :=
  ((s.net p).hbDest).getD (0xFF02 * 2 ^ 112 + 1, 47810)

/-- The heartbeat frame that port `p` queues now. -/
def State.heartbeatFrame (s : State) (p : Fin 2) (mode : Nat) : TxFrame :=
  let set := (s.net p).set
  { TxFrame.make .heartbeat set.dataVid set.dataPcp (s.heartbeatDest p).1 (s.heartbeatDest p).2
      (skpHeader 0x8F 0 0 0 0 0 (s.port p).hbSeq s.tb.measure 0 0 0 p 0 ++ s.heartbeatBody p mode) with srcUdp := 47810 }

/-- Queue a heartbeat on port `p` if its effective state is ONLINE or DEGRADED; one that has not started is replaced and
counted (R153). `departure` marks a heartbeat that lapses after 100 µs. -/
def State.queueHeartbeat (s : State) (p : Fin 2) (mode : Nat) (departure : Bool) : State :=
  if s.portUsable p then
    let s1 := if (s.port p).hb.isSome then s.count p .txHbReplaced else s
    s1.modPort p fun q => { q with hb := some (s.heartbeatFrame p mode, departure), hbSeq := q.hbSeq + 1 }
  else s

/-- Queue a heartbeat on each port. -/
def State.queueHeartbeats (s : State) (mode : Nat) (departure : Bool) : State :=
  (s.queueHeartbeat 0 mode departure).queueHeartbeat 1 mode departure

/-! ## Choosing a frame (R147) -/

/-- The first frame of class `c`, and the others. -/
def takeClass (c : TxClass) : List TxFrame → Option (TxFrame × List TxFrame)
  | [] => none
  | f :: rest => if f.cls = c then some (f, rest) else (takeClass c rest).map fun p => (p.1, f :: p.2)

/-- The first class 5 frame that may leave: on a FENCED port data responses stay (Table 6.3). -/
def takeQueue (fenced : Bool) : List TxFrame → Option (TxFrame × List TxFrame)
  | [] => none
  | f :: rest => if fenced && f.dataResp then (takeQueue fenced rest).map fun p => (p.1, f :: p.2) else some (f, rest)

/-- What a port may start now, by the strict order of Table 6.6, and the port without it. A paused port starts own PAUSE
frames only; an OFFLINE port starts nothing; a FENCED one sends no heartbeat (Table 6.3). `keyless` holds every frame that must be
protected (R148, R150; log entry 137). A class 5 frame that is above the limit, cut under a larger MTU, is never sent and leaves the
queue (R136; log entry 136). -/
def Port.choose (q : Port) (eff : UnitState) (keyless : Bool) (fits : TxFrame → Bool) : Option (TxFrame × Port) :=
  if eff = .offline then none else
  match takeClass .pause q.urgent with
  | some (f, u) => some (f, { q with urgent := u })
  | none =>
    if q.paused then none else
    match takeClass .ptp q.urgent with
    | some (f, u) => some (f, { q with urgent := u })
    | none =>
      if keyless then none else
      match if eff = .fenced then none else q.hb with
      | some (f, _) => some (f, { q with hb := none })
      | none =>
        match takeClass .control q.urgent with
        | some (f, u) => some (f, { q with urgent := u })
        | none =>
          (takeQueue (eff = .fenced) (q.queue.filter fits)).map fun p => (p.1, { q with queue := p.2 })

/-! ## MACsec transmit numbers (R148 to R150) -/

/-- XPN suites (Table 15.10). -/
def Sa.xpn (a : Sa) : Bool := decide (3 ≤ a.suite)

/-- Highest packet number of a suite. -/
def Sa.lastPn (a : Sa) : Nat := if a.xpn then 2 ^ 64 - 1 else 2 ^ 32 - 1

/-- R150's warning threshold. -/
def Sa.highPn (a : Sa) : Nat := if a.xpn then 0xC000000000000000 else 0xC0000000

/-- The transmit association in use has no number left (R150). -/
def PortNet.exhausted (n : PortNet) : Bool :=
  n.policy != .disabled && match n.txSa with
    | [] => false
    | a :: _ => decide (a.lastPn < a.pn)

/-- No association can protect a frame under the policy: none is installed, or its numbers are used up (R148, R150). -/
def PortNet.keyless (n : PortNet) : Bool := n.policy != .disabled && (n.txSa.isEmpty || n.exhausted)

/-- A frame of this class is protected under the policy: PTP and MAC control frames never are (R148). -/
def protects (n : PortNet) (c : TxClass) : Bool := n.policy != .disabled && c != .ptp && c != .pause

/-- Largest frame of the port (R136). -/
def PortNet.maxFrame (n : PortNet) : Nat :=
  if n.set.jumbo then 9216 else if n.policy = .disabled then 1522 else 1554

/-- The frame is within the port's limit (R136). -/
def PortNet.fits (n : PortNet) (f : TxFrame) : Bool :=
  decide (frameLen (f.vid != 0) (protects n f.cls) f.inner ≤ n.maxFrame)

/-- Use one transmit packet number of the association installed last; the older one is retired then (R149). -/
def PortNet.usePn (n : PortNet) : PortNet × Option (Nat × Nat) :=
  match n.txSa with
  | [] => (n, none)
  | a :: _ =>
    if a.lastPn < a.pn then (n, none)
    else ({ n with
        txSa := [{ a with
          pn := a.pn + 1, pnPersisted := max a.pnPersisted (a.pn / 2 ^ 20 * 2 ^ 20)
          warned := a.warned || decide (a.highPn < a.pn) }] },
      some (a.an, a.pn))

/-- A transmit association's numbers after a start: the next block above the last persisted one; a receive floor at the
persisted block's start (R149). Associations without PERSIST are gone. -/
def PortNet.restart (n : PortNet) : PortNet :=
  { n with
    txSa := (n.txSa.filter (·.persist)).map fun a => { a with pn := a.pnPersisted + 2 ^ 20 }
    rxSa := (n.rxSa.filter (·.persist)).map fun a => { a with pn := a.pnPersisted } }

/-! ## Closing a session's responses (R59) -/

/-- Release the spilled data responses of a session on ports that are FENCED or OFFLINE, counting them in CRD_RELEASED, which
counts datagrams: each piece of a split response, and each NOTIFY, is one (log entry 127). -/
def State.releaseSession (s : State) (session : Nat) : State :=
  (List.finRange 2).foldl (fun t p =>
    if t.portUsable p then t else
      let go := (t.port p).queue.filter fun f => f.session == some session
      (t.modPort p fun q => { q with queue := q.queue.filter fun f => f.session != some session }).modSeq fun q =>
        { q with released := bump q.released go.length }) s

/-- Custody entry: every response still in a port's transmit spill is released and counted (R59, R313 step 4). -/
def State.releaseSpill (s : State) : State :=
  (List.finRange 2).foldl (fun t p =>
    let n := (t.txSpilled p).length
    (t.modPort p fun q => { q with queue := (t.txReady p).take 256 }).modSeq fun q => { q with released := bump q.released n }) s

end Sys2Proof.Machine
end

