-- ==== Sys2Proof/Machine/Power.lean ====
section
/-! DEFINITION. Controller resets, the stop form of Quiesce, internal fatal errors, thermal steps, and the meanings of the
power and mode events (R304 to R324, R408). -/

namespace Sys2Proof.Machine

open Sys2Proof

/-! ## Controller reset (R305, Table 12.2) -/

/-- An association with the block that `live` has persisted, and its warning given (R149, R150). -/
def Sa.carry (live : List Sa) (a : Sa) : Sa :=
  match live.find? fun b => b.an == a.an && b.key == a.key with
  | some b => { a with pnPersisted := max a.pnPersisted b.pnPersisted, warned := a.warned || b.warned }
  | none => a

/-- Packet-number blocks persisted since the durable settings were written count (R149). -/
def PortNet.carryPn (live durable : PortNet) : PortNet :=
  { durable with
    txSa := durable.txSa.map (Sa.carry live.txSa)
    rxSa := durable.rxSa.map (Sa.carry live.rxSa) }.restart

/-- The store Start-up works from: the one of M_r (R321), with its persisted associations reloaded (R149). -/
def Store.recover (durable live : Store) : Store :=
  { durable with
    settings := { durable.settings with
      ports := Vector.zipWith PortNet.carryPn live.settings.ports durable.settings.ports } }

/-- The units of the board and of the members of a store's Chorus (Table 4.11), ascending. -/
def unitsFor (units : List HwUnit) (t : Store) : List HwUnit :=
  (units.filter fun u => u.id / 0x1000 != 6) ++
  match t.chorus with
  | none => []
  | some c => (List.range c.members).map fun k =>
      ((units.find? fun u => u.id == 0x6000 + k)).getD (HwUnit.fresh (0x6000 + k) .fenced)

/-- The power controller after a reset of the cause: registers at their reset values; causes and BOOT_FAILS sticky but for
PORST_n; ball levels, the running 32.768 kHz oscillator (R419), start counts, the stop record and a Recovery request
kept. -/
def Power.resetTo (p : Power) (cause : ResetCause) : Power :=
  { Power.reset with
    cause := cause
    previous := if cause = .porst then .porst else p.cause
    bootFails := if cause = .porst then 0 else p.bootFails
    pwrFail := p.pwrFail
    holdupOk := p.holdupOk
    thermAlert := p.thermAlert
    quiesce := p.quiesce
    starts := p.starts
    afterFallback := p.afterFallback
    failed := p.failed || (p.starting && (cause == .watchdog || cause == .fatal))
    stopRecord := p.stopRecord
    hasRun := p.hasRun
    recoveryRequest := p.recoveryRequest
    thermalHold := cause = .thermal
    xtal32 := p.xtal32 && cause != .porst }

/-- A controller reset begins (R305): Coda completes its freeze (R357), every register returns to its reset value, locks
go (R7), and the state is that of M_r (R321). -/
def State.controllerReset (s : State) (cause : ResetCause) : State :=
  let a := s.codaDrain.completeFreeze 3
  let b := a.clearSwitched
  let store := Store.recover s.durable s.store
  { b with
    store := store
    units := unitsFor b.units store
    fabric := .reset
    coda := b.coda.restart
    power := a.power.resetTo cause }

/-! ## Stop form of Quiesce (R319) -/

/-- Background erases and programs are suspended, whatever their count (R319). -/
def Lun.suspend (l : Lun) : Lun :=
  match l.op with
  | some o =>
    if o.kind = .eraseBg ∨ o.kind = .programBg then
      { l with op := none, held := some { o with suspends := o.suspends + 1, ran := 0 } }
    else l
  | none => l

/-- The stop form begins in the open measure X: PRESENT_n released, ALIVE low, admission and execution stop, the receiving
bank is never programmed, departure heartbeats are queued, background work is suspended (R319). `code` is the reset that
follows without waiting for PWR_FAIL_n (R320). -/
def State.stopForm (s : State) (code : Option ResetCause) : State :=
  let s1 := s.queueHeartbeats 3 true
  let s2 := s1.modPower fun p =>
    { p with
      mode := .quiesceStop, present := false, alive := false, stopping := some (s.tb.measure, p.holdupOk)
      stopped := false, stopCode := code, plan := none }
  let s3 := s2.modSeq fun q => { q with sealed := [], admitted := [], waiting := [], held := [], reorder := [] }
  let s4 := { s3 with snaps := s3.snaps.filter (·.programming) }
  let s5 := s4.modFlash fun f => { f with luns := f.luns.map Lun.suspend }
  if s.coda.state = .collecting then s5.completeFreeze 4 else s5

/-- The reset that follows a completed stop form: its own code, or code 5 once PWR_FAIL_n is deasserted (R320). -/
def State.afterStop (s : State) : State :=
  match s.power.stopCode with
  | some c => s.controllerReset c
  | none => if s.power.pwrFail then s else s.controllerReset .powerReturn

/-! ## Fatal errors (R75, R84, Table 14.2 FATAL) -/

/-- An internal fatal error with the reason and core: FATAL after its causing entry, the FATAL pulse, and the reset of
code 3 through the watchdog. -/
def State.fatal (s : State) (reason core : Nat) (causing : Option (Nat × Nat × Bytes)) : State :=
  let s0 := s.codaDrain
  let s1 := match causing with
    | none => s0
    | some (code, source, payload) => (s0.report code source payload).codaStep 0
  let cause := if causing.isSome then s1.coda.headSeq else 0
  let s2 := s1.report 0x0403 3 (be 1 reason ++ be 1 core ++ be 4 cause) (some 0)
  (s2.pulse 47).controllerReset .fatal

/-! ## Thermal (R322 to R324) -/

/-- T_F (R21). -/
def State.limitTf (s : State) : Int := if s.board.gradeA2 then 125 else 110

/-- The highest step whose entry threshold Tj has reached. -/
def stepReached (th : Vector Int 4) (tj : Int) : Nat :=
  if th[3] ≤ tj then 4 else if th[2] ≤ tj then 3 else if th[1] ≤ tj then 2 else if th[0] ≤ tj then 1 else 0

/-- Tj is below the exit threshold of a step above 0. -/
def belowExit (th : Vector Int 4) (step : Nat) (tj : Int) : Bool :=
  match step with
  | 0 => false
  | 1 => decide (tj < th[0] - 5)
  | 2 => decide (tj < th[1] - 5)
  | 3 => decide (tj < th[2] - 5)
  | _ => decide (tj < th[3] - 5)

/-- The throttle step at a boundary (R322): up at once, down by one at most once in 64 measures, at least 2 while
THERM_ALERT_n is asserted. `measure` is the one that opens. -/
def Power.nextStep (p : Power) (th : Vector Int 4) (tj : Int) (measure : Nat) : Nat :=
  let up := stepReached th tj
  let base :=
    if p.step < up then up
    else if belowExit th p.step tj ∧ p.stepAt + 64 ≤ measure then p.step - 1 else p.step
  if p.thermAlert then max 2 base else base

/-- The percentage of the local share (Table 12.6). -/
def stepPercent (step : Nat) : Nat :=
  match step with
  | 0 => 100
  | 1 => 75
  | 2 => 50
  | 3 => 25
  | _ => 0

/-- A POSTED mailbox returns to IDLE; its command has had no effect (R369). -/
def Mailbox.unpost (m : Mailbox) : Mailbox := if m.state = .posted then { m with state := .idle, eth := false } else m

/-! ## Meanings -/

/-- PORST_n (R305): a reset of code 0; the sticky fields are cleared. -/
def execPorstNAssert (s : State) : Out := .next (s.controllerReset .porst)

/-- SYS_RST_n (R305): a reset of code 1. -/
def execSysRstNAssert (s : State) : Out := .next (s.controllerReset .sysRst)

/-- The watchdog expires (R306): WATCHDOG, its freeze, a reset of code 2. It is stopped in Custody, in reset, and paused by
a debugger halt (R367). -/
def execWatchdogExpiry (s : State) : Out :=
  if s.power.mode = .custody ∨ s.power.inReset ∨ s.power.wdogPaused then .next s
  else .next ((s.report 0x0109 1 [] (some 1)).controllerReset .watchdog)

/-- 125 ms without watchdog service (R306): WDOG_WARN pulses, WATCHDOG_WARN names the core last serving. -/
def execWdogWarn (core : Fin 4) (s : State) : Out :=
  if s.power.mode = .custody ∨ s.power.inReset ∨ s.power.wdogPaused then .next s
  else .next (((s.modPower fun p => { p with lastServe := core }).report 0x0108 1 (be 1 core)).pulse 46)

/-- An internal fatal error (R305 code 3). -/
def execInternalFatalError (reason : Nat) (core : Fin 4) (s : State) : Out := .next (s.fatal reason core none)

/-- PWR_FAIL_n passes its filter (R310, R315, R318, R319): in Service and during Custody entry the stop form begins with a
PWR_FAIL entry; in Start-up the controller holds itself in a reset of cause 5; the producer pulses. -/
def execPwrFailAssert (offsetUs : Nat) (s : State) : Out :=
  let s1 := (s.modPower fun p => { p with pwrFail := true })
  if s.power.inReset then .next s1 else
  match s.power.mode with
  | .service | .quiesceCustody =>
    .next (((s1.pulse 1).report 0x0102 1 (be 1 (b2n s.power.holdupOk) ++ be 2 offsetUs)).stopForm none)
  | .quiesceStop => .next (s1.pulse 1)
  | .startup =>
    .next ((s1.controllerReset .powerReturn).modPower fun p => { p with held := true })
  | .custody => .next (s1.pulse 1)
  | .recovery => .next s1

/-- The stop form completes (R319): Coda's stop record is in the vault, the stop record names X and HOLDUP_OK at entry, and
the reset that follows is made when it need not wait (R320). Mailboxes still POSTED return to IDLE (R369). -/
def execStopQuiesceComplete (quiesce10us : Nat) (s : State) : Out :=
  match s.power.mode, s.power.stopping with
  | .quiesceStop, some (x, h) =>
    let s1 := s.codaDrain.codaStop
    let s2 := s1.modPower fun p =>
      { p with
        stopRecord := some (x, h, sat 16 quiesce10us), quiesce := sat 16 quiesce10us, stopped := true, stopping := none
        recoveryRequest := p.recoveryRequest || (p.stopCode == some .deviceReset && p.planRecovery) }
    let s3 : State := { s2 with mbx := s2.mbx.map Mailbox.unpost }
    .next s3.afterStop
  | _, _ => .next s

/-- PWR_FAIL_n has been deasserted for 10 ms (R310, R320): a held Start-up goes on, a completed stop form ends in a reset of
code 5. -/
def execPowerReturn (s : State) : Out :=
  let s1 := s.modPower fun p => { p with pwrFail := false, held := false, holdupOk := true }
  if s.power.mode = .quiesceStop ∧ s.power.stopped ∧ s.power.stopCode = none then .next (s1.controllerReset .powerReturn)
  else .next s1

/-- 20 µs into A + 4 of a planned DEVICE.RESET (Table 12.10): the stop form begins, to end in a reset of code 4. -/
def execDeviceResetQuiesceStart (s : State) : Out :=
  match s.power.plan with
  | some pl =>
    if !pl.custody ∧ pl.adm + 4 ≤ s.tb.measure ∧ s.inService then .next (s.stopForm (some .deviceReset)) else .next s
  | none => .next s

/-- HOLDUP_OK is low in Service: HOLDUP_LOW with its entry (R304). -/
def State.noteHoldup (s : State) : State :=
  if !s.power.holdupOk && s.inService then (s.modPower fun p => { p with holdupLow := true }).report 0x0103 1 [] else s

/-- HOLDUP_OK falls (R304): HOLDUP_LOST pulses; in Service HOLDUP_LOW is set with its entry. -/
def execHoldupOkFall (s : State) : Out :=
  .next (((s.modPower fun p => { p with holdupOk := false }).pulse 2).noteHoldup)

/-- THERM_ALERT_n is asserted: the step is at least 2 from the next boundary (R322); the producer pulses. -/
def execThermAlertAssert (s : State) : Out :=
  .next ((s.modPower fun p => { p with thermAlert := true }).pulse 3)

/-- The comparator sees Tj at T_F + 5 °C (R324): THERMAL_SHUTDOWN, then the stop form, to end in a held reset of code 6. In
Recovery and Start-up, where no measure runs, the reset follows at once. A lower Tj does nothing; Tj is not compared while
the switched rails may be down. -/
def execThermalShutdown (tj : Int) (s : State) : Out :=
  if tj < s.limitTf + 5 ∨ s.power.inReset ∨ s.power.mode = .custody then .next s else
  let s1 := s.report 0x0105 1 (be 1 (unsigned 8 tj)) (some 7)
  match s.power.mode with
  | .service | .quiesceCustody => .next (s1.stopForm (some .thermal))
  | .quiesceStop => .next (s1.modPower fun p => { p with stopCode := some .thermal })
  | .startup | .recovery | .custody => .next (s1.controllerReset .thermal)

/-- Tj has fallen below T_F − 15 °C: the held reset of code 6 may end (R324). -/
def execThermalShutdownRelease (tj : Int) (s : State) : Out :=
  if tj < s.limitTf - 15 then .next (s.modPower fun p => { p with thermalHold := false }) else .next s

/-- WAKE rises (R286, R315): the producer pulses, and the fixed path wakes the drive from Custody. -/
def execWakeRise (s : State) : Out := .next ((s.pulse 0).wake 0 0)

/-- The 32.768 kHz oscillator has run stably for 1,024 cycles (R419). -/
def execXtal32Stable (s : State) : Out := .next (s.modPower fun p => { p with xtal32 := true })

end Sys2Proof.Machine
end

