-- ==== Sys2Proof/Machine/Sequence.lean ====
section
/-! DEFINITION. Per-measure limits (R34, R258, R322), sessions by id, replies and their windows (R43, R44, R47, R58, R61),
and the completion of a mailbox command (Table 4.6). -/

namespace Sys2Proof.Machine

open Sys2Proof

/-! ## Limits (Table 2.4) -/

/-- Admission slots of a whole measure. -/
def slotsOf (length : Nat) : Nat := 500 * 2 ^ length
/-- Write allowance [bytes]. -/
def writeOf (length : Nat) : Nat := 256 * 1024 * 2 ^ length
/-- Read transfer allowance [bytes]. -/
def readOf (length : Nat) : Nat := 320 * 1024 * 2 ^ length
/-- Read slice [bytes]. -/
def readSliceOf (length : Nat) : Nat := 32 * 1024 * 2 ^ length
/-- Commit slice [key updates]. -/
def commitSliceOf (length : Nat) : Nat := 500 * 2 ^ length

/-- The local share of a limit: half of it in a Chorus, the whole while the member restores (R258), times the throttle step's percentage (R322). -/
def State.localShare (s : State) (whole : Nat) : Nat :=
  (if s.store.chorus.any (·.restore.isNone) then whole / 2 else whole) * stepPercent s.power.step / 100

/-- Two sealed lists wait for execution behind the one that overruns (R45). -/
def State.sealFull (s : State) : Bool :=
  decide (2 + (if 0 < s.seq.overrunBy then 1 else 0) ≤ s.seq.sealed.length)

/-- Admission is open: a measure is open in Service, and no planned stop has closed admission (R312, Table 12.10). -/
def State.admits (s : State) : Bool :=
  s.inService && s.tb.opened && match s.power.plan with
  | some pl => decide (s.tb.measure < pl.adm + 2)
  | none => true

/-- Admission slots for local items in the open measure. -/
def State.slotLimit (s : State) : Nat :=
  if s.sealFull || !s.admits then 0 else s.localShare (slotsOf s.store.length)

/-- Write allowance for local requests in the open measure. -/
def State.writeLimit (s : State) : Nat :=
  if s.sealFull || !s.admits then 0 else s.localShare (writeOf s.store.length)

/-- An item of `bytes` value bytes fits the open measure. -/
def State.fits (s : State) (bytes : Nat) : Bool :=
  decide (s.seq.slots < s.slotLimit) && decide (s.seq.bytes + bytes ≤ s.writeLimit)

/-- A command fits the open measure (R39: one slot, no write allowance). -/
def State.slotFree (s : State) : Bool := decide (s.seq.slots < s.slotLimit)

/-! ## Sessions -/

/-- The session with the id, known to the drive. -/
def State.session (s : State) (id : Nat) : Option Session := s.sessions.find? fun x => x.id == id

/-- Change the session with the id. -/
def State.modSession (s : State) (id : Nat) (f : Session → Session) : State :=
  { s with sessions := s.sessions.map fun x => if x.id == id then f x else x }

/-- The session with the id is open. -/
def State.isOpen (s : State) (id : Nat) : Bool := ((s.session id).map (·.opened)).getD false

/-- Outstanding requests of a session: those that hold a credit (R61). -/
def Session.outstanding (x : Session) : Nat := x.holding.length

/-- Credits a session takes from the pool: its window, or its outstanding count while that is larger (R65), and the windows
that its closed predecessors keep until the last of their requests has its response (R64). -/
def Session.credits (x : Session) : Nat :=
  (if x.opened then max x.window x.outstanding else x.outstanding) + (x.closing.map (·.1)).sum

/-- A request takes a credit (R61). -/
def Session.takeCredit (seq : Nat) (x : Session) : Session := { x with holding := seq :: x.holding }

/-- A session closes (R64): its requests keep their credits, and its window stays taken while one of them has no response. -/
def Session.shut (x : Session) : Session :=
  { x with
    opened := false
    window := 0
    holding := []
    closing := if x.holding.isEmpty then x.closing else x.closing ++ [(max x.window x.outstanding, x.holding)] }

/-- A request of a closed session has its response: with the last one its session's window returns (R64). -/
def releaseClosed (seq : Nat) : List (Nat × List Nat) → List (Nat × List Nat)
  | [] => []
  | (w, l) :: rest =>
    if l.contains seq then if l.length = 1 then rest else (w, l.erase seq) :: rest
    else (w, l) :: releaseClosed seq rest

/-- Free credits of the pool of 32,768 (R63, R64). -/
def State.poolFree (s : State) : Nat := 32768 - (s.sessions.map Session.credits).sum

/-- Open sessions (CRD_POOL SESSIONS). -/
def State.openSessions (s : State) : Nat := (s.sessions.filter (·.opened)).length

/-- Return the credit of the request with the sequence (R61, R64): a closed session's request of that sequence first. -/
def Session.returnCredit (seq : Nat) (x : Session) : Session :=
  if x.closing.any (·.2.contains seq) then { x with closing := releaseClosed seq x.closing }
  else { x with holding := x.holding.erase seq }

/-- The replay record of a sequence, among the last 256. -/
def Session.record (x : Session) (seq : Nat) : Option Replay := (x.replay.take 256).find? fun p => p.seq == seq

/-- The session has received the sequence at some time: every sequence from 1 up to the next one, 0 only once they have wrapped,
and those that a Chorus session consumed above (R68, R106). -/
def Session.received (x : Session) (seq : Nat) : Bool :=
  x.above.contains seq || x.wrapped || (decide (1 ≤ seq) && decide (seq < x.next))

/-- Change the replay record of a session's sequence. -/
def State.modReplay (s : State) (id seq : Nat) (f : Replay → Replay) : State :=
  s.modSession id fun x => { x with replay := x.replay.map fun r => if r.seq == seq then f r else r }

/-! ## Mailbox completion (Table 4.6, R82, R86, R88) -/

/-- CANCELLED, LATE or ABANDONED is set. -/
def Mailbox.attention (b : Mailbox) : Bool := b.cancelled || b.late || b.abandoned

/-- MIRQ_n is asserted (R85). -/
def State.mirq (s : State) : Bool :=
  (List.finRange 8).any fun m => ((s.mb m).state == .done && !(s.mb m).eth) || (s.mb m).attention

/-- The UDP payload of a management message response (R90, R374). -/
def mgmtResponse (status : Nat) (envelope : Bytes) : Bytes :=
  skpHeader 0xA0 0 0 0 0 0 0 0 status 0 envelope.length 0 0 ++ envelope

/-- A mailbox after its response was written: DONE over SPI, IDLE over Ethernet; a CANCEL that lost sets LATE (R70). -/
def Mailbox.complete (m : Mailbox) (sequence : Nat) (status : Status) (envelope : Bytes) : Mailbox :=
  { m with
    state := if m.eth then .idle else .done
    eth := false
    peer := none
    code := status.num
    seqReg := if m.cancelPending then sequence else m.seqReg
    late := m.late || m.cancelPending
    cancelPending := false
    stored := true
    lastDone := some sequence
    response := padTo 512 envelope }

/-- Cantor writes a command's response (R84): into the mailbox, and over Ethernet also to the sender. MAILBOX and CANCEL are
copied from the request (Table 4.7). -/
def State.completeMailbox (s : State) (m : Fin 8) (opcode sequence : Nat) (status : Status) (measure : Nat)
    (result : Bytes) : State :=
  let q := (s.mb m).request
  let envelope := responseEnvelope opcode (u8 q 2 % 8) (bit (u8 q 3) 1) sequence status.num (measure % 2 ^ 32) result
  let s1 := s.modMbx m fun b => b.complete sequence status envelope
  match (s.mb m).eth, (s.mb m).peer with
  | true, some src => s1.sendTo src false none none (mgmtResponse status.num envelope)
  | _, _ => s1

/-! ## Replies (R43, R44, R58, R61, R101) -/

/-- A source that stands for no datagram (a mailbox's reply). -/
def Source.none : Source := { port := 0, vid := 0, ip := 0, udp := 0, group := false, verified := false }

/-- FLAGS of one datagram of a reply (Table 5.3): MORE on every one but the last, TRUNCATED on the last alone. -/
def pieceFlags (flags : Nat) (more : Bool) : Nat :=
  if more then flags % 2 ^ 8 + 2 ^ 8 + flags / 2 ^ 9 % 4 * 2 ^ 9 + flags / 2 ^ 12 * 2 ^ 12 else flags

/-- One response datagram of an SKP reply: ordinal, whether more follow, offset, length, key and body. -/
def Reply.datagram (r : Reply) (ordinal : Nat) (more : Bool) (pc : Nat × Nat × Bytes × Bytes) : Bytes :=
  skpHeader (r.op ||| 0x80) (pieceFlags r.flags more) r.ns pc.2.2.1.length r.session 0 r.seq r.target r.status.num pc.1 pc.2.1
    ordinal 0 ++ pc.2.2.1 ++ pc.2.2.2

/-- Send an SKP reply's datagrams, the first with ordinal `k`; `more` tells whether others follow in later slices. A NOTIFY
beyond the 16 that wait is dropped and counted; the END NOTIFY never is (R126). -/
def State.sendPieces (s : State) (r : Reply) (more : Bool) : Nat → List (Nat × Nat × Bytes × Bytes) → State
  | _, [] => s
  | k, pc :: rest =>
    let s1 :=
      if r.notify && !bit r.flags 13 && decide (16 ≤ (s.port r.src.port).notifies r.session r.seq) then s.count r.src.port .txNotifyDropped
      else s.sendTo r.src true (some r.session) (if r.notify then some r.seq else Option.none)
        (r.datagram k (more || !rest.isEmpty) pc)
    s1.sendPieces r more (k + 1) rest

/-- The pieces that end within the first `room` bytes, and the rest. -/
def piecesWithin (room : Nat) : List (Nat × Nat × Bytes × Bytes) → List (Nat × Nat × Bytes × Bytes) × List (Nat × Nat × Bytes × Bytes)
  | [] => ([], [])
  | pc :: rest =>
    if pc.2.2.2.length ≤ room then
      let (a, b) := piecesWithin (room - pc.2.2.2.length) rest
      (pc :: a, b)
    else ([], pc :: rest)

/-- Body bytes of pieces. -/
def piecesBytes (l : List (Nat × Nat × Bytes × Bytes)) : Nat := (l.map fun pc => pc.2.2.2.length).sum

/-- What follows the last datagram of a reply: its credit returns, and its replay record counts as placed (R61, R111). -/
def State.replyDone (s : State) (r : Reply) : State :=
  let s1 := if r.credit then s.modSession r.session (Session.returnCredit r.seq) else s
  if r.notify then s1 else s1.modReplay r.session r.seq fun x => { x with placed := true }

/-- Place a reply for transmission: a mailbox's response, or the datagrams of an SKP reply. A NOTIFY of a session that is closed
now is not sent (R126). A read of more than one slice
reads its first slice now; each later slice takes what is left of the allowance, in later measures. A piece leaves with the
slice that reads its end: what the slices so far have read and not sent goes to the next piece (R44, Table 2.5). -/
def State.placeReply (s : State) (r : Reply) : State :=
  match r.mailbox with
  | some m => s.completeMailbox m r.op r.seq r.status r.target ((r.pieces.map fun pc => pc.2.2.2).flatten)
  | none =>
    if r.notify && !s.isOpen r.session then s.replyDone r else
    let slice := min (readSliceOf s.store.length) (if r.sliced then readOf s.store.length - s.seq.readUsed else r.bytes)
    let s1 := s.modSeq fun q => { q with readUsed := q.readUsed + min slice r.bytes }
    if r.bytes ≤ slice then (s1.sendPieces r false r.segment r.pieces).replyDone r
    else
      let (now, later) := piecesWithin (slice + (piecesBytes r.pieces - r.bytes)) r.pieces
      (s1.sendPieces r true r.segment now).modSeq fun q =>
        { q with
          replies := q.replies ++
            [{ r with pieces := later, segment := r.segment + now.length, bytes := r.bytes - slice, due := s.tb.measure + 1,
                      sliced := true }] }

/-- The answer of a SECURITY.PROVISION that passed: the fuses are burnt before it leaves (R402). -/
def Reply.awaitsFuses (r : Reply) : Bool := r.mailbox.isSome && r.op == 0x0C05 && r.status == .ok

/-- A reply may leave now: its window is open, its measure is persisted, the chain of its Chorus
set is confirmed (R266), the fuses it waits for are burnt, what it reads from flash is there (R189), a later slice of a read has allowance, and the port of value data
has at most 16 MiB of spill (R43, R44, R58). -/
def State.mayLeave (s : State) (r : Reply) : Bool :=
  decide (r.due ≤ s.tb.measure) && decide (r.durable ≤ s.tb.persisted) &&
  (match r.set with
    | none => true
    | some t => !s.chorus.unconfirmed.contains t) &&
  (!r.awaitsFuses || s.fuses.provisioned) &&
  (!r.sliced || decide (s.seq.readUsed < readOf s.store.length)) && r.reads.isEmpty &&
  (r.bytes == 0 || decide (s.spillBytes r.src.port ≤ 16 * 1024 * 1024))

/-- Below DEGRADED, a member answers nothing of the Chorus (Table 10.6): a response to a Chorus request whose window opens
then is dropped. -/
def State.muted (s : State) (r : Reply) : Bool :=
  r.set.isSome && decide (r.due ≤ s.tb.measure) && match s.store.chorus with
  | none => true
  | some c => decide ((s.effective (0x6000 + c.self)).num < 2)

/-- Drop the waiting replies that a test picks out; their credits return. -/
def State.dropReplies (s : State) (p : Reply → Bool) : State :=
  (s.seq.replies.filter p).foldl State.replyDone (s.modSeq fun q => { q with replies := q.replies.filter fun r => !p r })

/-- Place, in sealed order, every waiting reply that may leave. -/
def State.placeDue (s : State) : State :=
  let all := s.seq.replies
  let s0 := s.modSeq fun q => { q with replies := [] }
  all.foldl (fun t r =>
    if t.muted r then t.replyDone r
    else if t.mayLeave r then t.placeReply r else t.modSeq fun q => { q with replies := q.replies ++ [r] }) s0

/-- Queue a reply for its window, or place it if its window is open. -/
def State.schedule (s : State) (r : Reply) : State :=
  if s.mayLeave r then s.placeReply r else s.modSeq fun q => { q with replies := q.replies ++ [r] }

/-! ## Keys that a sliced operation holds (R46) -/

/-- Two parts of one namespace have a key in common. -/
def Scope.meets : Scope → Scope → Bool
  | .key k, .key j => k == j
  | .key k, .under p | .under p, .key k => isPrefix p k
  | .under p, .under q => isPrefix p q || isPrefix q p
  | .all, _ | _, .all => true

/-- Two footprints have a key in common. -/
def Touch.meets (a b : Touch) : Bool := a.ns == b.ns && a.scope.meets b.scope

/-- Final measure of the sliced operations that an item with these footprints is held behind, 0 for none (R46). -/
def State.heldUntil (s : State) (ts : List Touch) : Nat :=
  (s.seq.slicing.filter fun h => ts.any h.touch.meets).foldl (fun m h => max m h.final) 0

/-- Later items wait for the footprints until measure `f` (R46). -/
def State.hold (s : State) (ts : List Touch) (f : Nat) : State :=
  s.modSeq fun q => { q with slicing := q.slicing ++ ts.map fun t => ⟨t, f⟩ }

/-- The window of an acknowledgement of the item in execution, sealed in measure `m`: the measure it leaves in, and the one that
must be persisted first (R43, R45, R47). -/
def Sequencer.ackAt (q : Sequencer) (m : Nat) : Nat × Nat :=
  (max (m + 3 + q.late) (if q.behind = 0 then 0 else q.behind + 2), max m (q.behind - 1))

end Sys2Proof.Machine
end

