-- ==== Sys2Proof/Machine/Commands.lean ====
section
/-! DEFINITION. How a Cantor command runs: what each command is (kind, owner, modes, lengths, checks, effect), the checks
of R87 in their order, and the commands' answers by kind (R368 to R373, Table 15.1). -/

namespace Sys2Proof.Machine

open Sys2Proof

/-- Kinds of Table 15.1. -/
inductive Kind where
  | immediate
  | sealedNow
  | sealedBoundary
  | sliced
  | chorusEffective
  deriving DecidableEq, Repr

/-- What a command answers: the state after it, its status and its result bytes. -/
abbrev Res := State × Status × Bytes

/-- Refused: no change, no result (R93). -/
def refuse (s : State) (st : Status) : Res := (s, st, [])

/-- Done. -/
def okay (s : State) (result : Bytes) : Res := (s, .ok, result)

/-- One command of firmware line 3. `pre` holds the leading checks that its arguments decide on a given board, made at the grant; `act`
the remaining checks and the effect at the sealed place (or at the grant, for an immediate command); `later` the effect at
the boundary or at E; `slices` the measures a sliced command takes; `holds` what it changes and holds meanwhile, `touches` what
it reads or changes, which keeps it behind an earlier sliced operation (R46). -/
structure CmdDef where
  opcode : Nat
  kind : Kind
  owner : Owner
  inService : Bool
  inRecovery : Bool
  len : Nat → Bool
  pre : Board → Bytes → Option Status
  act : SealedCmd → State → Res
  later : SealedCmd → State → Res
  effective : Bytes → Nat
  slices : SealedCmd → State → Nat
  holds : Bytes → List Touch
  touches : Bytes → Store → List Touch

/-- A command with the common values: valid in Service only, of one slice. -/
def CmdDef.base (opcode : Nat) (kind : Kind) (owner : Owner) (len : Nat → Bool) (act : SealedCmd → State → Res) : CmdDef where
  opcode := opcode
  kind := kind
  owner := owner
  inService := true
  inRecovery := false
  len := len
  pre := fun _ _ => none
  act := act
  later := fun _ s => okay s []
  effective := fun _ => 0
  slices := fun _ _ => 1
  holds := fun _ => []
  touches := fun _ _ => []

/-- Owner of a mailbox: mailbox 0 is always SEC (R89). -/
def State.ownerOf (s : State) (m : Fin 8) : Owner := if m = 0 then .sec else s.store.settings.owners[m]

/-- Checks of R87, steps 1 and 3 to 5 (step 2 is the table's). In Recovery only mailbox 0 is served (R89). -/
def CmdDef.check (d : CmdDef) (c : Cmd) (s : State) : Option Status :=
  if 496 < c.args.length then some .range
  else if !(if s.power.mode = .recovery then d.inRecovery && decide (c.mailbox = 0) else d.inService && s.inService) then
    some .mode
  else if !(s.ownerOf c.mailbox).covers d.owner then some .denied
  else if !d.len c.args.length then some .range
  else d.pre s.board c.args

/-- Cantor fetches mailboxes now: in Service, and in Recovery (R369). -/
def State.fetches (s : State) : Bool :=
  !s.power.inReset && (s.power.mode == .service || s.power.mode == .recovery)

/-- The grant (R83): the mailbox runs the command. -/
def Mailbox.grant (b : Mailbox) (sequence : Nat) : Mailbox :=
  { b with state := .running, seqReg := sequence, prevSeq := some sequence, stored := false }

/-- The command repeats the mailbox's previous one, which has completed (R88). -/
def Mailbox.repeats (b : Mailbox) (sequence : Nat) : Bool := b.prevSeq == some sequence && b.stored

/-- The stored response is delivered again (R88). -/
def State.redeliver (s : State) (m : Fin 8) : State :=
  let b := s.mb m
  let s1 := s.modMbx m fun x => { x with state := if x.eth then .idle else .done, eth := false, peer := none }
  match b.eth, b.peer with
  | true, some src =>
    s1.sendTo src false none none
      (mgmtResponse b.code (b.response.take (16 + fld b.response 8 2)))
  | _, _ => s1

/-- A footprint of a whole namespace. -/
def onAll (ns : Nat) : Touch := ⟨ns, .all⟩
/-- A footprint of one key. -/
def onKey (ns : Nat) (key : Bytes) : Touch := ⟨ns, .key key⟩
/-- Footprints of namespaces 1 to 255. -/
def everyNs : List Touch := (List.range 255).map fun k => onAll (k + 1)
/-- A footprint of a pattern slot (R234). -/
def onSlot (slot : Nat) : Touch := ⟨256 + slot, .all⟩

/-- The reply of a command, due in measure `due` once measure `durable` is persisted. -/
def cmdReply (c : SealedCmd) (st : Status) (result : Bytes) (due durable : Nat) : Reply :=
  { due, durable, mailbox := some c.cmd.mailbox, src := Source.none, op := c.opcode, flags := 0, ns := 0, session := 0
    seq := c.cmd.sequence, target := c.adm, status := st, pieces := [(0, 0, [], result)], credit := false, notify := false
    bytes := 0, segment := 0, sliced := false, set := none }

/-- The reply of a sealed command in the window of the item in execution (R43, R47, R371). -/
def State.ackOf (s : State) (c : SealedCmd) (st : Status) (result : Bytes) : Reply :=
  let w := s.seq.ackAt c.adm
  cmdReply c st result w.1 w.2

/-- A SCAN in progress uses a pattern slot of the footprint. -/
def Touch.ofScan (t : Touch) (v : ScanRun) : Bool := v.slot != 0 && t.ns == 256 + v.slot

/-- Queue a sealed command's reply: behind a SCAN that still runs on a pattern slot it touches (R234), else for its window. -/
def State.scheduleBehind (s : State) (ts : List Touch) (r : Reply) : State :=
  match s.seq.scans.find? fun v => ts.any (·.ofScan v) with
  | some w =>
    s.modSeq fun q => { q with scans := q.scans.map fun v => if v.slot == w.slot then { v with behind := v.behind ++ [r] } else v }
  | none => s.schedule r

/-- The settings after a command's answer has taken effect, at once or at the boundary. -/
def CmdDef.settingsAfter (d : CmdDef) (c : SealedCmd) (r : Res) : Settings :=
  if d.kind = .sealedBoundary then (d.later c r.1).1.store.settings else r.1.store.settings

/-- A command's answer at its sealed place. While the old settings are kept during a trial, a settings change that does not
fit the new region is answered BUSY (R349; log entry 25). -/
def CmdDef.answer (d : CmdDef) (c : SealedCmd) (s : State) : Res :=
  let r := d.act c s
  if r.2.1 = .ok ∧ s.store.upd = .trial ∧ s.store.oldSettings.isSome ∧ d.settingsAfter c r ≠ s.store.settings then
    if Config.regionFull s.store.draws then refuse s.drawn .busy else (r.1.drawn, r.2)
  else r

/-- A sealed command at its sealed place (Table 15.1): its effect and its reply by kind. -/
def CmdDef.atPlace (d : CmdDef) (c : SealedCmd) (s : State) : State :=
  let r := d.answer c s
  match d.kind with
  | .immediate => r.1
  | .sealedNow => r.1.scheduleBehind (d.touches c.cmd.args s.store) (s.ackOf c r.2.1 r.2.2)
  | .sealedBoundary =>
    let s1 := if r.2.1 = .ok then r.1.modStore fun t => { t with boundary := t.boundary ++ [c] } else r.1
    s1.schedule (s.ackOf c r.2.1 r.2.2)
  | .sliced =>
    let n := if r.2.1 = .ok then d.slices c s else 1
    let final := max (c.adm + 1 + s.seq.late) s.seq.behind + n - 1
    let s1 := if 1 < n then r.1.hold (d.holds c.cmd.args) final else r.1
    s1.drawn.schedule (cmdReply c r.2.1 r.2.2 (final + 2) (final - 1))
  | .chorusEffective =>
    if r.2.1 = .ok then
      r.1.modStore fun t => { t with effective := t.effective ++ [(d.effective c.cmd.args, c)] }
    else r.1.schedule (s.ackOf c r.2.1 r.2.2)

/-- Bring a granted command into the open measure (R39, R86): one slot, the next admission count. -/
def State.admitCmd (s : State) (c : SealedCmd) : State × SealedCmd :=
  let n := s.store.admCount[c.cmd.mailbox] + 1
  let s1 := s.modStore fun t => { t with admCount := t.admCount.set c.cmd.mailbox n }
  (s1.modSeq fun q => { q with slots := q.slots + 1 }, { c with count := n % 2 ^ 32, adm := s.tb.measure })

/-- A command answered at once with a status and no effect (R87). -/
def State.answerCmd (s : State) (c : Cmd) (opcode : Nat) (st : Status) (result : Bytes) : State :=
  s.completeMailbox c.mailbox opcode c.sequence st 0 result

/-- A command once its mailbox runs it: the checks of R87, then an immediate command's effect and answer. A sealed command is
admitted into the open measure, whose sealed list gives it its place, or waits for a free slot (R39). -/
def CmdDef.granted (d : CmdDef) (c : Cmd) (s : State) : State :=
  match d.check c s with
  | some st => s.answerCmd c d.opcode st []
  | none =>
    let sc : SealedCmd := { opcode := d.opcode, cmd := c, count := 0, adm := 0 }
    if d.kind = .immediate then
      let r := d.act { sc with adm := s.tb.measure } s
      r.1.answerCmd c d.opcode r.2.1 r.2.2
    else if s.slotFree then
      let (s1, sc1) := s.admitCmd sc
      s1.modSeq fun q => { q with admitted := q.admitted ++ [.cmd sc1] }
    else s.modSeq fun q => { q with waiting := q.waiting ++ [.cmd sc] }

/-- The command's request stands in the mailbox's buffer. -/
def Mailbox.load (b : Mailbox) (opcode : Nat) (c : Cmd) : Mailbox :=
  { b with request := padTo 512 (requestEnvelope opcode c.mailbox 0 c.sequence c.args) }

/-- The SPI status byte of a refusal, with MIRQ_n as it stands (Table 4.4). -/
def State.portRefuses (s : State) (bits : Nat) : State :=
  s.modSpi fun p => { p with portStat := bits + if s.mirq then spiIrq else 0 }

/-- The request window is not served: a frame to it is refused with MODE, and both fault registers name its start (R77, R81). -/
def State.windowRefuses (s : State) : State :=
  (s.portRefuses spiMode).modSpi fun p => { p with faultStart := 0x1800, faultFirst := 0x1800 }

/-- A command sent over SPI, from its posting to its grant (log entry 1), where an immediate one acts and a sealed one enters the
open measure: the mailbox must be free to take it (Table 4.6);
in Start-up and Quiesce the window takes the request and the doorbell is refused (R369), in Recovery only mailbox 0 is served
(R77), in Custody and in reset the port does not respond. A repeated command has its stored response delivered again (R88). -/
def CmdDef.run (d : CmdDef) (c : Cmd) (s : State) : State :=
  let b := s.mb c.mailbox
  if s.power.inReset ∨ s.power.mode = .custody then s
  else if s.power.mode = .recovery ∧ c.mailbox ≠ 0 then s.windowRefuses
  else if !(b.state == .idle || b.state == .loading) then s.portRefuses spiBusy
  else if !s.fetches then (s.modMbx c.mailbox fun x => { x.load d.opcode c with state := .loading }).portRefuses spiBusy
  else if b.repeats c.sequence then s.redeliver c.mailbox
  else d.granted c (s.modMbx c.mailbox fun x => (x.load d.opcode c).grant c.sequence)

end Sys2Proof.Machine
end

