-- ==== Sys2Proof/Machine/Device.lean ====
section
/-! DEFINITION. The DEVICE, TIME and UNIT commands (Tables 15.2, 15.4, 15.5, 12.10; R99, R312, R323, R329, R375 to R379). -/

namespace Sys2Proof.Machine

open Sys2Proof

/-! ## DEVICE -/

/-- FUSES byte: bit 0 PROVISIONED, bit 1 DEBUG_LOCKED, bit 2 OEM_KEY (Table 4.2). -/
def Fuses.bits (f : Fuses) : Nat := b2n f.provisioned + 2 * b2n f.debugLocked + 4 * b2n f.oemKey

/-- GRADE (Table 4.2). -/
def State.grade (s : State) : Nat := if s.board.gradeA2 then 0x02 else 0x03

/-- IMAGE: 1 while the boot ROM runs (Recovery). -/
def State.imageCode (s : State) : Nat := if s.power.mode = .recovery then 1 else 0

/-- Release reported: 0 in Recovery when the running region holds no valid image (R375). -/
def State.release (s : State) : Nat × Nat × Nat :=
  if s.power.mode = .recovery ∧ !s.nor.running.valid then (0, 0, 0)
  else (s.nor.running.major, s.nor.running.minor, s.nor.running.patch)

/-- DEVICE.IDENTIFY's result (Table 15.3). -/
def State.identity (s : State) : Bytes :=
  let run := s.power.mode != .recovery
  let z := fun v => if run then v else 0
  be 2 0x4810 ++ be 1 0x01 ++ be 1 0xB1 ++ be 1 s.grade ++ be 1 s.fuses.bits ++ be 1 s.power.mode.num ++
  be 1 s.imageCode ++ be 1 s.release.1 ++ be 1 s.release.2.1 ++ be 1 s.release.2.2 ++ be 1 0 ++ be 8 s.board.serial ++
  be 4 s.power.starts ++ be 6 (z s.tb.measure) ++ be 1 (z s.store.length) ++ be 1 (z s.tb.state.num) ++
  be 1 (if run then s.memberNum else 0) ++ be 1 0 ++ be 2 (z s.flash.luns.length) ++ be 2 s.board.lpddrGib ++ be 2 0 ++
  be 4 (z ((s.store.format.map (·.cl)).getD 0)) ++ be 4 0

/-- DEVICE.IDENTIFY. -/
def cmdDeviceIdentify : CmdDef :=
  { CmdDef.base 0x0101 .immediate .rt (· == 0) (fun _ s => okay s s.identity) with inRecovery := true }

/-- DEVICE.ECHO. -/
def cmdDeviceEcho : CmdDef :=
  { CmdDef.base 0x0102 .immediate .rt (· ≤ 496) (fun c s => okay s c.cmd.args) with inRecovery := true }

/-- DEVICE.STARTUP_STATUS's result (R329). -/
def State.startupStatus (s : State) : Bytes :=
  let p := s.power
  be 1 p.cause.num ++ be 1 p.previous.num ++ be 1 p.bootFails ++ be 1 0 ++ be 4 p.flags.toNat ++ be 6 p.mr ++ be 2 0 ++
  be 4 p.starts ++ be 2 p.startupMs ++ be 2 (if p.flags.getLsbD 0 then 0 else p.quiesce) ++
  be 6 (if p.flags.getLsbD 0 then 0 else p.stopMeasure) ++ be 2 0

/-- DEVICE.STARTUP_STATUS. -/
def cmdDeviceStartupStatus : CmdDef :=
  { CmdDef.base 0x0103 .immediate .rt (· == 0) (fun _ s => okay s s.startupStatus) with inRecovery := true }

/-- The drive is in a Chorus that is parked (R272). -/
def State.parked (s : State) : Bool :=
  match s.store.chorus with
  | none => false
  | some c => match c.parked with
    | none => false
    | some m => decide (m ≤ s.tb.measure)

/-- DEVICE.ENTER_CUSTODY at its sealed place (R312); an earlier planned stop stands. -/
def enterCustody (c : SealedCmd) (s : State) : Res :=
  if !s.power.xtal32 then refuse s .busy
  else if bit (u8 c.cmd.args 0) 0 && s.store.chorus.isSome && !s.parked then refuse s .busy
  else okay (s.modPower fun p => { p with plan := p.plan.or (some ⟨c.adm, true⟩) }) []

/-- DEVICE.ENTER_CUSTODY. -/
def cmdDeviceEnterCustody : CmdDef := .base 0x0104 .sealedNow .mgmt (· == 4) enterCustody

/-- The four thresholds of SET_THERMAL's arguments. -/
def thermalArgs (b : Bytes) : Vector Int 4 :=
  #v[signed 8 (u8 b 0), signed 8 (u8 b 1), signed 8 (u8 b 2), signed 8 (u8 b 3)]

/-- Default thresholds (Table 12.6). -/
def State.thermalDefaults (s : State) : Vector Int 4 :=
  #v[s.limitTf - 15, s.limitTf - 10, s.limitTf - 5, s.limitTf]

/-- The thresholds rise by at least 5 °C (R323). -/
def rising (t : Vector Int 4) : Bool := decide (t[0] + 5 ≤ t[1] ∧ t[1] + 5 ≤ t[2] ∧ t[2] + 5 ≤ t[3])

/-- The thresholds are at most their defaults and rise by at least 5 °C (R323). -/
def thermalOk (d t : Vector Int 4) : Bool :=
  decide (t[0] ≤ d[0] ∧ t[1] ≤ d[1] ∧ t[2] ≤ d[2] ∧ t[3] ≤ d[3]) && rising t

/-- DEVICE.SET_THERMAL: checked at its sealed place, in force from the next boundary (R323). -/
def cmdDeviceSetThermal : CmdDef :=
  { CmdDef.base 0x0105 .sealedBoundary .mgmt (· == 4) (fun c s =>
      if thermalOk s.thermalDefaults (thermalArgs c.cmd.args) then okay s [] else refuse s .range) with
    pre := fun _ b => if rising (thermalArgs b) then none else some .range
    later := fun c s => okay (s.modSettings fun t => { t with thermal := thermalArgs c.cmd.args }) [] }

/-- DEVICE.RESET at its sealed place: a planned stop, with the Recovery request of TARGET 1 (Table 12.10). -/
def deviceReset (c : SealedCmd) (s : State) : Res :=
  if s.power.plan.isSome then okay s []
  else okay (s.modPower fun p =>
    { p with plan := some ⟨c.adm, false⟩, planRecovery := u8 c.cmd.args 0 == 1 }) []

/-- DEVICE.RESET. -/
def cmdDeviceReset : CmdDef :=
  { CmdDef.base 0x0106 .sealedNow .mgmt (· == 4) deviceReset with
    pre := fun _ b => if 1 < u8 b 0 then some .range else none }

/-- DEVICE.POWER_STATUS's result (R329). -/
def State.powerStatus (s : State) : Bytes :=
  let p := s.power
  let th := s.store.settings.thermal
  be 1 p.step ++ be 1 (unsigned 8 p.tj) ++ be 1 (unsigned 8 p.tjMax) ++ be 1 (unsigned 8 s.limitTf) ++
  be 1 (unsigned 8 th[0]) ++ be 1 (unsigned 8 th[1]) ++ be 1 (unsigned 8 th[2]) ++ be 1 (unsigned 8 th[3]) ++
  be 1 (b2n p.pwrFail + 2 * b2n p.holdupOk + 4 * b2n p.thermAlert + 8 * b2n p.xtal32) ++ be 3 0 ++ be 4 p.throttled

/-- DEVICE.POWER_STATUS. -/
def cmdDevicePowerStatus : CmdDef := .base 0x0107 .immediate .rt (· == 0) fun _ s => okay s s.powerStatus

/-! ## TIME -/

/-- TIME.STATUS's result (R376). -/
def State.timeStatus (s : State) : Bytes :=
  be 1 s.tb.state.num ++ be 1 s.store.length ++
  be 1 (b2n s.tb.everStep + 2 * b2n s.tb.everOverrun + 4 * b2n (s.tb.source == some 1)) ++ be 1 0 ++ be 6 s.tb.measure ++
  be 2 0 ++ be 6 s.tb.persisted ++ be 2 0 ++ be 4 (unsigned 32 s.tb.offset) ++ be 4 s.tb.skipped ++ be 4 0

/-- TIME.STATUS. -/
def cmdTimeStatus : CmdDef := .base 0x0201 .immediate .rt (· == 0) fun _ s => okay s s.timeStatus

/-- Ideal start of measure `n` under the anchor in force (R22) [ns]. -/
def Store.startOf (t : Store) (n : Nat) : Nat := t.t0 + (n - t.n0) * (lengthUs t.length * 1000)

/-- TIME.SET_LENGTH at its sealed place (R31, R377): the pending anchor (T_E, E, new length). -/
def setLength (c : SealedCmd) (s : State) : Res :=
  let l := u8 c.cmd.args 0
  let e := fld c.cmd.args 2 6
  let te := s.store.startOf e
  if 3 < l ∨ e < c.adm + 2 ∨ c.adm + 65536 < e then refuse s .range
  else if s.store.pendingAnchor.isSome then refuse s .busy
  else if te % (lengthUs l * 1000) ≠ 0 then refuse s .range
  else
    let s1 := if l = s.store.length then s else s.modStore fun t => { t with pendingAnchor := some (te, e, l) }
    okay s1 (be 6 e ++ be 2 0 ++ be 8 te)

/-- TIME.SET_LENGTH. -/
def cmdTimeSetLength : CmdDef :=
  { CmdDef.base 0x0202 .sealedNow .mgmt (· == 8) setLength with
    pre := fun _ b => if 3 < u8 b 0 then some .range else none }

/-- The digest TIME.SEAL_LOG shows for measure `m`: zeros for a number never opened. -/
def Timebase.sealDigest (t : Timebase) (m : Nat) : Bytes := (getKey m t.sealLog).getD (zeros 32)

/-- TIME.SEAL_LOG (R51, R378). -/
def sealLog (c : SealedCmd) (s : State) : Res :=
  let first := fld c.cmd.args 0 6
  let count := u8 c.cmd.args 6
  match s.tb.sealLog, s.tb.sealLog.getLast? with
  | (last, _) :: _, some (oldest, _) =>
    if last < first ∨ first < oldest then refuse s .notFound
    else
      let n := min count (last - first + 1)
      okay s (be 6 first ++ be 1 n ++ be 1 0 ++ (List.range n).flatMap fun i => s.tb.sealDigest (first + i))
  | _, _ => refuse s .notFound

/-- TIME.SEAL_LOG. -/
def cmdTimeSealLog : CmdDef :=
  { CmdDef.base 0x0203 .immediate .rt (· == 8) sealLog with
    pre := fun _ b => if u8 b 6 = 0 ∨ 15 < u8 b 6 then some .range else none }

/-! ## UNIT -/

/-- A unit in the UNIT.QUERY layout (R99). -/
def State.unitRecord (s : State) (u : HwUnit) : Bytes :=
  be 2 u.id ++ be 1 (s.mgmtView u.id).num ++ be 1 u.data.num ++ be 1 (s.effective u.id).num ++ be 1 0 ++ be 2 u.apart

/-- UNIT.QUERY. -/
def cmdUnitQuery : CmdDef := .base 0x0301 .immediate .rt (· == 2) fun c s =>
  match s.unit (fld c.cmd.args 0 2) with
  | none => refuse s .range
  | some u => okay s (s.unitRecord u)

/-- UNIT.SET_STATE at its sealed place (R97, R99): a pending raise is withdrawn; a lower view applies at once, a higher one
at the next boundary. -/
def setState (c : SealedCmd) (s : State) : Res :=
  let id := fld c.cmd.args 0 2
  let v := UnitState.ofNum (u8 c.cmd.args 2)
  match s.unit id with
  | none => refuse s .range
  | some _ =>
    let old := s.mgmtView id
    let s1 := s.modStore fun t => { t with raises := dropKey id t.raises }
    let s2 :=
      if v.num < old.num then (s1.modStore fun t => t.setMgmt id v).viewsMoved id 0
      else if old.num < v.num then s1.modStore fun t => { t with raises := insertKey id v t.raises }
      else s1
    okay s2 (be 2 id ++ be 1 old.num ++ be 1 v.num)

/-- UNIT.SET_STATE. -/
def cmdUnitSetState : CmdDef :=
  { CmdDef.base 0x0302 .sealedNow .mgmt (· == 4) setState with
    pre := fun _ b => if 3 < u8 b 2 then some .range else none }

/-- UNIT.LIST (R379). -/
def cmdUnitList : CmdDef := .base 0x0303 .immediate .rt (· == 4) fun c s =>
  let from_ := s.units.filter fun u => decide (fld c.cmd.args 0 2 ≤ u.id)
  let shown := from_.take 61
  okay s (be 1 shown.length ++ be 1 0 ++ be 2 (((from_.drop 61).head?.map (·.id)).getD 0) ++
    shown.flatMap s.unitRecord)

/-! ## Meanings -/

/-- DEVICE.IDENTIFY (R375). -/
def execDeviceIdentify (c : Cmd) (s : State) : Out := .next (cmdDeviceIdentify.run c s)
/-- DEVICE.ECHO (Table 15.2). -/
def execDeviceEcho (c : Cmd) (s : State) : Out := .next (cmdDeviceEcho.run c s)
/-- DEVICE.STARTUP_STATUS (R329). -/
def execDeviceStartupStatus (c : Cmd) (s : State) : Out := .next (cmdDeviceStartupStatus.run c s)
/-- DEVICE.ENTER_CUSTODY (R312). -/
def execDeviceEnterCustody (c : Cmd) (s : State) : Out := .next (cmdDeviceEnterCustody.run c s)
/-- DEVICE.SET_THERMAL (R323). -/
def execDeviceSetThermal (c : Cmd) (s : State) : Out := .next (cmdDeviceSetThermal.run c s)
/-- DEVICE.RESET (Table 12.10). -/
def execDeviceReset (c : Cmd) (s : State) : Out := .next (cmdDeviceReset.run c s)
/-- DEVICE.POWER_STATUS (R329). -/
def execDevicePowerStatus (c : Cmd) (s : State) : Out := .next (cmdDevicePowerStatus.run c s)
/-- TIME.STATUS (R376). -/
def execTimeStatus (c : Cmd) (s : State) : Out := .next (cmdTimeStatus.run c s)
/-- TIME.SET_LENGTH (R377). -/
def execTimeSetLength (c : Cmd) (s : State) : Out := .next (cmdTimeSetLength.run c s)
/-- TIME.SEAL_LOG (R378). -/
def execTimeSealLog (c : Cmd) (s : State) : Out := .next (cmdTimeSealLog.run c s)
/-- UNIT.QUERY (R99). -/
def execUnitQuery (c : Cmd) (s : State) : Out := .next (cmdUnitQuery.run c s)
/-- UNIT.SET_STATE (R97, R99). -/
def execUnitSetState (c : Cmd) (s : State) : Out := .next (cmdUnitSetState.run c s)
/-- UNIT.LIST (R379). -/
def execUnitList (c : Cmd) (s : State) : Out := .next (cmdUnitList.run c s)

end Sys2Proof.Machine
end

