-- ==== Sys2Proof/Machine/Ports.lean ====
section
/-! DEFINITION. The Ethernet ports: links, buffers and PAUSE, transmission, address resolution, gPTP and PPS (R134 to R158),
and the timebase states that gPTP decides (R25). -/

namespace Sys2Proof.Machine

open Sys2Proof

/-! ## Timebase states (Table 2.1) -/

/-- The drive's own member unit falls to FENCED (Table 14.2 CHORUS_FENCED; rule 1 R264, 2 R266, 3 timebase, 4 throttle). -/
def State.fenceOwn (s : State) (rule : Nat) : State :=
  match s.store.chorus with
  | none => s
  | some c =>
    let id := 0x6000 + c.self
    if UnitState.fenced.num < (s.dataView id).num then
      let s1 := (s.lowerData id .fenced).modChorus fun r => { r with fencedBy := some rule }
      (s1.report 0x0801 3 (be 1 rule ++ be 6 s.tb.measure) (some 6)).pulse 45
    else s

/-- The member unit is lowered in this state (Table 2.1). -/
def TbState.fences : TbState → Bool
  | .freerun => true
  | .ahead => true
  | .aligning => true
  | .start => false
  | .locked => false
  | .holdover => false

/-- PPS_OUT runs in this state (R152). -/
def TbState.disciplined : TbState → Bool
  | .locked => true
  | .aligning => true
  | .holdover => true
  | .start => false
  | .freerun => false
  | .ahead => false

/-- The timebase enters a state: TB_STATE, GPTP_LOST on leaving LOCKED, PPS_OUT low outside the disciplined states, the
member unit FENCED where Table 2.1 says. -/
def State.setTb (s : State) (v : TbState) : State :=
  if s.tb.state = v then s else
  let s1 := s.modTb fun t => { t with state := v, ppsOut := t.ppsOut && v.disciplined }
  let s2 := s1.report 0x0201 2 (be 1 s.tb.state.num ++ be 1 v.num)
  let s3 := if s.tb.state = .locked then s2.pulse 34 else s2
  if v.fences then s3.fenceOwn 3 else s3

/-! ## Where frames are served (Tables 6.3, 6.8) -/

/-- The state in which a port serves now (Tables 6.3, 6.8). In Recovery port 0 serves whatever its views. In Start-up no
boundary can raise a view, and links, gPTP and address resolution run all the same: a port with its link up serves what a
FENCED port serves, unless management holds it OFFLINE (log entry 26). -/
def State.portNow (s : State) (p : Fin 2) : UnitState :=
  match s.power.mode with
  | .recovery => if p = 0 then .online else .offline
  | .startup => if (s.port p).link then (s.mgmtView (portId p)).lower .fenced else .offline
  | .custody => .offline
  | .service | .quiesceStop | .quiesceCustody => s.effective (portId p)

/-- The port receives frames at all. -/
def State.receives (s : State) (p : Fin 2) : Bool := !s.power.inReset && s.portNow p != .offline

/-- gPTP runs on the port: in Start-up and Service, not OFFLINE (Tables 6.3, 6.8). -/
def State.ptpRuns (s : State) (p : Fin 2) : Bool :=
  s.receives p && (s.power.mode == .service || s.power.mode == .startup)

/-- Address resolution runs on the port: Start-up, Service and Recovery (Table 6.8). -/
def State.resolves (s : State) (p : Fin 2) : Bool :=
  s.receives p && (s.power.mode == .service || s.power.mode == .startup || s.power.mode == .recovery)

/-- PCP of a VLAN of the port (R147). When both VLANs have one VID (R141), DATA_PCP: the spec does not say which (log entry
124). -/
def PortSettings.pcpOf (t : PortSettings) (vid : Nat) : Nat := if vid = t.dataVid then t.dataPcp else t.mgmtPcp

/-! ## Receive buffer (R143 to R145) -/

/-- The condition of R144 for XOFF. -/
def Port.high (q : Port) (t : PortSettings) : Bool := decide (t.highWm * 1024 < q.rxBytes) || decide (48 < q.rxDesc)

/-- The condition of R144 for release. -/
def Port.low (q : Port) (t : PortSettings) : Bool := decide (q.rxBytes ≤ t.lowWm * 1024) && decide (q.rxDesc ≤ 32)

/-- The buffer of port `p` was above the high mark in this state, in RX_MODE FLOW. -/
def State.above (s : State) (p : Fin 2) : Bool := (s.net p).set.flow && (s.port p).high (s.net p).set

/-- After the buffer or the settings have changed since `old`: XOFF at every rise above the high mark, release at the low mark, in
RX_MODE FLOW (R144). -/
def State.flowCheck (s old : State) (p : Fin 2) : State :=
  let t := (s.net p).set
  if !t.flow then s
  else if s.above p && !old.above p then s.sendPause p 0xFFFF
  else if (s.port p).low t && (s.port p).xoff then s.sendPause p 0
  else s

/-- A frame may be stored (R143). -/
def State.rxRoom (s : State) (p : Fin 2) : Bool :=
  decide ((s.port p).rxBytes + (s.net p).maxFrame ≤ 512 * 1024) && decide ((s.port p).rxDesc < 64)

/-- Admission at a frame's first byte (R143): room for the longest frame and a descriptor, or the whole frame is dropped
and counted, with the RXn_OVERFLOW pulse. -/
def State.rxAdmit (s : State) (p : Fin 2) : State :=
  if s.rxRoom p then
    (s.modPort p fun q =>
      { q with
        rxBytes := q.rxBytes + (s.net p).maxFrame, rxDesc := q.rxDesc + 1
        rxPending := q.rxPending ++ [⟨(s.net p).set, s.portNow p, (s.net p).maxFrame⟩] }).flowCheck s p
  else (s.count p .rxOverflow).pulse (42 + p)

/-- A frame leaves the buffer: its bytes and its descriptor are free. -/
def State.rxFree (s : State) (p : Fin 2) (bytes : Nat) : State :=
  s.modPort p fun q => { q with rxBytes := q.rxBytes - bytes, rxDesc := q.rxDesc - 1 }

/-! ## Meanings: receive buffer and PAUSE -/

/-- First byte of a frame (R143). -/
def execRxFrameAdmit (port : Fin 2) (s : State) : Out :=
  .next (if s.receives port then s.rxAdmit port else s)

/-- A received PAUSE (R146): counted; with HONOUR_PAUSE it sets or ends the pause. The time spent is counted when a pause
ends early by quanta 0, as a free value (log entry 14). -/
def State.pauseRx (s : State) (p : Fin 2) (quanta : Nat) : State :=
  let s1 := s.count p .rxPauseFrames
  if !(s.net p).set.honourPause then s1
  else if quanta = 0 then
    if (s.port p).paused then
      let (t, s2) := s1.draw 32
      (s2.count p .txPausedUs t).modPort p fun q => { q with paused := false, pauseQuanta := 0 }
    else s1
  else s1.modPort p fun q => { q with paused := true, pauseQuanta := quanta }

/-- PAUSE_RECEIVE (R146). -/
def execPauseReceive (port : Fin 2) (quanta : Nat) (s : State) : Out :=
  .next (if s.receives port then s.pauseRx port quanta else s)

/-- The pause time is over (R146). -/
def execReceivedPauseExpiry (port : Fin 2) (pausedUs : Nat) (s : State) : Out :=
  .next (if (s.port port).paused then
    (s.modPort port fun q => { q with paused := false, pauseQuanta := 0 }).count port .txPausedUs pausedUs
  else s)

/-- 32,768 quanta after an XOFF (R144): it is repeated while either condition still holds. -/
def execPauseRepeat (port : Fin 2) (s : State) : Out :=
  .next (if (s.net port).set.flow && (s.port port).xoff && (s.port port).high (s.net port).set then
    s.sendPause port 0xFFFF else s)

/-! ## Meanings: transmission -/

/-- Account for a frame that has started: counters, MACsec number, PN_HIGH, exhaustion (R147, R149, R150). -/
def State.started (s : State) (p : Fin 2) (f : TxFrame) : State :=
  let n := s.net p
  let prot := protects n f.cls
  let (n', sa) := if prot then n.usePn else (n, none)
  let s1 := if prot then s.modNet p fun _ => n' else s
  let s2 := (s1.count p .txFrames).count p .txBytes (frameLen (f.vid != 0) prot f.inner)
  let s3 := match f.cls with
    | .pause => s2.count p .txPauseFrames
    | .heartbeat => s2.count p .txHeartbeats
    | .ptp => s2
    | .control => s2
    | .queue => s2
  let s4 := s3.modPort p fun q => { q with inFlight := some { f with sa := sa } }
  match sa, n.txSa with
  | some (an, pn), a :: _ =>
    let s5 := if a.highPn < pn ∧ !a.warned then
      (s4.modPort p fun q => { q with pnHigh := true }).report 0x0503 (7 + p) (be 1 p ++ be 1 an) else s4
    if a.lastPn ≤ pn then s5.lowerData (portId p) .fenced else s5
  | _, _ => s4

/-- The port may start a frame in this mode (Table 6.8). -/
def State.transmits (s : State) (p : Fin 2) : Bool :=
  !s.power.inReset && s.power.mode != .custody && (s.power.mode != .recovery || p == 0) && !s.power.portsStopped

/-- A preamble starts (R147): the oldest frame of the highest class that may leave. -/
def execFrameTransmitStart (port : Fin 2) (s : State) : Out :=
  .next (if s.transmits port then
    match (s.port port).choose (s.portNow port) (s.net port).keyless (s.net port).fits with
    | none => s.modPort port fun q => { q with inFlight := none, queue := q.queue.filter (s.net port).fits }
    | some (f, q) => (s.modPort port fun _ => q).started port f
  else s)

/-- A firmware cancel of a transmit descriptor (R71): before its preamble the frame is removed and counted; at or after it
the frame is sent whole and the cancel reports CANCEL_LATE with the descriptor's sequence number (R67). -/
def execTxDescriptorCancel (port : Fin 2) (descriptor : Nat) (s : State) : Out :=
  .next (if (s.port port).queue.any fun f => f.desc == descriptor then
    (s.modPort port fun q =>
      { q with queue := q.queue.filter (fun f => f.desc != descriptor), txCancel := some (descriptor, .ok) }).count port .txCancelled
  else if descriptor < (s.port port).nextDesc then
    s.modPort port fun q => { q with txCancel := some (descriptor, .cancelLate) }
  else s)

/-- 20 µs after the tick of every 64th measure, and of the first measure after a forward step (R153). -/
def execHeartbeatQueue (s : State) : Out :=
  .next (if s.inService && (s.tb.measure % 64 == 0 || s.tb.afterStep) then s.queueHeartbeats 1 false else s)

/-- A departure heartbeat that has not started within 100 µs is discarded (R153). -/
def execDepartureHeartbeatExpiry (port : Fin 2) (s : State) : Out :=
  .next (s.modPort port fun q => { q with hb := q.hb.bind fun h => if h.2 then none else some h })

/-! ## Meanings: links and PHYs -/

/-- The link changes: LINK_CHANGE with its pulse and the LINK entry. -/
def State.linkChanged (s : State) (p : Fin 2) (up : Bool) (rate : Nat) : State :=
  let s1 := s.modPort p fun q => { q with link := up, rate := rate, linkChange := true, cleanMeasure := false }
  (s1.report 0x0501 (7 + p) (be 1 p ++ be 1 (b2n up) ++ be 1 rate)).pulse (40 + p)

/-- The link goes down, if it was up, and the data-path view falls to OFFLINE (R135, R138). -/
def State.dropLink (s : State) (p : Fin 2) : State :=
  (if (s.port p).link then (s.linkChanged p false 0).count p .linkDownEvents else s).lowerData (portId p) .offline

/-- The link is lost (R138): OFFLINE at once. -/
def execLinkDown (port : Fin 2) (s : State) : Out :=
  .next (if (s.port port).link then s.dropLink port else s)

/-- A PHY's link report (R134): half duplex, or a rate above MAX_RATE, is refused and counted. -/
def execLinkUp (port : Fin 2) (rate : Nat) (fullDuplex : Bool) (s : State) : Out :=
  .next (
    if s.power.inReset ∨ s.power.mode = .custody ∨ (port = 1 ∧ !s.board.port1) then s
    else if !fullDuplex ∨ (s.net port).set.maxRate < rate then s.count port .linkRefused
    else if (s.port port).link then s
    else s.linkChanged port true rate)

/-- Cantor reads a PHY's interrupt status while its line is asserted (R156): one entry for each cause; the level is shown
asserted while a cause is read (log entry 15). -/
def execPhyIntPoll (port : Fin 2) (register value : Nat) (s : State) : Out :=
  .next (if s.inService then
    let s1 := s.modPort port fun q => { q with phyInt := value != 0 }
    if value = 0 then s1 else s1.report 0x0502 (7 + port) (be 1 port ++ be 1 0 ++ be 2 register ++ be 2 value)
  else s)

/-- A PHY does not answer MDIO after its reset (R156): the port stays OFFLINE and a Coda entry is made. The register and value of that
entry are free values (log entry 134). -/
def State.phySilent (s : State) (p : Fin 2) : State :=
  let (v, s1) := s.draw 32
  ((s1.modPort p fun q => { q with phySilent := true, cleanMeasure := false }).lowerData (portId p) .offline).report 0x0502 (7 + p)
    (be 1 p ++ be 1 0 ++ be 4 v)

/-- The PHY reset line is released 10 ms after NET.PHY_RESET (R155), or after Start-up's first 10 ms; whether the PHY then answers
MDIO (R156). What Start-up finds of its PHYs, FIRST_MEASURE_OPEN says. -/
def execPhyResetRelease (phy : PhyRelease) (s : State) : Out :=
  .next (if s.power.inReset ∨ s.power.mode = .custody then s
    else
      let s1 := s.modPort phy.port fun q => { q with phyRun := true }
      if phy.answers || s.power.mode == .startup then s1 else s1.phySilent phy.port)

/-! ## Meanings: address resolution (R142) -/

/-- Answer an ARP request for an IPv4 address of the port. -/
def State.arpRx (s : State) (p : Fin 2) (vid target senderIp senderMac : Nat) : State :=
  if s.resolves p ∧ (s.net p).ipv4 = some target then
    s.sendUrgent p
      { TxFrame.make .control vid ((s.net p).set.pcpOf vid) (mapV4 senderIp) 0
          (be 2 1 ++ be 2 0x0800 ++ be 1 6 ++ be 1 4 ++ be 2 2 ++ be 6 (s.net p).filter0 ++ be 4 target ++ be 6 senderMac ++
            be 4 senderIp) with
        dstMac := some senderMac }
  else s

/-- ARP_REQUEST_RECEIVE. -/
def execArpRequestReceive (port : Fin 2) (vid target senderIp senderMac : Nat) (s : State) : Out :=
  .next (s.arpRx port vid target senderIp senderMac)

/-- Answer a Neighbor Solicitation for an IPv6 address of the port: the target address and the link-layer address. -/
def State.nsRx (s : State) (p : Fin 2) (vid target source : Nat) : State :=
  if s.resolves p ∧ target ∈ s.addresses p ∧ !isV4 target then
    s.sendUrgent p (.make .control vid ((s.net p).set.pcpOf vid) source 0
      (be 1 136 ++ be 1 0 ++ be 16 target ++ be 1 2 ++ be 1 1 ++ be 6 (s.net p).filter0))
  else s

/-- NEIGHBOR_SOLICITATION_RECEIVE. -/
def execNeighborSolicitationReceive (port : Fin 2) (vid target source : Nat) (s : State) : Out :=
  .next (s.nsRx port vid target source)

/-- Answer an echo request of up to 256 bytes of payload to an address of the port, in Service, on a port that is ONLINE or
DEGRADED (R142, Table 6.3). -/
def State.echoRx (s : State) (p : Fin 2) (vid : Nat) (k : Packet) : State :=
  match k.proto with
  | .echo payload =>
    if s.inService ∧ s.portUsable p ∧ payload.length ≤ 256 ∧ k.dstIp ∈ s.addresses p then
      s.sendUrgent p (.make .control vid ((s.net p).set.pcpOf vid) k.srcIp 0
        (be 1 (if k.v4 then 0 else 129) ++ be 1 0 ++ payload))
    else s
  | .udp _ _ _ _ _ | .neighborSol _ | .otherIcmp | .other => s

/-- ECHO_REQUEST_RECEIVE. -/
def execEchoRequestReceive (port : Fin 2) (vid : Nat) (packet : Packet) (s : State) : Out :=
  .next (s.echoRx port vid packet)

/-! ## Meanings: gPTP and PPS (R25, R151, R152) -/

/-- A Sync interval of 31.25 ms to 1 s (R151). -/
def syncIntervalOk (logInterval : Int) : Bool := decide (-5 ≤ logInterval ∧ logInterval ≤ 0)

/-- The port the timebase takes time from after port `p` received a valid Sync (R151): port 0 while synchronised, else
port 1; back to port 0 after 16 intervals. -/
def nextSource (old : Option (Fin 2)) (p : Fin 2) (count : Nat) : Option (Fin 2) :=
  match old with
  | none => some p
  | some q => if q = 1 ∧ p = 0 ∧ 16 ≤ count then some 0 else some q

/-- A receive timestamp corrected to the PHY's medium interface (R151). -/
def State.rxStamp (s : State) (p : Fin 2) (t : Nat) : Nat := t - (s.net p).set.ptpRx

/-- A transmit timestamp corrected to the PHY's medium interface (R151). -/
def State.txStamp (s : State) (p : Fin 2) (t : Nat) : Nat := t + (s.net p).set.ptpTx

/-- A Sync and its follow-up (R25, R151): `time` is the origin time with its correction. The message reached the medium interface a
peer delay later, and the serdes PTP_LATENCY_RX after that. Numbering is compared at the next tick (R26, R27). -/
def State.syncRx (s : State) (p : Fin 2) (logInterval : Int) (time : Nat) : State :=
  if s.ptpRuns p && syncIntervalOk logInterval then
    let s1 := s.modPort p fun q =>
      { q with synced := true, syncInterval := logInterval, syncCount := q.syncCount + 1 }
    s1.modTb fun t =>
      let src := nextSource t.source p (s.port p).syncCount
      { t with source := src, gptp := if src = some p then time + (s.port p).peerDelay + (s.net p).set.ptpRx else t.gptp }
  else s

/-- GPTP_SYNC_RECEIVE. -/
def execGptpSyncReceive (port : Fin 2) (logInterval : Int) (time : Nat) (s : State) : Out :=
  .next (s.syncRx port logInterval time)

/-- The timebase state after synchronisation is lost (R25). -/
def TbState.afterLoss : TbState → TbState
  | .locked => .holdover
  | .aligning => .freerun
  | .ahead => .freerun
  | .start => .start
  | .holdover => .holdover
  | .freerun => .freerun

/-- Three intervals without a valid Sync on a port (R25, R151): the timebase turns to the other port if that one is
synchronised, and otherwise has lost synchronisation. -/
def execSyncLoss (port : Fin 2) (s : State) : Out :=
  let s1 := s.modPort port fun q => { q with synced := false, syncCount := 0 }
  let other : Fin 2 := if port = 0 then 1 else 0
  .next (
    if s.tb.source = some port then
      if (s.port other).synced then s1.modTb fun t => { t with source := some other }
      else (s1.modTb fun t => { t with source := none }).setTb s.tb.state.afterLoss
    else s1)

/-- HOLDOVER has lasted 1 s (R25). -/
def execHoldoverExpiry (s : State) : Out :=
  .next (if s.tb.state = .holdover then s.setTb .freerun else s)

/-- A Pdelay_Req is answered with its sequence and receive time, taken at the serdes and corrected (R151). -/
def State.pdelayReqRx (s : State) (p : Fin 2) (seq t2 : Nat) : State :=
  if s.ptpRuns p then s.sendPtp p (be 1 3 ++ be 2 seq ++ be 8 (s.rxStamp p t2)) else s

/-- PDELAY_REQ_RECEIVE. -/
def execPdelayReqReceive (port : Fin 2) (seq t2 : Nat) (s : State) : Out := .next (s.pdelayReqRx port seq t2)

/-- The answer to the port's own Pdelay_Req (R151): half of the turnaround less the peer's residence. -/
def State.pdelayRespRx (s : State) (p : Fin 2) (seq t2 t3 t4 : Nat) : State :=
  match (s.port p).pdelaySent with
  | some (q, t1) =>
    if s.ptpRuns p ∧ q = seq then
      s.modPort p fun x => { x with pdelaySent := none, peerDelay := ((s.rxStamp p t4 - t1) - (t3 - t2)) / 2 }
    else s
  | none => s

/-- PDELAY_RESP_RECEIVE. -/
def execPdelayRespReceive (port : Fin 2) (seq t2 t3 t4 : Nat) (s : State) : Out :=
  .next (s.pdelayRespRx port seq t2 t3 t4)

/-- The port's own Pdelay_Req, every 1 s while its link is up (R151). -/
def execPdelayReqSend (port : Fin 2) (t1 : Nat) (s : State) : Out :=
  .next (if s.ptpRuns port && (s.port port).link then
    (s.sendPtp port (be 1 2 ++ be 2 (s.port port).pdelaySeq)).modPort port fun q =>
      { q with pdelaySent := some (q.pdelaySeq, s.txStamp port t1), pdelaySeq := (q.pdelaySeq + 1) % 65536 }
  else s)

/-- PPS_IN rises (R152): timestamped and counted; the producer pulses. -/
def execPpsInEdge (time : Nat) (s : State) : Out :=
  .next (if s.power.inReset ∨ s.power.mode = .custody then s
    else (s.modTb fun t => { t with ppsTime := time, ppsCount := bump t.ppsCount }).pulse 36)

/-- A whole gPTP second (R152): PPS_OUT rises in LOCKED, ALIGNING and HOLDOVER. -/
def execPpsOutSecond (s : State) : Out :=
  .next (if s.tb.state.disciplined then s.modTb fun t => { t with ppsOut := true } else s)

/-- 1 ms later PPS_OUT falls (R152). -/
def execPpsOutPulseEnd (s : State) : Out := .next (s.modTb fun t => { t with ppsOut := false })

end Sys2Proof.Machine
end

