-- ==== Sys2Proof/Machine/Curve.lean ====
section
/-! DEFINITION. The ledger signature of R176: ECDSA over P-256 (FIPS 186-5) with the deterministic nonce of RFC 6979 over
HMAC-SHA-256. The manual names these standards and does not define them: PRESUMED, log entry 148. -/

namespace Sys2Proof.Machine

open Sys2Proof

/-! ## The curve -/

/-- Field prime of P-256. -/
def p256P : Nat := 2 ^ 256 - 2 ^ 224 + 2 ^ 192 + 2 ^ 96 - 1

/-- Order of the base point. -/
def p256N : Nat := 0xFFFFFFFF00000000FFFFFFFFFFFFFFFFBCE6FAADA7179E84F3B9CAC2FC632551

/-- A point in Jacobian coordinates; Z = 0 is the point at infinity. -/
structure Jac where
  x : Nat
  y : Nat
  z : Nat
  deriving DecidableEq, Repr

/-- The base point. -/
def p256G : Jac where
  x := 0x6B17D1F2E12C4247F8BCE6E563A440F277037D812DEB33A0F4A13945D898C296
  y := 0x4FE342E2FE1A7F9B8EE7EB4A7C0F9E162BCE33576B315ECECBB6406837BF51F5
  z := 1

/-- Difference modulo `m`. -/
def subMod (m a b : Nat) : Nat := (a % m + (m - b % m)) % m

/-- Power modulo `m` over the low `bits` bits of the exponent. -/
def powMod (m : Nat) : (bits : Nat) → (base e : Nat) → Nat
  | 0, _, _ => 1
  | k + 1, b, e => powMod m k (b * b % m) (e / 2) * (if e % 2 = 1 then b else 1) % m

/-- Inverse modulo a prime. -/
def invMod (m a : Nat) : Nat := powMod m 256 (a % m) (m - 2)

/-- Twice a point (a = −3). -/
def Jac.double (v : Jac) : Jac :=
  let p := p256P
  let yy := v.y * v.y % p
  let zz := v.z * v.z % p
  let s := 4 * v.x * yy % p
  let m := 3 * subMod p v.x zz * (v.x + zz) % p
  let x := subMod p (m * m) (2 * s)
  ⟨x, subMod p (m * subMod p s x) (8 * yy * yy), 2 * v.y * v.z % p⟩

/-- The sum of two points. -/
def Jac.add (v w : Jac) : Jac :=
  let p := p256P
  if v.z = 0 then w else if w.z = 0 then v else
  let zv := v.z * v.z % p
  let zw := w.z * w.z % p
  let u := v.x * zw % p
  let s := v.y * zw * w.z % p
  let h := subMod p (w.x * zv) u
  let r := subMod p (w.y * zv * v.z) s
  if h = 0 then if r = 0 then v.double else ⟨1, 1, 0⟩ else
  let hh := h * h % p
  let uh := u * hh % p
  let x := subMod p (r * r) (h * hh + 2 * uh)
  ⟨x, subMod p (r * subMod p uh x) (s * h * hh), v.z * w.z * h % p⟩

/-- A multiple of a point, over the low `bits` bits of the factor. -/
def Jac.times (v : Jac) : (bits : Nat) → Nat → Jac
  | 0, _ => ⟨1, 1, 0⟩
  | k + 1, n =>
    let half := (v.times k (n / 2)).double
    if n % 2 = 1 then half.add v else half

/-- The affine coordinates of a point that is not at infinity. -/
def Jac.affine (v : Jac) : Nat × Nat :=
  let i := invMod p256P v.z
  (v.x * i * i % p256P, v.y * i * i * i % p256P)

/-! ## The deterministic nonce (RFC 6979) -/

/-- HMAC-SHA-256. -/
def hmac256 (key msg : Bytes) : Bytes :=
  let k := (if 64 < key.length then sha256 key else key)
  let block := k ++ zeros (64 - k.length)
  sha256 ((block.map (· ^^^ 0x5C#8)) ++ sha256 ((block.map (· ^^^ 0x36#8)) ++ msg))

/-- The candidates for the nonce, in the order in which they are tried. -/
def nonces (k v : Bytes) : Nat → List Nat
  | 0 => []
  | n + 1 =>
    let v1 := hmac256 k v
    let k1 := hmac256 k (v1 ++ [0])
    beNat v1 :: nonces k1 (hmac256 k1 v1) n

/-- The candidates for a private key and a digest. -/
def nonceStream (d : Nat) (digest : Bytes) : List Nat :=
  let seed := be 32 d ++ be 32 (beNat digest % p256N)
  let v0 := List.replicate 32 (1#8)
  let k1 := hmac256 (zeros 32) (v0 ++ [0] ++ seed)
  let v1 := hmac256 k1 v0
  let k2 := hmac256 k1 (v1 ++ [1] ++ seed)
  nonces k2 (hmac256 k2 v1) 64

/-! ## Signatures -/

/-- r and s for one candidate; none when it is out of range or gives a zero. -/
def signWith (d : Nat) (digest : Bytes) (k : Nat) : Option Bytes :=
  if k = 0 ∨ p256N ≤ k then none else
  let r := (p256G.times 256 k).affine.1 % p256N
  let s := invMod p256N k * (beNat digest % p256N + r * d) % p256N
  if r = 0 ∨ s = 0 then none else some (be 32 r ++ be 32 s)

/-- The signature over a digest under a private key: r then s, 32 bytes each (R176). -/
def ecdsaSign (d : Nat) (digest : Bytes) : Bytes := ((nonceStream d digest).findSome? (signWith d digest)).getD (zeros 64)

/-- The public key of a private key: x then y. -/
def ecdsaPublic (d : Nat) : Bytes :=
  let q := (p256G.times 256 d).affine
  be 32 q.1 ++ be 32 q.2

end Sys2Proof.Machine
end

