-- ==== Sys2Proof/Machine/Search.lean ====
section
/-! DEFINITION. Searching: tables and first match (R216 to R219), peer class and ACL verdict (R222 to R225), key patterns
(R233 to R235), and which searches a lost pair stops (R242). -/

namespace Sys2Proof.Machine

open Sys2Proof

/-! ## Tables (R218) -/

/-- Pairs of a table, ascending. -/
def Tables.pairsOf (t : Tables) (tb : Table) : List Nat :=
  (List.finRange 8).filterMap fun k => if t.pairs[k].table = tb then some k.val else none

/-- The assignment that all pairs of a table share. -/
def Tables.shape (t : Tables) (tb : Table) : Pair := (t.pairs.toList.find? fun p => p.table == tb).getD (.make tb 1 false 0)

/-- A transition as the entry that holds it: context of slot and state, then its 112 input bits (R233). Slot 64 has the slot
number 0 in its six context bits. -/
def Transition.entry (r : Transition) (slot : Nat) : Entry where
  addr := r.addr
  tag := r.tag
  prio := 0
  value := (slot % 64 * 2 ^ 10 + r.state) * 2 ^ 112 + (r.value &&& r.care)
  care := 0xFFFF * 2 ^ 112 + r.care

/-- Entries of a table. -/
def Tables.entries (t : Tables) (tb : Table) : List Entry :=
  match tb with
  | .peer => t.peer
  | .acl => t.acl
  | .route => t.route
  | .automaton => t.patterns.flatMap fun p => p.recs.map fun r => r.entry p.slot
  | .unassigned => []

/-- Give every entry of a table the address that `f` makes of its own. -/
def Tables.mapAddr (t : Tables) (tb : Table) (f : Nat → Nat) : Tables :=
  let g := fun (e : Entry) => { e with addr := f e.addr }
  match tb with
  | .peer => { t with peer := t.peer.map g }
  | .acl => { t with acl := t.acl.map g }
  | .route => { t with route := t.route.map g }
  | .automaton => { t with patterns := t.patterns.map fun p => { p with recs := p.recs.map fun r => { r with addr := f r.addr } } }
  | .unassigned => t

/-- Replace the entries of PEER, ACL or ROUTE. -/
def Tables.setEntries (t : Tables) (tb : Table) (l : List Entry) : Tables :=
  match tb with
  | .peer => { t with peer := l }
  | .acl => { t with acl := l }
  | .route => { t with route := l }
  | .automaton => t
  | .unassigned => t

/-- Capacity of a table (R218): entries of its pairs less one in every hole interval. -/
def Tables.capacity (t : Tables) (tb : Table) : Nat :=
  let p := t.shape tb
  let n := (t.pairsOf tb).length * (8192 / p.width)
  if p.holes = 0 then n else n - n / p.holes

/-- Entries of the loaded patterns. -/
def Tables.autoUsed (t : Tables) : Nat := (t.patterns.map fun p => p.recs.length).sum

/-- Valid entries of a table. -/
def Tables.valid (t : Tables) (tb : Table) : Nat :=
  if tb = .automaton then t.autoUsed else (t.entries tb).length

/-- The pattern in a slot. -/
def Tables.pattern (t : Tables) (slot : Nat) : Option Pattern := t.patterns.find? fun p => p.slot == slot

/-! ## First match (R217, R219) -/

/-- A search word matches an entry: every cared-for bit is equal. -/
def Entry.hit (e : Entry) (word : Nat) : Bool := (e.value ^^^ word) &&& e.care == 0

/-- An entry overlaps a query with its own care bits (R225). -/
def Entry.overlaps (e : Entry) (value care : Nat) : Bool := (e.value ^^^ value) &&& e.care &&& care == 0

/-- An entry contains a query region: it cares for no bit that the query leaves free (R225). -/
def Entry.contains (e : Entry) (care : Nat) : Bool := e.care &&& care == e.care

/-- Explicit-priority order: lower priority value, then lower table address (R219). -/
def Entry.before (a b : Entry) : Bool := decide (a.prio < b.prio) || (a.prio == b.prio && decide (a.addr ≤ b.addr))

/-- Insert into a list in explicit-priority order. -/
def insertPrio (e : Entry) : List Entry → List Entry
  | [] => [e]
  | x :: xs => if e.before x then e :: x :: xs else x :: insertPrio e xs

/-- A table's entries in first-match order; they are stored by ascending table address. -/
def inOrder (ordered : Bool) (l : List Entry) : List Entry := if ordered then l else l.foldr insertPrio []

/-- Valid entries by ascending table address and in first-match order: AUTOMATON's are grouped by pattern, whose contexts are disjoint. -/
def Tables.inOrder (t : Tables) (tb : Table) (l : List Entry) : List Entry := Machine.inOrder (t.shape tb).ordered l

/-! ## Array units and shadow words (R216, R217) -/

/-- Unit `j` of an entry of width `w`: its 128 value bits, then its 128 care bits. -/
def Entry.unit (e : Entry) (w j : Nat) : Nat :=
  let part := fun (n : Nat) => n / 2 ^ (128 * (w - 1 - j)) % 2 ^ 128
  part e.value * 2 ^ 128 + part e.care

/-- An entry as an array holds it in which unit `j` has the bits `f` inverted. -/
def Entry.flip (e : Entry) (w j f : Nat) : Entry :=
  let k := 2 ^ (128 * (w - 1 - j))
  { e with value := e.value ^^^ (f / 2 ^ 128 * k), care := e.care ^^^ (f % 2 ^ 128 * k) }

/-- Inverted bits of the array unit at a position. -/
def LksArray.cellFlips (a : LksArray) (pos : Nat) : Nat := ((a.cells.find? fun f => f.pos == pos).map (·.flips)).getD 0

/-- What was last written into a unit: the unit of the entry that occupies it; a free one reads 0 here, and no search sees it. -/
def Tables.unitWord (t : Tables) (pos : Nat) : Nat :=
  let tb := (t.pairs.toList.getD (pos / 16384) (.make .unassigned 1 false 0)).table
  let w := (t.shape tb).width
  let at_ := pos / 16384 * 8192 + pos % 8192
  ((((t.entries tb).find? fun e => decide (e.addr ≤ at_ ∧ at_ < e.addr + w)).map fun e => e.unit w (at_ - e.addr))).getD 0

/-- The 256 bits that an array unit holds. -/
def State.arrayWord (s : State) (pos : Nat) : Nat := s.store.tables.unitWord pos ^^^ s.lks.cellFlips pos

/-- The shadow word of a unit is not a correct image, or none. -/
def LksArray.shadowFault (a : LksArray) (pos : Nat) : Option ShadowFault := a.shadow.find? fun f => f.pos == pos

/-- Data bits in which a correct or corrected shadow word differs from what was written into its unit. -/
def LksArray.shadowOff (a : LksArray) (pos : Nat) : Nat := ((a.shadowFault pos).map (·.off)).getD 0

/-- The 256 data bits of a unit's shadow word, after correction (R216, R239). -/
def State.shadowWord (s : State) (pos : Nat) : Nat := s.store.tables.unitWord pos ^^^ s.lks.shadowOff pos

/-- Ones of a number of at most `n` bits. -/
def onesIn : Nat → Nat → Nat
  | 0, _ => 0
  | n + 1, v => v % 2 + onesIn n (v / 2)

/-- SECDED corrects one inverted bit of a word and its check bits; more are uncorrectable (R216, R239; log entry 139). -/
def ShadowFault.lost (f : ShadowFault) : Bool := decide (2 ≤ onesIn 266 f.flips)

/-- An array unit differs from its correct shadow word (R221, R238). -/
def LksArray.differs (a : LksArray) (pos : Nat) : Bool :=
  !((a.shadowFault pos).any ShadowFault.lost) && a.cellFlips pos != a.shadowOff pos

/-- Bank `b` is searched: it reaches ONLINE or DEGRADED (R240). -/
def State.bankUsable (s : State) (b : Nat) : Bool := decide (2 ≤ (s.effective (0x4000 + b)).num)

/-- The bank of a pair that answers its searches: the lower one that is searched (R221, R242). -/
def State.answering (s : State) (k : Nat) : Option Nat := [2 * k, 2 * k + 1].find? s.bankUsable

/-- An entry of width `w` as bank `b` holds it. -/
def State.image (s : State) (b w : Nat) (e : Entry) : Entry :=
  if s.lks.cells.isEmpty then e else (List.range w).foldl (fun x j => x.flip w j (s.lks.cellFlips (b * 8192 + e.addr % 8192 + j))) e

/-- A table's entries as its searches see them, in first-match order: those of pairs with a bank that is searched, as that bank holds
them. -/
def State.seen (s : State) (tb : Table) : List Entry :=
  let t := s.store.tables
  t.inOrder tb
    ((t.entries tb).filterMap fun e => (s.answering (e.addr / 8192)).map fun b => s.image b (t.shape tb).width e)

/-- The first match of a search word in a table (R219). -/
def State.search (s : State) (tb : Table) (word : Nat) : Option Entry := (s.seen tb).find? fun e => e.hit word

/-! ## Generations of a cascaded table (R246) -/

/-- The table is cascaded. -/
def Tables.cascaded (t : Tables) (tb : Table) : Bool := match t.cascade with
  | some c => c.table == tb && decide (2 ≤ c.chips)
  | none => false

/-- The generation that items of measure `m` search: each switch measure reached since turns it over. -/
def Cascade.genAt (c : Cascade) (m : Nat) : Bool := (c.switches.filter fun e => decide (e ≤ m)).foldl (fun g _ => !g) c.gen

/-- GEN of a search word: the generation of a cascaded table, else 0. -/
def Tables.genBit (t : Tables) (tb : Table) (m : Nat) : Bool := match t.cascade with
  | some c => t.cascaded tb && c.genAt m
  | none => false

/-- Position of the GEN bit in an entry of width `w`: context bit 7 in ACL, 15 in PEER. -/
def genPos (tb : Table) (w : Nat) : Nat := 128 * w - 16 + if tb = .peer then 15 else 7

/-- The generation an entry of a cascaded table belongs to. -/
def Entry.gen (e : Entry) (tb : Table) (w : Nat) : Bool := e.value.testBit (genPos tb w)

/-- The entry as of generation `g`: the GEN bit cared for and set to it. -/
def Entry.inGen (e : Entry) (tb : Table) (w : Nat) (g : Bool) : Entry :=
  let b := 2 ^ genPos tb w
  { e with
    value := (if e.value.testBit (genPos tb w) then e.value - b else e.value) + if g then b else 0
    care := if e.care.testBit (genPos tb w) then e.care else e.care + b }

/-- What the chips of a cascade answer, in chip order: those below this one, this one, those above (R245). Chip 0 has none below,
the last one none above. -/
def State.overChips {α : Type} (s : State) (tb : Table) (others : Bool → Option α) (own : Option α) : Option α :=
  match s.store.tables.cascade with
  | some c =>
    if s.store.tables.cascaded tb then
      (if 0 < s.lks.chipId then others true else none).or
        (own.or (if s.lks.chipId + 1 < c.chips then others false else none))
    else own
  | none => own

/-- The tag a search of a table finds in measure `m`: over a cascade, the lowest-numbered chip with a match (R245). -/
def State.find (s : State) (tb : Table) (m word : Nat) : Option Nat :=
  s.overChips tb (fun lower => Config.cascadeHit lower tb.num m word) ((s.search tb word).map (·.tag))

/-! ## Search words -/

/-- A PEER search word of width `w` (R222). -/
def peerWord (w : Nat) (gen : Bool) (port : Fin 2) (ip : Nat) : Nat :=
  beNat (be 2 (b2n gen * 2 ^ 15 + port) ++ padTo (16 * w - 2) (be 16 ip))

/-- Key bytes an ACL entry of width `w` judges (R223). -/
def aclKeyBytes (w : Nat) : Nat := 16 * w - 3

/-- Operation classes of Table 9.2. -/
inductive OpClass where
  | read
  | write
  | delete
  deriving DecidableEq, Repr

/-- Context bit of an operation class. -/
def OpClass.bit : OpClass → Nat
  | .read => 0x10
  | .write => 0x08
  | .delete => 0x04

/-- An ACL search word of width `w` (Table 9.2). -/
def aclWord (w peer : Nat) (gen : Bool) (c : OpClass) (ns : Nat) (key : Bytes) : Nat :=
  beNat (be 2 (peer * 256 + b2n gen * 128 + c.bit) ++ be 1 ns ++ padTo (aclKeyBytes w) key)

/-- Care bits of a cover query on a prefix: context, namespace and the prefix bytes (R225). -/
def coverCare (w : Nat) (pre : Bytes) : Nat :=
  beNat (List.replicate 3 0xFF ++ padTo (aclKeyBytes w) (List.replicate pre.length 0xFF))

/-! ## Lost pairs (R242) -/

/-- Pair `k` has no bank above FENCED. -/
def State.pairLost (s : State) (k : Nat) : Bool := !s.bankUsable (2 * k) && !s.bankUsable (2 * k + 1)

/-- A search of the table needs a lost pair: one that holds a valid entry. -/
def State.tableLost (s : State) (tb : Table) : Bool :=
  (s.store.tables.entries tb).any fun e => s.pairLost (e.addr / 8192)

/-- A pattern lies in a lost pair. -/
def State.patternLost (s : State) (p : Pattern) : Bool := p.recs.any fun r => s.pairLost (r.addr / 8192)

/-! ## Verdicts (R224, R225) -/

/-- What the ACL says of a request. -/
inductive Verdict where
  | permitted
  | denied
  | offline
  deriving DecidableEq, Repr

/-- The tag is a DENY (R223). -/
def tagDenies (tag : Nat) : Bool := tag.testBit 19

/-- Peer class of a source in measure `m`: the first PEER match, 0 with none (R222). A mailbox command has class 0. -/
def State.peerClass (s : State) (src : Option Source) (m : Nat) : Nat :=
  match src with
  | none => 0
  | some x =>
    let t := s.store.tables
    match s.find .peer m (peerWord (t.shape .peer).width (t.genBit .peer m) x.port x.ip) with
    | some tag => tag % 256
    | none => 0

/-- A needed PEER or ACL pair is lost. -/
def State.aclLost (s : State) (src : Option Source) : Bool :=
  s.tableLost .acl || (src.isSome && s.tableLost .peer)

/-- The verdict on one key (R224). -/
def State.judge (s : State) (src : Option Source) (m : Nat) (c : OpClass) (ns : Nat) (key : Bytes) : Verdict :=
  if s.aclLost src then .offline else
  let t := s.store.tables
  match s.find .acl m (aclWord (t.shape .acl).width (s.peerClass src m) (t.genBit .acl m) c ns key) with
  | some tag => if tagDenies tag then .denied else .permitted
  | none => .denied

/-- The walk of R225 over the entries in first-match order. -/
def coverWalk (value care : Nat) : List Entry → Option Bool
  | [] => none
  | e :: rest =>
    if e.overlaps value care then
      if tagDenies e.tag then some false else if e.contains care then some true else coverWalk value care rest
    else coverWalk value care rest

/-- The verdict on every key with a prefix (R225, R133). -/
def State.judgeAll (s : State) (src : Option Source) (m : Nat) (c : OpClass) (ns : Nat) (pre : Bytes) : Verdict :=
  if s.aclLost src then .offline else
  let t := s.store.tables
  let p := t.shape .acl
  let value := aclWord p.width (s.peerClass src m) (t.genBit .acl m) c ns pre
  let care := coverCare p.width pre
  let all := s.overChips .acl (fun lower => Config.cascadeCover lower m value care) (coverWalk value care (s.seen .acl))
  if all = some true then .permitted else .denied

/-! ## Key patterns (R233, R235) -/

/-- The 112 input bits of an automaton step: VALID, END and the key bytes. -/
def autoInput (valid : Nat) (atEnd : Bool) (bytes : Bytes) : Nat :=
  valid * 2 ^ 108 + b2n atEnd * 2 ^ 107 + beNat (padTo 8 bytes)

/-- The search word of an automaton step: slot and state, then the input. -/
def autoWord (slot state input : Nat) : Nat := (slot % 64 * 2 ^ 10 + state) * 2 ^ 112 + input

/-- The automaton action memory: the action whose index is a tag (R234). -/
def Tables.action (t : Tables) (tag : Nat) : Option Transition :=
  (t.patterns.flatMap (·.recs)).find? fun r => r.tag == tag

/-- The search word of the step that stands at `rest` of a key in a state. -/
def Pattern.wordAt (p : Pattern) (state : Nat) (rest : Bytes) : Nat :=
  let n := min p.stride rest.length
  autoWord p.slot state (autoInput n (decide (n = rest.length)) (rest.take n))

/-- The action of an automaton step: that of the first match in AUTOMATON. -/
def State.autoStep (s : State) (p : Pattern) (state : Nat) (rest : Bytes) : Option Transition :=
  (s.search .automaton (p.wordAt state rest)).bind fun e => s.store.tables.action e.tag

/-- How a step ends or goes on (R235): a verdict, or the next state with what is left of the key. -/
inductive AutoNext where
  | stop (accept : Bool)
  | go (state : Nat) (rest : Bytes)

/-- What follows a step with this action. -/
def Pattern.after (p : Pattern) (rest : Bytes) : Option Transition → AutoNext
  | none => .stop false
  | some t =>
    if t.verdict = 1 then .stop true
    else if t.verdict = 2 ∨ min p.stride rest.length < t.consume then .stop false
    else .go t.next (rest.drop t.consume)

/-- The run of R235 with at most `fuel` steps: the steps taken and the verdict. -/
def State.runFrom (s : State) (p : Pattern) : Nat → Nat → Bytes → Nat × Bool
  | 0, _, _ => (0, false)
  | fuel + 1, state, rest =>
    match p.after rest (s.autoStep p state rest) with
    | .stop a => (1, a)
    | .go state1 rest1 => let r := s.runFrom p fuel state1 rest1; (r.1 + 1, r.2)

/-- A pattern's run on a key: at most length + 1 steps. -/
def State.run (s : State) (p : Pattern) (key : Bytes) : Nat × Bool := s.runFrom p (key.length + 1) p.start key

/-- A key is accepted by a slot's pattern; slot 0 accepts every key. -/
def State.accepts (s : State) (slot : Nat) (key : Bytes) : Bool :=
  if slot = 0 then true else ((s.store.tables.pattern slot).map fun p => (s.run p key).2).getD false

/-- Automaton steps that a slot's pattern takes on a key. -/
def State.steps (s : State) (slot : Nat) (key : Bytes) : Nat :=
  ((s.store.tables.pattern slot).map fun p => (s.run p key).1).getD 0

end Sys2Proof.Machine
end

