-- ==== Sys2Proof/Machine/Mirror.lean ====
section
/-! DEFINITION. What keeps Larkspur's searches right: errors in the cells, repair from the shadow words, the mirror check of every
search (R216, R221, R238 to R240), and the searches that a check of the tables makes. -/

namespace Sys2Proof.Machine

open Sys2Proof

/-! ## Faults of cells and shadow words -/

/-- The array unit at `pos` has these bits inverted. -/
def LksArray.setCell (a : LksArray) (pos flips : Nat) (stuck : Bool) : LksArray :=
  let rest := a.cells.filter fun f => f.pos != pos
  { a with cells := if flips = 0 ∧ !stuck then rest else ⟨pos, flips, stuck⟩ :: rest }

/-- The shadow word at `pos` is off by `off` and has `flips` of its bits inverted. -/
def LksArray.setShadow (a : LksArray) (pos off flips : Nat) : LksArray :=
  let rest := a.shadow.filter fun f => f.pos != pos
  { a with shadow := if off = 0 ∧ flips = 0 then rest else ⟨pos, off, flips⟩ :: rest }

/-- Cells of the array unit at `pos` that cannot be rewritten. -/
def LksArray.stuckAt (a : LksArray) (pos : Nat) : Bool := a.cells.any fun f => f.pos == pos && f.stuck

/-- An error strikes (log entry 139). -/
def LksArray.strike (a : LksArray) (u : Upset) : LksArray :=
  if u.shadow then
    let f := (a.shadowFault u.pos).getD ⟨u.pos, 0, 0⟩
    a.setShadow u.pos f.off (f.flips ^^^ u.flips % 2 ^ 266)
  else a.setCell u.pos (a.cellFlips u.pos ^^^ u.flips % 2 ^ 256) (a.stuckAt u.pos || u.stuck)

/-- The array unit at `pos` is written from its shadow word; stuck cells stay as they are. -/
def LksArray.rewrite (a : LksArray) (pos : Nat) : LksArray :=
  if a.stuckAt pos then a else a.setCell pos (a.shadowOff pos) false

/-- The same unit in the other bank of the pair. -/
def matePos (pos : Nat) : Nat := if pos / 8192 % 2 = 0 then pos + 8192 else pos - 8192

/-- The tables change: units that are written anew hold what is written, but for cells that cannot be rewritten (R230). -/
def State.setTables (s : State) (t : Tables) : State :=
  let same := fun (pos : Nat) => s.store.tables.unitWord pos == t.unitWord pos
  (s.modStore fun x => { x with tables := t }).modLks fun a =>
    { a with cells := a.cells.filter fun f => f.stuck || same f.pos, shadow := a.shadow.filter fun f => same f.pos }

/-! ## Repair (R221, R238 to R240) -/

/-- A pair must be rebuilt: no search of its table starts for an item sealed from here on (R239). -/
def State.startRebuild (s : State) (k : Nat) : State :=
  if s.lks.rebuild.any fun r => r.1 == k then s else s.modLks fun a => { a with rebuild := a.rebuild ++ [(k, s.tb.measure)] }

/-- A shadow word is read: one inverted bit is corrected in place; an uncorrectable word is rewritten from the two banks' copies of
the unit when they agree, else the pair must be rebuilt (R239). -/
def State.readShadow (s : State) (pos : Nat) : State :=
  match s.lks.shadowFault pos with
  | none => s
  | some f =>
    if !f.lost then s.modLks fun a => a.setShadow pos f.off 0
    else if s.lks.cellFlips pos = s.lks.cellFlips (matePos pos) then s.modLks fun a => a.setShadow pos (a.cellFlips pos) 0
    else s.startRebuild (pos / 16384)

/-- An array unit is rewritten from its shadow word: counted, noted in Coda, LARKSPUR_REPAIR pulses; Table 9.7 decides the bank's
view. -/
def State.repairUnit (s : State) (pos : Nat) : State :=
  let bank := pos / 8192
  let now := s.tb.measure
  let log := (pos, now) :: s.lks.repaired.filter fun r => decide (now < r.2 + 4096)
  let s1 := (s.modLks fun a => { a.rewrite pos with repairs := bump a.repairs, repaired := log }).report 0x0701 5
    (be 1 bank ++ be 1 0 ++ be 2 (pos % 8192))
  let s2 := s1.pulse 44
  let s3 := if 4 < (log.filter fun r => r.1 / 8192 == bank).length then s2.degrade (0x4000 + bank) else s2
  if 3 ≤ (log.filter fun r => r.1 == pos).length then s3.lowerData (0x4000 + bank) .fenced else s3

/-- An array unit is compared with its shadow word, and rewritten from it where they differ; an OFFLINE bank is not written
(R238 to R240). -/
def State.compareUnit (s : State) (pos : Nat) : State :=
  let s1 := s.readShadow pos
  if s1.lks.differs pos ∧ s1.effective (0x4000 + pos / 8192) ≠ .offline then s1.repairUnit pos else s1

/-! ## The mirror check (R221) -/

/-- A table's entries in one pair, as bank `b` holds them, in first-match order. -/
def State.heldBy (s : State) (tb : Table) (b : Nat) : List Entry :=
  let t := s.store.tables
  t.inOrder tb (((t.entries tb).filter fun e => e.addr / 8192 == b / 2).map fun e => s.image b (t.shape tb).width e)

/-- What a search reports of a list in first-match order: the first match's table address. -/
def searchReach (word : Nat) (l : List Entry) : List (Nat × Bool) := ((l.find? fun e => e.hit word).map fun e => (e.addr, false)).toList

/-- What a cover walk reports: the overlapping entries up to the one that decides, and whether each contains the query (R225). -/
def coverReach (value care : Nat) : List Entry → List (Nat × Bool)
  | [] => []
  | e :: rest =>
    if e.overlaps value care then
      (e.addr, e.contains care) :: if tagDenies e.tag || e.contains care then [] else coverReach value care rest
    else coverReach value care rest

/-- Array units, in both banks of their pair, of the entries of width `w` that a search reported. -/
def unitsOf (w : Nat) (found : List (Nat × Bool)) : List Nat :=
  (found.map (·.1)).eraseDups.flatMap fun addr =>
    [2 * (addr / 8192), 2 * (addr / 8192) + 1].flatMap fun b => (List.range w).map fun j => b * 8192 + addr % 8192 + j

/-- The mirror check of a search in one pair: where both banks are searched and their results differ, the units they report are
compared with the shadow copy and rewritten, and the search is repeated; a bank whose unit still differs is fenced. Where the
repeated results differ through other units, those are repaired in turn (log entry 139). -/
def State.mirrorPair (tb : Table) (reach : List Entry → List (Nat × Bool)) (k : Nat) : Nat → State → State
  | 0, s => s
  | fuel + 1, s =>
    let found := fun (t : State) (j : Nat) => reach (t.heldBy tb (2 * k + j))
    if s.bankUsable (2 * k) && s.bankUsable (2 * k + 1) && found s 0 != found s 1 then
      let units := unitsOf (s.store.tables.shape tb).width (found s 0 ++ found s 1)
      let s1 := units.foldl State.compareUnit s
      if found s1 0 = found s1 1 then s1
      else
        let stuck := units.filter s1.lks.differs
        if stuck.isEmpty then State.mirrorPair tb reach k fuel s1
        else stuck.foldl (fun t p => t.lowerData (0x4000 + p / 8192) .fenced) s1
    else s

/-- The mirror check of a search of a table (R221): with no fault in the cells, all banks agree. -/
def State.mirrorCheck (s : State) (tb : Table) (reach : List Entry → List (Nat × Bool)) : State :=
  if s.lks.cells.isEmpty then s
  else (s.store.tables.pairsOf tb).foldl (fun t k => State.mirrorPair tb reach k (s.lks.cells.length + 1) t) s

/-! ## Searches -/

/-- One search more of the table (STATS SEARCHES; 64 bits). -/
def State.searched (s : State) (tb : Table) : State :=
  s.modLks fun a =>
    { a with searches := Vector.ofFn fun i : Fin 4 => if i.val + 1 = tb.num then sat 64 (a.searches[i] + 1) else a.searches[i] }

/-- A search of a table is made: mirror check and count. What it finds is what the state then holds. -/
def State.consult (s : State) (tb : Table) (word : Nat) : State := (s.mirrorCheck tb (searchReach word)).searched tb

/-- A cover search of the ACL is made. -/
def State.consultCover (s : State) (value care : Nat) : State := (s.mirrorCheck .acl (coverReach value care)).searched .acl

/-- The searches of an ACL check are made: PEER for a request with a source, then ACL, by key or by prefix (R224, R225). -/
def State.consultAcl (s : State) (src : Option Source) (m : Nat) (c : OpClass) (ns : Nat) (key : Bytes) (cover : Bool) : State :=
  if s.aclLost src then s else
  let t := s.store.tables
  let s1 := match src with
    | none => s
    | some x => s.consult .peer (peerWord (t.shape .peer).width (t.genBit .peer m) x.port x.ip)
  let w := (t.shape .acl).width
  let word := aclWord w (s1.peerClass src m) (t.genBit .acl m) c ns key
  if cover then s1.consultCover word (coverCare w key) else s1.consult .acl word

/-- The verdict on one key, with the searches made (R224). -/
def State.checkKey (s : State) (src : Option Source) (m : Nat) (c : OpClass) (ns : Nat) (key : Bytes) : State × Verdict :=
  let s1 := s.consultAcl src m c ns key false
  (s1, s1.judge src m c ns key)

/-- The verdict on every key with a prefix, with the searches made (R225). -/
def State.checkAll (s : State) (src : Option Source) (m : Nat) (c : OpClass) (ns : Nat) (pre : Bytes) : State × Verdict :=
  let s1 := s.consultAcl src m c ns pre true
  (s1, s1.judgeAll src m c ns pre)

/-- The searches of a pattern's run on a key (R235). -/
def State.consultRun (p : Pattern) : Nat → Nat → Bytes → State → State
  | 0, _, _, s => s
  | fuel + 1, state, rest, s =>
    let s1 := s.consult .automaton (p.wordAt state rest)
    match p.after rest (s1.autoStep p state rest) with
    | .stop _ => s1
    | .go state1 rest1 => State.consultRun p fuel state1 rest1 s1

/-- A slot's pattern is run on a key. -/
def State.ranOn (s : State) (slot : Nat) (key : Bytes) : State :=
  match if slot = 0 then none else s.store.tables.pattern slot with
  | none => s
  | some p => State.consultRun p (key.length + 1) p.start key s

end Sys2Proof.Machine
end

