-- ==== Sys2Proof/Machine/KeyStore.lean ====
section
/-! DEFINITION. The key store: hashes and shards (R159, R249), charges and limits (R170, R171, R252), versions (R164), writing
and removing keys, ledgers (R174 to R179), LPDDR5 ranks (R163), and what watches see (R124 to R126). -/

namespace Sys2Proof.Machine

open Sys2Proof

/-! ## Keys and namespaces -/

/-- The key hash of R159: bytes 0 to 7 of SHA-256 over the namespace byte and the key. -/
def keyHash (ns : Nat) (key : Bytes) : Nat := fld (sha256 (be 1 ns ++ key)) 0 8

/-- The namespace with an id. -/
def Store.ns (t : Store) (id : Nat) : Option Namespace := t.nss.find? fun n => n.id == id

/-- Change the namespace with an id. -/
def Store.modNs (t : Store) (id : Nat) (f : Namespace → Namespace) : Store :=
  { t with nss := t.nss.map fun n => if n.id == id then f n else n }

/-- The key's entry. -/
def Namespace.find (n : Namespace) (key : Bytes) : Option KeyEnt := n.keys.find? fun e => e.key == key

/-- Put an entry at its place in ascending key order. -/
def putEnt (e : KeyEnt) : List KeyEnt → List KeyEnt
  | [] => [e]
  | x :: xs => if bytesLt e.key x.key then e :: x :: xs else if e.key == x.key then e :: xs else x :: putEnt e xs

/-- Drop a key's entry. -/
def Namespace.drop (n : Namespace) (key : Bytes) : Namespace := { n with keys := n.keys.filter fun e => e.key != key }

/-! ## Chorus namespaces and shards (R249, R251) -/

/-- The Chorus entry of a namespace, if it is a Chorus namespace. -/
def Store.chorusNs (t : Store) (id : Nat) : Option ChorusNs := t.chorus.bind fun c => c.nss.find? fun n => n.ns == id

/-- Shards of a Chorus namespace. -/
def ChorusNs.shards (n : ChorusNs) : Nat := 2 ^ n.log2

/-- The shard index of a key hash: the top SHARDS_LOG2 bits. -/
def ChorusNs.indexOf (n : ChorusNs) (hash : Nat) : Nat := hash / 2 ^ (64 - n.log2)

/-- Holders of a shard, in holder order (R249). -/
def Chorus.holders (c : Chorus) (ns index : Nat) : List Nat := (List.range c.rf).map fun j => (ns + index + j) % c.members

/-- The shard of a key that this member holds. -/
def Chorus.shardOf (c : Chorus) (n : ChorusNs) (key : Bytes) : Option Shard :=
  c.shards.find? fun h => h.ns == n.ns && h.index == n.indexOf (keyHash n.ns key)

/-- This drive stores the key: it lies in a local namespace, or in a shard the member holds. -/
def Store.holds (t : Store) (ns : Nat) (key : Bytes) : Bool :=
  match t.chorus, t.chorusNs ns with
  | some c, some n => (c.shardOf n key).isSome
  | _, _ => true

/-- Keys of a namespace in one shard. -/
def ChorusNs.keysOf (n : ChorusNs) (index : Nat) (l : List KeyEnt) : List KeyEnt :=
  l.filter fun e => n.indexOf (keyHash n.ns e.key) == index

/-! ## ROUTE (R226) -/

/-- A ROUTE search word: context 0, the namespace, the key hash, zeros. -/
def routeWord (ns hash : Nat) : Nat := ns * 2 ^ 104 + hash * 2 ^ 40

/-- The shard number that ROUTE finds for a key. -/
def State.routed (s : State) (ns : Nat) (key : Bytes) : Option Nat :=
  (s.search .route (routeWord ns (keyHash ns key))).map fun e => e.tag % 2 ^ 12

/-- The key's shard lies on this member, as a ROUTE search finds it; where ROUTE finds nothing, by the shard map. -/
def State.holdsRouted (s : State) (ns : Nat) (key : Bytes) : Bool :=
  match s.store.chorus, s.routed ns key with
  | some c, some k => c.shards.any fun h => h.num == k
  | _, _ => s.store.holds ns key

/-! ## Versions (R164) -/

/-- The last version of a key's domain. -/
def Store.counter (t : Store) (ns : Nat) (key : Bytes) : Nat :=
  match t.chorus, t.chorusNs ns with
  | some c, some n => ((c.shardOf n key).map (·.counter)).getD 0
  | _, _ => (getKey ns t.counters).getD 0

/-- Take the next version of a key's domain. -/
def Store.stamp (t : Store) (ns : Nat) (key : Bytes) : Nat × Store :=
  let v := t.counter ns key + 1
  match t.chorus, t.chorusNs ns with
  | some c, some n =>
    let i := n.indexOf (keyHash ns key)
    (v, { t with chorus := some { c with shards := c.shards.map fun h =>
      if h.ns == ns && h.index == i then { h with counter := v } else h } })
  | _, _ => (v, { t with counters := insertKey ns v t.counters })

/-- Counters of a namespace's version domains on this drive, in ascending shard order (R169, R383). -/
def Store.domainCounters (t : Store) (ns : Nat) : List Nat :=
  match t.chorus, t.chorusNs ns with
  | some c, some _ => (c.shards.filter fun h => h.ns == ns).map (·.counter)
  | _, _ => [(getKey ns t.counters).getD 0]

/-! ## Charges and limits (R170 to R172, R252) -/

/-- What a stored value of `n` bytes charges. -/
def charge (n : Nat) : Nat := 256 + 512 * ((n + 511) / 512)

/-- Charges of a list of entries. -/
def chargeAll (l : List KeyEnt) : Nat := (l.map fun e => charge e.value.length).sum

/-- Open segmented values aimed at a namespace that reserve here; a member that does not hold the shard reserves nothing. -/
def Store.segsOn (t : Store) (ns : Nat) : List OpenSeg := t.segs.filter fun g => g.ns == ns && t.holds ns g.key

/-- A namespace's use (R170). -/
def Store.use (t : Store) (n : Namespace) : Nat :=
  chargeAll n.keys + ((t.segsOn n.id).map fun g => charge g.total).sum

/-- A namespace's key count (R170). -/
def Store.keyCount (t : Store) (n : Namespace) : Nat := n.keys.length + (t.segsOn n.id).length

/-- A commitment of a use and a guarantee. -/
def commitment (use guarantee : Nat) : Nat := max use guarantee

/-- Keys that a Chorus namespace withholds from the others: floor(MAX_KEYS / S) for each shard held (R251). -/
def Store.keyReserve (t : Store) (ns : Nat) : Nat :=
  match t.chorus, t.chorusNs ns with
  | some c, some n => n.maxKeys / n.shards * (c.shards.filter fun h => h.ns == ns).length
  | _, _ => 0

/-- Sum of all commitments (R171). -/
def Store.committed (t : Store) : Nat :=
  t.sysUse + (t.nss.map fun n => commitment (t.use n) n.guarantee).sum

/-- Keys counted against the key limit. -/
def Store.keysCommitted (t : Store) : Nat :=
  t.sysKeys + (t.nss.map fun n => max (t.keyCount n) (t.keyReserve n.id)).sum

/-- C_L in bytes. -/
def Store.capacity (t : Store) : Nat := ((t.format.map (·.cl)).getD 0) * 2 ^ 30

/-- K. -/
def Store.keyCapacity (t : Store) : Nat := (t.format.map (·.k)).getD 0

/-- The commitment limit of a namespace type (R171). -/
def Store.limit (t : Store) (typ : NsType) : Nat :=
  if typ = .ledger then t.capacity else t.capacity - t.capacity / 64

/-- The key limit of a namespace type (R171). -/
def Store.keyLimit (t : Store) (typ : NsType) : Nat :=
  if typ = .ledger then t.keyCapacity else t.keyCapacity - t.keyCapacity / 64

/-- Use and keys of a shard, open segmented values included. -/
def Store.shardUse (t : Store) (n : Namespace) (cn : ChorusNs) (index : Nat) : Nat × Nat :=
  let keys := cn.keysOf index n.keys
  let segs := (t.segsOn n.id).filter fun g => cn.indexOf (keyHash n.id g.key) == index
  (chargeAll keys + (segs.map fun g => charge g.total).sum, keys.length + segs.length)

/-- R171 for a change that adds `add` bytes and `keys` keys and frees `sub` bytes in a namespace, at a key (R252: per shard
in a Chorus namespace). A change that does not grow always passes. -/
def Store.roomFor (t : Store) (n : Namespace) (key : Bytes) (add sub keys : Nat) : Bool :=
  if add ≤ sub ∧ keys = 0 then true else
  match t.chorusNs n.id with
  | some cn =>
    let u := t.shardUse n cn (cn.indexOf (keyHash n.id key))
    (decide (add ≤ sub) || decide (u.1 + add - sub ≤ cn.quota / cn.shards)) &&
    (keys == 0 || decide (u.2 + keys ≤ cn.maxKeys / cn.shards))
  | none =>
    let u := t.use n
    let u' := u + add - sub
    (n.quota == 0 || decide (u' ≤ n.quota)) &&
    decide (t.committed - commitment u n.guarantee + commitment u' n.guarantee ≤ t.limit n.typ) &&
    decide (t.keysCommitted + keys ≤ t.keyLimit n.typ)

/-! ## Writing and removing keys -/

/-- Write a value: the next version, a fresh extent, and for a staging namespace the SHA-384 (R164, R160, R180). -/
def Store.write (t : Store) (n : Namespace) (key value : Bytes) (adm : Nat) : Nat × Store :=
  let (v, t1) := t.stamp n.id key
  let e : KeyEnt := { key, value, version := v, adm, sha384 := if n.typ = .staging then sha384 value else []
                      extent := t1.nextExtent }
  (v, { t1.modNs n.id fun m => { m with keys := putEnt e m.keys } with nextExtent := (t1.nextExtent + 1) % 2 ^ 40 })

/-- Remove a key; the DELETE consumes a number (R164). -/
def Store.remove (t : Store) (ns : Nat) (key : Bytes) : Store :=
  let (_, t1) := t.stamp ns key
  t1.modNs ns fun m => m.drop key

/-! ## Ledgers (R174 to R179) -/

/-- H_0: SHA-256 of the genesis block. -/
def genesis (id epoch : Nat) : Bytes := sha256 (be 4 0x445A4C47 ++ be 1 id ++ zeros 3 ++ be 8 epoch)

/-- The record of Table 7.5. -/
def ledgerRecord (number typ : Nat) (prev payload : Bytes) : Bytes :=
  be 8 number ++ be 2 typ ++ be 2 0 ++ be 4 payload.length ++ prev ++ payload

/-- Append one record: its number, the chain hash after it, and the store. -/
def Store.appendRecord (t : Store) (n : Namespace) (typ : Nat) (payload : Bytes) (adm : Nat) : (Nat × Bytes) × Store :=
  let number := n.record + 1
  let value := ledgerRecord number typ n.head payload
  let h := sha256 value
  let (_, t1) := t.write n (be 8 number) value adm
  ((number, h), t1.modNs n.id fun m => { m with record := number, head := h, oldest := if m.oldest = 0 then 1 else m.oldest })

/-- The 64-byte head of Table 7.6. -/
def ledgerHead (n : Namespace) (record : Nat) (h : Bytes) (oldest : Nat) : Bytes :=
  be 4 0x445A4C48 ++ be 1 n.id ++ zeros 3 ++ be 8 n.epoch ++ be 8 record ++ h ++ be 8 oldest

/-- The P-256 private key of the n-th generated ledger key, from 1 to the order less 1 (R402). -/
def ledgerPrivate (k : Nat) : Nat := 1 + Config.ledgerSecret k % (p256N - 1)

/-- A signed head; without a ledger key the signature is 64 zero bytes (R176). -/
def signHead (key : Option Nat) (head : Bytes) : Bytes :=
  head ++ match key with
  | some k => ecdsaSign (ledgerPrivate k) (sha256 head)
  | none => zeros 64

/-- A record has expired in measure `x` (R177). -/
def KeyEnt.expired (e : KeyEnt) (retention x : Nat) : Bool := decide (e.adm + retention ≤ x)

/-- A ledger holds a record whose retention has not expired in measure `x`. -/
def Namespace.unexpired (n : Namespace) (x : Nat) : Bool :=
  n.typ == .ledger && n.keys.any fun e => !e.expired n.retention x

/-- The staging namespace holds a held key (R181). -/
def Store.anyHeld (t : Store) (ns : Nat) : Bool := t.held.any fun h => h.1 == ns

/-- The key is held (R181). -/
def Store.isHeld (t : Store) (ns : Nat) (key : Bytes) : Bool := t.held.any fun h => h.1 == ns && h.2 == key

/-! ## LPDDR5 (R163) -/

/-- No LPDDR5 rank is usable: every request that names a namespace is answered UNIT_OFFLINE (R163). -/
def State.noRank (s : State) : Bool :=
  !(List.range s.board.ranks).any fun r => decide (2 ≤ (s.effective (0x3000 + r)).num)

/-! ## Watches (R124 to R126) -/

/-- A NOTIFY of a watch for the window `at_` (R125). -/
def Watch.notify (w : Watch) (ordinal kind reason version len : Nat) (key : Bytes) (end_ : Bool) (at_ : Nat × Nat) : Reply :=
  { due := at_.1, durable := at_.2, mailbox := none, src := w.src, op := 0x10, flags := w.cls + if end_ then 2 ^ 13 else 0
    ns := w.ns, session := w.session, seq := w.seq, target := w.from_, status := .ok
    pieces := [(ordinal, 0, key, be 1 kind ++ be 1 reason ++ zeros 2 ++ be 8 version ++ be 4 len)]
    credit := end_, notify := true, bytes := 0, segment := 0, sliced := false, set := none }

/-- Watches are told apart by session and sequence. -/
def Watch.is (w : Watch) (session seq : Nat) : Bool := w.session == session && w.seq == seq

/-- End a watch with its END NOTIFY, which takes the next ordinal (R125; log entry 42); it leaves with the acknowledgement of
what ends it. Its version and value length are 0 (log entry 123). -/
def State.endWatch (s : State) (w : Watch) (reason m : Nat) : State :=
  (s.modSeq fun q => { q with watches := q.watches.filter fun x => !x.is w.session w.seq }).schedule
    (w.notify (w.count + 1) 3 reason 0 0 [] true (s.seq.ackAt m))

/-- A watch observes a change sealed in measure `m` (R124). -/
def State.sees (s : State) (w : Watch) (ns : Nat) (key : Bytes) (m : Nat) : Bool :=
  w.ns == ns && isPrefix w.pre key && decide (m ≤ w.from_ + w.duration) && s.accepts w.pattern key

/-- One watch is shown a change: its NOTIFY, in the window of the change's acknowledgement (R125); the watch ends when its limit
is reached. -/
def State.tell (s : State) (ns : Nat) (key : Bytes) (kind version len m : Nat) (w : Watch) : State :=
  if s.sees w ns key m then
    let w1 := { w with count := w.count + 1 }
    let s1 := (s.modSeq fun q => { q with watches := q.watches.map fun x => if x.is w.session w.seq then w1 else x }).schedule
      (w1.notify w1.count kind 0 version len key false (s.seq.ackAt m))
    if w.limit ≠ 0 ∧ w.limit ≤ w1.count then s1.endWatch w1 2 m else s1
  else s

/-- Patterns of the active watches whose prefix a changed key has, each once (R237). -/
def State.watchPatterns (s : State) (ns : Nat) (key : Bytes) (m : Nat) : List Nat :=
  ((s.seq.watches.filter fun w => w.ns == ns && isPrefix w.pre key && decide (m ≤ w.from_ + w.duration)).map (·.pattern)).eraseDups

/-- Every active watch is shown a change, in the order of their places, once their patterns have run on the key (R237). -/
def State.observe (s : State) (ns : Nat) (key : Bytes) (kind version len m : Nat) : State :=
  let s1 := (s.watchPatterns ns key m).foldl (fun t slot => t.ranOn slot key) s
  s1.seq.watches.foldl (fun t w => t.tell ns key kind version len m w) s1

/-- Count host value bytes written (Table 8.10). -/
def State.hostWrote (s : State) (n : Nat) : State := s.modFlash fun f => { f with hostBytes := sat 64 (f.hostBytes + n) }

/-- Write a value and show the change to the watches. -/
def State.putValue (s : State) (n : Namespace) (key value : Bytes) (m : Nat) : Nat × State :=
  let (v, t) := s.store.write n key value m
  (v, (({ s with store := t }).hostWrote value.length).observe n.id key 1 v value.length m)

/-- Remove a key and show the change to the watches; the deleted version is reported (R125), and the length of the deleted value
(log entry 123). -/
def State.dropValue (s : State) (n : Namespace) (e : KeyEnt) (m : Nat) : State :=
  ({ s with store := s.store.remove n.id e.key }).observe n.id e.key 2 e.version e.value.length m

/-- Remove namespace `id`: its keys, its open segmented values, its watches (R382). The version counter stays (R164). -/
def State.removeNs (s : State) (id m : Nat) : State :=
  let s1 := s.modStore fun t =>
    { t with nss := t.nss.filter fun n => n.id != id, segs := t.segs.filter fun g => g.ns != id
             held := t.held.filter fun h => h.1 != id }
  (s1.seq.watches.filter fun w => w.ns == id).foldl (fun t w => t.endWatch w 3 m) s1

end Sys2Proof.Machine
end

