-- ==== Sys2Proof/Machine/Nand.lean ====
section
/-! DEFINITION. Where values lie in flash and what is readable (R173, R186 to R188, R208, R211, R427), and the queues of NAND
operations (R52, R54, R202). -/

namespace Sys2Proof.Machine

open Sys2Proof

/-! ## LUNs (R186, R208, R212) -/

/-- Channel unit of a LUN. -/
def channelOf (lun : Nat) : Nat := 0x2000 + lun % 0x1000 / 16

/-- Reach state of a LUN: the lower of its effective state and its channel's (R208). -/
def State.reach (s : State) (lun : Nat) : UnitState := (s.effective lun).lower (s.effective (channelOf lun))

/-- A LUN reaches ONLINE or DEGRADED: it is writable (R187) and read normally (R211). -/
def State.sound (s : State) (lun : Nat) : Bool := decide (2 ≤ (s.reach lun).num)

/-- Parity group of a LUN: its position over 16 (R186). -/
def State.groupOf (s : State) (lun : Nat) : Nat :=
  ((lun % 16 / 4 * s.board.lunsPerCe + lun % 4) * 8 + lun % 0x1000 / 16) / 16

/-- Parity groups of the drive. -/
def State.groups (s : State) : Nat := (s.flash.luns.length + 15) / 16

/-- The LUN with an identifier. -/
def State.lun (s : State) (id : Nat) : Option Lun := s.flash.luns.find? fun l => l.id == id

/-- Change the LUN with an identifier. -/
def State.modLun (s : State) (id : Nat) (f : Lun → Lun) : State :=
  s.modFlash fun g => { g with luns := g.luns.map fun l => if l.id == id then f l else l }

/-- LUNs that are lost: below DEGRADED and not evacuated (R212). -/
def State.lostLuns (s : State) : List Nat :=
  (s.flash.luns.filter fun l => !s.sound l.id && !l.evacuated).map (·.id)

/-- Lost LUNs of groups that have lost two: there a page can be unreadable (R211). -/
def State.exposedLuns (s : State) : List Nat :=
  let lost := s.lostLuns
  lost.filter fun l => decide (2 ≤ (lost.filter fun k => s.groupOf k == s.groupOf l).length)

/-! ## Superblocks (R186 to R188) -/

/-- Change the superblock of a group with a number. -/
def Flash.modSb (f : Flash) (group num : Nat) (g : Superblock → Superblock) : Flash :=
  { f with sbs := f.sbs.map fun b => if b.group == group && b.num == num then g b else b }

/-- Change a superblock. -/
def State.modSb (s : State) (group num : Nat) (g : Superblock → Superblock) : State :=
  s.modFlash fun f => f.modSb group num g

/-- The superblock of a group with a number. -/
def State.sb (s : State) (group num : Nat) : Option Superblock :=
  s.flash.sbs.find? fun b => b.group == group && b.num == num

/-- Codewords of a multi-plane page: four a page (R188). -/
def Board.pageWords (b : Board) : Nat := 4 * b.planes

/-- Stripes of a superblock: a multi-plane page of every LUN each; a block in SLC mode has the pages of one bit a cell (R186). -/
def Board.stripes (b : Board) (native : Bool) : Nat := if native then b.pages else b.pages / b.cellBits

/-- Data codewords of a stripe: one page of the W carries parity (R186). -/
def Superblock.stripeWords (b : Superblock) (bd : Board) : Nat := (b.luns.length - 1) * bd.pageWords

/-- Data codewords of the superblock (R195). -/
def Superblock.total (b : Superblock) (bd : Board) : Nat := bd.stripes b.native * b.stripeWords bd

/-- The LUN of a stripe's parity page (R186). -/
def Superblock.parityLun (b : Superblock) (stripe : Nat) : Option Nat := b.luns[stripe % b.luns.length]?

/-- LUNs that carry a page of a stripe: those with data in it, and its parity page's (R187: a stripe may be partial). -/
def Superblock.pagesOf (b : Superblock) (stripe : Nat) : List Nat :=
  ((b.words.filter fun w => w.stripe == stripe).map (·.lun) ++ (b.parityLun stripe).toList).eraseDups

/-- Some block of the superblock is in a state. -/
def Superblock.any (b : Superblock) (v : BlockState) : Bool := b.blocks.any fun k => k.state == v

/-- Erase count of the superblock: the highest of its blocks (R195). -/
def Superblock.erases (b : Superblock) : Nat := (b.blocks.map (·.erases)).foldl max 0

/-- Change the blocks of the superblock on one LUN. -/
def Superblock.modBlocks (b : Superblock) (lun : Nat) (f : NandBlock → NandBlock) : Superblock :=
  { b with blocks := b.blocks.map fun k => if k.lun == lun then f k else k }

/-- Change the codewords that a test picks out. -/
def Superblock.modWords (b : Superblock) (p : Codeword → Bool) (f : Codeword → Codeword) : Superblock :=
  { b with words := b.words.map fun w => if p w then f w else w }

/-- The codeword of an extent with an index. -/
def Codeword.is (w : Codeword) (k : Nat × Nat) : Bool := w.ext == k.1 && w.idx == k.2

/-! ## Codewords on the medium (Table 8.3) -/

/-- Stream code of Table 8.3. -/
def Stream.num : Stream → Nat
  | .slcHost => 0
  | .fold => 1
  | .gc => 2
  | .wearMove => 3
  | .system => 4

/-- A codeword as programmed, without its LDPC parity: user data, metadata, CRC-32C over both (Table 8.3). -/
def Codeword.bytes (w : Codeword) (stream : Stream) : Bytes :=
  let b := padTo 4096 w.data ++ be 8 w.ext ++ be 4 w.idx ++ be 4 (w.measure % 2 ^ 32) ++ be 1 w.ns ++ be 1 stream.num ++ zeros 10
  b ++ be 4 (crc32c b)

/-- What a decode gave passes the CRC-32C of R188. -/
def wordSound (b : Bytes) : Bool := b.length == 4128 && crc32c (b.take 4124) == fld b 4124 4

/-- XOR of two byte strings. -/
def xorBytes (a b : Bytes) : Bytes := List.zipWith (· ^^^ ·) a b

/-- XOR of a list of codewords: what the parity page of a stripe holds, and what rebuilds one of them (R186, R189). -/
def xorAll : List Bytes → Bytes
  | [] => []
  | [a] => a
  | a :: rest => xorBytes a (xorAll rest)

/-- The codeword that each data page of a stripe holds at a place within its page, in LUN order; the parity page holds their XOR
there (R186, R187). -/
def Superblock.parityAt (b : Superblock) (bd : Board) (stripe place : Nat) : Bytes :=
  xorAll ((b.luns.filterMap fun l =>
    ((b.words.filter fun w => w.stripe == stripe && w.lun == l)[place % bd.pageWords]?)).map fun w => w.bytes b.stream)

/-! ## The map (R160, R196) -/

/-- Extents of a store. -/
def Store.extents (t : Store) : List Nat := t.nss.flatMap fun n => n.keys.map (·.extent)

/-- Extents that some state still to be served holds: the live one, the banks, the durable one, the snapshots of checkpoints and
transfers, and the reads that have not left (R46, R173, R196). -/
def State.liveExtents (s : State) : List Nat :=
  s.store.extents ++ s.durable.extents ++ s.snaps.flatMap (fun p => p.store.extents) ++
  (s.chorus.serving.map (·.2) ++ ((s.store.chorus.bind (·.checkpoint)).toList)).flatMap
    (fun n => n.content.flatMap fun m => m.keys.map (·.extent)) ++
  s.seq.replies.flatMap fun r => r.reads.map (·.1)

/-- The codeword is valid: a map points to it, and its extent is still held. -/
def State.validWord (s : State) (w : Codeword) : Bool := (w.live || w.durable) && s.liveExtents.contains w.ext

/-- The valid codewords of a superblock. -/
def State.validOf (s : State) (b : Superblock) : List Codeword :=
  let live := s.liveExtents
  b.words.filter fun w => (w.live || w.durable) && live.contains w.ext

/-- Where the map finds a codeword. -/
def State.located (s : State) (k : Nat × Nat) : Option (Superblock × Codeword) :=
  s.flash.sbs.findSome? fun b => (b.words.find? fun w => w.live && w.is k).map (b, ·)

/-- Codewords of a value of `n` bytes (Table 8.3). -/
def codewords (n : Nat) : Nat := max 1 ((n + 4095) / 4096)

/-! ## Readability (R173, R211, R427) -/

/-- Every other LUN of the codeword's stripe reaches ONLINE or DEGRADED, so that it can be rebuilt. -/
def State.canRebuild (s : State) (b : Superblock) (w : Codeword) : Bool :=
  (b.pagesOf w.stripe).all fun l => l == w.lun || s.sound l

/-- The codeword's LUN is FENCED, and the sliced read that needs it was sealed, in measure `sliced`, before the LUN fell (R211
case 3). -/
def State.workInProgress (s : State) (w : Codeword) (sliced : Option Nat) : Bool :=
  s.reach w.lun == .fenced && sliced.any fun m => ((s.lun w.lun).map fun l => decide (m ≤ l.soundAt)).getD false

/-- R211: the codeword can be read for a host request. -/
def State.readable (s : State) (b : Superblock) (w : Codeword) (sliced : Option Nat) : Bool :=
  !w.unread && (s.sound w.lun || s.canRebuild b w || s.workInProgress w sliced)

/-- A page of the index or the map that an item needs is unreadable, as far as the drive's placement of its system area decides
(R427; log entry 9). -/
def State.pageLost (s : State) (kind item : Nat) : Bool := !s.exposedLuns.isEmpty && Config.onLost kind item s.exposedLuns

/-- The key-directory leaf that holds a key of a namespace, or would hold it, is unreadable (R173). -/
def State.leafLost (s : State) (ns : Nat) (key : Bytes) : Bool := s.pageLost 2 (fld (be 1 ns ++ key ++ be 1 key.length) 0 (key.length + 2))

/-- A leaf that a traversal of the keys under a prefix, above `after`, needs is unreadable: where it starts, and of every key it
passes (R173). -/
def State.leavesLost (s : State) (n : Namespace) (pre after : Bytes) : Bool :=
  s.leafLost n.id (if after.isEmpty then pre else after) ||
  n.keys.any fun e => isPrefix pre e.key && (after.isEmpty || bytesLt after e.key) && s.leafLost n.id e.key

/-- Codewords `lo` to `hi` (not included) of a value, or its map page, are unreadable; `sliced` is the measure that sealed a sliced
read. -/
def State.wordsLost (s : State) (extent lo hi : Nat) (sliced : Option Nat) : Bool :=
  s.pageLost 1 extent ||
  s.flash.sbs.any fun b => b.words.any fun w =>
    w.live && w.ext == extent && decide (lo ≤ w.idx) && decide (w.idx < hi) && !s.readable b w sliced

/-- Some codeword of a value, or its map page, is unreadable. -/
def State.valueLost (s : State) (e : KeyEnt) : Bool := s.wordsLost e.extent 0 (codewords e.value.length) none

/-! ## Queues of NAND operations (R52, R54) -/

/-- Is the operation background work? -/
def NandKind.background : NandKind → Bool
  | .eraseBg => true
  | .programBg => true
  | .readBg => true
  | .readFg => false
  | .programFg => false
  | .suspend => false
  | .lunReset => false
  | .feature => false

/-- An operation that programs or erases. -/
def NandKind.writes : NandKind → Bool
  | .eraseBg => true
  | .programBg => true
  | .programFg => true
  | .readBg => false
  | .readFg => false
  | .suspend => false
  | .lunReset => false
  | .feature => false

/-- An operation not yet issued: a program's data goes first over the bus (R204). -/
def NandOp.make (kind : NandKind) (group num stripe : Nat) : NandOp :=
  { kind, group, num, stripe, word := none, rebuild := false, bank := none
    phase := if kind = .programFg ∨ kind = .programBg then .dataIn else .array
    suspends := 0, ran := 0, reissued := false }

/-- Operations of a LUN, in progress or waiting. -/
def Lun.ops (l : Lun) : List NandOp := l.op.toList ++ l.held.toList ++ l.next.toList ++ l.fg ++ l.bg

/-- Operations in the queue of a channel (Table 3.1 NANDk). -/
def State.nandCount (s : State) (channel : Nat) : Nat :=
  ((s.flash.luns.filter fun l => channelOf l.id == channel).map fun l => l.ops.length).sum

/-- The operation joins its LUN's foreground or background work. -/
def Lun.push (o : NandOp) (l : Lun) : Lun := if o.kind.background then { l with bg := l.bg ++ [o] } else { l with fg := l.fg ++ [o] }

/-- Hand an operation to the queue of its channel; without a credit of its 32 it waits (R54). -/
def State.submit (s : State) (lun : Nat) (o : NandOp) : State :=
  if s.nandCount (channelOf lun) < 32 then s.modLun lun (Lun.push o)
  else s.modFlash fun f => { f with waiting := f.waiting ++ [(lun, o)] }

/-- Operations that waited enter their queues as far as there are credits, in order. -/
def State.drainNand (s : State) : State :=
  s.flash.waiting.foldl (fun t p => t.submit p.1 p.2) (s.modFlash fun f => { f with waiting := [] })

/-- Some operation, in progress or waiting, has a property. -/
def State.anyOp (s : State) (p : Nat → NandOp → Bool) : Bool :=
  (s.flash.luns.any fun l => l.ops.any (p l.id)) || s.flash.waiting.any fun q => p q.1 q.2

/-- The LUN a codeword is read on: its own, or where that is not read another of its stripe, from which it is rebuilt; `own` tells
whether a FENCED LUN is read. -/
def State.readAt (s : State) (b : Superblock) (w : Codeword) (own : Bool) : Option (Nat × Bool) :=
  if s.sound w.lun || (own && s.reach w.lun == .fenced) then some (w.lun, false)
  else ((b.pagesOf w.stripe).find? fun l => l != w.lun && s.reach l != .offline).map (·, true)

/-- Queue the read of a codeword. -/
def State.readWord (s : State) (kind : NandKind) (b : Superblock) (w : Codeword) (own : Bool) : State :=
  match s.readAt b w own with
  | none => s
  | some (l, rebuild) => s.submit l { NandOp.make kind b.group b.num w.stripe with word := some (w.ext, w.idx), rebuild }

/-- Codewords `lo` to `hi` (not included) of an extent that are read from flash: those whose bank is durable; the others are still in
a staging bank (R190). -/
def State.inFlash (s : State) (extent lo hi : Nat) : List (Superblock × Codeword) :=
  s.flash.sbs.flatMap fun b => (b.words.filter fun w =>
    w.live && w.durable && w.ext == extent && decide (lo ≤ w.idx) && decide (w.idx < hi)).map (b, ·)

/-- Foreground reads of codewords of an extent (R52, R202): what is to be read, and the state with the operations queued. -/
def State.readExtent (s : State) (extent lo hi : Nat) (sliced : Option Nat) : List (Nat × Nat) × State :=
  let l := s.inFlash extent lo hi
  (l.map fun p => (p.2.ext, p.2.idx), l.foldl (fun t p => t.readWord .readFg p.1 p.2 (s.workInProgress p.2 sliced)) s)

end Sys2Proof.Machine
end

