-- ==== Sys2Proof/Machine/ChorusLib.lean ====
section
/-! DEFINITION. Entries and digests of request sets (R260), the shards of a Chorus (R249), stanzas and manifests (R277 to
R279), and loading them (R281). -/

namespace Sys2Proof

open Machine

/-- The priority class of a request (Table 5.3). -/
def Request.cls (r : Request) : Nat := r.flags % 4

/-- The request hash: bytes 0 to 7 of SHA-256 over the UDP payload. -/
def Request.hash (r : Request) : Bytes := (sha256 (encodeRequest r)).take 8

/-- The 16-byte entry of a request. -/
def Request.entry (r : Request) : Bytes := be 1 r.cls ++ be 1 r.op ++ be 2 r.session ++ be 4 r.seq ++ r.hash

end Sys2Proof

namespace Sys2Proof.Machine

open Sys2Proof

/-! ## Entries and digests (R260) -/

/-- A sealed command's priority class, session and sequence (R39). -/
def SealedCmd.session (c : SealedCmd) : Nat := 0xFFF8 + c.cmd.mailbox

/-- The 16-byte entry of a command: opcode 0x20, the hash over its envelope and arguments. -/
def SealedCmd.entry (c : SealedCmd) : Bytes :=
  be 1 0 ++ be 1 0x20 ++ be 2 c.session ++ be 4 c.count ++
  (sha256 (requestEnvelope c.opcode c.cmd.mailbox 0 c.cmd.sequence c.cmd.args)).take 8

/-- The entry of an item. -/
def Item.entry : Item → Bytes
  | .skp r => r.entry
  | .cmd c => c.entry

/-- The place of an item in sealed order: class, session, sequence (R38). -/
def Item.place : Item → Nat × Nat × Nat
  | .skp r => (r.cls, r.session, r.seq)
  | .cmd c => (0, c.session, c.count)

/-- Lexicographic order of places. -/
def placeLe (a b : Nat × Nat × Nat) : Bool :=
  decide (a.1 < b.1) || (a.1 == b.1 && (decide (a.2.1 < b.2.1) || (a.2.1 == b.2.1 && decide (a.2.2 ≤ b.2.2))))

/-- Insert an item at its place. -/
def insertItem (x : Item) : List Item → List Item
  | [] => [x]
  | y :: ys => if placeLe x.place y.place then x :: y :: ys else y :: insertItem x ys

/-- A list of items in sealed order (R38). -/
def sortItems (l : List Item) : List Item := l.foldr insertItem []

/-- Requests in sealed order. -/
def sortRequests (l : List Request) : List Request :=
  (sortItems (l.map .skp)).filterMap fun x => match x with
    | .skp r => some r
    | .cmd _ => none

/-- The digest of a list of items (R260). -/
def digestItems (l : List Item) : Bytes := sha256 ((sortItems l).flatMap Item.entry)

/-- The digest of a set of requests. -/
def digestSet (l : List Request) : Bytes := digestItems (l.map .skp)

/-! ## Shards (R249) -/

/-- Namespaces of the Chorus with the global number of their first shard. -/
def shardBases : Nat → List ChorusNs → List (Nat × ChorusNs)
  | _, [] => []
  | k, n :: rest => (k, n) :: shardBases (k + n.shards) rest

/-- Total number of shards. -/
def shardTotal (l : List ChorusNs) : Nat := (l.map ChorusNs.shards).sum

/-- The namespace and index of a global shard number. -/
def Chorus.locate (c : Chorus) (num : Nat) : Option (ChorusNs × Nat) :=
  ((shardBases 0 c.nss).find? fun b => decide (b.1 ≤ num) && decide (num < b.1 + b.2.shards)).map fun b => (b.2, num - b.1)

/-- Shards a member holds, by global number. -/
def shardsHeld (nss : List ChorusNs) (members self rf counter gen : Nat) : List Shard :=
  (shardBases 0 nss).flatMap fun b =>
    (List.range b.2.shards).filterMap fun i =>
      if (List.range rf).any fun j => (b.2.ns + i + j) % members == self then
        some { num := b.1 + i, ns := b.2.ns, index := i, counter, gen }
      else none

/-- Lower bound of a shard's key-hash range. -/
def ChorusNs.lo (n : ChorusNs) (index : Nat) : Nat := index * 2 ^ (64 - n.log2)

/-- Upper bound of a shard's key-hash range, 2^64 written as 0. -/
def ChorusNs.hi (n : ChorusNs) (index : Nat) : Nat := (index + 1) * 2 ^ (64 - n.log2) % 2 ^ 64

/-- A key-hash range holds a hash; 0 as the upper bound means 2^64. -/
def inRange (lo hi hash : Nat) : Bool := decide (lo ≤ hash) && (hi == 0 || decide (hash < hi))

/-- Two key-hash ranges overlap. -/
def rangesMeet (lo hi lo' hi' : Nat) : Bool :=
  (hi' == 0 || decide (lo < hi')) && (hi == 0 || decide (lo' < hi))

/-! ## Stanzas (R277, R278, Tables 10.7, 10.8) -/

/-- What the header of a stanza says besides its payload. -/
structure StanzaHead where
  kind : Nat
  checkpoint : Nat
  cut : Nat
  ns : Nat
  typ : Nat
  gen : Nat
  lo : Nat
  hi : Nat
  index : Nat

/-- The header with a CRC field, and the payload. -/
def StanzaHead.bytes (h : StanzaHead) (crc : Nat) (payload : Bytes) : Bytes :=
  be 4 0x445A5354 ++ be 1 1 ++ be 1 h.kind ++ be 2 0 ++ be 8 h.checkpoint ++ be 6 h.cut ++ be 2 0 ++ be 1 h.ns ++
  be 1 h.typ ++ be 2 h.gen ++ be 8 h.lo ++ be 8 h.hi ++ be 4 h.index ++ be 4 payload.length ++ be 4 crc ++ zeros 8 ++ payload

/-- A stanza: the CRC-32C covers the header with the CRC field 0, and the payload. -/
def StanzaHead.stanza (h : StanzaHead) (payload : Bytes) : Bytes := h.bytes (crc32c (h.bytes 0 payload)) payload

/-- A stanza as read: its header and payload; none when it is shorter than it says, or its magic or format differ. -/
def parseStanza (b : Bytes) : Option (StanzaHead × Bytes) :=
  if b.length < 64 ∨ fld b 0 4 ≠ 0x445A5354 ∨ u8 b 4 ≠ 1 ∨ b.length ≠ 64 + fld b 48 4 then none
  else some
    ({ kind := u8 b 5, checkpoint := fld b 8 8, cut := fld b 16 6, ns := u8 b 24, typ := u8 b 25, gen := fld b 26 2
       lo := fld b 28 8, hi := fld b 36 8, index := fld b 44 4 }, b.drop 64)

/-- The CRC of a stanza is right. -/
def stanzaCrcOk (b : Bytes) : Bool := fld b 52 4 == crc32c (b.take 52 ++ zeros 4 ++ b.drop 56)

/-- One record of Table 10.8. -/
def stanzaRecord (e : KeyEnt) (ledger : Bool) (off n : Nat) : Bytes :=
  be 1 e.key.length ++ be 1 (b2n (decide (off + n < e.value.length))) ++ be 2 0 ++ be 4 e.value.length ++ be 8 e.version ++
  be 6 (if ledger then e.adm else 0) ++ be 2 0 ++ be 4 off ++ be 4 n ++ e.key ++ sub e.value off n

/-- RECORDS payloads under construction: the open one and the finished ones, newest first. -/
structure Packing where
  cur : Bytes
  done : List Bytes

/-- Pack a value from offset `off` on (log entry 21): each stanza is filled as far as a record fits. -/
def packValue (room : Nat) (e : KeyEnt) (ledger : Bool) : Nat → Nat → Packing → Packing
  | 0, _, p => p
  | fuel + 1, off, p =>
    let need := 32 + e.key.length + b2n (decide (off < e.value.length))
    if room < p.cur.length + need ∧ !p.cur.isEmpty then packValue room e ledger fuel off ⟨[], p.cur :: p.done⟩
    else
      let n := min (room - p.cur.length - 32 - e.key.length) (e.value.length - off)
      let q : Packing := { p with cur := p.cur ++ stanzaRecord e ledger off n }
      if off + n < e.value.length then packValue room e ledger fuel (off + n) q else q

/-- Keys in ascending key hash, then ascending key. -/
def hashBefore (ns : Nat) (a b : KeyEnt) : Bool :=
  decide (keyHash ns a.key < keyHash ns b.key) || (keyHash ns a.key == keyHash ns b.key && bytesLt a.key b.key)

/-- Insert a key in hash order. -/
def insertHash (ns : Nat) (e : KeyEnt) : List KeyEnt → List KeyEnt
  | [] => [e]
  | x :: xs => if hashBefore ns e x then e :: x :: xs else x :: insertHash ns e xs

/-- The RECORDS payloads of a list of keys. -/
def recordPayloads (room ns : Nat) (ledger : Bool) (keys : List KeyEnt) : List Bytes :=
  let p := (keys.foldr (insertHash ns) []).foldl (fun p e => packValue room e ledger (2 * e.value.length + 2) 0 p) ⟨[], []⟩
  (if p.cur.isEmpty then p.done else p.cur :: p.done).reverse

/-- The stanzas of a shard of a snapshot, in index order (R278). -/
def Snapshot.stanzas (sn : Snapshot) (n : Namespace) (cn : ChorusNs) (h : Shard) : List Bytes :=
  let ledger := n.typ = .ledger
  let keys := cn.keysOf h.index n.keys
  let recs := recordPayloads (sn.size - 64) n.id ledger keys
  let head := if ledger then [(4, signHead sn.key (ledgerHead n n.record n.head n.oldest))] else []
  let body := head ++ recs.map fun p => (2, p)
  let end_ := be 8 keys.length ++ be 4 (body.length + 1) ++ be 4 0 ++ be 8 h.counter ++ sha256 recs.flatten
  (body ++ [(3, end_)]).zipIdx.map fun x =>
    StanzaHead.stanza
      { kind := x.1.1, checkpoint := sn.id, cut := sn.cut, ns := n.id, typ := n.typ.num, gen := h.gen, lo := cn.lo h.index
        hi := cn.hi h.index, index := x.2 } x.1.2

/-- The exporter of a shard (R273): the first holder in holder order that was counted, 0xFF for MISSING. -/
def Chorus.exporter (c : Chorus) (counted : List Nat) (ns index : Nat) : Nat :=
  ((c.holders ns index).find? fun k => counted.contains k).getD 0xFF

/-- The manifest's payload (R279). -/
def Chorus.manifest (c : Chorus) (sn : Snapshot) : Bytes :=
  be 8 c.id ++ be 1 c.members ++ be 1 c.rf ++ be 1 sn.length ++ be 1 sn.nss.length ++ be 2 (shardTotal sn.nss) ++ be 2 sn.size ++
  be 2 c.generation ++ zeros 14 ++ sn.chain ++
  (sn.nss.flatMap fun cn =>
    let n := sn.content.find? fun x => x.id == cn.ns
    let l := (n.map fun x => x.typ == .ledger).getD false
    be 1 cn.ns ++ be 1 ((n.map fun x => x.typ.num).getD 0) ++ be 1 cn.log2 ++ be 1 0 ++ be 4 cn.maxKeys ++ be 8 cn.quota ++
    be 8 (if l then (n.map (·.retention)).getD 0 else 0) ++ be 8 (if l then (n.map (·.epoch)).getD 0 else 0)) ++
  ((shardBases 0 sn.nss).flatMap fun b => (List.range b.2.shards).flatMap fun i =>
    be 2 (b.1 + i) ++ be 1 (c.exporter sn.counted b.2.ns i) ++ be 1 0)

/-- The stanzas of the manifest. -/
def Chorus.manifestStanzas (c : Chorus) (sn : Snapshot) : List Bytes :=
  let m := c.manifest sn
  let room := sn.size - 64
  (chunks room ((m.length + room - 1) / room) m).zipIdx.map fun x =>
    StanzaHead.stanza
      { kind := 1, checkpoint := sn.id, cut := sn.cut, ns := 0, typ := 0, gen := c.generation, lo := 0, hi := 0, index := x.2 } x.1

/-- The stanza a READ names: none when this member does not export it (R273, R275). -/
def Chorus.readStanza (c : Chorus) (shard index : Nat) (sn : Snapshot) : Option Bytes :=
  if shard = 0xFFFF then
    if sn.counted.foldl min 8 = c.self then (c.manifestStanzas sn)[index]? else none
  else match c.locate shard with
    | none => none
    | some (cn, i) =>
      if c.exporter sn.counted cn.ns i ≠ c.self then none
      else match sn.content.find? (fun x => x.id == cn.ns), sn.shards.find? fun h => h.num == shard with
        | some n, some h => (sn.stanzas n cn h)[index]?
        | _, _ => none

/-- Take a snapshot of the shards that this member holds (R271, R273). -/
def Store.snapshot (t : Store) (c : Chorus) (id cut size : Nat) (counted : List Nat) : Snapshot where
  id := id
  cut := cut
  size := size
  counted := counted
  content := t.nss.filter fun n => c.nss.any fun k => k.ns == n.id
  shards := c.shards
  chain := ((c.chain.find? fun p => decide (p.1 + 2 ≤ cut)).map (·.2)).getD (zeros 32)
  nss := c.nss
  length := t.length
  key := t.ledgerKey

/-! ## Loading (R281) -/

/-- A record as read from a payload, and its fragment. -/
structure LoadRec where
  key : Bytes
  more : Bool
  total : Nat
  version : Nat
  adm : Nat
  off : Nat
  data : Bytes

/-- The records of a RECORDS payload; none when they do not fill it. -/
def parseRecords : Nat → Bytes → Option (List LoadRec)
  | 0, b => if b.isEmpty then some [] else none
  | fuel + 1, b =>
    let k := u8 b 0
    let n := fld b 28 4
    if b.isEmpty then some []
    else if b.length < 32 ∨ b.length < 32 + k + n then none
    else (parseRecords fuel (b.drop (32 + k + n))).map fun l =>
      { key := sub b 32 k, more := bit (u8 b 1) 0, total := fld b 4 4, version := fld b 8 8, adm := fld b 16 6
        off := fld b 24 4, data := sub b (32 + k) n } :: l

/-- A record meets Table 10.8 and stands where R278 puts it: a key of the shard, after the one before it in ascending key hash and
key, or the next fragment of the value that is being put together; MORE while the value is not whole. -/
def LoadShard.admits (l : LoadShard) (ledger : Bool) (r : LoadRec) : Bool :=
  let h := keyHash l.ns r.key
  decide (1 ≤ r.key.length) && decide (r.key.length ≤ 240) && inRange l.lo l.hi h && decide (r.total ≤ 64 * 2 ^ 20) &&
  (ledger || r.adm == 0) && r.more == decide (r.off + r.data.length < r.total) && decide (r.off + r.data.length ≤ r.total) &&
  match l.part with
  | some e => e.key == r.key && e.version == r.version && e.adm == r.adm && r.off == e.value.length
  | none =>
    r.off == 0 && (l.last.isEmpty || decide (keyHash l.ns l.last < h) || (keyHash l.ns l.last == h && bytesLt l.last r.key))

/-- Add a record's fragment to the value that is being put together. -/
def LoadShard.take (l : LoadShard) (r : LoadRec) : KeyEnt :=
  match l.part with
  | some e => { e with value := e.value ++ r.data }
  | none => { key := r.key, value := r.data, version := r.version, adm := r.adm, sha384 := [], extent := 0 }

/-- Put a loaded key into the store, with the version it carries. -/
def Store.putLoaded (t : Store) (ns : Nat) (e : KeyEnt) : Store :=
  { t.modNs ns fun n => { n with keys := putEnt { e with extent := t.nextExtent } n.keys } with
    nextExtent := (t.nextExtent + 1) % 2 ^ 40 }

/-- Count a record that no shard held here takes (R281). -/
def Store.countDiscarded (t : Store) : Store :=
  { t with chorus := t.chorus.map fun c => { c with restore := c.restore.map fun v => { v with discarded := v.discarded + 1 } } }

/-- Load one record: RANGE when it breaks Table 10.8 or R278, NO_SPACE when a kept one breaks R252. It is kept when its key lies in
a shard held, and discarded and counted otherwise. -/
def loadRecord (t : Store) (l : LoadShard) (ledger : Bool) (r : LoadRec) : Except Status (Store × LoadShard) :=
  let e := l.take r
  let l0 := { l with last := r.key, keys := l.keys + b2n l.part.isNone }
  if !l.admits ledger r then .error .range
  else if r.more then .ok (t, { l0 with part := some e })
  else
    let l1 := { l0 with part := none }
    match if t.holds l.ns e.key then t.ns l.ns else none with
    | none => .ok (t.countDiscarded, l1)
    | some n =>
      let old := n.find e.key
      let freed := (old.map fun x => charge x.value.length).getD 0
      if t.roomFor n e.key (charge e.value.length) freed (b2n old.isNone) then
        .ok (t.putLoaded l.ns e, { l1 with kept := e.key :: l1.kept })
      else .error .noSpace

/-- Load the records of a payload. -/
def loadRecords (ledger : Bool) : List LoadRec → Store → LoadShard → Except Status (Store × LoadShard)
  | [], t, l => .ok (t, l)
  | r :: rest, t, l => match loadRecord t l ledger r with
    | .error e => .error e
    | .ok (t1, l1) => loadRecords ledger rest t1 l1

/-- Remove every key kept from a source shard (R281). -/
def Store.unload (t : Store) (l : LoadShard) : Store :=
  t.modNs l.ns fun n => { n with keys := n.keys.filter fun e => !l.kept.contains e.key }

/-- Progress of a source shard that starts at index 0. -/
def LoadShard.start (shard : Nat) (h : StanzaHead) : LoadShard where
  shard := shard
  ns := h.ns
  lo := h.lo
  hi := h.hi
  next := 0
  folded := []
  kept := []
  part := none
  last := []
  keys := 0
  ended := false
  counter := 0
  lastRecord := 0

/-- A stanza stands where R278 puts it: the LEDGER_HEAD first, for a ledger alone, RECORDS after it, and a SHARD_END whose fields
agree with what came before. -/
def LoadShard.inPlace (l : LoadShard) (h : StanzaHead) (payload : Bytes) : Bool :=
  let ledger := h.typ == 2
  (h.kind == 4) == (ledger && l.next == 0) &&
  (h.kind != 4 || payload.length == 128) &&
  (h.kind != 3 || (payload.length == 56 && l.part.isNone && fld payload 0 8 == l.keys && fld payload 8 4 == l.next + 1))

/-- Take one checked stanza of a source shard into the store: its new progress, or the refusal: RANGE for a stanza that breaks its
format (R20, R278), and steps 3 and 4 of R281. -/
def loadStanza (t : Store) (l : LoadShard) (h : StanzaHead) (payload : Bytes) : Except Status (Store × LoadShard) :=
  let l1 := { l with next := l.next + 1 }
  if !l.inPlace h payload then .error .range
  else if h.kind = 4 then
    .ok (t.modNs l.ns fun n =>
        { n with record := fld payload 16 8, head := sub payload 24 32, oldest := fld payload 56 8 },
      { l1 with lastRecord := fld payload 16 8 })
  else if h.kind = 2 then
    match parseRecords payload.length payload with
    | none => .error .range
    | some rs => loadRecords (h.typ == 2) rs t { l1 with folded := l1.folded ++ payload }
  else .ok (t, { l1 with ended := true, counter := fld payload 16 8 })

/-- A SHARD_END whose digest differs from the records loaded. -/
def endMismatch (l : LoadShard) (h : StanzaHead) (payload : Bytes) : Bool :=
  h.kind == 3 && l.inPlace h payload && sub payload 24 32 != sha256 l.folded

/-! ## The manifest of a restore -/

/-- Length of a manifest payload by its own counts, once the fixed part is there. -/
def manifestLength (m : Bytes) : Nat := 64 + 32 * u8 m 11 + 4 * fld m 12 2

/-- The manifest payload is complete. -/
def manifestDone (m : Bytes) : Bool := decide (64 ≤ m.length) && decide (manifestLength m ≤ m.length)

/-- A complete manifest ends where its counts say. -/
def manifestExact (m : Bytes) : Bool := m.length == manifestLength m

/-- The namespace entries of a manifest. -/
def manifestNs (m : Bytes) : List Bytes := (List.range (u8 m 11)).map fun i => sub m (64 + 32 * i) 32

/-- The namespaces of the manifest exist on the drive and agree with it (R280): its type, and for a ledger EPOCH and RETENTION. -/
def Store.fitsManifest (t : Store) (m : Bytes) : Bool :=
  (manifestNs m).all fun e =>
    match t.ns (u8 e 0) with
    | none => false
    | some n => n.typ.num == u8 e 1 && (n.typ != .ledger || (n.retention == fld e 16 8 && n.epoch == fld e 24 8))

/-- Source shards of a manifest: number, namespace, and range. -/
def manifestShards (m : Bytes) : List (Nat × Nat × Nat × Nat) :=
  let nss : List ChorusNs := (manifestNs m).map fun e => { ns := u8 e 0, log2 := u8 e 2, maxKeys := fld e 4 4, quota := fld e 8 8 }
  (shardBases 0 nss).flatMap fun b => (List.range b.2.shards).map fun i => (b.1 + i, b.2.ns, b.2.lo i, b.2.hi i)

end Sys2Proof.Machine
end

