-- ==== Sys2Proof/Machine/Namespaces.lean ====
section
/-! DEFINITION. The NAMESPACE commands (Table 15.6; R166 to R169, R176 to R181, R380 to R387). -/

namespace Sys2Proof.Machine

open Sys2Proof

/-- A verdict as a refusal (R132 step 3, R242). -/
def Verdict.refusal : Verdict → Option Status
  | .permitted => none
  | .denied => some .denied
  | .offline => some .unitOffline

/-- The footprint of a command on the namespace of byte 0 (R46). -/
def firstNs (b : Bytes) (_ : Store) : List Touch := [onAll (u8 b 0)]

/-- The leading check of R380 that the arguments alone decide: namespace 0. -/
def nsZero (b : Bytes) : Option Status := if u8 b 0 = 0 then some .denied else none

/-- Checks of R380 on a namespace: `local_` when a Chorus namespace is DENIED, `need` when another type is RANGE. -/
def State.nsArg (s : State) (id : Nat) (local_ : Bool) (need : Option NsType) : Except Status Namespace :=
  if id = 0 then .error .denied else
  match s.store.ns id with
  | none => .error .notFound
  | some n =>
    if local_ ∧ (s.store.chorusNs id).isSome then .error .denied
    else if need.isSome ∧ need ≠ some n.typ then .error .range
    else .ok n

/-- Run `f` on the namespace of byte 0 once R380 has passed. -/
def onNs (c : SealedCmd) (s : State) (local_ : Bool) (need : Option NsType) (f : Namespace → Res) : Res :=
  match s.nsArg (u8 c.cmd.args 0) local_ need with
  | .ok n => f n
  | .error e => refuse s e

/-- COMMITTED and LIMIT (R381). -/
def Store.accounting (t : Store) (typ : NsType) : Bytes := be 8 t.committed ++ be 8 (t.limit typ)

/-! ## CREATE, DELETE, SET_QUOTA -/

/-- RETENTION's range (R166). -/
def retentionOk (r : Nat) : Bool := decide (1 ≤ r ∧ r ≤ 2 ^ 47)

/-- CREATE's checks that its arguments decide (R381, R166). -/
def createPre (b : Bytes) : Option Status :=
  match NsType.ofNum (u8 b 1) with
  | none => some .range
  | some typ =>
    if u8 b 0 = 0 ∨ (fld b 4 8 ≠ 0 ∧ fld b 4 8 < fld b 12 8) ∨ (typ = .ledger ∧ !retentionOk (fld b 20 8)) then some .range
    else none

/-- Insert a namespace in ascending id order. -/
def insertNs (n : Namespace) : List Namespace → List Namespace
  | [] => [n]
  | x :: xs => if n.id < x.id then n :: x :: xs else x :: insertNs n xs

/-- NAMESPACE.CREATE at its sealed place (R166). -/
def nsCreate (c : SealedCmd) (s : State) : Res :=
  let b := c.cmd.args
  let typ := (NsType.ofNum (u8 b 1)).getD .ordinary
  let guarantee := fld b 12 8
  let ledger := typ = .ledger
  let epoch := if ledger then fld b 28 8 else 0
  if (s.store.ns (u8 b 0)).isSome then refuse s .busy
  else if guarantee ≠ 0 ∧ s.store.limit typ < s.store.committed + guarantee then refuse s .noSpace
  else
    let n : Namespace :=
      { id := u8 b 0, typ, quota := fld b 4 8, guarantee, retention := if ledger then fld b 20 8 else 0, epoch, keys := []
        record := 0, head := if ledger then genesis (u8 b 0) epoch else [], oldest := 0 }
    let s1 := s.modStore fun t => { t with nss := insertNs n t.nss }
    okay s1 (s1.store.accounting typ)

/-- NAMESPACE.CREATE. -/
def cmdNamespaceCreate : CmdDef := { CmdDef.base 0x0401 .sealedNow .mgmt (· == 36) nsCreate with pre := fun _ => createPre, touches := firstNs }

/-- Removal of a namespace after its R380 checks (R168, R382). -/
def nsDelete (n : Namespace) (m : Nat) (s : State) : Res :=
  if n.unexpired m || s.store.anyHeld n.id then refuse s .sealed
  else okay (s.removeNs n.id m) (be 8 n.keys.length ++ be 8 (s.store.use n))

/-- NAMESPACE.DELETE. -/
def cmdNamespaceDelete : CmdDef :=
  { CmdDef.base 0x0402 .sealedNow .mgmt (· == 4) (fun c s => onNs c s true none fun n => nsDelete n c.adm s) with
    pre := fun _ => nsZero, touches := firstNs }

/-- A change of QUOTA and GUARANTEE after the namespace's checks (R167). -/
def setQuota (n : Namespace) (quota guarantee : Nat) (s : State) : Res :=
  if quota ≠ 0 ∧ quota < guarantee then refuse s .range
  else
    let u := s.store.use n
    let old := commitment u n.guarantee
    let new := commitment u guarantee
    if old < new ∧ s.store.limit n.typ < s.store.committed - old + new then refuse s .noSpace
    else
      let s1 := s.modStore fun t => t.modNs n.id fun m => { m with quota, guarantee }
      okay s1 (s1.store.accounting n.typ)

/-- NAMESPACE.SET_QUOTA. -/
def cmdNamespaceSetQuota : CmdDef :=
  { CmdDef.base 0x0403 .sealedNow .mgmt (· == 20) (fun c s =>
      onNs c s true none fun n => setQuota n (fld c.cmd.args 4 8) (fld c.cmd.args 12 8) s) with
    pre := fun _ => nsZero, touches := firstNs }

/-! ## INFO, LIST -/

/-- NAMESPACE.INFO's result (R383). -/
def State.nsInfo (s : State) (n : Namespace) : Bytes :=
  let t := s.store
  be 1 n.id ++ be 1 n.typ.num ++ be 1 (b2n (t.chorusNs n.id).isSome + 2 * b2n (t.anyHeld n.id)) ++ zeros 5 ++
  be 8 n.quota ++ be 8 n.guarantee ++ be 8 (t.use n) ++ be 8 (t.keyCount n) ++
  be 8 ((t.domainCounters n.id).foldl max 0) ++ be 8 n.retention ++ be 8 n.epoch ++ be 8 n.oldest ++ be 8 n.record

/-- NAMESPACE.INFO. -/
def cmdNamespaceInfo : CmdDef :=
  { CmdDef.base 0x0404 .immediate .rt (· == 4) (fun c s => onNs c s false none fun n => okay s (s.nsInfo n)) with
    pre := fun _ => nsZero }

/-- A namespace exists; namespace 0 always does. -/
def Store.nsExists (t : Store) (id : Nat) : Bool := id == 0 || (t.ns id).isSome

/-- NAMESPACE.LIST's bitmap: bit j of byte k for namespace 8k + j. -/
def Store.nsBitmap (t : Store) : Bytes :=
  (List.range 32).map fun k =>
    BitVec.ofNat 8 ((List.range 8).map fun j => if t.nsExists (8 * k + j) then 2 ^ j else 0).sum

/-- NAMESPACE.LIST. -/
def cmdNamespaceList : CmdDef := .base 0x0405 .immediate .rt (· == 0) fun _ s => okay s s.store.nsBitmap

/-! ## DIGEST (R169, R384) -/

/-- A key's part of the namespace digest. -/
def KeyEnt.digestPart (e : KeyEnt) : Bytes :=
  be 1 e.key.length ++ e.key ++ be 8 e.version ++ be 4 e.value.length ++ sha256 e.value

/-- The whole-namespace digest of R169. -/
def Store.nsDigest (t : Store) (n : Namespace) : Bytes :=
  sha256 (be 1 n.id ++ be 1 n.typ.num ++ (t.domainCounters n.id).flatMap (be 8) ++ n.keys.flatMap KeyEnt.digestPart)

/-- Value bytes of a list of entries. -/
def valueBytes (l : List KeyEnt) : Nat := (l.map fun e => e.value.length).sum

/-- Entries a partial digest covers: at most `keys` of them and `bytes` value bytes. -/
def coverDigest : Nat → Nat → List KeyEnt → List KeyEnt
  | _, _, [] => []
  | 0, _, _ => []
  | keys + 1, bytes, e :: rest =>
    if e.value.length ≤ bytes then e :: coverDigest keys (bytes - e.value.length) rest else []

/-- The keys a digest covers: always at least one when one remains. -/
def digestKeys (max : Nat) (l : List KeyEnt) : List KeyEnt :=
  match l with
  | [] => []
  | e :: rest => e :: coverDigest (max - 1) (256 * 2 ^ 20 - e.value.length) rest

/-- What DIGEST covers: the keys after AFTER, all of them with MAX_KEYS 0; none when the form is refused RANGE. -/
def digestArgs (b : Bytes) (n : Namespace) : Option (Bool × List KeyEnt × List KeyEnt) :=
  let al := u8 b 1
  let maxKeys := fld b 4 4
  if 240 < al ∨ b.length ≠ 8 + al ∨ 262144 < maxKeys ∨ (maxKeys = 0 ∧ al ≠ 0) then none
  else if maxKeys = 0 then
    if 262144 < n.keys.length ∨ 256 * 2 ^ 20 < valueBytes n.keys then none else some (true, n.keys, [])
  else
    let rest := n.keys.filter fun e => al == 0 || bytesLt (b.drop 8) e.key
    let cover := digestKeys maxKeys rest
    some (false, cover, rest.drop cover.length)

/-- NAMESPACE.DIGEST at its sealed place. -/
def nsDigest (c : SealedCmd) (s : State) : Res :=
  onNs c s false none fun n =>
    match digestArgs c.cmd.args n with
    | none => refuse s .range
    | some (whole, cover, more) =>
      if s.noRank || s.pageLost 2 n.id || cover.any s.valueLost then refuse s .unitOffline
      else
        let d := if whole then s.store.nsDigest n else sha256 (cover.flatMap KeyEnt.digestPart)
        let last := ((cover.getLast?).map (·.key)).getD []
        okay s (d ++ be 4 cover.length ++ be 1 (b2n !more.isEmpty) ++ be 1 last.length ++ be 2 0 ++ last)

/-- Measures that `n` bytes take at one read slice a measure. -/
def State.readSlices (s : State) (n : Nat) : Nat :=
  let slice := readSliceOf s.store.length
  max 1 ((n + slice - 1) / slice)

/-- NAMESPACE.DIGEST. -/
def cmdNamespaceDigest : CmdDef :=
  { CmdDef.base 0x0406 .sliced .rt (fun n => 8 ≤ n && n ≤ 248) nsDigest with
    pre := fun _ => nsZero, touches := firstNs
    slices := fun c s =>
      match s.nsArg (u8 c.cmd.args 0) false none with
      | .ok n => match digestArgs c.cmd.args n with
        | some (_, cover, _) => s.readSlices (valueBytes cover)
        | none => 1
      | .error _ => 1 }

/-! ## Ledgers (R176 to R178, R385, R386) -/

/-- NAMESPACE.LEDGER_HEAD. -/
def cmdNamespaceLedgerHead : CmdDef :=
  { CmdDef.base 0x0407 .sealedNow .rt (· == 4) (fun c s => onNs c s false (some .ledger) fun n =>
      if s.noRank then refuse s .unitOffline
      else if s.store.ledgerKey.isNone then refuse s .notFound
      else okay s (signHead s.store.ledgerKey (ledgerHead n n.record n.head n.oldest))) with
    pre := fun _ => nsZero, touches := firstNs }

/-- Trimming a ledger up to record `r` in measure `m` (R177). -/
def ledgerTrim (n : Namespace) (r m : Nat) (s : State) : Res :=
  let gone := n.keys.filter fun e => decide (fld e.key 0 8 ≤ r)
  if n.record < r then refuse s .notFound
  else if gone.any fun e => !e.expired n.retention m then refuse s .sealed
  else
    let oldest := if n.oldest = 0 ∨ r < n.oldest then n.oldest else r + 1
    okay (s.modStore fun t => t.modNs n.id fun x =>
        { x with keys := x.keys.filter fun e => decide (r < fld e.key 0 8), oldest })
      (be 8 oldest ++ be 8 gone.length)

/-- NAMESPACE.LEDGER_TRIM. -/
def cmdNamespaceLedgerTrim : CmdDef :=
  { CmdDef.base 0x0408 .sealedNow .mgmt (· == 12) (fun c s =>
      onNs c s true (some .ledger) fun n => ledgerTrim n (fld c.cmd.args 4 8) c.adm s) with
    pre := fun _ => nsZero, touches := firstNs }

/-- A new RETENTION, never lower (R177). -/
def setRetention (n : Namespace) (r : Nat) (s : State) : Res :=
  if !retentionOk r || decide (r < n.retention) then refuse s .range
  else okay (s.modStore fun t => t.modNs n.id fun x => { x with retention := r }) (be 8 n.retention)

/-- NAMESPACE.SET_RETENTION. -/
def cmdNamespaceSetRetention : CmdDef :=
  { CmdDef.base 0x0409 .sealedNow .mgmt (· == 12) (fun c s =>
      onNs c s true (some .ledger) fun n => setRetention n (fld c.cmd.args 4 8) s) with
    pre := fun _ => nsZero, touches := firstNs }

/-- Records FIRST to LAST of a ledger. -/
def Namespace.recordsIn (n : Namespace) (first last : Nat) : List KeyEnt :=
  n.keys.filter fun e => decide (first ≤ fld e.key 0 8) && decide (fld e.key 0 8 ≤ last)

/-- The export image of Table 7.7. -/
def exportImage (key : Option Nat) (n : Namespace) (first last : Nat) (recs : List KeyEnt) : Bytes :=
  let lastHash := ((recs.getLast?).map fun e => sha256 e.value).getD []
  be 4 0x445A4C58 ++ be 1 1 ++ be 1 n.id ++ be 2 0 ++ be 8 first ++ be 8 last ++
  ((recs.head?).map fun e => sub e.value 16 32).getD (zeros 32) ++ zeros 8 ++
  signHead key (ledgerHead n last lastHash n.oldest) ++ recs.flatMap fun e => be 4 e.value.length ++ e.value

/-- Bytes of the export image. -/
def imageLength (recs : List KeyEnt) : Nat := 192 + (recs.map fun e => 4 + e.value.length).sum

/-- NAMESPACE.LEDGER_EXPORT at its sealed place (R178, R386). -/
def ledgerExport (c : SealedCmd) (s : State) : Res :=
  let b := c.cmd.args
  let m := c.adm
  onNs c s false (some .ledger) fun n =>
    match s.nsArg (u8 b 1) false (some .ordinary) with
    | .error e => refuse s e
    | .ok target =>
      let first := fld b 4 8
      let last := fld b 12 8
      let key := b.drop 20
      if u8 b 2 = 0 ∨ 240 < u8 b 2 ∨ b.length ≠ 20 + u8 b 2 ∨ first = 0 ∨ last < first then refuse s .range
      else if s.store.ledgerKey.isNone ∨ !s.store.holds n.id (be 8 first) ∨ n.oldest = 0 ∨ first < n.oldest ∨
          n.record < last then refuse s .notFound
      else
        let (s1, all) := s.checkAll none m .read n.id []
        match all.refusal with
        | some e => refuse s1 e
        | none =>
          let recs := n.recordsIn first last
          let size := imageLength recs
          let old := target.find key
          let freed := (old.map fun e => charge e.value.length).getD 0
          if (s.store.chorusNs target.id).isSome then refuse s1 .denied
          else if 64 * 2 ^ 20 < size then refuse s1 .range
          else
            let (s2, one) := s1.checkKey none m .write target.id key
            match one.refusal with
            | some e => refuse s2 e
            | none =>
              if !s.store.roomFor target key (charge size) freed (b2n old.isNone) then refuse s2 .noSpace
              else if s.noRank || recs.any s.valueLost then refuse s2 .unitOffline
              else
                let (v, s3) := s2.putValue target key (exportImage s.store.ledgerKey n first last recs) m
                okay s3 (be 8 v ++ be 4 size ++ be 4 0)

/-- NAMESPACE.LEDGER_EXPORT: one read slice a measure. -/
def cmdNamespaceLedgerExport : CmdDef :=
  { CmdDef.base 0x040A .sliced .mgmt (fun n => 21 ≤ n && n ≤ 260) ledgerExport with
    pre := fun _ => nsZero
    slices := fun c s => match s.store.ns (u8 c.cmd.args 0) with
      | some n => s.readSlices (imageLength (n.recordsIn (fld c.cmd.args 4 8) (fld c.cmd.args 12 8)))
      | none => 1
    holds := fun b => [onKey (u8 b 1) (b.drop 20)]
    touches := fun b _ => [onAll (u8 b 0), onKey (u8 b 1) (b.drop 20)] }

/-! ## VALUE_DIGEST (R180, R387) -/

/-- NAMESPACE.VALUE_DIGEST at its sealed place. -/
def valueDigest (c : SealedCmd) (s : State) : Res :=
  let b := c.cmd.args
  onNs c s false (some .staging) fun n =>
    let key := b.drop 4
    if s.noRank then refuse s .unitOffline
    else if u8 b 1 = 0 ∨ 240 < u8 b 1 ∨ b.length ≠ 4 + u8 b 1 then refuse s .range
    else
      let (s1, v) := s.checkKey none c.adm .read n.id key
      match v.refusal with
      | some e => refuse s1 e
      | none => match n.find key with
        | none => refuse s1 .notFound
        | some e => if s.pageLost 3 e.extent then refuse s1 .unitOffline else okay s1 (be 8 e.version ++ e.sha384)

/-- NAMESPACE.VALUE_DIGEST. -/
def cmdNamespaceValueDigest : CmdDef :=
  { CmdDef.base 0x040B .sealedNow .rt (fun n => 5 ≤ n && n ≤ 244) valueDigest with
    pre := fun _ => nsZero, touches := fun b _ => [onKey (u8 b 0) (b.drop 4)] }

/-! ## Meanings -/

/-- NAMESPACE.CREATE (R166, R381). -/
def execNamespaceCreate (c : Cmd) (s : State) : Out := .next (cmdNamespaceCreate.run c s)
/-- NAMESPACE.DELETE (R168, R382). -/
def execNamespaceDelete (c : Cmd) (s : State) : Out := .next (cmdNamespaceDelete.run c s)
/-- NAMESPACE.SET_QUOTA (R167). -/
def execNamespaceSetQuota (c : Cmd) (s : State) : Out := .next (cmdNamespaceSetQuota.run c s)
/-- NAMESPACE.INFO (R383). -/
def execNamespaceInfo (c : Cmd) (s : State) : Out := .next (cmdNamespaceInfo.run c s)
/-- NAMESPACE.LIST (R383). -/
def execNamespaceList (c : Cmd) (s : State) : Out := .next (cmdNamespaceList.run c s)
/-- NAMESPACE.DIGEST (R169, R384). -/
def execNamespaceDigest (c : Cmd) (s : State) : Out := .next (cmdNamespaceDigest.run c s)
/-- NAMESPACE.LEDGER_HEAD (R176). -/
def execNamespaceLedgerHead (c : Cmd) (s : State) : Out := .next (cmdNamespaceLedgerHead.run c s)
/-- NAMESPACE.LEDGER_TRIM (R177, R385). -/
def execNamespaceLedgerTrim (c : Cmd) (s : State) : Out := .next (cmdNamespaceLedgerTrim.run c s)
/-- NAMESPACE.SET_RETENTION (R177, R385). -/
def execNamespaceSetRetention (c : Cmd) (s : State) : Out := .next (cmdNamespaceSetRetention.run c s)
/-- NAMESPACE.LEDGER_EXPORT (R178, R386). -/
def execNamespaceLedgerExport (c : Cmd) (s : State) : Out := .next (cmdNamespaceLedgerExport.run c s)
/-- NAMESPACE.VALUE_DIGEST (R180, R387). -/
def execNamespaceValueDigest (c : Cmd) (s : State) : Out := .next (cmdNamespaceValueDigest.run c s)

end Sys2Proof.Machine
end

