-- ==== Sys2Proof/Machine/Larkspur.lean ====
section
/-! DEFINITION. Changing Larkspur's tables and patterns, scrub and bank states, the cascade, and the SEARCH commands
(R218 to R247; Tables 9.3 to 9.8, 15.7; R388, R389). -/

namespace Sys2Proof.Machine

open Sys2Proof

/-! ## Slots of a table -/

/-- The slots of a table: its pairs ascending, `w` units each. -/
structure Slots where
  pairs : List Nat
  w : Nat

/-- Slots of a table under an assignment. -/
def Tables.slots (t : Tables) (tb : Table) : Slots := ⟨t.pairsOf tb, (t.shape tb).width⟩

/-- Slots of a pair. -/
def Slots.per (l : Slots) : Nat := 8192 / l.w

/-- Number of slots. -/
def Slots.count (l : Slots) : Nat := l.pairs.length * l.per

/-- Table address of a slot (R218). -/
def Slots.addr (l : Slots) (i : Nat) : Nat := ((l.pairs[i / l.per]?).getD 0) * 8192 + i % l.per * l.w

/-- Slot of a table address. -/
def Slots.index (l : Slots) (addr : Nat) : Nat := (l.pairs.idxOf (addr / 8192)) * l.per + addr % 8192 / l.w

/-- Insert an entry by ascending table address. -/
def putEntry (e : Entry) : List Entry → List Entry
  | [] => [e]
  | x :: xs => if e.addr < x.addr then e :: x :: xs else x :: putEntry e xs

/-- The nearest free slot below `k`. -/
def holeBelow (used : List Nat) : Nat → Option Nat
  | 0 => none
  | k + 1 => if used.contains k then holeBelow used k else some k

/-- The nearest free slot at or above `k`, within `n` slots. -/
def holeAbove (used : List Nat) : Nat → Nat → Option Nat
  | 0, _ => none
  | n + 1, k => if used.contains k then holeAbove used n (k + 1) else some k

/-- Shift the entries at slots [lo, hi] by one slot up or down (R231). -/
def shiftSlots (l : Slots) (lo hi : Nat) (up : Bool) (es : List Entry) : List Entry :=
  es.map fun e =>
    let i := l.index e.addr
    if lo ≤ i ∧ i ≤ hi then { e with addr := l.addr (if up then i + 1 else i - 1) } else e

/-- Insert an entry of an address-ordered table before slot `k` (R231): into the slot before it, or after a shift towards
the nearest hole; when the table is full, at slot 0 (the command is then refused BUSY). -/
def insertAt (l : Slots) (k : Nat) (e : Entry) (es : List Entry) : List Entry :=
  let used := es.map fun x => l.index x.addr
  let put := fun (i : Nat) (xs : List Entry) => putEntry { e with addr := l.addr i } xs
  if k < l.count ∧ !used.contains k then put k es
  else if 0 < k ∧ !used.contains (k - 1) then put (k - 1) es
  else
    match holeBelow used k, holeAbove used (l.count - k) k with
    | some a, some b =>
      if k - a ≤ b - k then put (k - 1) (shiftSlots l (a + 1) (k - 1) false es) else put k (shiftSlots l k (b - 1) true es)
    | some a, none => put (k - 1) (shiftSlots l (a + 1) (k - 1) false es)
    | none, some b => put k (shiftSlots l k (b - 1) true es)
    | none, none => put 0 es

/-- Insert an entry of an explicit-priority table into the n-th free slot of the drive's choosing (R218; log entry 9). -/
def insertFree (l : Slots) (choice : Nat) (e : Entry) (es : List Entry) : List Entry :=
  let used := es.map fun x => l.index x.addr
  let free := (List.range l.count).filter fun i => !used.contains i
  putEntry { e with addr := l.addr ((free[choice % free.length]?).getD 0) } es

/-! ## Generations of a cascaded table (R246) -/

/-- Entries of one generation of a cascaded table. -/
def Tables.generation (t : Tables) (tb : Table) (g : Bool) : List Entry :=
  (t.entries tb).filter fun e => e.gen tb (t.shape tb).width == g

/-- Add copies of a list of entries, in order, in generation `g`. -/
def Tables.copyInto (t : Tables) (tb : Table) (choice : Nat) (g : Bool) (src keep : List Entry) : Tables :=
  let p := t.shape tb
  let l := t.slots tb
  t.setEntries tb (src.foldl (fun es e =>
    let x := e.inGen tb p.width g
    if p.ordered then insertAt l (((es.getLast?).map fun y => l.index y.addr + 1).getD 0) x es
    else insertFree l (choice + es.length) x es) keep)

/-- The copy that follows the first switch: the new generation is the active one, and the old one becomes a copy of it. The slots
it takes are a choice by the switch measure, so they do not hang on when it is made (R14). -/
def Tables.copyGeneration (t : Tables) : Tables :=
  match t.cascade with
  | none => t
  | some c => match c.switches with
    | [] => t
    | e :: rest =>
      let new := t.generation c.table (!c.gen)
      { t.copyInto c.table (Config.placement e) c.gen new new with cascade := some { c with gen := !c.gen, switches := rest } }

/-- Switches that measure `m` has reached. -/
def Tables.switched (t : Tables) (m : Nat) : Nat := ((t.cascade.map fun c => (c.switches.filter fun e => decide (e ≤ m)).length)).getD 0

/-- The tables as a change in measure `m` finds them: the copies of all switches up to there are made, so that no result hangs on
when the background makes them (R14; log entry 140). -/
def Tables.settled (t : Tables) (m : Nat) : Tables := (List.range (t.switched m)).foldl (fun u _ => u.copyGeneration) t

/-! ## ENTRY_WRITE (R220, R227) -/

/-- One record of Table 9.4. -/
structure EntryRec where
  tag : Nat
  replace : Bool
  stage : Bool
  place : Nat
  value : Nat
  care : Nat

/-- Record `i` at width `w`; value bits under a care bit of 0 are 0. -/
def entryRec (b : Bytes) (w i : Nat) : EntryRec :=
  let o := 4 + i * (8 + 32 * w)
  let f := u8 b (o + 3)
  let care := fld b (o + 8 + 16 * w) (16 * w)
  { tag := fld b o 3 % 2 ^ 20, replace := bit f 0, stage := bit f 1, place := fld b (o + 4) 4
    value := fld b (o + 8) (16 * w) &&& care, care }

/-- Most records of a command. -/
def entryMax (w : Nat) : Nat := 12 / w

/-- Two entries overlap (R220). -/
def Entry.clashes (a b : Entry) : Bool := (a.value ^^^ b.value) &&& a.care &&& b.care == 0

/-- A table while the records of a command are applied, and which checks of R227 have failed. -/
structure Trial where
  es : List Entry
  exists_ : Bool
  absent : Bool
  clash : Bool
  tooMany : Bool

/-- Apply one record (R227): `mine` tells the entries of the generation that the command changes. -/
def Trial.apply (t : Trial) (l : Slots) (ordered : Bool) (capacity choice : Nat) (mine : Entry → Bool) (stamp : Entry → Entry)
    (r : EntryRec) : Trial :=
  let same := fun (e : Entry) => e.tag == r.tag && mine e
  let found := t.es.any same
  let prio := if ordered then 0 else r.place % 2 ^ 12
  let e := stamp { addr := 0, tag := r.tag, prio, value := r.value, care := r.care }
  if r.replace then
    if found then
      let es := t.es.map fun x => if same x then { e with addr := x.addr } else x
      { t with es, clash := t.clash || (!ordered && es.any fun x => !same x && x.prio == prio && x.clashes e) }
    else { t with absent := true }
  else if found then { t with exists_ := true }
  else
    let place := r.place % 2 ^ 20
    let before := t.es.find? fun x => x.tag == place && mine x
    if ordered ∧ place ≠ 0xFFFFF ∧ before.isNone then { t with absent := true }
    else
      let after := ((t.es.getLast?).map fun x => l.index x.addr + 1).getD 0
      let k := match before with
        | some x => l.index x.addr
        | none => after
      let es := if ordered then insertAt l k e t.es else insertFree l choice e t.es
      { t with
        es
        clash := t.clash || (!ordered && t.es.any fun x => x.prio == prio && x.clashes e)
        tooMany := t.tooMany || decide (capacity < es.length) }

/-- Entries that a change wrote: new, or rewritten, or at another address. -/
def written (old new : List Entry) : List Entry := new.filter fun e => !old.contains e

/-- The result of ENTRY_WRITE and ENTRY_DELETE: table, entries, capacity. -/
def Tables.occupancy (t : Tables) (tb : Table) : Bytes :=
  be 1 tb.num ++ zeros 3 ++ be 4 (t.valid tb) ++ be 4 (t.capacity tb) ++ zeros 4

/-- The generation that staged changes go to: the inactive one (R246). -/
def Cascade.inactive (c : Cascade) (m : Nat) : Bool := !c.genAt m

/-- The entries a change to the table may touch: on a cascaded table those of the inactive generation. -/
def Tables.mine (t : Tables) (tb : Table) (m : Nat) (e : Entry) : Bool :=
  match t.cascade with
  | some c => !t.cascaded tb || e.gen tb (t.shape tb).width == c.inactive m
  | none => true

/-- The form in which a change stores an entry. -/
def Tables.stampFor (t : Tables) (tb : Table) (m : Nat) (e : Entry) : Entry :=
  match t.cascade with
  | some c => if t.cascaded tb then e.inGen tb (t.shape tb).width (c.inactive m) else e
  | none => e

/-- ENTRY_WRITE and ENTRY_DELETE serve PEER and ACL, at least one entry at a time (R389). -/
def entryRange (b : Bytes) : Bool :=
  u8 b 1 == 0 || match Table.ofNum (u8 b 0) with
  | some .peer | some .acl => false
  | _ => true

/-- SEARCH.ENTRY_WRITE at its sealed place (R227, R229, R242, R246). -/
def entryWrite (c : SealedCmd) (s : State) : Res :=
  let b := c.cmd.args
  match Table.ofNum (u8 b 0) with
  | some .peer | some .acl =>
    let tb := (Table.ofNum (u8 b 0)).getD .peer
    let t := s.store.tables.settled c.adm
    let p := t.shape tb
    let n := u8 b 1
    let recs := (List.range n).map (entryRec b p.width)
    let tags := recs.map (·.tag)
    if n = 0 ∨ entryMax p.width < n ∨ b.length ≠ 4 + n * (8 + 32 * p.width) ∨ recs.any (fun r => r.stage != t.cascaded tb) then
      refuse s .range
    else if tags.contains 0xFFFFF ∨ ¬ tags.Nodup then refuse s .range
    else
      let l := t.slots tb
      let step := fun (x : Trial) (ir : Nat × EntryRec) =>
        x.apply l p.ordered (t.capacity tb) (Config.placement (s.store.draws + ir.1)) (t.mine tb c.adm) (t.stampFor tb c.adm) ir.2
      let r := ((List.range n).zip recs).foldl step ⟨t.entries tb, false, false, false, false⟩
      let s1 := s.drawnBy n
      if r.exists_ then refuse s1 .range
      else if r.absent then refuse s1 .notFound
      else if r.clash then refuse s1 .range
      else if r.tooMany then refuse s1 .busy
      else if (written (t.entries tb) r.es).any fun e => s.pairLost (e.addr / 8192) then refuse s1 .unitOffline
      else
        let t1 := t.setEntries tb r.es
        okay (s1.setTables t1) (t1.occupancy tb)
  | _ => refuse s .range

/-- SEARCH.ENTRY_WRITE. -/
def cmdSearchEntryWrite : CmdDef :=
  { CmdDef.base 0x0502 .sealedNow .mgmt (fun n => 4 ≤ n) entryWrite with
    pre := fun _ b => if entryRange b ∨ 12 < u8 b 1 then some .range else none }

/-! ## ENTRY_DELETE (R228, R389) -/

/-- SEARCH.ENTRY_DELETE at its sealed place. -/
def entryDelete (c : SealedCmd) (s : State) : Res :=
  let b := c.cmd.args
  match Table.ofNum (u8 b 0) with
  | some .peer | some .acl =>
    let tb := (Table.ofNum (u8 b 0)).getD .peer
    let t := s.store.tables.settled c.adm
    let n := u8 b 1
    let tags := (List.range n).map fun i => fld b (4 + 4 * i) 4 % 2 ^ 20
    if n = 0 ∨ 64 < n ∨ b.length ≠ 4 + 4 * n ∨ bit (u8 b 2) 0 ≠ t.cascaded tb then refuse s .range
    else if tags.contains 0xFFFFF ∨ ¬ tags.Nodup then refuse s .range
    else if tags.any fun g => !(t.entries tb).any fun e => e.tag == g && t.mine tb c.adm e then refuse s .notFound
    else
      let t1 := t.setEntries tb ((t.entries tb).filter fun e => !(tags.contains e.tag && t.mine tb c.adm e))
      okay (s.setTables t1) (t1.occupancy tb)
  | _ => refuse s .range

/-- SEARCH.ENTRY_DELETE. -/
def cmdSearchEntryDelete : CmdDef :=
  { CmdDef.base 0x0503 .sealedNow .mgmt (fun n => 8 ≤ n && n ≤ 260) entryDelete with
    pre := fun _ b =>
      let tags := (List.range (u8 b 1)).map fun i => fld b (4 + 4 * i) 4 % 2 ^ 20
      if entryRange b ∨ 64 < u8 b 1 ∨ b.length ≠ 4 + 4 * u8 b 1 ∨ tags.contains 0xFFFFF ∨ ¬ tags.Nodup then some .range else none }

/-! ## SET_TABLES (R218, R388) -/

/-- A pair's record: none when a field lies outside its values. -/
def pairRec (b : Bytes) (k : Nat) : Option Pair :=
  match Table.ofNum (u8 b (4 * k)) with
  | none => none
  | some t =>
    let w := u8 b (4 * k + 1)
    let mode := u8 b (4 * k + 2)
    let holes := u8 b (4 * k + 3)
    if (w = 1 ∨ w = 2 ∨ w = 4) ∧ mode ≤ 1 ∧ (holes = 0 ∨ holes = 8 ∨ holes = 16 ∨ holes = 32 ∨ holes = 64) then
      some ⟨t, w, mode == 1, holes⟩
    else none

/-- The rules of R388 on a whole assignment. -/
def pairsOk (ps : List Pair) : Bool :=
  (ps.all fun p => ps.all fun q => p.table == .unassigned || p.table != q.table || p == q) &&
  (ps.all fun p => match p.table with
    | .unassigned => true
    | .peer => p.width != 1 && (p.ordered || p.holes == 0)
    | .acl => p.ordered || p.holes == 0
    | .route => p.width == 1 && !p.ordered && p.holes == 0
    | .automaton => p.width == 1 && p.ordered) &&
  [Table.peer, .acl, .route, .automaton].all fun t => ps.any fun p => p.table == t

/-- A pair holds a valid entry. -/
def Tables.pairUsed (t : Tables) (k : Nat) : Bool :=
  [Table.peer, .acl, .route, .automaton].any fun tb => (t.entries tb).any fun e => e.addr / 8192 == k

/-- SEARCH.SET_TABLES at its sealed place. -/
def setTables (c : SealedCmd) (s : State) : Res :=
  match (List.range 8).mapM (pairRec c.cmd.args) with
  | none => refuse s .range
  | some ps =>
    let t := s.store.tables
    let new : Vector Pair 8 := Vector.ofFn fun k : Fin 8 => (ps[k.val]?).getD (.make .unassigned 1 false 0)
    let changed := (List.finRange 8).filter fun k => t.pairs[k] != new[k]
    if !pairsOk ps then refuse s .range
    else if changed.any fun k => t.pairUsed k || t.cascaded t.pairs[k].table || t.cascaded new[k].table then refuse s .busy
    else
      let t1 := { t with pairs := new }
      okay (s.modStore fun x => { x with tables := t1 })
        (be 4 (t1.capacity .peer) ++ be 4 (t1.capacity .acl) ++ be 4 (t1.capacity .route) ++ be 4 (t1.capacity .automaton))

/-- SEARCH.SET_TABLES. -/
def cmdSearchSetTables : CmdDef :=
  { CmdDef.base 0x0501 .sealedNow .sec (· == 32) setTables with
    pre := fun _ b => if (((List.range 8).mapM (pairRec b)).map pairsOk).getD false then none else some .range }

/-! ## Patterns (R233, R234) -/

/-- A transition record of Table 9.6. -/
def transitionAt (b : Bytes) (i : Nat) : Transition :=
  let o := 64 + 40 * i
  let a := fld b (o + 32) 8
  { addr := 0, tag := 0, state := fld b o 2, value := fld b (o + 4) 14, care := fld b (o + 18) 14
    next := a % 2 ^ 10, consume := a / 2 ^ 10 % 2 ^ 4, verdict := a / 2 ^ 14 % 2 ^ 2 }

/-- A record keeps to Table 9.6 under a header's STRIDE and STATES. -/
def Transition.ok (t : Transition) (stride states : Nat) : Bool :=
  decide (t.state < states) && decide (t.next < states) && decide (1 ≤ t.consume) && decide (t.consume ≤ 8) &&
  decide (t.verdict ≤ 2) && t.care % 2 ^ (64 - 8 * stride) == 0

/-- The pattern of an image, or the refusal of R234: RANGE for the layout, INTEGRITY for the digest. -/
def parsePattern (slot : Nat) (b : Bytes) : Except Status Pattern :=
  let stride := u8 b 5
  let states := fld b 6 2
  let n := fld b 8 4
  let recs := (List.range n).map (transitionAt b)
  if b.length < 64 ∨ fld b 0 4 ≠ 0x444B5041 ∨ u8 b 4 ≠ 1 ∨ stride = 0 ∨ 8 < stride ∨ states = 0 ∨ 1024 < states ∨ n = 0 ∨
      32768 < n ∨ states ≤ fld b 12 2 ∨ b.length ≠ 64 + 40 * n then .error .range
  else if !recs.all fun t => t.ok stride states then .error .range
  else if sub b 32 32 ≠ sha256 (b.drop 64) then .error .integrity
  else .ok { slot, stride, states, start := fld b 12 2, recs }

/-- A pattern's records on consecutive slots from slot `i`, in image order, with these tags. -/
def Pattern.at (p : Pattern) (l : Slots) (i : Nat) (tags : List Nat) : Pattern :=
  { p with recs := (p.recs.zip tags).mapIdx fun j x => { x.1 with addr := l.addr (i + j), tag := x.2 } }

/-- Slots at which a run of `n` free ones starts: slot 0 or the one after an entry. -/
def freeStarts (l : Slots) (used : List Nat) (n : Nat) : List Nat :=
  (0 :: used.map (· + 1)).filter fun i => decide (i + n ≤ l.count) && used.all fun u => decide (u < i) || decide (i + n ≤ u)

/-- The next `n` free indexes of the automaton action memory from `k` on, round its 2^15 places. -/
def freeTags (used : List Nat) : Nat → Nat → Nat → List Nat
  | 0, _, _ => []
  | fuel + 1, n, k =>
    if n = 0 then []
    else if used.contains (k % 2 ^ 15) then freeTags used fuel n (k + 1)
    else k % 2 ^ 15 :: freeTags used fuel (n - 1) (k + 1)

/-- AUTOMATON's slots in use, each with the number of used ones below it. -/
def Tables.autoSlots (t : Tables) : List (Nat × Nat) :=
  let used := (t.entries .automaton).map fun e => (t.slots .automaton).index e.addr
  used.map fun u => (u, (used.filter fun v => decide (v < u)).length)

/-- The entries of AUTOMATON gathered at the front, in their order (R234), and the one-place moves that it takes. -/
def Tables.gathered (t : Tables) : Tables × Nat :=
  let l := t.slots .automaton
  let u := t.autoSlots
  (t.mapAddr .automaton fun a => l.addr ((getKey (l.index a) u).getD 0), (u.map fun x => x.1 - x.2).sum)

/-- The tables with a new pattern placed in a free run of the drive's choosing, or after gathering; with the moves made. Its tags are
free indexes of the drive's choosing (R218, R234; log entry 9). -/
def Tables.placePattern (t : Tables) (choice index : Nat) (p : Pattern) : Tables × Nat :=
  let l := t.slots .automaton
  let old := t.entries .automaton
  let tags := freeTags (old.map (·.tag)) (old.length + p.recs.length) p.recs.length index
  match freeStarts l (t.autoSlots.map (·.1)) p.recs.length with
  | [] => let g := t.gathered; ({ g.1 with patterns := g.1.patterns ++ [p.at l old.length tags] }, g.2)
  | starts => ({ t with patterns := t.patterns ++ [p.at l ((starts[choice % starts.length]?).getD 0) tags] }, 0)

/-- AUTOMATON entries that are free. -/
def Tables.autoFree (t : Tables) : Nat := t.capacity .automaton - t.autoUsed

/-- Layout checks of PATTERN_LOAD that its arguments decide. -/
def patternPre (b : Bytes) : Option Status :=
  if u8 b 0 = 0 ∨ 64 < u8 b 0 ∨ u8 b 2 = 0 ∨ 240 < u8 b 2 ∨ b.length ≠ 4 + u8 b 2 then some .range
  else if u8 b 1 = 0 then some .denied else none

/-- SEARCH.PATTERN_LOAD at its sealed place (R234). -/
def patternLoad (c : SealedCmd) (s : State) : Res :=
  let b := c.cmd.args
  let slot := u8 b 0
  let key := b.drop 4
  match s.store.ns (u8 b 1) with
  | none => refuse s .notFound
  | some n =>
    let (s1, v) := s.checkKey none c.adm .read n.id key
    match v.refusal with
    | some e => refuse s1 e
    | none =>
      if !s.store.holds n.id key then refuse s1 .denied else
      match n.find key with
      | none => refuse s1 .notFound
      | some e =>
        if s.noRank || s.valueLost e then refuse s1 .unitOffline else
        match parsePattern slot e.value with
        | .error st => refuse s1 st
        | .ok p =>
          let t := s.store.tables
          if (t.pattern slot).isSome ∨ t.autoFree < p.recs.length then refuse s1 .busy
          else
            let (t1, moves) := t.placePattern (Config.placement s.store.draws) (Config.placement (s.store.draws + 1)) p
            let s2 := s1.drawnBy 2
            if (written (t.entries .automaton) (t1.entries .automaton)).any fun e => s1.pairLost (e.addr / 8192) then
              refuse s2 .unitOffline
            else okay ((s2.setTables t1).modLks fun a => { a with moves := bump a.moves moves })
              (be 4 p.recs.length ++ be 4 t1.autoFree)

/-- SEARCH.PATTERN_LOAD: how many measures its slices take is open (R234; log entry 20). -/
def cmdSearchPatternLoad : CmdDef :=
  { CmdDef.base 0x0504 .sliced .mgmt (fun n => 5 ≤ n && n ≤ 244) patternLoad with
    pre := fun _ => patternPre
    slices := fun _ s => 1 + Config.placement (s.store.draws + 2)
    holds := fun b => [onSlot (u8 b 0)]
    touches := fun b _ => [onKey (u8 b 1) (b.drop 4), onSlot (u8 b 0)] }

/-- SEARCH.PATTERN_UNLOAD at its sealed place. -/
def patternUnload (c : SealedCmd) (s : State) : Res :=
  let slot := u8 c.cmd.args 0
  let t := s.store.tables
  match t.pattern slot with
  | none => refuse s .notFound
  | some p =>
    if s.seq.watches.any fun w => w.pattern == slot then refuse s .busy
    else
      let t1 := { t with patterns := t.patterns.filter fun q => q.slot != slot }
      okay (s.setTables t1) (be 4 p.recs.length ++ be 4 t1.autoFree)

/-- SEARCH.PATTERN_UNLOAD; a load of the slot still in slices holds it. -/
def cmdSearchPatternUnload : CmdDef :=
  { CmdDef.base 0x0505 .sealedNow .mgmt (· == 4) patternUnload with
    pre := fun _ b => if u8 b 0 = 0 ∨ 64 < u8 b 0 then some .range else none
    touches := fun b _ => [onSlot (u8 b 0)] }

/-! ## Cascade commands (R243, R246, R389) -/

/-- A cascade ends: its table keeps the active generation, with GEN clear. -/
def Tables.endCascade (t : Tables) (m : Nat) : Tables :=
  match t.cascade with
  | none => t
  | some c =>
    let w := (t.shape c.table).width
    { t.setEntries c.table ((t.generation c.table (c.genAt m)).map fun e => e.inGen c.table w false) with cascade := none }

/-- A cascade begins: the present entries become its active generation and are copied into the inactive one. -/
def Tables.beginCascade (t : Tables) (chips : Nat) (tb : Table) (choice : Nat) : Tables :=
  let w := (t.shape tb).width
  let act := (t.entries tb).map fun e => e.inGen tb w false
  { t.copyInto tb choice true act act with cascade := some ⟨chips, tb, false, []⟩ }

/-- The tables that CASCADE_SET leaves, from measure `m`. -/
def Tables.setCascade (t : Tables) (b : Bytes) (m choice : Nat) : Tables :=
  let t1 := t.endCascade m
  if u8 b 0 = 1 then t1 else t1.beginCascade (u8 b 0) ((Table.ofNum (u8 b 2)).getD .acl) choice

/-- SEARCH.CASCADE_SET at its sealed place: R243's checks; then BUSY when the two generations do not fit (log entry 140), and
UNIT_OFFLINE when an entry would be written into a lost pair (R242). -/
def cascadeCheck (c : SealedCmd) (s : State) : Res :=
  let b := c.cmd.args
  let t := s.store.tables
  let t1 := t.setCascade b (s.tb.measure + 1) (Config.placement s.store.draws)
  let tables := [Table.peer, .acl]
  if u8 b 1 ≠ s.lks.chipId ∨ u8 b 0 ≤ u8 b 1 then refuse s .range
  else if u8 b 0 ≠ 1 ∧ tables.any (fun tb => decide (t1.capacity tb < t1.valid tb)) then refuse s .busy
  else if tables.any fun tb => (written (t.entries tb) (t1.entries tb)).any fun e => s.pairLost (e.addr / 8192) then
    refuse s .unitOffline
  else okay s []

/-- SEARCH.CASCADE_SET: checked at its sealed place, in force from the boundary. -/
def cmdSearchCascadeSet : CmdDef :=
  { CmdDef.base 0x0506 .sealedBoundary .sec (· == 4) cascadeCheck with
    pre := fun _ b => if u8 b 0 = 0 ∨ 4 < u8 b 0 ∨ ¬ (u8 b 2 = 1 ∨ u8 b 2 = 2) then some .range else none
    later := fun c s =>
      let t1 := s.store.tables.setCascade c.cmd.args s.tb.measure (Config.placement s.store.draws)
      okay ((s.drawn.setTables t1).modLks fun a => { a with turn := 0, txn := 0, lost := false, goodTurns := 0 }) [] }

/-- Put a switch measure among those to come, ascending. -/
def putSwitch (e : Nat) : List Nat → List Nat
  | [] => [e]
  | x :: xs => if e < x then e :: x :: xs else if e = x then x :: xs else x :: putSwitch e xs

/-- SEARCH.CASCADE_SWITCH at its sealed place. -/
def cascadeSwitch (c : SealedCmd) (s : State) : Res :=
  let e := fld c.cmd.args 0 6
  if e < c.adm + 4 ∨ c.adm + 64 < e then refuse s .range
  else
    let t := s.store.tables.settled c.adm
    match t.cascade with
    | none => refuse s .notFound
    | some k => okay (s.setTables { t with cascade := some { k with switches := putSwitch e k.switches } }) []

/-- SEARCH.CASCADE_SWITCH. -/
def cmdSearchCascadeSwitch : CmdDef := .base 0x0507 .sealedNow .mgmt (· == 8) cascadeSwitch

/-! ## PROBE, STATS (R389) -/

/-- SEARCH.PROBE at its grant: the first match as it stands in this chip's pairs. Over a cascade the first match can be another
chip's entry, whose address and priority are not this block's state: free values (log entry 19). -/
def probe (c : SealedCmd) (s : State) : Res :=
  let b := c.cmd.args
  match Table.ofNum (u8 b 0) with
  | none | some .unassigned => refuse s .range
  | some tb =>
    let w := (s.store.tables.shape tb).width
    let word := fld b 4 (16 * w)
    let found := fun (addr tag prio : Nat) => be 1 1 ++ zeros 3 ++ be 4 addr ++ be 4 tag ++ be 2 prio ++ be 2 0
    if b.length ≠ 4 + 16 * w then refuse s .range
    else if s.tableLost tb then refuse s .unitOffline
    else
      let s1 := s.consult tb word
      let (addr, s2) := s1.draw 16
      let (prio, s3) := s2.draw 12
      let others := fun (lower : Bool) => (Config.cascadeHit lower tb.num s.tb.measure word).map fun tag => found addr tag prio
      okay s3 ((s1.overChips tb others ((s1.search tb word).map fun e => found e.addr e.tag e.prio)).getD (zeros 16))

/-- SEARCH.PROBE. -/
def cmdSearchProbe : CmdDef := .base 0x0508 .immediate .rt (fun n => 20 ≤ n && n ≤ 68) probe

/-- SEARCH.STATS's result. -/
def State.searchStats (s : State) : Bytes :=
  let t := s.store.tables
  ([Table.peer, .acl, .route, .automaton].flatMap fun tb =>
    be 4 (t.valid tb) ++ be 4 (t.capacity tb) ++ be 8 ((s.lks.searches.toList[tb.num - 1]?).getD 0)) ++
  be 4 s.lks.repairs ++ be 4 s.lks.rebuilds ++ be 4 s.lks.moves ++ be 4 s.lks.turns

/-- SEARCH.STATS. -/
def cmdSearchStats : CmdDef := .base 0x0509 .immediate .rt (· == 0) fun _ s => okay s s.searchStats

/-! ## Repair and scrub (R221, R238 to R241) -/

/-- Larkspur runs: out of reset, in Start-up, Service or Quiesce (Table 9.9). -/
def State.larkspurRuns (s : State) : Bool :=
  !s.power.inReset && match s.power.mode with
  | .startup => true
  | .service => true
  | .quiesceStop => true
  | .quiesceCustody => true
  | .custody => false
  | .recovery => false

/-- The banks that are DEGRADED, ascending. -/
def State.weakBanks (s : State) : List Nat := (List.range 16).filter fun b => s.effective (0x4000 + b) == .degraded

/-- The array units of a measure's scrub reads: 256 in ascending order; with DEGRADED banks, every second read is theirs (R238,
Table 9.7; log entry 139). -/
def State.scrubReads (s : State) : List Nat :=
  let weak := s.weakBanks
  if weak.isEmpty then (List.range 256).map fun i => (s.lks.scrubAt + i) % 131072
  else (List.range 128).flatMap fun i =>
    let j := s.lks.weakAt + i
    [(s.lks.scrubAt + i) % 131072, (weak[j / 8192 % weak.length]?).getD 0 * 8192 + j % 8192]

/-- The scrub of a measure, once (R238). -/
def State.scrub (s : State) : State :=
  if s.lks.scrubbed then s
  else
    let n := s.weakBanks.length
    (s.scrubReads.foldl State.compareUnit s).modLks fun a =>
      { a with
        scrubbed := true
        scrubAt := (a.scrubAt + if n = 0 then 256 else 128) % 131072
        weakAt := if n = 0 then 0 else (a.weakAt + 128) % (8192 * n) }

/-- LARKSPUR_SCRUB: errors that have struck (log entry 139), and the scrub of a measure that had idle array cycles (R53, R238). -/
def execLarkspurScrub (upsets : List Upset) (s : State) : Out :=
  if s.larkspurRuns then
    .next ((s.modLks fun a => upsets.foldl LksArray.strike a).scrub.modLks fun a => { a with noIdle := 0, forced := false })
  else .next s

/-- LARKSPUR_FORCED_SCRUB: after 64 measures without an idle cycle, scrub takes one cycle in every 64 (R53). -/
def execLarkspurForcedScrub (s : State) : Out :=
  .next (if s.larkspurRuns ∧ 64 ≤ s.lks.noIdle then (s.modLks fun a => { a with forced := true }).scrub else s)

/-- Free slots of interval `j`. -/
def freeIn (holes : Nat) (used : List Nat) (j : Nat) : Nat :=
  ((List.range holes).filter fun i => !used.contains (j * holes + i)).length

/-- The move that brings the nearest spare hole one place nearer to the first interval without one: from slot, to slot (R232). Only
an interval with more than one hole gives one up; where the slot before it is free too, that hole moves on first. -/
def moveFor (l : Slots) (holes : Nat) (used : List Nat) : Option (Nat × Nat) :=
  let spare := fun (i : Nat) => !used.contains i && decide (2 ≤ freeIn holes used (i / holes))
  ((List.range (l.count / holes)).find? fun j => freeIn holes used j == 0).bind fun j =>
    match (List.range l.count).find? (fun i => decide ((j + 1) * holes ≤ i) && spare i), (List.range (j * holes)).reverse.find? spare with
    | some h, _ => some (if used.contains (h - 1) then (h - 1, h) else (h - 2, h - 1))
    | none, some h => some (if used.contains (h + 1) then (h + 1, h) else (h + 2, h + 1))
    | none, none => none

/-- ONE_PLACE_MOVE: one entry of an address-ordered table goes into the free slot next to it (R232). -/
def execOnePlaceMove (table : Fin 5) (s : State) : Out :=
  match Table.ofNum table with
  | none => .next s
  | some tb =>
    let t := s.store.tables
    let p := t.shape tb
    let l := t.slots tb
    if !s.larkspurRuns || !p.ordered || p.holes == 0 then .next s else
    match moveFor l p.holes ((t.entries tb).map fun e => l.index e.addr) with
    | none => .next s
    | some (a, b) =>
      let t1 := t.mapAddr tb fun addr => if l.index addr = a then l.addr b else addr
      .next ((s.setTables t1).modLks fun k => { k with moves := bump k.moves })

/-- SHADOW_REBUILD: a pair's entries are written anew from namespace 0, into the array and the shadow, and its table's searches go on
(R239). -/
def execShadowRebuild (pair : Fin 8) (s : State) : Out :=
  .next (if s.larkspurRuns && s.lks.rebuild.any fun r => r.1 == pair.val then
    (s.modLks fun a =>
      { a with
        rebuild := a.rebuild.filter fun r => r.1 != pair.val
        rebuilds := bump a.rebuilds
        cells := a.cells.filter fun f => f.stuck || f.pos / 16384 != pair.val
        shadow := a.shadow.filter fun f => f.pos / 16384 != pair.val }).report 0x0702 5 (be 1 pair)
  else s)

/-- Every unit of a bank is rewritten from the shadow (R241). -/
def LksArray.rewriteBank (a : LksArray) (bank : Nat) : LksArray :=
  ((a.cells.map (·.pos) ++ a.shadow.map (·.pos)).filter fun p => p / 8192 == bank).foldl LksArray.rewrite a

/-- BANK_REQUALIFY (R241, Table 9.7): a FENCED bank that passes rises at the next boundary, and one with cells that cannot be rewritten
does not pass; a second failure lowers it to OFFLINE, where it stays until a start-up. A bank of a lost cascade's table does not
rise (R247). -/
def execBankRequalify (bank : Fin 16) (passed : Bool) (s : State) : Out :=
  let id := 0x4000 + bank.val
  let cascaded := match s.store.tables.cascade with
    | some c => s.lks.lost && (s.store.tables.pairsOf c.table).contains (bank.val / 2)
    | none => false
  if s.dataView id ≠ .fenced ∨ !s.larkspurRuns then .next s
  else if passed && !s.lks.cells.any fun f => f.stuck && f.pos / 8192 == bank.val then
    .next (if cascaded then s else
      (s.modUnit id fun u => { u with qualified := true, events2 := [] }).modLks fun a => a.rewriteBank bank)
  else
    let s1 := s.modUnit id fun u => { u with events2 := s.tb.measure :: u.events2 }
    .next (if 2 ≤ ((s1.unit id).map (·.events2.length)).getD 0 then s1.lowerData id .offline else s1)

/-! ## Cascade bus (R244, R245, R247) -/

/-- Banks of the cascaded table. -/
def State.cascadeBanks (s : State) : List Nat := match s.store.tables.cascade with
  | some c => (s.store.tables.pairsOf c.table).flatMap fun k => [2 * k, 2 * k + 1]
  | none => []

/-- One well-formed turn more; after 1,024 in a row a lost cascade's views requalify (R247). -/
def State.goodTurn (s : State) : State :=
  let s1 := s.modLks fun a => { a with goodTurns := a.goodTurns + 1 }
  if s.lks.lost ∧ 1024 ≤ s1.lks.goodTurns then
    s1.cascadeBanks.foldl (fun t b => t.modUnit (0x4000 + b) fun u => { u with qualified := u.data == .fenced })
      (s1.modLks fun a => { a with lost := false })
  else s1

/-- The cascade is lost: the pairs of the cascaded table lower their views to FENCED (R247). -/
def State.loseCascade (s : State) : State :=
  s.cascadeBanks.foldl (fun t b => t.lowerData (0x4000 + b) .fenced) (s.modLks fun a => { a with lost := true, goodTurns := 0 })

/-- The result bytes have the form of Table 9.8: a winner's number and tag, or the highest chip and zeros. -/
def resultForm (chips : Nat) (b : Bytes) : Bool :=
  b.length == 4 &&
  ((decide (0xA4 ≤ u8 b 0) && decide (u8 b 0 < 0xA4 + chips) && decide (u8 b 1 < 16)) || (u8 b 0 == 0xA0 + (chips - 1) && fld b 1 3 == 0))

/-- The header of a transaction: the chip whose turn it is drives it, with its own number and count (R244). -/
def State.cascadeHeader (s : State) (header : Byte) : Nat :=
  if s.lks.turn = s.lks.chipId then s.lks.chipId * 64 + header.toNat / 16 % 4 * 16 + s.lks.txn else header.toNat

/-- This chip's part in a search transaction (Table 9.8): its own match against MATCH_IN, which is tied low at chip 0. The winner
drives the result, or with no match at all the highest chip; else the bytes are another chip's. A result without the form of the
table loses the cascade. -/
def State.cascadeSearch (s : State) (c : Cascade) (word : Bytes) (matchIn : Bool) (result : Bytes) : State :=
  let s1 := s.consult c.table (beNat word)
  let own := s1.search c.table (beNat word)
  let high := matchIn && decide (0 < s.lks.chipId)
  let bytes := match own with
    | some e => if high then none else some (be 1 (0xA4 + s.lks.chipId) ++ be 3 e.tag)
    | none => if !high && s.lks.chipId + 1 == c.chips then some (be 1 (0xA0 + s.lks.chipId) ++ zeros 3) else none
  let s2 := s1.modLks fun a => { a with matchOut := high || own.isSome, result := bytes.getD result, wins := bytes.isSome }
  if resultForm c.chips (bytes.getD result) then s2 else s2.loseCascade

/-- CASCADE_TRANSACTION (R244, R245): the header of the chip whose turn it is, and a pass, which ends the turn, or a search. A byte
that another chip drives as a header out of its turn starts nothing (log entry 141). -/
def execCascadeTransaction (header : Byte) (word : Bytes) (matchIn : Bool) (result : Bytes) (s : State) : Out :=
  match s.store.tables.cascade with
  | none => .next s
  | some c =>
    let h := s.cascadeHeader header
    if !s.larkspurRuns || h / 64 != s.lks.turn then .next s else
    let s1 := s.modLks fun a => { a with txn := (h + 1) % 16, header := h }
    if h / 16 % 4 = 0 then .next ((s1.modLks fun a => { a with turn := (a.turn + 1) % c.chips, turns := bump a.turns }).goodTurn)
    else if h / 16 % 4 ≠ c.table.num then .next s1
    else .next (s1.cascadeSearch c word matchIn result)

/-- CASCADE_LOSS (R247), while Larkspur runs. -/
def execCascadeLoss (_why : CascadeLoss) (s : State) : Out :=
  .next (if s.larkspurRuns && s.store.tables.cascade.isSome then s.loseCascade else s)

/-- CASCADE_GENERATION_COPY (R246): once every list sealed before E has executed, the old generation becomes a copy of the
new one. -/
def execCascadeGenerationCopy (s : State) : Out :=
  match s.store.tables.cascade.bind fun c => c.switches.head? with
  | none => .next s
  | some e =>
    .next (if !s.larkspurRuns || decide (s.tb.measure < e) || s.seq.sealed.any fun l => decide (l.measure < e) then s
      else s.setTables s.store.tables.copyGeneration)

/-! ## Meanings -/

/-- SEARCH.SET_TABLES (R388). -/
def execSearchSetTables (c : Cmd) (s : State) : Out := .next (cmdSearchSetTables.run c s)
/-- SEARCH.ENTRY_WRITE (R227). -/
def execSearchEntryWrite (c : Cmd) (s : State) : Out := .next (cmdSearchEntryWrite.run c s)
/-- SEARCH.ENTRY_DELETE (R228). -/
def execSearchEntryDelete (c : Cmd) (s : State) : Out := .next (cmdSearchEntryDelete.run c s)
/-- SEARCH.PATTERN_LOAD (R234). -/
def execSearchPatternLoad (c : Cmd) (s : State) : Out := .next (cmdSearchPatternLoad.run c s)
/-- SEARCH.PATTERN_UNLOAD (R234). -/
def execSearchPatternUnload (c : Cmd) (s : State) : Out := .next (cmdSearchPatternUnload.run c s)
/-- SEARCH.CASCADE_SET (R243). -/
def execSearchCascadeSet (c : Cmd) (s : State) : Out := .next (cmdSearchCascadeSet.run c s)
/-- SEARCH.CASCADE_SWITCH (R246). -/
def execSearchCascadeSwitch (c : Cmd) (s : State) : Out := .next (cmdSearchCascadeSwitch.run c s)
/-- SEARCH.PROBE (R389). -/
def execSearchProbe (c : Cmd) (s : State) : Out := .next (cmdSearchProbe.run c s)
/-- SEARCH.STATS (R389). -/
def execSearchStats (c : Cmd) (s : State) : Out := .next (cmdSearchStats.run c s)

end Sys2Proof.Machine
end

