-- ==== Sys2Proof/Machine/SkpOps.lean ====
section
/-! DEFINITION. What each SKP operation does at its sealed place (R114 to R133, R256, R259, R275, R276, R281), and what it
answers. -/

namespace Sys2Proof.Machine

open Sys2Proof

/-! ## Requests and answers -/

/-- Where a request executes: the measure whose list it is in, the measure that admitted it, and whether it belongs to a
Chorus set. -/
structure Ctx where
  m : Nat
  adm : Nat
  chorus : Bool

/-- An operation's answer: status, pieces (offset, length, key, body), TRUNCATED, the automaton steps of a SCAN's keys with
its pattern slot, and whether this member answers at all (R267). -/
structure Ans where
  status : Status
  pieces : List (Nat × Nat × Bytes × Bytes)
  truncated : Bool
  costs : List Nat
  slot : Nat
  silent : Bool
  /-- Codewords that the answer needs from flash; R189. -/
  reads : List (Nat × Nat)

/-- A status with a body in one datagram. -/
def Ans.of (st : Status) (body : Bytes) : Ans :=
  { status := st, pieces := [(0, 0, [], body)], truncated := false, costs := [], slot := 0, silent := false, reads := [] }

/-- A refusal with an empty body. -/
def Ans.no (st : Status) : Ans := .of st []

/-- OK with a body. -/
def Ans.ok (body : Bytes) : Ans := .of .ok body

/-- No answer from this member. -/
def Ans.none : Ans := { Ans.of .ok [] with silent := true }

/-- An operation's result. -/
abbrev OpRes := State × Ans

/-- The state unchanged but for what was counted, and a refusal. -/
def no (s : State) (st : Status) : OpRes := (s, .no st)

/-! ## Opcodes (Table 5.4) -/

/-- A PUT or CAS that opens a segmented value (R115, Table 5.5). -/
def opensSeg (r : Request) : Bool :=
  decide (0 < r.length) && ((r.op == 2 && r.body.isEmpty) || (r.op == 4 && r.body.length == 8))

/-- A request that becomes a member of its session's open batch (R128). -/
def joinsBatch (r : Request) : Bool := (r.op == 2 || r.op == 3 || r.op == 4 || r.op == 5) && !opensSeg r

/-- STANZA LOAD (R275). -/
def isLoad (r : Request) : Bool := r.op == 0x13 && u8 r.body 0 == 2

/-- A request answered as a write, in the first 20 µs of N + 3 (Table 5.4). -/
def isWrite (r : Request) : Bool :=
  r.op == 2 || r.op == 3 || r.op == 4 || r.op == 5 || r.op == 9 || r.op == 0x0B || isLoad r

/-- The operation class the ACL judges (R132 step 3). -/
def classOf (r : Request) : OpClass :=
  if r.op = 3 then .delete else if r.op = 2 ∨ r.op = 4 ∨ r.op = 5 then .write else .read

/-- The operations a ledger accepts (R132 step 2). -/
def ledgerOp (r : Request) : Bool := r.op == 1 || r.op == 5 || r.op == 6 || r.op == 7

/-- The piece size of the port that received the request (R101). -/
def State.pieceSize (s : State) (p : Fin 2) : Nat := if (s.net p).set.jumbo then 8192 else 1408

/-! ## Namespaces and access control (R132, R133, R224, R256) -/

/-- Namespace checks of R132 steps 1 and 2; with no usable LPDDR5 rank nothing that names a namespace is served (R163). -/
def State.nsGate (s : State) (r : Request) : Except Status Namespace :=
  if s.noRank then .error .unitOffline
  else if r.ns = 0 then .error .denied
  else match s.store.ns r.ns with
    | none => .error .notFound
    | some n => if n.typ = .ledger ∧ !ledgerOp r then .error .sealed else .ok n

/-- What a Chorus namespace allows (R256): a local session reads held shards only, a Chorus session cannot SCAN or WATCH. -/
def State.shardGate (s : State) (x : Ctx) (r : Request) : Bool :=
  match s.store.chorusNs r.ns with
  | none => true
  | some _ =>
    if x.chorus then r.op != 6 && r.op != 7
    else r.op == 6 || r.op == 7 || (r.op == 1 && s.store.holds r.ns r.key)

/-- The ROUTE search of a Chorus request that names a key (R226). -/
def State.consultRoute (s : State) (x : Ctx) (r : Request) : State :=
  if x.chorus && (r.op == 1 || r.op == 2 || r.op == 3 || r.op == 4 || r.op == 5) && !s.tableLost .route then
    s.consult .route (routeWord r.ns (keyHash r.ns r.key))
  else s

/-- The ACL check of a request: a SCAN or WATCH is judged on its whole prefix (R132, R133). -/
def State.checkAcl (s : State) (x : Ctx) (r : Request) : State × Verdict :=
  if r.op = 6 ∨ r.op = 7 then s.checkAll (some r.src) x.m (classOf r) r.ns r.key
  else s.checkKey (some r.src) x.m (classOf r) r.ns r.key

/-- Steps 1 to 3 of R132, with R226, R242 and R256: the namespace, or the refusal. -/
def State.gate (s : State) (x : Ctx) (r : Request) : State × Except Status Namespace :=
  match s.nsGate r with
  | .error e => (s, .error e)
  | .ok n =>
    if x.chorus && s.tableLost .route then (s, .error .unitOffline)
    else
      let (s1, v) := s.checkAcl x r
      match v with
      | .offline => (s1, .error .unitOffline)
      | .denied => (s1, .error .denied)
      | .permitted => (s1, if s.shardGate x r then .ok n else .error .denied)

/-- Run an operation's own checks and effect once R132 steps 1 to 3 have passed. -/
def State.gated (s : State) (x : Ctx) (r : Request) (f : State → Namespace → OpRes) : OpRes :=
  match s.gate x r with
  | (s1, .ok n) => f s1 n
  | (s1, .error e) => no s1 e

/-! ## GET (R114) -/

/-- Cut data into pieces of `p` bytes from value offset `off`. -/
def cutPieces (p total : Nat) : Nat → Nat → Bytes → List (Nat × Nat × Bytes × Bytes)
  | 0, _, _ => []
  | fuel + 1, off, b => if b.isEmpty then [] else (off, total, [], b.take p) :: cutPieces p total fuel (off + p) (b.drop p)

/-- The pieces of R114: the first carries `head` and fills up with data. -/
def valuePieces (p total off : Nat) (head data : Bytes) : List (Nat × Nat × Bytes × Bytes) :=
  let k := p - head.length
  (off, total, [], head ++ data.take k) :: cutPieces p total data.length (off + k) (data.drop k)

/-- GET. -/
def opGet (x : Ctx) (r : Request) (s : State) : OpRes :=
  s.gated x r fun s1 n =>
    match n.find r.key with
    | none => no s1 .notFound
    | some e =>
      let l := e.value.length
      if l < r.offset ∨ (r.length ≠ 0 ∧ l < r.offset + r.length) then no s1 .range
      else
        let data := sub e.value r.offset (if r.length = 0 then l - r.offset else r.length)
        let lo := r.offset / 4096
        let hi := (r.offset + data.length + 4095) / 4096
        let sliced := if readSliceOf s.store.length < data.length then some x.m else none
        if !data.isEmpty && s.wordsLost e.extent lo hi sliced then no s1 .unitOffline
        else
          let (reads, s2) := if data.isEmpty then ([], s1) else s1.readExtent e.extent lo hi sliced
          (s2, { Ans.ok [] with pieces := valuePieces (s.pieceSize r.src.port) l r.offset (be 8 e.version) data, reads })

/-! ## PUT, DELETE, CAS, APPEND (R115 to R122) -/

/-- A value is written where the key's charge allows it (R171). -/
def putOrFull (x : Ctx) (n : Namespace) (key value : Bytes) (s : State) : OpRes :=
  let old := n.find key
  let freed := (old.map fun e => charge e.value.length).getD 0
  if s.store.roomFor n key (charge value.length) freed (b2n old.isNone) then
    let (v, s1) := s.putValue n key value x.m
    (s1, .ok (be 8 v))
  else no s .noSpace

/-- The session's open segmented value. -/
def Store.seg (t : Store) (session : Nat) : Option OpenSeg := t.segs.find? fun g => g.session == session

/-- The session's open batch. -/
def Store.batch (t : Store) (session : Nat) : Option Batch := t.batches.find? fun b => b.session == session

/-- Open a segmented value (R116). -/
def Store.openSeg (t : Store) (x : Ctx) (r : Request) : Store :=
  { t with segs := t.segs ++
      [{ session := r.session, ns := r.ns, key := r.key, total := r.length, count := 0, data := []
         expected := if r.op = 4 then some (fld r.body 0 8) else none, adm := x.adm }] }

/-- The own checks and effect of a request that opens a segmented value (R116, R128). -/
def opOpen (x : Ctx) (r : Request) (s : State) (n : Namespace) : OpRes :=
  if s.store.isHeld n.id r.key then no s .sealed
  else if (s.store.batch r.session).isSome then no s .range
  else if (s.store.seg r.session).isSome then no s .busy
  else if !s.store.roomFor n r.key (charge r.length) 0 1 then no s .noSpace
  else (s.modStore fun t => t.openSeg x r, .ok [])

/-- PUT. -/
def opPut (x : Ctx) (r : Request) (s : State) : OpRes :=
  s.gated x r fun s1 n =>
    if opensSeg r then opOpen x r s1 n
    else if s.store.isHeld n.id r.key then no s1 .sealed
    else putOrFull x n r.key r.body s1

/-- DELETE. -/
def opDelete (x : Ctx) (r : Request) (s : State) : OpRes :=
  s.gated x r fun s1 n =>
    if s.store.isHeld n.id r.key then no s1 .sealed
    else match n.find r.key with
      | none => no s1 .notFound
      | some e => (s1.dropValue n e x.m, .ok (be 8 e.version))

/-- CAS. -/
def opCas (x : Ctx) (r : Request) (s : State) : OpRes :=
  s.gated x r fun s1 n =>
    if opensSeg r then opOpen x r s1 n
    else if s.store.isHeld n.id r.key then no s1 .sealed
    else
      let now := ((n.find r.key).map (·.version)).getD 0
      if fld r.body 0 8 ≠ now then (s1, .of .versionMismatch (be 8 now))
      else putOrFull x n r.key (r.body.drop 8) s1

/-- APPEND to an ordinary namespace (R122). -/
def appendOrdinary (x : Ctx) (r : Request) (n : Namespace) (s : State) : OpRes :=
  let old := n.find r.key
  let before := (old.map (·.value)).getD []
  let size := before.length + r.body.length
  let freed := (old.map fun e => charge e.value.length).getD 0
  if 64 * 2 ^ 20 < size then no s .range
  else if !s.store.roomFor n r.key (charge size) freed (b2n old.isNone) then no s .noSpace
  else if old.any s.valueLost then no s .unitOffline
  else
    let (v, s1) := s.putValue n r.key (before ++ r.body) x.m
    (s1, .ok (be 8 v))

/-- APPEND to a ledger (R174, R175): the record, its receipt, and what watches see. -/
def appendLedger (x : Ctx) (r : Request) (n : Namespace) (s : State) : OpRes :=
  let key := be 8 (n.record + 1)
  if !s.store.roomFor n key (charge (48 + r.body.length)) 0 1 then no s .noSpace
  else
    let (rec, t) := s.store.appendRecord n 1 r.body x.adm
    ((({ s with store := t }).hostWrote r.body.length).observe n.id key 1 (t.counter n.id key) (48 + r.body.length) x.m,
      .ok (be 8 rec.1 ++ rec.2))

/-- APPEND. -/
def opAppend (x : Ctx) (r : Request) (s : State) : OpRes :=
  s.gated x r fun s1 n =>
    match n.typ with
    | .staging => no s1 .sealed
    | .ledger => if r.key.isEmpty then appendLedger x r n s1 else no s1 .range
    | .ordinary => if r.key.isEmpty then no s1 .range else appendOrdinary x r n s1

/-! ## SEGMENT (R117 to R119) -/

/-- Change the session's open segmented value. -/
def Store.modSeg (t : Store) (session : Nat) (f : OpenSeg → OpenSeg) : Store :=
  { t with segs := t.segs.map fun g => if g.session == session then f g else g }

/-- Discard the session's open segmented value with its reservation. -/
def Store.dropSeg (t : Store) (session : Nat) : Store := { t with segs := t.segs.filter fun g => g.session != session }

/-- The conditions of R117. -/
def OpenSeg.takes (g : OpenSeg) (r : Request) : Bool :=
  r.segment == g.count && decide (g.count < 65535) && r.offset == g.data.length &&
  decide (r.offset + r.length ≤ g.total) && bit r.flags 2 == (r.offset + r.length == g.total)

/-- A value is committed at a key that is not held: what the version check decides, then the write (R118). A member that does not
hold the key only forgets the value. -/
def commitSeg (x : Ctx) (r : Request) (g : OpenSeg) (s : State) : OpRes :=
  match s.store.ns g.ns with
  | none => (s.modStore fun t => t.dropSeg r.session, .no .notFound)
  | some n =>
    let now := ((n.find g.key).map (·.version)).getD 0
    let s1 := s.modStore fun t => t.dropSeg r.session
    if !s.store.holds g.ns g.key then (s1, .none)
    else if g.expected.isSome ∧ g.expected ≠ some now then (s1, .of .versionMismatch (be 8 now))
    else
      let (v, s2) := s1.putValue n g.key (g.data ++ r.body) x.m
      (s2, .ok (be 8 v))

/-- SEGMENT, with ABORT too; LAST commits. A local session does not write into what has become a Chorus namespace (R256); a commit at a
held key is SEALED before SEGMENT's own checks (R181). Answered by the holders of the open value's shard (R267). -/
def opSegment (x : Ctx) (r : Request) (s : State) : OpRes :=
  match s.nsGate r with
  | .error e => no s e
  | .ok _ =>
    let batch := (s.store.batch r.session).isSome
    match s.store.seg r.session with
      | none => no s (if batch then .range else .notFound)
      | some g =>
        let quiet := fun (a : Ans) => if s.store.holds g.ns g.key then a else Ans.none
        if !bit r.flags 3 && !x.chorus && (s.store.chorusNs g.ns).isSome then no s .denied
        else if bit r.flags 2 && !bit r.flags 3 && s.store.isHeld g.ns g.key then (s, quiet (.no .sealed))
        else if batch then no s .range
        else if bit r.flags 3 then (s.modStore fun t => t.dropSeg r.session, quiet (.ok []))
        else if !g.takes r then (s, quiet (.no .range))
        else if bit r.flags 2 then commitSeg x r g s
        else
          (s.modStore fun t => t.modSeg r.session fun h => { h with count := h.count + 1, data := h.data ++ r.body },
            quiet (.ok []))

/-! ## SCAN, WATCH (R123 to R127, R235, R236) -/

/-- Keys that a traversal visits: to the `k`-th accepted one, or to the end. -/
def visited (acc : KeyEnt → Bool) : Nat → List KeyEnt → List KeyEnt
  | _, [] => []
  | k, e :: rest => if k = 0 then [] else e :: visited acc (if acc e then k - 1 else k) rest

/-- The runs of a SCAN's pattern, key by key, until `k` are accepted. -/
def State.ranOver (slot : Nat) : Nat → List KeyEnt → State → State
  | _, [], s => s
  | k, e :: rest, s =>
    if k = 0 then s else
      let s1 := s.ranOn slot e.key
      State.ranOver slot (if s1.accepts slot e.key then k - 1 else k) rest s1

/-- An entry of a SCAN response. -/
def scanEntry (e : KeyEnt) : Bytes := be 1 e.key.length ++ zeros 3 ++ be 4 e.value.length ++ be 8 e.version ++ e.key

/-- Pack entries into bodies of at most `p` bytes. -/
def packEntries (p : Nat) : Bytes → List Bytes → List Bytes
  | cur, [] => [cur]
  | cur, e :: rest => if p < cur.length + e.length then cur :: packEntries p e rest else packEntries p (cur ++ e) rest

/-- A pattern slot can be used: none named, or loaded with its AUTOMATON pairs searchable (R123, R242). -/
def State.patternCheck (s : State) (slot : Nat) : Option Status :=
  if slot = 0 then none
  else match s.store.tables.pattern slot with
    | none => some .notFound
    | some p => if s.patternLost p then some .unitOffline else none

/-- SCAN. -/
def opScan (x : Ctx) (r : Request) (s : State) : OpRes :=
  s.gated x r fun s1 n =>
    let slot := fld r.body 0 2
    let k := fld r.body 2 2
    let after := r.body.drop 8
    if k = 0 then no s1 .range
    else match s.patternCheck slot with
      | some e => no s1 e
      | none =>
        if s.leavesLost n r.key after then no s1 .unitOffline
        else
          let walk := n.keys.filter fun e => isPrefix r.key e.key && (after.isEmpty || bytesLt after e.key)
          let s2 := State.ranOver slot k walk s1
          let acc := fun (e : KeyEnt) => s2.accepts slot e.key
          let hits := walk.filter acc
          let shown := hits.take k
          let seen := visited acc k walk
          let bodies := packEntries (s.pieceSize r.src.port) [] (shown.map scanEntry)
          (s2,
            { Ans.ok [] with
              pieces := bodies.map fun b => (0, shown.length, [], b)
              truncated := decide (k < hits.length)
              costs := seen.map fun e => s2.steps slot e.key
              slot })

/-- WATCH. -/
def opWatch (x : Ctx) (r : Request) (s : State) : OpRes :=
  s.gated x r fun s1 n =>
    let slot := fld r.body 0 2
    let d := fld r.body 4 4
    if d = 0 ∨ 4194304 < d then no s1 .range
    else match s.patternCheck slot with
      | some e => no s1 e
      | none =>
        if 1024 ≤ s.seq.watches.length then no s1 .busy
        else
          let w : Watch :=
            { session := r.session, seq := r.seq, src := r.src, ns := n.id, pre := r.key, pattern := slot, from_ := x.adm
              duration := d, limit := fld r.body 8 4, cls := r.cls, count := 0 }
          (s1.modSeq fun q => { q with watches := q.watches ++ [w] }, .ok [])

/-- WATCH with STOP, once R132 steps 1 to 3 have passed as for every WATCH: its prefix is empty, so READ is judged on the whole
namespace (R133; log entry 44). -/
def opWatchStop (x : Ctx) (r : Request) (s : State) : OpRes :=
  s.gated x r fun s1 _ =>
    match s1.seq.watches.find? fun w => w.is r.session (fld r.body 4 4) with
    | none => no s1 .notFound
    | some w => (s1.endWatch w 3 x.m, .ok [])

/-! ## Batches (R128, R129, R259) -/

/-- BATCH_OPEN. -/
def opBatchOpen (x : Ctx) (r : Request) (s : State) : OpRes :=
  if (s.store.batch r.session).isSome then no s .range
  else (s.modStore fun t => { t with batches := t.batches ++ [{ session := r.session, adm := x.adm, members := [] }] }, .ok [])

/-- One member's own operation. -/
def opMember (x : Ctx) (r : Request) (s : State) : OpRes :=
  if r.op = 2 then opPut x r s
  else if r.op = 3 then opDelete x r s
  else if r.op = 4 then opCas x r s
  else opAppend x r s

/-- Members evaluated so far: the state, their answers, and the sequence and answer of the one that failed. -/
structure BatchRun where
  s : State
  answers : List (Request × Nat × Ans)
  failed : Option (Nat × Ans)

/-- The shard a member's key lies in. -/
def Store.shardIndex (t : Store) (r : Request) : Nat × Nat :=
  (r.ns, ((t.chorusNs r.ns).map fun n => n.indexOf (keyHash r.ns r.key)).getD 0)

/-- Evaluate one more member, in sequence order; `home` is the shard all members of a Chorus batch must share. -/
def BatchRun.step (x : Ctx) (home : Option (Nat × Nat)) (b : BatchRun) (rm : Request × Nat) : BatchRun :=
  match b.failed with
  | some _ => b
  | none =>
    if x.chorus ∧ home ≠ some (b.s.store.shardIndex rm.1) then { b with failed := some (rm.1.seq, .no .range) }
    else
      let (s1, a) := opMember { x with adm := rm.2 } rm.1 (b.s.consultRoute x rm.1)
      if a.status = .ok then { b with s := s1, answers := b.answers ++ [(rm.1, rm.2, a)] }
      else { b with failed := some (rm.1.seq, a) }

/-- Insert a member by sequence. -/
def insertMember (m : Request × Nat) : List (Request × Nat) → List (Request × Nat)
  | [] => [m]
  | y :: ys => if m.1.seq ≤ y.1.seq then m :: y :: ys else y :: insertMember m ys

/-- BATCH_CLOSE's body. -/
def closeBody (members failed : Nat) : Bytes := be 2 members ++ be 2 0 ++ be 4 failed

/-- What BATCH_CLOSE leaves: the state, its own answer, and each member's answer with ABORTED. -/
structure CloseRes where
  s : State
  own : Ans
  members : List (Request × Nat × Ans × Bool)

/-- Statuses with which a batch can end. -/
def closeStatuses : List Status :=
  [.ok, .notFound, .versionMismatch, .noSpace, .denied, .sealed, .range, .unitOffline]

/-- BATCH_CLOSE (R129). A member of the Chorus that does not hold the batch's shard cannot evaluate it, and the manual gives
its own answer no value: the status and FAILED are free (log entry 23). -/
def opBatchClose (x : Ctx) (r : Request) (s : State) : CloseRes :=
  match s.store.batch r.session with
  | none => { s, own := .no .notFound, members := [] }
  | some b =>
    let ms := b.members.foldr insertMember []
    let s0 := s.modStore fun t => { t with batches := t.batches.filter fun y => y.session != r.session }
    let home := ms.head?.map fun m => s.store.shardIndex m.1
    let away := x.chorus && (match ms.head? with
      | some m => !(s.consultRoute x m.1).holdsRouted m.1.ns m.1.key
      | none => false)
    if away then
      let (k, s1) := s0.drawSealed 3
      let (f, s2) := s1.drawSealed 32
      let st := (closeStatuses[k]?).getD .ok
      { s := s2, own := .of st (closeBody ms.length (if st = .ok then 0 else f))
        members := ms.map fun m => (m.1, m.2, .none, false) }
    else
      let run := ms.foldl (BatchRun.step x home) ⟨s0, [], none⟩
      match run.failed with
      | none => { s := run.s, own := .ok (closeBody ms.length 0), members := run.answers.map fun a => (a.1, a.2.1, a.2.2, false) }
      | some (seq, a) =>
        { s := s0, own := .of a.status (closeBody ms.length seq)
          members := ms.map fun m => if m.1.seq = seq then (m.1, m.2, a, false) else (m.1, m.2, .no a.status, true) }

/-! ## CANCEL (R68, R69) -/

/-- CANCEL's answer at its sealed place: what became of its target. `Lower` compares the sequences as numbers (log entry 24). A
target that the session never received is NOT_FOUND; of one whose replay record is gone it is no longer known whether it was
admitted: a free value (log entry 24). -/
def opCancel (r : Request) (s : State) : OpRes :=
  let target := fld r.body 0 4
  let body := be 4 target
  if r.seq ≤ target then (s, .of .notFound body)
  else match (s.session r.session).bind fun x => x.record target with
    | none =>
      if ((s.session r.session).map fun x => x.received target).getD false then
        let (k, s1) := s.drawSealed 1
        (s1, .of (if k = 0 then .notFound else .cancelLate) body)
      else (s, .of .notFound body)
    | some p =>
      if p.removedBy = some r.seq then (s, .of .ok body)
      else if p.removedBy.isSome || !p.admitted then (s, .of .notFound body)
      else (s, .of .cancelLate body)

/-! ## STANZA (R275, R276, R281) -/

/-- The cover query of R276 over a list of namespaces, after step 1 of R132 on each. -/
def State.stanzaGate (x : Ctx) (r : Request) (cls : OpClass) : List Nat → State → State × Option Status
  | [], s => (s, none)
  | ns :: rest, s =>
    if ns = 0 then (s, some .denied)
    else if (s.store.ns ns).isNone then (s, some .notFound)
    else
      let (s1, v) := s.checkAll (some r.src) x.m cls ns []
      match v with
      | .offline => (s1, some .unitOffline)
      | .denied => (s1, some .denied)
      | .permitted => State.stanzaGate x r cls rest s1

/-- A page of a value that the stanza carries is unreadable (R173). -/
def State.stanzaLost (s : State) (sn : Snapshot) (b : Bytes) : Bool :=
  match parseStanza b with
  | some (h, p) =>
    h.kind == 2 && ((parseRecords p.length p).getD []).any fun k =>
      match (sn.content.find? fun n => n.id == h.ns).bind fun n => n.find k.key with
      | some e => s.valueLost e
      | none => false
  | none => false

/-- STANZA READ. -/
def opStanzaRead (x : Ctx) (r : Request) (s : State) : OpRes :=
  let shard := fld r.body 2 2
  if s.noRank then no s .unitOffline
  else match s.store.chorus with
  | none => no s .notFound
  | some c =>
    let nss := if shard = 0xFFFF then some (c.nss.map (·.ns)) else (c.locate shard).map fun l => [l.1.ns]
    match nss with
    | none => no s .notFound
    | some l =>
      let (s1, stop) := State.stanzaGate x r .read l s
      match stop with
      | some e => no s1 e
      | none =>
        match c.checkpoint.bind fun sn =>
          if sn.id = fld r.body 8 8 then
            (c.readStanza shard (fld r.body 4 4) sn).map fun b => (sn, b)
          else none with
        | none => no s1 .notFound
        | some (sn, b) =>
          if s.stanzaLost sn b then no s1 .unitOffline
          else (s1, { Ans.ok [] with pieces := valuePieces (s.pieceSize r.src.port) b.length 0 [] b })

/-- Change the restore in progress. -/
def Store.setRestore (t : Store) (f : Restore) : Store :=
  { t with chorus := t.chorus.map fun c => { c with restore := some f } }

/-- The CRC of a stanza can be checked and is right (R277). -/
def stanzaSound (b : Bytes) : Bool := decide (64 ≤ b.length) && b.length == 64 + fld b 48 4 && stanzaCrcOk b

/-- A manifest stanza is loaded (R279 to R281); one that breaks its format is RANGE (R20; log entry 49). -/
def loadManifest (v : Restore) (r : Request) (b : Bytes) (s : State) : OpRes :=
  let index := fld r.body 4 4
  let p := b.drop 64
  if fld r.body 8 8 ≠ v.checkpoint then no s .range
  else if index < v.next then (s, .ok [])
  else if index ≠ v.next ∨ v.complete then no s .range
  else if !stanzaSound b then no s .integrity
  else
    let m := v.manifest ++ p
    let done := manifestDone m
    if (parseStanza b).isNone ∨ u8 b 5 ≠ 1 ∨ u8 b 24 ≠ 0 ∨ fld b 8 8 ≠ v.checkpoint ∨ fld b 44 4 ≠ index ∨
        (v.next ≠ 0 ∧ fld b 16 6 ≠ v.cut) ∨ (done ∧ !(manifestExact m && s.store.fitsManifest m)) then no s .range
    else
      (s.modStore fun t => t.setRestore { v with manifest := m, complete := done, next := v.next + 1, cut := fld b 16 6 }, .ok [])

/-- The restore with one source shard's progress replaced. -/
def Restore.setLoad (v : Restore) (l : LoadShard) : Restore :=
  { v with loads := l :: v.loads.filter fun k => k.shard != l.shard }

/-- A stanza's header names what the manifest says of its shard, and its size keeps to STANZA_SIZE (R277, R278). -/
def Restore.names (v : Restore) (h : StanzaHead) (shard index size : Nat) : Bool :=
  h.checkpoint == v.checkpoint && h.cut == v.cut && h.index == index && decide (2 ≤ h.kind ∧ h.kind ≤ 4) &&
  h.gen == fld v.manifest 16 2 && decide (size ≤ fld v.manifest 14 2) &&
  (manifestNs v.manifest).any (fun e => u8 e 0 == h.ns && u8 e 1 == h.typ) &&
  decide ((shard, h.ns, h.lo, h.hi) ∈ manifestShards v.manifest)

/-- A stanza of a source shard is loaded (R281); one that breaks its format is RANGE (R20; log entry 49). -/
def loadSource (v : Restore) (r : Request) (b : Bytes) (s : State) : OpRes :=
  let shard := fld r.body 2 2
  let index := fld r.body 4 4
  if !v.complete then no s .notFound
  else if fld r.body 8 8 ≠ v.checkpoint then no s .range
  else
    let known := v.loads.find? fun k => k.shard == shard
    let next := (known.map (·.next)).getD 0
    if index < next then (s, .ok [])
    else if index ≠ next ∨ (known.map (·.ended)).getD false then no s .range
    else if !stanzaSound b then no s .integrity
    else match parseStanza b with
      | none => no s .range
      | some (h, p) =>
        if !v.names h shard index b.length then no s .range
        else
          let l := known.getD (.start shard h)
          if endMismatch l h p then
            (s.modStore fun t => (t.unload l).setRestore (v.setLoad (.start shard h)), .no .integrity)
          else match loadStanza s.store l h p with
            | .error e => no s e
            | .ok (t, l1) => ({ s with store := t.setRestore (v.setLoad l1) }, .ok [])

/-- STANZA LOAD. -/
def opStanzaLoad (x : Ctx) (r : Request) (s : State) : OpRes :=
  let b := r.body.drop 16
  let shard := fld r.body 2 2
  let nss := if shard = 0xFFFF then ((s.store.chorus.map fun c => c.nss.map (·.ns)).getD []) else
    if b.length < 64 then [] else [u8 b 24]
  let (s1, stop) := State.stanzaGate x r .write nss s
  if s.noRank then no s .unitOffline
  else match stop with
    | some e => no s1 e
    | none => match s.store.chorus.bind (·.restore) with
      | none => no s1 .notFound
      | some v => if shard = 0xFFFF then loadManifest v r b s1 else loadSource v r b s1

/-- STANZA, by its MODE. -/
def opStanza (x : Ctx) (r : Request) (s : State) : OpRes :=
  if isLoad r then opStanzaLoad x r s else opStanzaRead x r s

/-! ## One request at its sealed place -/

/-- The request's operation; BATCH_CLOSE is apart, because it answers others too. -/
def opRun (x : Ctx) (r : Request) (s : State) : OpRes :=
  match r.op with
  | 0x01 => opGet x r s
  | 0x02 => opPut x r s
  | 0x03 => opDelete x r s
  | 0x04 => opCas x r s
  | 0x05 => opAppend x r s
  | 0x06 => opScan x r s
  | 0x07 => if bit r.flags 4 then opWatchStop x r s else opWatch x r s
  | 0x08 => opBatchOpen x r s
  | 0x0A => opCancel r s
  | 0x0B => opSegment x r s
  | 0x13 => opStanza x r s
  | _ => no s .range

/-- A Chorus request about a key whose shard this member does not hold: it answers nothing (R267), and only remembers that a
segmented value was opened. -/
def opAway (x : Ctx) (r : Request) (s : State) : OpRes :=
  if opensSeg r && (s.store.seg r.session).isNone && (s.store.batch r.session).isNone then
    (s.modStore fun t => t.openSeg x r, .none)
  else (s, .none)

/-- The request names a key of a shard held elsewhere, as ROUTE tells (R226). -/
def awayFrom (x : Ctx) (r : Request) (s : State) : Bool :=
  x.chorus && (r.op == 1 || r.op == 2 || r.op == 3 || r.op == 4 || r.op == 5) && !s.holdsRouted r.ns r.key

end Sys2Proof.Machine
end

