-- ==== Sys2Proof/Machine/Skp.lean ====
section
/-! DEFINITION. SKP on the drive: answering and replay (R44, R109 to R111), slices of SCANs (R236), sessions (R105 to R108,
R255), credits (R60 to R65), the admission port (R35 to R37, R48, R257), and the meanings of the request rows
(R100 to R133). -/

namespace Sys2Proof.Machine

open Sys2Proof

/-! ## Answering at once -/

/-- The number with bit `i` set to `b`. -/
def withBit (v i : Nat) (b : Bool) : Nat := (if v.testBit i then v - 2 ^ i else v) + if b then 2 ^ i else 0

/-- A response that leaves within 20 µs: the request's fields copied, bits of Table 5.3 added (R102, R103). -/
def State.answerNow (s : State) (r : Request) (st : Status) (flags target : Nat) (body : Bytes) : State :=
  s.sendTo r.src true (some r.session) none
    (skpHeader (r.op ||| 0x80) (r.flags % 32 + flags) r.ns 0 r.session 0 r.seq target st.num 0 0 0 0 ++ body)

/-- A datagram discarded without response, counted in SKP_DISCARD. -/
def State.discard (s : State) (p : Fin 2) : State := s.count p .skpDiscard

/-! ## Replay records (R110) -/

/-- The next sequence after one is consumed. -/
def nextSeq (q : Nat) : Nat := (q + 1) % 2 ^ 32

/-- Move the next sequence past those that a Chorus session consumed out of order (R257). -/
def advance : Nat → Nat → List Nat → Nat × List Nat
  | 0, q, above => (q, above)
  | fuel + 1, q, above => if above.contains q then advance fuel (nextSeq q) (above.filter (· != q)) else (q, above)

/-- The replay records kept: the newest 256, and as many older ones as there are records that a fault would take back, since the
last 256 of what is persisted are to come back then (R110, R16). -/
def keepReplay (persisted : Nat) (l : List Replay) : List Replay :=
  l.take (256 + (l.filter fun p => decide (persisted < p.measure)).length)

/-- A session with a sequence consumed: its replay record is the newest. -/
def Session.consume (persisted : Nat) (p : Replay) (x : Session) : Session :=
  let replay := keepReplay persisted (p :: x.replay)
  if p.seq = x.next then
    let a := advance (x.above.length + 1) (nextSeq x.next) x.above
    { x with next := a.1, above := a.2, replay, wrapped := x.wrapped || decide (a.1 < x.next) }
  else { x with above := p.seq :: x.above, replay }

/-- The record of a request that was admitted. -/
def Replay.taken (r : Request) (m : Nat) : Replay :=
  { seq := r.seq, measure := m, target := m, op := r.op, status := none, aborted := false, body := [], placed := false, admitted := true
    removedBy := none }

/-- The record of a request refused at the admission port. -/
def Replay.refusal (r : Request) (m : Nat) (st : Status) : Replay :=
  { Replay.taken r m with status := some st, placed := true, admitted := false }

/-- Consume a request's sequence. -/
def State.consume (s : State) (r : Request) (p : Replay) : State := s.modSession r.session (Session.consume s.tb.persisted p)

/-! ## SCAN slices (R236, Table 9.10) -/

/-- Keys of a traversal slice. -/
def scanKeysOf (length : Nat) : Nat := 8192 * 2 ^ length
/-- Automaton steps of a measure. -/
def scanStepsOf (length : Nat) : Nat := 65536 * 2 ^ length

/-- Take keys from the front while the slice and the budget allow: steps used, keys left to visit. -/
def takeKeys : Nat → Nat → Bool → List Nat → Nat × List Nat
  | _, _, _, [] => (0, [])
  | 0, _, _, l => (0, l)
  | k + 1, b, forced, c :: rest =>
    if c ≤ b ∨ forced then
      let u := takeKeys k (b - c) false rest
      (c + u.1, u.2)
    else (0, c :: rest)

/-- A SCAN's turn in the open measure: one slice, unless no budget is left. -/
def State.scanTurn (s : State) (v : ScanRun) : State × ScanRun :=
  let budget := scanStepsOf s.store.length - s.seq.scanSteps
  let forced := !s.seq.scanRan
  if budget = 0 ∧ !forced then (s, v)
  else
    let u := takeKeys (scanKeysOf s.store.length) budget forced v.costs
    (s.modSeq fun q => { q with scanSteps := q.scanSteps + u.1, scanRan := true }, { v with costs := u.2 })

/-- A SCAN takes its turn; at its end its response leaves, and what is held behind it goes on (R46, R234). -/
def State.scanStep (s : State) (v : ScanRun) : State :=
  let (s1, w) := s.scanTurn v
  if w.costs.isEmpty then
    let f := s.tb.measure
    w.behind.foldl (fun t r => t.schedule { r with due := max r.due (f + 2), durable := max r.durable (f - 1) })
      (s1.schedule w.reply)
  else s1.modSeq fun q => { q with scans := q.scans ++ [w] }

/-! ## Settling a request at its sealed place -/

/-- The pattern slot that a SCAN or a WATCH names. -/
def slotTouch (r : Request) : List Touch := if fld r.body 0 2 = 0 then [] else [onSlot (fld r.body 0 2)]

/-- What a request reads or changes, for R46: its key; the keys under its prefix, with its pattern slot; the key of the open
value for a SEGMENT, of every member for a BATCH_CLOSE; the namespace of a stanza. -/
def State.touchesOf (s : State) (r : Request) : List Touch :=
  match r.op with
  | 0x01 | 0x02 | 0x03 | 0x04 | 0x05 => [onKey r.ns r.key]
  | 0x06 => ⟨r.ns, .under r.key⟩ :: slotTouch r
  | 0x07 => if bit r.flags 4 then [] else ⟨r.ns, .under r.key⟩ :: slotTouch r
  | 0x09 => ((s.store.batch r.session).map fun b => b.members.map fun m => onKey m.1.ns m.1.key).getD []
  | 0x0B => ((s.store.seg r.session).map fun g => [onKey g.ns g.key]).getD []
  | 0x13 => if isLoad r && fld r.body 2 2 != 0xFFFF then [onAll (u8 r.body 40)] else []
  | _ => []

/-- The reply of a request with its answer (R43, R44, R47, R267). -/
def State.replyOf (s : State) (x : Ctx) (r : Request) (a : Ans) (aborted : Bool) : Reply :=
  let w := isWrite r || x.chorus
  let at_ := s.seq.ackAt x.m
  { due := if w then at_.1 else max (x.m + 1) s.seq.behind
    durable := if w then at_.2 else 0
    mailbox := none, src := r.src, op := r.op
    flags := r.flags % 32 + (if aborted then 2 ^ 10 else 0) + (if a.truncated then 2 ^ 11 else 0)
    ns := r.ns, session := r.session, seq := r.seq, target := if x.chorus then r.target else x.adm
    status := a.status, pieces := a.pieces
    credit := !(r.op == 7 && !bit r.flags 4 && a.status == .ok)
    notify := false
    bytes := if r.op = 1 then piecesBytes a.pieces - 8 else if r.op = 0x13 then piecesBytes a.pieces else 0
    segment := 0, sliced := false, set := if x.chorus then some (x.m - 2) else none, reads := a.reads }

/-- The body of an answer, when the replay record keeps it (R110). -/
def Ans.kept (a : Ans) : Bytes :=
  let b := (a.pieces.map fun p => p.2.2.2).flatten
  if b.length ≤ 40 then b else []

/-- The request was pulled from a peer and its session is not open here: its source is not known. -/
def Source.unknown (x : Source) : Bool := x.ip == 0 && x.udp == 0

/-- Record a request's answer and queue its response; a member that does not answer only returns the credit. -/
def State.settle (s : State) (x : Ctx) (r : Request) (a : Ans) (aborted : Bool) : State :=
  if a.silent || (x.chorus && Source.unknown r.src) then s.modSession r.session (Session.returnCredit r.seq)
  else
    let s1 := s.modReplay r.session r.seq fun p => { p with status := some a.status, aborted, body := a.kept }
    let reply := s.replyOf x r a aborted
    if r.op = 6 ∧ a.status = .ok then s1.scanStep { reply, costs := a.costs, slot := a.slot, behind := [] }
    else s1.schedule reply

/-- One request at its sealed place (R42): a member of an open batch waits for its close; the others run and answer. -/
def State.runRequest (s : State) (x : Ctx) (r : Request) : State :=
  if joinsBatch r && (s.store.batch r.session).isSome then
    s.modStore fun t =>
      { t with batches := t.batches.map fun b => if b.session == r.session then { b with members := b.members ++ [(r, x.adm)] } else b }
  else if r.op = 9 then
    let c := opBatchClose x r s
    let s1 := c.members.foldl (fun t m => t.settle { x with adm := m.2.1 } m.1 m.2.2.1 m.2.2.2) c.s
    s1.settle x r c.own false
  else
    let s0 := s.consultRoute x r
    let (s1, a) := if awayFrom x r s0 then opAway x r s0 else opRun x r s0
    s1.settle x r a false

/-! ## Fields (R104, Table 5.5) -/

/-- Value bytes counted against the write allowance (R34). -/
def valueBytesOf (r : Request) : Nat :=
  if r.op = 2 ∨ r.op = 5 ∨ r.op = 0x0B then r.body.length
  else if r.op = 4 then r.body.length - 8
  else if isLoad r then r.body.length - 16
  else 0

/-- OFFSET, LENGTH and SEGMENT are 0. -/
def plain (r : Request) : Bool := r.offset == 0 && r.length == 0 && r.segment == 0

/-- A key of 1 to 240 bytes. -/
def keyed (r : Request) : Bool := decide (1 ≤ r.key.length) && decide (r.key.length ≤ 240)

/-- The fields that the admission port checks (Table 5.5; R275 for STANZA). -/
def formOk (r : Request) : Bool :=
  let b := r.body.length
  match r.op with
  | 0x01 => keyed r && r.segment == 0 && b == 0
  | 0x02 =>
    keyed r && r.offset == 0 && r.segment == 0 && decide (r.length ≤ 64 * 2 ^ 20) && decide (b ≤ 8192) &&
    (b == r.length || (b == 0 && decide (0 < r.length)))
  | 0x03 => keyed r && plain r && b == 0
  | 0x04 =>
    keyed r && r.offset == 0 && r.segment == 0 && decide (r.length ≤ 64 * 2 ^ 20) && decide (b ≤ 8200) &&
    (b == 8 + r.length || (b == 8 && decide (0 < r.length)))
  | 0x05 =>
    decide (r.key.length ≤ 240) && r.offset == 0 && r.segment == 0 && decide (1 ≤ r.length) && decide (r.length ≤ 8192) &&
    b == r.length
  | 0x06 => decide (r.key.length ≤ 240) && plain r && decide (u8 r.body 4 ≤ 240) && b == 8 + u8 r.body 4
  | 0x07 => decide (r.key.length ≤ 240) && (!bit r.flags 4 || r.key.isEmpty) && plain r && b == 12
  | 0x08 => r.key.isEmpty && plain r && b == 0
  | 0x09 => r.key.isEmpty && plain r && b == 0
  | 0x0A => r.key.isEmpty && plain r && b == 4
  | 0x0B =>
    r.key.isEmpty && b == r.length &&
    (if bit r.flags 3 then r.length == 0 else decide (1 ≤ r.length) && decide (r.length ≤ 8192))
  | 0x13 =>
    r.key.isEmpty && ((u8 r.body 0 == 1 && b == 16) || (u8 r.body 0 == 2 && decide (16 ≤ b) && decide (b ≤ 16 + 8192)))
  | _ => false

/-! ## The admission port (R33 to R37, R48) -/

end Sys2Proof.Machine

namespace Sys2Proof

open Machine

/-- The entry of a request as LIST reports it (R260). -/
def Request.listed (r : Request) : Listed := ⟨r.cls, r.op, r.session, r.seq, r.hash⟩

/-- Is this the request with this pair of SESSION and SEQ (R119)? -/
def Request.isId (r : Request) (session seq : Nat) : Bool := r.session == session && r.seq == seq

end Sys2Proof

namespace Sys2Proof.Machine


/-- A CANCEL removes its target from the open measure before sealing (R68): the target's credit returns. -/
def State.cancelOpen (s : State) (r : Request) : State :=
  let target := fld r.body 0 4
  let there := fun (i : Item) => match i with
    | .skp q => q.session == r.session && q.seq == target
    | .cmd _ => false
  if decide (target < r.seq) && s.seq.admitted.any there then
    ((s.modSeq fun q => { q with admitted := q.admitted.filter fun i => !there i }).modReplay r.session target
      fun p => { p with removedBy := some r.seq }).modSession r.session (Session.returnCredit target)
  else s

/-- Admit a request into the open measure (R33), where the measure's sealed list gives it its place (R38). -/
def State.takeIn (s : State) (r : Request) : State :=
  (s.consume r (.taken r s.tb.measure)).modSeq fun q =>
    { q with slots := q.slots + 1, bytes := q.bytes + valueBytesOf r, admitted := q.admitted ++ [.skp r] }

/-- Refuse a request at the admission port (R37): its sequence is consumed, its credit returns, the refusal leaves. -/
def State.refuseAt (s : State) (r : Request) (st : Status) : State :=
  let m := s.tb.measure
  ((s.consume r (.refusal r m st)).modSession r.session (Session.returnCredit r.seq)).answerNow r st 0 m []

/-- A request's turn at the admission port. -/
def State.atPort (s : State) (r : Request) : State :=
  let m := s.tb.measure
  if !formOk r then s.refuseAt r .range
  else if r.target = 0 then
    if s.fits (valueBytesOf r) then s.takeIn r
    else s.modSeq fun q => { q with waiting := q.waiting ++ [.skp r] }
  else if r.target < m then s.refuseAt r .late
  else if r.target = m then
    if s.fits (valueBytesOf r) then s.takeIn r else s.refuseAt r .busy
  else if r.target ≤ m + 64 then s.modSeq fun q => { q with held := q.held ++ [r] }
  else s.refuseAt r .range

/-- The next request of a session that its reorder window can release (R36). -/
def State.nextUp (s : State) (session : Nat) : Option (Request × Nat) :=
  match s.session session with
  | none => none
  | some x => s.seq.reorder.find? fun q => q.1.isId session x.next

/-- Release what waits in a session's reorder window, in sequence, as far as it goes. -/
def State.releaseNext (s : State) (session : Nat) : Nat → State
  | 0 => s
  | fuel + 1 =>
    match s.nextUp session with
    | none => s
    | some (r, a) =>
      ((s.modSeq fun q => { q with reorder := q.reorder.filter fun p => p != (r, a) }).atPort r).releaseNext session fuel

/-- The request already waits: in the reorder window, held, or for room. -/
def State.awaits (s : State) (r : Request) : Bool :=
  s.seq.reorder.any (fun q => q.1.isId r.session r.seq) || s.seq.held.any (fun q => q.isId r.session r.seq) ||
  s.seq.waiting.any fun i => match i with
    | .skp q => q.isId r.session r.seq
    | .cmd _ => false

/-- A duplicate (R111): answered from its replay record once its response was placed, RANGE with no record. The record holds status
and body only: TRUNCATED is clear, OFFSET and LENGTH are 0 (log entry 43). -/
def State.duplicate (s : State) (x : Session) (r : Request) (quiet : Bool) : State :=
  match x.record r.seq with
  | none => if quiet then s.discard r.src.port else s.answerNow r .range 0 0 []
  | some p =>
    match p.status with
    | some st => if p.placed then s.answerNow r st (2 ^ 9 + if p.aborted then 2 ^ 10 else 0) p.target p.body else s
    | none => s

/-- A request of a local session: steps 5 and 6 of R104, then its turn or the reorder window. -/
def State.arriveLocal (s : State) (x : Session) (r : Request) : State :=
  let d := (r.seq + 2 ^ 32 - x.next) % 2 ^ 32
  if 2 ^ 32 - 256 ≤ d then s.duplicate x r false
  else if 256 ≤ d then s.answerNow r .range 0 0 []
  else if s.awaits r then s
  else if x.window < x.outstanding + 1 then
    (s.modSeq fun q => { q with refusedCredit := bump q.refusedCredit }).answerNow r .credit 0 0 []
  else
    let s1 := s.modSession r.session (Session.takeCredit r.seq)
    if d = 0 then
      let s2 := s1.atPort r
      s2.releaseNext r.session s2.seq.reorder.length
    else s1.modSeq fun q => { q with reorder := q.reorder ++ [(r, s.tb.measure)] }

/-! ## Chorus requests (R255, R257, R263, R265) -/

/-- Put a request into the on-time set of its target. -/
def addOnTime (r : Request) : List (Nat × List Request) → List (Nat × List Request)
  | [] => [(r.target, [r])]
  | (t, l) :: rest => if t = r.target then (t, l ++ [r]) :: rest else (t, l) :: addOnTime r rest

/-- The on-time set of a measure. -/
def ChorusRun.set (c : ChorusRun) (t : Nat) : List Request := (getKey t c.onTime).getD []

/-- This member answers a Chorus request (R267): it holds the key's shard (of the open value, for a SEGMENT), or no key is
named. -/
def State.answers (s : State) (r : Request) : Bool :=
  if r.op = 0x0B then
    match s.store.seg r.session with
    | none => true
    | some g => s.store.holds g.ns g.key
  else if r.op = 1 ∨ r.op = 2 ∨ r.op = 3 ∨ r.op = 4 ∨ r.op = 5 then s.store.holds r.ns r.key
  else true

/-- No Chorus request for measure `m` is taken and no set of it is sealed: before the formation, while restoring (R280),
and from a PARK on until the E of a RESUME (R272), a pending RESUME included. -/
def Store.chorusClosed (t : Store) (c : Chorus) (m : Nat) : Bool :=
  c.restore.isSome || decide (m < c.e) ||
  (match c.parked with
    | some p => decide (p ≤ m) && !(t.effective.any fun f => f.2.opcode == 0x0809 && decide (f.1 ≤ m))
    | none => false) ||
  match c.resuming with
  | some e => decide (m < e)
  | none => false

/-- The request may belong to the Chorus (R255): sent to the group, with a target, naming a Chorus namespace where its
opcode has one. -/
def Store.chorusForm (t : Store) (r : Request) : Bool :=
  r.src.group && r.target != 0 && r.op != 0x13 &&
  (r.op == 8 || r.op == 9 || r.op == 0x0A || (t.chorusNs r.ns).isSome)

/-- A sequence that a session has consumed. -/
def Session.consumed (x : Session) (seq : Nat) : Bool :=
  x.above.contains seq || decide (2 ^ 31 ≤ (seq + 2 ^ 32 - x.next) % 2 ^ 32)

/-- A request that arrives after its set was sealed: refused LATE at once (R265). -/
def State.lateNow (s : State) (r : Request) : State :=
  let s1 := s.consume r { Replay.refusal r s.tb.measure .late with target := r.target }
  if s.answers r then s1.answerNow r .late 0 r.target [] else s1

/-- A request of a Chorus session (R257): admitted into its target's on-time set, kept for the union when its target has
closed, or discarded and counted. -/
def State.arriveChorus (s : State) (x : Session) (r : Request) : State :=
  let m := s.tb.measure
  let drop := s.discard r.src.port
  match s.store.chorus with
  | none => drop
  | some c =>
    if !s.store.chorusForm r then drop
    else if x.consumed r.seq then (if s.answers r then s.duplicate x r true else s)
    else if 256 ≤ (r.seq + 2 ^ 32 - x.next) % 2 ^ 32 ∨ m + 64 < r.target ∨ s.store.chorusClosed c r.target then drop
    else if (s.chorus.set r.target ++ s.chorus.late).any fun q => q.isId r.session r.seq && q.target == r.target then
      s.modChorus fun k => { k with clash := if k.clash.contains (r.target, r.listed) then k.clash else k.clash ++ [(r.target, r.listed)] }
    else if r.target ≤ c.lastSealed then s.lateNow r
    else if x.window < x.outstanding + 1 then drop
    else
      let s1 := s.modSession r.session (Session.takeCredit r.seq)
      if m ≤ r.target then s1.modChorus fun k => { k with onTime := addOnTime r k.onTime }
      else s1.modChorus fun k => { k with late := k.late ++ [r] }

/-! ## Arrival (R104) -/

/-- The drive serves SKP on the port now (R100, Table 6.3, Table 6.8, R141): what happens to the datagram otherwise. -/
def State.skpGateIn (s : State) (eff : UnitState) (src : Source) : Option State :=
  if s.power.inReset ∨ s.power.mode = .custody then some s
  else if s.power.mode ≠ .service then some (s.discard src.port)
  else match eff with
    | .offline => some s
    | .fenced => some (s.count src.port .fencedDiscard)
    | .degraded | .online => if src.vid = (s.net src.port).set.dataVid then none else some (s.discard src.port)

/-- The same by the port's effective state now. -/
def State.skpGate (s : State) (src : Source) : Option State := s.skpGateIn (s.effective (portId src.port)) src

/-- The source is the one a session is bound to (R105). -/
def Session.boundTo (x : Session) (src : Source) : Bool := x.bindIp == src.ip && x.bindUdp == src.udp

/-- Step 4 of R104 and what follows for a request that uses a sequence. -/
def State.arrive (s : State) (r : Request) : State :=
  match (s.session r.session).filter (·.opened) with
  | none => if r.src.group then s.discard r.src.port else s.answerNow r .notFound 0 0 []
  | some x =>
    if !x.boundTo r.src then
      if x.chorus then s.discard r.src.port else s.answerNow r .denied 0 0 []
    else
      let s1 := s.modSession r.session fun y => { y with lastSeen := s.tb.measure }
      if x.chorus then s1.arriveChorus x r else s1.arriveLocal x r

/-- A sequenced request's row: it arrives, and at its turn it enters the open measure, waits or is refused (R33 to R37, R48). What
it does there is done at its place in the measure's sealed list (R38, R42). -/
def State.request (s : State) (r : Request) : State :=
  match s.skpGate r.src with
  | some t => t
  | none => s.arrive r

/-! ## HELLO, BYE, CREDIT, HEARTBEAT (R63 to R65, R105 to R108) -/

/-- HELLO's response body (R106). -/
def State.helloBody (s : State) (next window : Nat) : Bytes :=
  be 4 next ++ be 2 window ++ be 1 s.store.length ++ be 1 s.tb.state.num ++ be 6 s.tb.measure ++ be 2 0

/-- A session that was never opened starts with next sequence 1. -/
def Session.new (id : Nat) : Session where
  id := id
  opened := false
  bindIp := 0
  bindUdp := 0
  chorus := false
  window := 0
  holding := []
  closing := []
  lastSeen := 0
  next := 1
  above := []
  history := []
  replay := []
  wrapped := false

/-- Open a session (R64, R105): 32 credits, the binding, and its kind by the address of the HELLO (R255). -/
def State.openSession (s : State) (r : Request) : State :=
  let up := fun (x : Session) =>
    { x with opened := true, bindIp := r.src.ip, bindUdp := r.src.udp, chorus := r.src.group, window := 32
             lastSeen := s.tb.measure }
  match s.session r.session with
  | some _ => s.modSession r.session up
  | none => { s with sessions := s.sessions ++ [up (.new r.session)] }

/-- The fixed form of HELLO, BYE and HEARTBEAT (R104 step 3). -/
def bareOk (r : Request) : Bool := r.key.isEmpty && r.target == 0 && plain r && r.body.isEmpty

/-- HELLO. No measure admits or refuses it: its response, like those of BYE, CREDIT and HEARTBEAT, carries TARGET 0 (log entry
121). -/
def State.hello (s : State) (r : Request) : State :=
  if !bareOk r ∨ r.session = 0 ∨ 0xFFF0 ≤ r.session then s.answerNow r .range 0 0 []
  else match (s.session r.session).filter (·.opened) with
    | some x =>
      if x.boundTo r.src then
        (s.modSession r.session fun y => { y with lastSeen := s.tb.measure }).answerNow r .ok 0 0 (s.helloBody x.next x.window)
      else s.answerNow r .denied 0 0 []
    | none =>
      if s.poolFree < 32 ∨ 1024 ≤ s.openSessions then s.answerNow r .busy 0 0 []
      else
        let s1 := s.openSession r
        s1.answerNow r .ok 0 0 (s1.helloBody (((s1.session r.session).map (·.next)).getD 1) 32)

/-- Steps 4 of R104 for BYE, CREDIT and HEARTBEAT: run on the open session that the source is bound to. -/
def State.onOpen (s : State) (r : Request) (f : State → Session → State) : State :=
  match (s.session r.session).filter (·.opened) with
  | none => s.answerNow r .notFound 0 0 []
  | some x =>
    if x.boundTo r.src then f (s.modSession r.session fun y => { y with lastSeen := s.tb.measure }) x
    else s.answerNow r .denied 0 0 []

/-- Close a session (R64, R107): its outstanding requests keep their credits, its spilled responses go (R59). -/
def State.closeSession (s : State) (id : Nat) : State :=
  (s.modSession id Session.shut).releaseSession id

/-- BYE; TARGET 0 in its response (log entry 121). -/
def State.bye (s : State) (r : Request) : State :=
  if !bareOk r then s.answerNow r .range 0 0 []
  else s.onOpen r fun t _ => (t.closeSession r.session).answerNow r .ok 0 0 []

/-- HEARTBEAT; TARGET 0 in its response (log entry 121). -/
def State.beat (s : State) (r : Request) : State :=
  if !bareOk r then s.answerNow r .range 0 0 []
  else s.onOpen r fun t _ => t.answerNow r .ok 0 0 (be 6 s.tb.measure ++ be 1 s.tb.state.num ++ be 1 0)

/-- CREDIT (R65): the new window is the smaller of REQUESTED and the current window plus the free pool credits. TARGET 0 in
the response (log entry 121). -/
def State.creditRequest (s : State) (r : Request) : State :=
  let want := fld r.body 0 2
  if !(r.key.isEmpty && r.target == 0 && plain r && r.body.length == 8) then s.answerNow r .range 0 0 []
  else s.onOpen r fun t x =>
    if want = 0 ∨ 256 < want then t.answerNow r .range 0 0 []
    else
      let w := min want (x.window + s.poolFree)
      let t1 := t.modSession r.session fun y => { y with window := w }
      t1.answerNow r .ok 0 0 (be 2 want ++ be 2 w ++ be 2 x.outstanding ++ be 2 (sat 16 t1.poolFree))

/-- Run an unsequenced request where SKP is served. -/
def State.served (s : State) (r : Request) (f : State → State) : State :=
  match s.skpGate r.src with
  | some t => t
  | none => f s

/-! ## Meanings -/

/-- GET (R114). -/
def execGet (r : Request) (s : State) : Out := .next (s.request { r with op := 0x01 })
/-- PUT (R115, R116). -/
def execPut (r : Request) (s : State) : Out := .next (s.request { r with op := 0x02 })
/-- DELETE (R120). -/
def execDelete (r : Request) (s : State) : Out := .next (s.request { r with op := 0x03 })
/-- CAS (R121). -/
def execCas (r : Request) (s : State) : Out := .next (s.request { r with op := 0x04 })
/-- APPEND (R122, R174). -/
def execAppend (r : Request) (s : State) : Out := .next (s.request { r with op := 0x05 })
/-- SCAN (R123). -/
def execScan (r : Request) (s : State) : Out := .next (s.request { r with op := 0x06 })
/-- WATCH (R124). -/
def execWatch (r : Request) (s : State) : Out := .next (s.request { r with op := 0x07, flags := withBit r.flags 4 false })
/-- WATCH with STOP (R127). -/
def execWatchStop (r : Request) (s : State) : Out := .next (s.request { r with op := 0x07, flags := withBit r.flags 4 true })
/-- BATCH_OPEN (R128). -/
def execBatchOpen (r : Request) (s : State) : Out := .next (s.request { r with op := 0x08 })
/-- BATCH_CLOSE (R129). -/
def execBatchClose (r : Request) (s : State) : Out := .next (s.request { r with op := 0x09 })
/-- CANCEL (R68, R69, R131). -/
def execCancel (r : Request) (s : State) : Out := .next (s.request { r with op := 0x0A })
/-- SEGMENT that neither completes nor discards its value (R117). -/
def execSegment (r : Request) (s : State) : Out :=
  .next (s.request { r with op := 0x0B, flags := withBit (withBit r.flags 2 false) 3 false })
/-- SEGMENT with LAST (R118). -/
def execSegmentCommit (r : Request) (s : State) : Out :=
  .next (s.request { r with op := 0x0B, flags := withBit (withBit r.flags 2 true) 3 false })
/-- SEGMENT with ABORT (R119). -/
def execSegmentAbort (r : Request) (s : State) : Out :=
  .next (s.request { r with op := 0x0B, flags := withBit r.flags 3 true })
/-- STANZA READ (R275). -/
def execStanzaRead (r : Request) (s : State) : Out :=
  .next (s.request { r with op := 0x13, body := be 1 1 ++ r.body.drop 1 })
/-- STANZA LOAD (R281). -/
def execStanzaLoad (r : Request) (s : State) : Out :=
  .next (s.request { r with op := 0x13, body := be 1 2 ++ r.body.drop 1 })
/-- HELLO (R105, R106). -/
def execHello (r : Request) (s : State) : Out := .next (s.served { r with op := 0x0C } fun t => t.hello { r with op := 0x0C })
/-- BYE (R107). -/
def execBye (r : Request) (s : State) : Out := .next (s.served { r with op := 0x0D } fun t => t.bye { r with op := 0x0D })
/-- CREDIT (R65). -/
def execCredit (r : Request) (s : State) : Out :=
  .next (s.served { r with op := 0x0E } fun t => t.creditRequest { r with op := 0x0E })
/-- HEARTBEAT (R108). -/
def execHeartbeat (r : Request) (s : State) : Out :=
  .next (s.served { r with op := 0x0F } fun t => t.beat { r with op := 0x0F })

/-! ## Deadlines of sessions -/

/-- Sequences of a session that wait, and have arrived. -/
def State.arrivedIn (s : State) (session : Nat) : List Nat :=
  (s.seq.reorder.filter (fun q => q.1.session == session)).map (·.1.seq) ++
  (s.seq.held.filter (fun q => q.session == session)).map (·.seq) ++
  s.seq.waiting.filterMap fun i => match i with
    | .skp q => if q.session == session then some q.seq else none
    | .cmd _ => none

/-- Distance of the lowest missing sequence from the next sequence. -/
def gapAt (next : Nat) (l : List Nat) : Nat → Nat → Nat
  | 0, k => k
  | fuel + 1, k => if l.contains ((next + k) % 2 ^ 32) then gapAt next l fuel (k + 1) else k

/-- Requests of a session behind its gap, with the measures of their arrival (R112). -/
def State.behindGap (s : State) (x : Session) : List (Request × Nat) :=
  let g := gapAt x.next (s.arrivedIn x.id) 256 0
  s.seq.reorder.filter fun q => q.1.session == x.id && decide (g < (q.1.seq + 2 ^ 32 - x.next) % 2 ^ 32)

/-- A session's gap has stood past measure a + 64, where a saw the first request behind it arrive (R112). -/
def State.gapOver (s : State) (x : Session) : Bool := (s.behindGap x).any fun q => decide (q.2 + 64 < s.tb.measure)

/-- The gap timeout of a session: BUSY with GAP to each request behind it; no sequence is consumed, and no measure refused
them at admission, so TARGET is 0 (Table 5.2). -/
def State.gapTimeout (s : State) (id : Nat) : State :=
  match s.session id with
  | none => s
  | some x =>
    if s.gapOver x then
      let l := s.behindGap x
      l.foldl (fun t q => (t.modSession id (Session.returnCredit q.1.seq)).answerNow q.1 .busy (2 ^ 12) 0 [])
        (s.modSeq fun q => { q with reorder := q.reorder.filter fun p => !l.contains p })
    else s

/-- GAP_TIMEOUT (R112). -/
def execGapTimeout (session : Nat) (s : State) : Out := .next (s.gapTimeout session)

/-- The lists of every measure up to `m` have executed. -/
def State.ranTo (s : State) (m : Nat) : Bool := !s.seq.sealed.any fun l => decide (l.measure ≤ m)

/-- Every member of a discarded batch is answered LATE with ABORTED, in B + 67 (R130). -/
def State.failBatch (s : State) (b : Batch) : State :=
  b.members.foldl (fun t m => t.settle { m := b.adm + 64, adm := m.2, chorus := false } m.1 (.no .late) true)
    (s.modStore fun t => { t with batches := t.batches.filter fun y => y.session != b.session })

/-- The batch deadline of a session: measure B + 64 has closed, and its list, which could still hold the BATCH_CLOSE, has
executed. -/
def State.batchDeadline (s : State) (id : Nat) : State :=
  match s.store.batch id with
  | some b => if b.adm + 64 < s.tb.measure && s.ranTo (b.adm + 64) then s.failBatch b else s
  | none => s

/-- BATCH_DEADLINE (R130). -/
def execBatchDeadline (session : Nat) (s : State) : Out := .next (s.batchDeadline session)

/-- The deadline of a session's open segmented value: it is discarded with its reservation, unless a SEGMENT sealed by the close
of that measure has still to commit it (R119). -/
def State.segDeadline (s : State) (id : Nat) : State :=
  match s.store.seg id with
  | some g => if g.adm + 4194304 < s.tb.measure && s.ranTo (g.adm + 4194304) then s.modStore fun t => t.dropSeg id else s
  | none => s

/-- What the closes of measures below `m` discard comes before the list of `m`: batches never closed and segmented values never
committed in time (R119, R130). -/
def State.expire (m : Nat) (s : State) : State :=
  let s1 := (s.store.batches.filter fun b => decide (b.adm + 64 < m)).foldl State.failBatch s
  s1.modStore fun t => { t with segs := t.segs.filter fun g => !decide (g.adm + 4194304 < m) }

/-- SEGMENTED_VALUE_DEADLINE (R119). -/
def execSegmentedValueDeadline (session : Nat) (s : State) : Out := .next (s.segDeadline session)

/-- 65,536 measures without a datagram of the session close it (R107). Measures are counted by their numbers: those that a forward
step skips count (log entry 122). -/
def State.idleClose (s : State) (id : Nat) : State :=
  match s.session id with
  | some x => if x.opened ∧ x.lastSeen + 65536 < s.tb.measure then s.closeSession id else s
  | none => s

/-- SESSION_IDLE_CLOSE (R107). -/
def execSessionIdleClose (session : Nat) (s : State) : Out := .next (s.idleClose session)

/-- A watch whose duration is over, once the changes of W + DURATION have been observed (R124, R125). -/
def State.watchOver (s : State) (id seq : Nat) : State :=
  match s.seq.watches.find? fun w => w.is id seq with
  | some w =>
    let last := w.from_ + w.duration
    if last < s.tb.measure ∧ !(s.seq.sealed.any fun l => decide (l.measure ≤ last)) then s.endWatch w 1 last else s
  | none => s

/-- WATCH_DURATION_END (R124, R125). -/
def execWatchDurationEnd (session seq : Nat) (s : State) : Out := .next (s.watchOver session seq)

/-- A watch that has reached its limit ends (R125); `tell` ends it with the notification that reaches the limit. -/
def State.watchFull (s : State) (id seq : Nat) : State :=
  match s.seq.watches.find? fun w => w.is id seq with
  | some w => if w.limit ≠ 0 ∧ w.limit ≤ w.count then s.endWatch w 2 s.seq.executed else s
  | none => s

/-- WATCH_LIMIT_REACHED (R125). -/
def execWatchLimitReached (session seq : Nat) (s : State) : Out := .next (s.watchFull session seq)

end Sys2Proof.Machine
end

