-- ==== Sys2Proof/Machine/ChorusCmds.lean ====
section
/-! DEFINITION. The CHORUS commands (Tables 10.1, 10.2, 15.12; R249 to R254, R272 to R274, R280, R282, R395 to R397). -/

namespace Sys2Proof.Machine

open Sys2Proof

/-! ## Effective measures (R250) -/

/-- E lies from A + 4 to A + 64. -/
def effectiveOk (adm e : Nat) : Bool := decide (adm + 4 ≤ e) && decide (e ≤ adm + 64)

/-- The checks of a command of the family other than FORM and STATUS: E, then NOT_FOUND outside a Chorus (R250, R395). -/
def inChorus (c : SealedCmd) (e : Nat) (s : State) (f : Chorus → Res) : Res :=
  if !effectiveOk c.adm e then refuse s .range
  else match s.store.chorus with
    | none => refuse s .notFound
    | some k => f k

/-- The outcome at E of a command that needs a Chorus. -/
def atE (s : State) (f : Chorus → Res) : Res :=
  match s.store.chorus with
  | none => refuse s .notFound
  | some k => f k

/-! ## Member units -/

/-- The unit identifier of a member (Table 4.11). -/
def memberId (k : Nat) : Nat := 0x6000 + k

/-- The drive's own member unit. -/
def Chorus.ownId (c : Chorus) : Nat := memberId c.self

/-- The other members. -/
def Chorus.peers (c : Chorus) : List Nat := (List.range c.members).filter (· != c.self)

/-- Units with no member unit. -/
def withoutMembers (l : List HwUnit) : List HwUnit := l.filter fun u => u.id / 0x1000 != 6

/-- Units with the member units of a formation: the own unit DEGRADED from now on, the peers FENCED
(R251, R269). -/
def withMembers (l : List HwUnit) (members self now : Nat) : List HwUnit :=
  withoutMembers l ++ (List.range members).map fun k =>
    if k = self then { HwUnit.fresh (memberId k) .degraded with degradedAt := some now } else HwUnit.fresh (memberId k) .fenced

/-! ## FORM (R249 to R251, R280) -/

/-- The arguments of Table 10.2. -/
structure FormArgs where
  id : Nat
  e : Nat
  members : Nat
  self : Nat
  rf : Nat
  count : Nat
  length : Nat
  restore : Bool
  checkpoint : Nat
  group6 : Nat
  group4 : Nat
  table : List (Nat × Nat)
  nss : List ChorusNs

/-- FORM's arguments as read. -/
def formArgs (b : Bytes) : FormArgs where
  id := fld b 0 8
  e := fld b 8 6
  members := u8 b 14
  self := u8 b 15
  rf := u8 b 16
  count := u8 b 17
  length := u8 b 18
  restore := bit (u8 b 19) 0
  checkpoint := fld b 24 8
  group6 := fld b 32 16
  group4 := fld b 48 4
  table := (List.range (u8 b 14)).map fun k => (fld b (56 + 24 * k) 8, fld b (64 + 24 * k) 16)
  nss := (List.range (u8 b 17)).map fun k =>
    { ns := u8 b (248 + 16 * k), log2 := u8 b (249 + 16 * k), maxKeys := fld b (252 + 16 * k) 4, quota := fld b (256 + 16 * k) 8 }

/-- A namespace of the table is a ledger of the drive. -/
def Store.isLedger (t : Store) (ns : Nat) : Bool := ((t.ns ns).map fun n => n.typ == .ledger).getD false

/-- Step 1 of R251, as far as the arguments decide it. -/
def FormArgs.formed (f : FormArgs) : Bool :=
  decide (1 ≤ f.members ∧ f.members ≤ 8) && decide (f.self < f.members) &&
  decide (1 ≤ f.rf ∧ f.rf ≤ 3 ∧ f.rf ≤ f.members) && decide (1 ≤ f.count ∧ f.count ≤ 15) &&
  (f.restore || f.checkpoint == 0) && f.group6 / 2 ^ 120 == 0xFF && (f.group4 == 0 || f.group4 / 2 ^ 28 == 0xE) &&
  f.nss.all (fun n => n.ns != 0 && decide (n.log2 ≤ 10) && n.maxKeys != 0 && n.quota != 0) &&
  decide ((f.nss.map (·.ns)).Nodup) && decide (shardTotal f.nss ≤ 4096)

/-- Step 1 of R251, and E (R250). -/
def FormArgs.ok (f : FormArgs) (adm : Nat) (s : State) : Bool :=
  effectiveOk adm f.e && f.formed && f.length == s.store.length &&
  f.nss.all (fun n => n.log2 == 0 || !s.store.isLedger n.ns) && ((f.table[f.self]?).map (·.1)).getD 0 == s.board.serial

/-- Shards of a namespace that a member holds (h of R251). -/
def heldCount (n : ChorusNs) (members self rf : Nat) : Nat :=
  ((List.range n.shards).filter fun i => (List.range rf).any fun j => (n.ns + i + j) % members == self).length

/-- Step 4 of R251 for one namespace: it holds a key, is of another type, or has a counter above E × 4,096. -/
def Store.formBusy (t : Store) (e : Nat) (n : Namespace) : Bool :=
  !n.keys.isEmpty || n.typ == .staging || decide (e * 4096 < (getKey n.id t.counters).getD 0)

/-- Step 5 of R251: the namespaces one at a time, with the commitments and key reservations so far. -/
def Store.formFits (t : Store) (f : FormArgs) : Nat → Nat → List ChorusNs → Bool
  | _, _, [] => true
  | bytes, keys, c :: rest =>
    match t.ns c.ns with
    | none => t.formFits f bytes keys rest
    | some n =>
      let h := heldCount c f.members f.self f.rf
      let u := t.use n
      let bytes' := bytes - commitment u n.guarantee + commitment u (c.quota * h / c.shards)
      let keys' := keys - t.keyCount n + max (t.keyCount n) (c.maxKeys / c.shards * h)
      decide (bytes' ≤ t.limit n.typ) && decide (keys' ≤ t.keyLimit n.typ) && t.formFits f bytes' keys' rest

/-- Steps 2 to 5 of R251. -/
def formCheck (f : FormArgs) (s : State) : Option Status :=
  let t := s.store
  if t.chorus.isSome then some .busy
  else if f.nss.any fun n => (t.ns n.ns).isNone then some .notFound
  else if f.nss.any fun n => ((t.ns n.ns).map (t.formBusy f.e)).getD false then some .busy
  else if !t.formFits f t.committed t.keysCommitted f.nss then some .noSpace
  else none

/-- C(E − 1) of R251. -/
def chainStart (id e : Nat) : Bytes := sha256 (be 8 id ++ be 6 e)

/-- The ROUTE value and care bits of a shard (R226, R251): the namespace and the top SHARDS_LOG2 bits of the key hash. -/
def routeBits (n : ChorusNs) (index : Nat) : Nat × Nat :=
  (n.ns * 2 ^ 104 + n.lo index * 2 ^ 40, 0xFF * 2 ^ 104 + (2 ^ 64 - 2 ^ (64 - n.log2)) * 2 ^ 40)

/-- The ROUTE entries of a Chorus in the slots that the drive chooses, from pairs that can be searched (R218, R251). -/
def routeEntries (l : Slots) (choice : Nat) (nss : List ChorusNs) : List Entry :=
  let all := (shardBases 0 nss).flatMap fun b => (List.range b.2.shards).map fun i => (b.1 + i, routeBits b.2 i)
  (all.map fun x =>
    { addr := l.addr ((choice + x.1) % l.count), tag := x.1, prio := 0, value := x.2.1, care := x.2.2 : Entry }).foldl
    (fun es e => putEntry e es) []

/-- The slots of ROUTE in pairs with a usable bank. -/
def State.routeSlots (s : State) : Slots :=
  let l := s.store.tables.slots .route
  { l with pairs := l.pairs.filter fun k => !s.pairLost k }

/-- A namespace joins the Chorus (R251). -/
def Store.joinNs (t : Store) (f : FormArgs) (c : ChorusNs) : Store :=
  t.modNs c.ns fun n =>
    { n with quota := c.quota, guarantee := c.quota * heldCount c f.members f.self f.rf / c.shards }

/-- The Chorus at its formation. -/
def FormArgs.chorus (f : FormArgs) : Chorus where
  id := f.id
  e := f.e
  members := f.members
  self := f.self
  rf := f.rf
  group6 := f.group6
  group4 := f.group4
  table := f.table
  nss := f.nss
  shards := shardsHeld f.nss f.members f.self f.rf (f.e * 4096) 0
  chain := [(f.e - 1, chainStart f.id f.e)]
  lastSealed := f.e - 1
  log := []
  parked := none
  resuming := none
  checkpoint := none
  restore := if f.restore then
    some { checkpoint := f.checkpoint, manifest := [], complete := false, next := 0, cut := 0, loads := [], discarded := 0
           firstEnd := none } else none
  generation := 0

/-- FORM at E: namespaces, reservations, shards, ROUTE entries, member units and chain (R251). -/
def formApply (c : SealedCmd) (s : State) : Res :=
  let f := formArgs c.cmd.args
  let l := s.routeSlots
  match formCheck f s with
  | some e => refuse s e
  | none =>
    if l.count < shardTotal f.nss then refuse s .unitOffline
    else
      let k := f.chorus
      let es := routeEntries l (Config.placement s.store.draws) f.nss
      let s1 := s.modStore fun t =>
        { f.nss.foldl (fun t n => t.joinNs f n) t with chorus := some k }
      okay { (s1.setTables (s1.store.tables.setEntries .route es)).drawn with
        units := withMembers s.units f.members f.self s.tb.measure
        chorus := { ChorusRun.reset with lastHeard := Vector.replicate 8 s.tb.measure } }
        (be 2 k.shards.length ++ be 2 0)

/-- CHORUS.FORM. -/
def cmdChorusForm : CmdDef :=
  { CmdDef.base 0x0801 .chorusEffective .sec (· == 488) (fun c s =>
      let f := formArgs c.cmd.args
      if !f.ok c.adm s then refuse s .range
      else match formCheck f s with
        | some e => refuse s e
        | none => okay s []) with
    pre := fun _ b => if (formArgs b).formed then none else some .range
    later := formApply
    effective := fun b => fld b 8 6 }

/-! ## LEAVE (R254) -/

/-- A namespace becomes local again: its counter is at or above those of its shards (R164). -/
def Store.leaveNs (t : Store) (c : Chorus) (n : ChorusNs) : Store :=
  let top := ((c.shards.filter fun h => h.ns == n.ns).map (·.counter)).foldl max ((getKey n.ns t.counters).getD 0)
  if (t.ns n.ns).isSome then { t with counters := insertKey n.ns top t.counters } else t

/-- The end of a Chorus: content stays, ROUTE entries, reservations and member units go; what waits of it is dropped. -/
def State.leaveChorus (s : State) (c : Chorus) : State :=
  let s0 := c.peers.foldl (fun t k => t.lowerData (memberId k) .offline) (s.lowerData c.ownId .offline)
  let waiting := (s0.chorus.onTime.map (·.2)).flatten ++ s0.chorus.late
  let s1 := waiting.foldl (fun t r => t.modSession r.session (Session.returnCredit r.seq)) (s0.dropReplies fun r => r.set.isSome)
  let s2 := s1.modStore fun t =>
    { c.nss.foldl (fun t n => t.leaveNs c n) t with
      chorus := none
      tables := t.tables.setEntries .route [] }
  { s2 with units := withoutMembers s2.units, chorus := .reset }

/-- CHORUS.LEAVE. -/
def cmdChorusLeave : CmdDef :=
  { CmdDef.base 0x0802 .chorusEffective .mgmt (· == 8) (fun c s => inChorus c (fld c.cmd.args 0 6) s fun _ => okay s []) with
    later := fun _ s => atE s fun k => okay (s.leaveChorus k) []
    effective := fun b => fld b 0 6 }

/-! ## STATUS (R397) -/

/-- A PARK is in force. -/
def Chorus.isParked (c : Chorus) : Bool := c.parked.isSome

/-- The newest chain value of a measure at or below `m`; zeros when there is none. -/
def Chorus.chainAt (c : Chorus) (m : Nat) : Bytes := ((c.chain.find? fun p => decide (p.1 ≤ m)).map (·.2)).getD (zeros 32)

/-- The 64-byte bitmap of held shards from `first` on. -/
def Chorus.heldMap (c : Chorus) (first : Nat) : Bytes :=
  (List.range 64).map fun k =>
    BitVec.ofNat 8 ((List.range 8).map fun j => if c.shards.any (fun h => h.num == first + 8 * k + j) then 2 ^ j else 0).sum

/-- CHORUS.STATUS's result. -/
def State.chorusStatus (s : State) (c : Chorus) (first : Nat) : Bytes :=
  be 8 c.id ++ be 1 c.members ++ be 1 c.self ++ be 1 c.rf ++
  be 1 (b2n c.restore.isSome + 2 * b2n c.isParked + 4 * b2n c.checkpoint.isSome) ++
  be 2 (shardTotal c.nss) ++ be 2 c.shards.length ++
  ((List.range 8).flatMap fun k => be 1 (if k < c.members then (s.effective (memberId k)).num else 0xFF)) ++
  be 6 c.lastSealed ++ be 2 0 ++ c.chainAt c.lastSealed ++ be 2 first ++ be 2 0 ++ c.heldMap first

/-- CHORUS.STATUS. -/
def cmdChorusStatus : CmdDef := .base 0x0803 .immediate .rt (· == 4) fun c s =>
  match s.store.chorus with
  | none => refuse s .notFound
  | some k =>
    let first := fld c.cmd.args 0 2
    if first % 512 ≠ 0 then refuse s .range else okay s (s.chorusStatus k first)

/-! ## CHECKPOINT, CHECKPOINT_END (R273, R274) -/

/-- Peers and the member itself whose round 2 counts for measure `m` (R264): copies without FENCED from a peer that is not
OFFLINE and that no condition of Table 10.6 has lowered since its unit last started. -/
def State.countedFor (s : State) (c : Chorus) (m : Nat) : List Nat :=
  (List.range c.members).filter fun k =>
    k == c.self ||
    (s.chorus.reports.any (fun r => r.member == k && r.measure == m && r.round == 2 && !r.fenced) &&
      decide (2 ≤ (s.mgmtView (memberId k)).num) &&
      match s.unit (memberId k) with
      | none => false
      | some u => decide (2 ≤ u.data.num) || (u.data == .fenced && u.degradedAt.isNone))

/-- CHECKPOINT at E: the snapshot at the head of the list of X, and who was counted when this member sealed F(X − 2): nobody when
it did not seal it (R273). -/
def checkpointApply (c : SealedCmd) (s : State) : Res :=
  atE s fun k =>
    if k.checkpoint.isSome then refuse s .busy
    else
      let x := fld c.cmd.args 8 6
      let counted := if s.chorus.counted.1 + 2 = x then s.chorus.counted.2 else []
      let sn := s.store.snapshot k (fld c.cmd.args 0 8) x (fld c.cmd.args 14 2) counted
      okay (s.modStore fun t => { t with chorus := some { k with checkpoint := some sn } }) []

/-- CHORUS.CHECKPOINT. -/
def cmdChorusCheckpoint : CmdDef :=
  { CmdDef.base 0x0804 .chorusEffective .mgmt (· == 16) (fun c s =>
      inChorus c (fld c.cmd.args 8 6) s fun k => if k.checkpoint.isSome then refuse s .busy else okay s []) with
    pre := fun _ b =>
      let n := fld b 14 2
      if n < 1024 ∨ 8128 < n ∨ n % 64 ≠ 0 then some .range else none
    later := checkpointApply
    effective := fun b => fld b 8 6 }

/-- CHORUS.CHECKPOINT_END. -/
def cmdChorusCheckpointEnd : CmdDef := .base 0x0805 .sealedNow .mgmt (· == 8) fun c s =>
  match s.store.chorus with
  | none => refuse s .notFound
  | some k =>
    if (k.checkpoint.map (·.id)) = some (fld c.cmd.args 0 8) then
      okay (s.modStore fun t => { t with chorus := some { k with checkpoint := none } }) []
    else refuse s .notFound

/-! ## RESTORE_END (R282, R179) -/

/-- Source shards of the manifest that overlap a shard this member holds. -/
def Chorus.needed (c : Chorus) (v : Restore) : List Nat :=
  (manifestShards v.manifest).filterMap fun x =>
    if c.shards.any fun h => h.ns == x.2.1 && match c.nss.find? fun n => n.ns == h.ns with
      | some n => rangesMeet (n.lo h.index) (n.hi h.index) x.2.2.1 x.2.2.2
      | none => false then some x.1 else none

/-- Every source shard that the member needs has passed its SHARD_END. -/
def Chorus.loaded (c : Chorus) (v : Restore) : Bool :=
  v.complete && (c.needed v).all fun n => v.loads.any fun l => l.shard == n && l.ended

/-- A target shard after the restore: its generation, and the largest counter of the sources it overlaps. -/
def Chorus.restoredShard (c : Chorus) (v : Restore) (h : Shard) : Shard :=
  let gen := fld v.manifest 16 2 + 1
  match c.nss.find? fun n => n.ns == h.ns with
  | none => { h with gen }
  | some n =>
    let meet := v.loads.filter fun l => l.ns == h.ns && rangesMeet (n.lo h.index) (n.hi h.index) l.lo l.hi
    { h with gen, counter := (meet.map (·.counter)).foldl max h.counter }

/-- The payload of Table 7.8. -/
def restoreLink (cut checkpoint source target last : Nat) : Bytes :=
  be 8 cut ++ be 8 checkpoint ++ be 2 source ++ be 2 target ++ be 4 0 ++ be 8 last

/-- One ledger's restore-link record (R179), on a member that holds its shard. -/
def Store.linkLedger (t : Store) (c : Chorus) (v : Restore) (e : Nat) (k : ChorusNs) : Store :=
  match t.ns k.ns with
  | none => t
  | some n =>
    if n.typ = .ledger ∧ c.shards.any (fun h => h.ns == k.ns) then
      (t.appendRecord n 2 (restoreLink v.cut v.checkpoint (u8 v.manifest 8) c.members n.record) e).2
    else t

/-- RESTORE_END at E. A member whose load was incomplete when the others ended theirs takes its chain from their E, and catches up
from there (R282, R270; log entry 74). -/
def restoreEndApply (c : SealedCmd) (s : State) : Res :=
  atE s fun k => match k.restore with
    | none => refuse s .notFound
    | some v =>
      let e := fld c.cmd.args 0 6
      let e0 := v.firstEnd.getD e
      if !k.loaded v then
        refuse (s.modStore fun t => { t with chorus := some { k with restore := some { v with firstEnd := some e0 } } }) .notFound
      else
        let k1 := { k with
          restore := none
          shards := k.shards.map (k.restoredShard v)
          generation := fld v.manifest 16 2 + 1
          e := e
          chain := [(e0 - 1, chainStart k.id e0)]
          lastSealed := e0 - 1 }
        let s1 := s.modStore fun t => k.nss.foldl (fun t n => t.linkLedger k1 v e n) { t with chorus := some k1 }
        let s2 := s1.modUnit k.ownId fun u =>
          { u with data := if v.firstEnd.isNone then .degraded else .fenced, degradedAt := some s.tb.measure }
        okay ((s2.modChorus fun r => { r with fencedBy := none }).viewsMoved k.ownId 0) []

/-- CHORUS.RESTORE_END. -/
def cmdChorusRestoreEnd : CmdDef :=
  { CmdDef.base 0x0806 .chorusEffective .mgmt (· == 8) (fun c s => inChorus c (fld c.cmd.args 0 6) s fun _ => okay s []) with
    later := restoreEndApply
    effective := fun b => fld b 0 6 }

/-! ## NS_COMMAND (R253, R396) -/

/-- The inner commands: the type each needs, and its argument length. -/
def innerCommand (op : Nat) : Option (Option NsType × Nat) :=
  if op = 0x0402 then some (none, 4)
  else if op = 0x0403 then some (none, 20)
  else if op = 0x0408 then some (some .ledger, 12)
  else if op = 0x0409 then some (some .ledger, 12)
  else none

/-- A new quota of a whole Chorus namespace: the shard limits follow it, and the GUARANTEE of this member (R396). -/
def chorusQuota (k : Chorus) (n : Namespace) (quota : Nat) (s : State) : Res :=
  let cn := (k.nss.find? fun x => x.ns == n.id).getD { ns := n.id, log2 := 0, maxKeys := 0, quota := 0 }
  let h := (k.shards.filter fun x => x.ns == n.id).length
  let r := setQuota n quota (quota * h / cn.shards) s
  if r.2.1 = .ok then
    (r.1.modStore fun t => { t with chorus := t.chorus.map fun c =>
      { c with nss := c.nss.map fun x => if x.ns == n.id then { x with quota } else x } }, r.2)
  else r

/-- The inner command's effect on the shards held (R253). -/
def innerApply (op : Nat) (b : Bytes) (m : Nat) (s : State) : Res :=
  match innerCommand op with
  | none => refuse s .range
  | some (need, _) => match s.nsArg (u8 b 0) false need with
    | .error e => refuse s e
    | .ok n => atE s fun k =>
      if op = 0x0402 then nsDelete n m s
      else if op = 0x0403 then chorusQuota k n (fld b 4 8) s
      else if op = 0x0408 then ledgerTrim n (fld b 4 8) m s
      else setRetention n (fld b 4 8) s

/-- NS_COMMAND's checks that the arguments decide: the inner command, its length, a QUOTA of 0 (R253, R396). -/
def nsCommandRange (b : Bytes) : Bool :=
  match innerCommand (fld b 8 2) with
  | none => true
  | some (_, n) => b.length != 12 + n || (fld b 8 2 == 0x0403 && fld b 16 8 == 0)

/-- CHORUS.NS_COMMAND. -/
def cmdChorusNsCommand : CmdDef :=
  { CmdDef.base 0x0807 .chorusEffective .mgmt (fun n => 12 ≤ n && n ≤ 496) (fun c s =>
      let b := c.cmd.args
      inChorus c (fld b 0 6) s fun _ =>
        match innerCommand (fld b 8 2) with
        | none => refuse s .range
        | some (need, n) =>
          if b.length ≠ 12 + n then refuse s .range
          else match s.nsArg (u8 b 12) false need with
            | .error e => refuse s e
            | .ok _ => if fld b 8 2 = 0x0403 ∧ fld b 16 8 = 0 then refuse s .range else okay s []) with
    pre := fun _ b => if nsCommandRange b then some .range else none
    later := fun c s => innerApply (fld c.cmd.args 8 2) (c.cmd.args.drop 12) (fld c.cmd.args 0 6) s
    effective := fun b => fld b 0 6 }

/-! ## PARK, RESUME (R272) -/

/-- Drop the on-time Chorus requests of measures from `e` on; their credits return. -/
def State.dropOnTime (s : State) (e : Nat) : State :=
  let gone := ((s.chorus.onTime.filter fun p => decide (e ≤ p.1)).map (·.2)).flatten
  gone.foldl (fun t r => (t.modSession r.session (Session.returnCredit r.seq)).discard r.src.port)
    (s.modChorus fun k => { k with onTime := k.onTime.filter fun p => decide (p.1 < e) })

/-- CHORUS.PARK. -/
def cmdChorusPark : CmdDef :=
  { CmdDef.base 0x0808 .chorusEffective .mgmt (· == 8) (fun c s => inChorus c (fld c.cmd.args 0 6) s fun _ => okay s []) with
    later := fun c s => atE s fun k =>
      let e := fld c.cmd.args 0 6
      okay ((s.modStore fun t => { t with chorus := some { k with parked := some (k.parked.getD e), resuming := none } }).dropOnTime e) []
    effective := fun b => fld b 0 6 }

/-- CHORUS.RESUME. -/
def cmdChorusResume : CmdDef :=
  { CmdDef.base 0x0809 .chorusEffective .mgmt (· == 8) (fun c s => inChorus c (fld c.cmd.args 0 6) s fun _ => okay s []) with
    later := fun c s => atE s fun k =>
      okay ((s.modStore fun t =>
        { t with chorus := some { k with parked := none, resuming := some (fld c.cmd.args 0 6) } }).modChorus fun r =>
        { r with lastHeard := Vector.replicate 8 s.tb.measure }) []
    effective := fun b => fld b 0 6 }

/-! ## Meanings -/

/-- CHORUS.FORM (R251). -/
def execChorusForm (c : Cmd) (s : State) : Out := .next (cmdChorusForm.run c s)
/-- CHORUS.LEAVE (R254). -/
def execChorusLeave (c : Cmd) (s : State) : Out := .next (cmdChorusLeave.run c s)
/-- CHORUS.STATUS (R397). -/
def execChorusStatus (c : Cmd) (s : State) : Out := .next (cmdChorusStatus.run c s)
/-- CHORUS.CHECKPOINT (R273). -/
def execChorusCheckpoint (c : Cmd) (s : State) : Out := .next (cmdChorusCheckpoint.run c s)
/-- CHORUS.CHECKPOINT_END (R274). -/
def execChorusCheckpointEnd (c : Cmd) (s : State) : Out := .next (cmdChorusCheckpointEnd.run c s)
/-- CHORUS.RESTORE_END (R282). -/
def execChorusRestoreEnd (c : Cmd) (s : State) : Out := .next (cmdChorusRestoreEnd.run c s)
/-- CHORUS.NS_COMMAND (R253, R396). -/
def execChorusNsCommand (c : Cmd) (s : State) : Out := .next (cmdChorusNsCommand.run c s)
/-- CHORUS.PARK (R272). -/
def execChorusPark (c : Cmd) (s : State) : Out := .next (cmdChorusPark.run c s)
/-- CHORUS.RESUME (R272). -/
def execChorusResume (c : Cmd) (s : State) : Out := .next (cmdChorusResume.run c s)

end Sys2Proof.Machine
end

