-- ==== Sys2Proof/Machine/Chorus.lean ====
section
/-! DEFINITION. The Chorus between members: DIGEST and PULL datagrams, unions and gaps, sealing a Chorus set, the chain,
member units, catch-up and transfer (R257 to R272, R283; Tables 10.3 to 10.6), and the meanings of their rows. -/

namespace Sys2Proof.Machine

open Sys2Proof

/-! ## Entries, unions, gaps (R260, R263) -/

/-- The 16-byte entry. -/
def Listed.entry (e : Listed) : Bytes := be 1 e.cls ++ be 1 e.op ++ be 2 e.session ++ be 4 e.seq ++ padTo 8 e.hash

/-- An entry as read. -/
def listedOf (b : Bytes) : Listed := ⟨u8 b 0, u8 b 1, fld b 2 2, fld b 4 4, sub b 8 8⟩

/-- Sealed order of entries; two of one id stand in the order of their hashes. -/
def Listed.le (a b : Listed) : Bool :=
  let x := (a.cls, a.session, a.seq)
  let y := (b.cls, b.session, b.seq)
  if x = y then !bytesLt b.hash a.hash else placeLe x y

/-- Insert an entry at its place. -/
def insertListed (x : Listed) : List Listed → List Listed
  | [] => [x]
  | y :: ys => if x.le y then x :: y :: ys else y :: insertListed x ys

/-- Entries in ascending order. -/
def sortListed (l : List Listed) : List Listed := l.foldr insertListed []

/-- The digest of a set given by its entries. -/
def digestListed (l : List Listed) : Bytes := sha256 ((sortListed l).flatMap Listed.entry)

/-- The requests of measure `t` that a member holds: on time, late, or pulled. -/
def ChorusRun.heldFor (k : ChorusRun) (t : Nat) : List Request := k.set t ++ k.late.filter fun r => r.target == t

/-- U(T) as the member has computed it. -/
def ChorusRun.union (k : ChorusRun) (t : Nat) : List Listed :=
  sortListed (((k.set t).map Request.listed ++ (getKey t k.listed).getD []).eraseDups)

/-- The two entries name one id and differ: two hashes of one id. -/
def Listed.clashes (e f : Listed) : Bool := f != e && f.session == e.session && f.seq == e.seq

/-- An id of U(T) that the member does not hold, or for which it has seen two hashes: in a list, in what it holds for T, or in a
second copy that it received. -/
def ChorusRun.isGap (k : ChorusRun) (t : Nat) (e : Listed) : Bool :=
  !((k.heldFor t).any fun r => r.listed == e) || (k.union t).any e.clashes ||
  ((k.heldFor t).map Request.listed).any e.clashes || k.clash.any fun c => c.1 == t && e.clashes c.2

/-- The gap ids of U(T). -/
def ChorusRun.gapsOf (k : ChorusRun) (t : Nat) : List (Nat × Nat) :=
  (((k.union t).filter (k.isGap t)).map fun e => (e.session, e.seq)).eraseDups

/-! ## Reports (R261, Table 10.4) -/

/-- A member's report of a round. -/
def ChorusRun.report (k : ChorusRun) (member measure round : Nat) : Option Report :=
  k.reports.find? fun r => r.member == member && r.measure == measure && r.round == round

/-- Keep a report; the first copy of a round stands. -/
def ChorusRun.addReport (k : ChorusRun) (r : Report) : ChorusRun :=
  if (k.report r.member r.measure r.round).isSome then k else { k with reports := k.reports ++ [r] }

/-- The own member unit is below DEGRADED. -/
def State.ownFenced (s : State) (c : Chorus) : Bool := decide ((s.effective c.ownId).num < 2)

/-- The ports on which the Chorus is sent (R261). -/
def State.usablePorts (s : State) : List (Fin 2) := (List.finRange 2).filter s.portUsable

/-- The number of gap ids that fit one datagram. -/
def State.gapRoom (s : State) : Nat := ((s.usablePorts.map fun p => s.pieceSize p).foldl min 8192 - 88) / 8

/-- This member's report of a round for measure `t` (R261, R263). A chain value it does not have shows zeros. -/
def State.ownReport (s : State) (c : Chorus) (t round : Nat) : Report :=
  let k := s.chorus
  let gaps := k.gapsOf t
  if round = 1 then
    { member := c.self, measure := t, round := 1, fenced := s.ownFenced c, parked := c.isParked, resuming := false
      length := s.store.length, count := (k.set t).length, set := digestSet (k.set t)
      chain := if c.lastSealed < t - 2 then zeros 32 else c.chainAt (t - 2), gaps := [] }
  else
    { member := c.self, measure := t, round := 2, fenced := s.ownFenced c || decide (s.gapRoom < gaps.length)
      parked := c.isParked, resuming := false, length := s.store.length, count := (k.union t).length
      set := digestListed (k.union t), chain := zeros 32, gaps }

/-- Round 1 after a RESUME while the member does not seal: its last sealed measure and that measure's chain (R272). -/
def State.resumeReport (s : State) (c : Chorus) : Report :=
  { member := c.self, measure := c.lastSealed, round := 1, fenced := s.ownFenced c, parked := false, resuming := true
    length := s.store.length, count := 0, set := digestListed [], chain := c.chainAt c.lastSealed, gaps := [] }

/-- The body of Table 10.4. -/
def Report.body (r : Report) (copy : Bool) (room : Nat) : Bytes :=
  let gaps := if room < r.gaps.length then [] else r.gaps
  be 1 r.round ++ be 1 r.member ++ be 1 (b2n r.fenced + 2 * b2n copy + 4 * b2n r.parked + 8 * b2n r.resuming) ++
  be 1 r.length ++ be 6 r.measure ++ be 2 0 ++ be 4 r.count ++ padTo 32 r.set ++ padTo 32 r.chain ++ be 2 gaps.length ++
  zeros 6 ++ gaps.flatMap fun g => be 2 g.1 ++ be 2 0 ++ be 4 g.2

/-- A report as received. -/
def reportOf (b : Bytes) : Report :=
  let f := u8 b 2
  { member := u8 b 1, measure := fld b 4 6, round := u8 b 0, fenced := bit f 0, parked := bit f 2, resuming := bit f 3
    length := u8 b 3, count := fld b 12 4, set := sub b 16 32, chain := sub b 48 32
    gaps := (List.range (fld b 80 2)).map fun i => (fld b (88 + 8 * i) 2, fld b (92 + 8 * i) 4) }

/-- Send a datagram of the Chorus on a port. -/
def State.sendChorus (s : State) (p : Fin 2) (ip : Nat) (payload : Bytes) : State :=
  let set := (s.net p).set
  s.enqueue p (.make .queue set.dataVid set.dataPcp ip 47810 payload)

/-- Send a DIGEST to the group on every usable port. -/
def State.sendDigest (s : State) (c : Chorus) (r : Report) (copy : Bool) : State :=
  s.usablePorts.foldl (fun t p => t.sendChorus p c.group6
    (skpHeader 0x11 0 0 0 (0xFFF0 + c.self) 0 0 r.measure 0 0 0 0 0 ++ r.body copy s.gapRoom)) s

/-! ## Member units (R268, R269, Table 10.6) -/

/-- A condition of Table 10.6 lowers a peer's unit. -/
def State.lowerMember (s : State) (k : Nat) (v : UnitState) : State :=
  (s.modUnit (memberId k) fun u => { u with degradedAt := some s.tb.measure, good := 0 }).lowerData (memberId k) v

/-- A peer's DIGESTs are ignored: its unit is OFFLINE. -/
def State.ignored (s : State) (k : Nat) : Bool := s.effective (memberId k) == .offline

/-- A pull from or by a peer; more than 16 in 4,096 measures lower its unit to DEGRADED. -/
def State.notePull (s : State) (k : Nat) : State :=
  let s1 := s.modUnit (memberId k) fun u => { u with events2 := s.tb.measure :: recent s.tb.measure u.events2 }
  if 16 < ((s1.unit (memberId k)).map (·.events2.length)).getD 0 then s1.degrade (memberId k) else s1

/-! ## PULL (R262, Table 10.5) -/

/-- Send a PULL to a member on the first usable port (log entry 22). -/
def State.sendPull (s : State) (c : Chorus) (k mode count measure : Nat) (rest : Bytes) : State :=
  match s.usablePorts, c.table[k]? with
  | p :: _, some (_, ip) =>
    (s.sendChorus p ip (skpHeader 0x12 0 0 0 (0xFFF0 + c.self) 0 0 0 0 0 0 0 0 ++
      be 1 mode ++ be 1 0 ++ be 2 count ++ be 6 measure ++ zeros 6 ++ rest)).notePull k
  | _, _ => s

/-- A round-1 report of a peer differs from the own one: LIST (R262). -/
def State.listIfDiffers (s : State) (c : Chorus) (t : Nat) (r : Report) : State :=
  match s.chorus.report c.self t 1 with
  | some own => if r.set = own.set ∨ s.ignored r.member then s else s.sendPull c r.member 1 0 t []
  | none => s

/-! ## The chain (R266) -/

/-- C(T) from C(T − 1) and the digest of F(T). -/
def chainNext (prev : Bytes) (t : Nat) (f : List Request) : Bytes := sha256 (prev ++ be 6 t ++ digestSet f)

/-- Members, this one included, whose round 1 for T + 2 carries this member's C(T). -/
def State.agreeing (s : State) (c : Chorus) (t : Nat) : Nat :=
  ((List.range c.members).filter fun k => k == c.self || (!s.ignored k &&
    match s.chorus.report k (t + 2) 1 with
    | some r => !r.resuming && r.chain == c.chainAt t
    | none => false)).length

/-- More than half of MEMBERS. -/
def Chorus.majority (c : Chorus) (n : Nat) : Bool := decide (c.members < 2 * n)

/-- The chain of measure `t` is confirmed once a majority carries it, by the close of T + 4. -/
def State.confirm (s : State) (c : Chorus) (t : Nat) : State :=
  if c.lastSealed < t ∨ t + 4 < s.tb.measure ∨ !c.majority (s.agreeing c t) then s
  else s.modChorus fun k => { k with unconfirmed := k.unconfirmed.filter (· != t) }

/-! ## Receiving DIGEST (R261) -/

/-- The member whose address a datagram comes from. -/
def Chorus.memberOf (c : Chorus) (ip : Nat) : Option Nat :=
  (List.range c.members).find? fun k => ((c.table[k]?).map (·.2)) == some ip

/-- The body has the form of Table 10.4 and names its sender. -/
def digestForm (b : Bytes) (k : Nat) : Bool :=
  decide (88 ≤ b.length) && b.length == 88 + 8 * fld b 80 2 && (u8 b 0 == 1 || u8 b 0 == 2) && u8 b 1 == k

/-- A chain that this member can compare with its own, and that differs from it. -/
def State.chainDiffers (s : State) (c : Chorus) (r : Report) : Bool :=
  r.round == 1 && !r.resuming && !s.ownFenced c && decide (r.measure ≤ c.lastSealed + 2) && decide (c.e + 1 ≤ r.measure) &&
  r.chain != c.chainAt (r.measure - 2)

/-- A peer that sends its rounds as usual again is no longer the one that its RESUMING report shows. -/
def ChorusRun.newer (q : ChorusRun) (r : Report) : ChorusRun :=
  if r.resuming then q else { q with reports := q.reports.filter fun o => !(o.resuming && o.member == r.member) }

/-- A DIGEST of a peer: kept, and what Table 10.6 makes of it. -/
def State.digestFrom (s : State) (c : Chorus) (k : Nat) (r : Report) : State :=
  let new := ((s.chorus.newer r).report k r.measure r.round).isNone
  let s1 := s.modChorus fun q =>
    { (q.newer r).addReport r with lastHeard := q.lastHeard.setIfInBounds k s.tb.measure }
  let s2 := if r.fenced || r.length != s.store.length || s1.chainDiffers c r then s1.lowerMember k .fenced else s1
  let s3 := if new && r.round == 1 && !r.resuming then s2.listIfDiffers c r.measure r else s2
  if r.round = 1 ∧ 2 ≤ r.measure then s3.confirm c (r.measure - 2) else s3

/-- A received DIGEST datagram. -/
def State.digestRx (s : State) (r : Request) : State :=
  match s.store.chorus with
  | none => s.discard r.src.port
  | some c => match c.memberOf r.src.ip with
    | none => s.discard r.src.port
    | some k =>
      if !digestForm r.body k then s.discard r.src.port
      else if k = c.self then s
      else s.digestFrom c k (reportOf r.body)

/-! ## Answering PULL -/

/-- The answer to a PULL, in pieces as a GET's (R114). -/
def State.pullAnswer (s : State) (r : Request) (st : Status) (body : Bytes) : State :=
  let reply : Reply :=
    { due := 0, durable := 0, mailbox := none, src := r.src, op := 0x12, flags := 0, ns := 0, session := r.session, seq := r.seq
      target := r.target, status := st, pieces := valuePieces (s.pieceSize r.src.port) body.length 0 [] body, credit := false
      notify := false, bytes := 0, segment := 0, sliced := false, set := none }
  s.sendPieces reply false 0 reply.pieces

/-- A request in a PULL answer: its length and its payload. -/
def carried (r : Request) : Bytes := be 2 (encodeRequest r).length ++ encodeRequest r

/-- The answer to LIST: the entries of A(MEASURE) while the set is kept. -/
def State.listAnswer (s : State) (c : Chorus) (m : Nat) : Status × Bytes :=
  if m < c.e ∨ s.tb.measure ≤ m ∨ m + 2 < s.tb.measure then (.notFound, [])
  else (.ok, (sortRequests (s.chorus.set m)).flatMap Request.entry)

/-- The answer to FETCH: every request named, or NOT_FOUND. -/
def State.fetchAnswer (s : State) (b : Bytes) : Status × Bytes :=
  let n := fld b 2 2
  if n = 0 ∨ 64 < n ∨ b.length < 16 + 8 * n then (.range, [])
  else
    let found := (List.range n).map fun i =>
      (s.chorus.heldFor (fld b 4 6)).find? fun r => r.isId (fld b (16 + 8 * i) 2) (fld b (20 + 8 * i) 4)
    if found.any (·.isNone) then (.notFound, []) else (.ok, (found.filterMap fun r => r).flatMap carried)

/-- A set in a SETS answer. -/
def carriedSet (m : Nat) (l : List Request) : Bytes := be 6 m ++ be 2 l.length ++ l.flatMap carried

/-- The answer to SETS: every set named, from the Chorus log. -/
def Chorus.setsAnswer (c : Chorus) (first n : Nat) : Status × Bytes :=
  if n = 0 ∨ 16 < n then (.range, [])
  else
    let found := (List.range n).map fun i => (getKey (first + i) c.log).map fun l => carriedSet (first + i) l
    if found.any (·.isNone) then (.notFound, []) else (.ok, (found.filterMap fun b => b).flatten)

/-- The stanzas of a shard that this member serves by transfer. -/
def State.servedStanzas (s : State) (c : Chorus) (shard : Nat) (sn : Snapshot) : List Bytes :=
  match c.locate shard with
  | none => []
  | some (cn, _) =>
    match sn.content.find? (fun x => x.id == cn.ns), sn.shards.find? fun h => h.num == shard with
    | some n, some h => sn.stanzas n cn h
    | _, _ => []

/-- TRANSFER of a stanza of a snapshot that is served; the last stanza read ends the service (R271). -/
def State.transferRead (s : State) (c : Chorus) (r : Request) (shard cut index : Nat) : State :=
  match s.chorus.serving.find? fun v => v.1 == shard && v.2.cut == cut with
  | none => s.pullAnswer r .notFound []
  | some v =>
    let l := s.servedStanzas c shard v.2
    match l[index]? with
    | none => s.pullAnswer r .notFound []
    | some b =>
      let s1 := s.pullAnswer r .ok b
      if index + 1 = l.length then
        s1.modChorus fun k => { k with serving := k.serving.filter fun w => !(w.1 == shard && w.2.cut == cut) }
      else s1

/-- TRANSFER: with MEASURE 0 the cut is at the head of the next sealed list. -/
def State.transferAnswer (s : State) (c : Chorus) (r : Request) : State :=
  let shard := fld r.body 16 2
  let cut := fld r.body 4 6
  if r.body.length < 24 then s.pullAnswer r .range []
  else if cut ≠ 0 then s.transferRead c r shard cut (fld r.body 20 4)
  else if s.ownFenced c || !c.shards.any fun h => h.num == shard then s.pullAnswer r .notFound []
  else s.modChorus fun k => { k with asks := k.asks ++ [r] }

/-- A received PULL of a member (R262, R104). -/
def State.pullRx (s : State) (r : Request) : State :=
  match s.store.chorus with
  | none => s.discard r.src.port
  | some c => match c.memberOf r.src.ip with
    | none => s.discard r.src.port
    | some k =>
      if k = c.self ∨ r.body.length < 16 then s.discard r.src.port
      else
        let s1 := s.notePull k
        match u8 r.body 0 with
        | 1 => let a := s1.listAnswer c (fld r.body 4 6); s1.pullAnswer r a.1 a.2
        | 2 => let a := s1.fetchAnswer r.body; s1.pullAnswer r a.1 a.2
        | 3 => let a := c.setsAnswer (fld r.body 4 6) (fld r.body 2 2); s1.pullAnswer r a.1 a.2
        | 4 => s1.transferAnswer c r
        | _ => s1.pullAnswer r .range []

/-- A datagram of a peer's answer to a PULL: its content acts as the row PULL_RESPONSE_RECEIVE, when it is complete. From
anyone else its opcode is no request (R104, R262). -/
def State.pullReturned (s : State) (r : Request) : State :=
  match s.store.chorus with
  | none => s.arrive r
  | some c => if (c.memberOf r.src.ip).isSome then s else s.arrive r

/-- Answer the TRANSFERs that wait for the cut: a snapshot at the head of the list of `x`, and its stanza 0 (R271). Stanzas
of a transfer are of the largest size (log entry 21). -/
def State.answerAsks (s : State) (x : Nat) : State :=
  match s.store.chorus with
  | none => s.modChorus fun k => { k with asks := [] }
  | some c =>
    s.chorus.asks.foldl (fun t r =>
      let shard := fld r.body 16 2
      let sn := t.store.snapshot c 0 x 8128 []
      (t.modChorus fun k => { k with serving := (shard, sn) :: k.serving.filter fun v => !(v.1 == shard && v.2.cut == x) }).transferRead
        c r shard x 0) (s.modChorus fun k => { k with asks := [] })

/-! ## Sealing a Chorus set (R258, R259, R264, R265) -/

/-- The session's record exists, so that its sequences can be consumed. -/
def State.ensureSession (s : State) (id : Nat) : State :=
  if (s.session id).isSome then s else { s with sessions := s.sessions ++ [.new id] }

/-- A sequence is consumed already. -/
def State.hasConsumed (s : State) (id seq : Nat) : Bool := ((s.session id).map fun x => x.consumed seq).getD false

/-- What the CANCELs of a set remove, in sealed order: session, sequence, and the CANCEL's sequence (R68, R259). -/
def State.cancelled (s : State) (f : List Request) : List (Nat × Nat × Nat) :=
  f.foldl (fun out r =>
    let target := fld r.body 0 4
    if r.op = 0x0A ∧ formOk r ∧ !s.hasConsumed r.session r.seq ∧ target < r.seq ∧ !(out.any fun x => x.1 == r.session && (x.2.1 == target || x.2.1 == r.seq)) ∧
        f.any (fun q => q.isId r.session target) then out ++ [(r.session, target, r.seq)] else out) []

/-- A sealed refusal (R265): the sequence is consumed with its replay record, and the response leaves as those of the set where
this member answers. -/
def State.refuseAnswered (s : State) (mine : Bool) (r : Request) (st : Status) (t : Nat) : State :=
  if s.hasConsumed r.session r.seq then s.modSession r.session (Session.returnCredit r.seq)
  else
    let s1 := (s.ensureSession r.session).consume r { Replay.refusal r (t + 2) st with placed := false, target := t }
    if mine && !Source.unknown r.src then
      s1.schedule
        { due := t + 5, durable := t + 2, mailbox := none, src := r.src, op := r.op, flags := r.flags % 32, ns := r.ns
          session := r.session, seq := r.seq, target := t, status := st, pieces := [(0, 0, [], [])], credit := true
          notify := false, bytes := 0, segment := 0, sliced := false, set := some t }
    else s1.modSession r.session (Session.returnCredit r.seq)

/-- A sealed refusal of a request that this member holds. -/
def State.refuseSealed (s : State) (r : Request) (st : Status) (t : Nat) : State := s.refuseAnswered (s.answers r) r st t

/-- The source of a pulled request: its session's binding, on the first usable port (log entry 22). -/
def State.pulledSource (s : State) (session : Nat) : Source :=
  let x := (s.session session).getD (.new session)
  let p := (s.usablePorts.head?).getD 0
  { port := p, vid := (s.net p).set.dataVid, ip := x.bindIp, udp := x.bindUdp, group := true, verified := false }

/-- A set being placed against the Chorus share (R258): what is left of it, what is placed, what is refused. -/
structure Placing where
  s : State
  slots : Nat
  bytes : Nat
  items : List Request
  refused : List (Request × Status)

/-- Place one request of F(T), in sealed order. -/
def Placing.step (t : Nat) (gone : List (Nat × Nat × Nat)) (p : Placing) (r : Request) : Placing :=
  let refuse := fun (st : Status) => { p with s := p.s.refuseSealed r st t, refused := p.refused ++ [(r, st)] }
  if p.s.hasConsumed r.session r.seq then { p with s := p.s.modSession r.session (Session.returnCredit r.seq) }
  else match gone.find? fun x => r.isId x.1 x.2.1 with
    | some x =>
      { p with s := ((p.s.ensureSession r.session).consume r
          { Replay.taken r (t + 2) with target := t, removedBy := some x.2.2, placed := true }).modSession r.session (Session.returnCredit r.seq) }
    | none =>
      if !formOk r then refuse .range
      else if p.slots = 0 ∨ p.bytes < valueBytesOf r then refuse .busy
      else
        { p with
          s := (p.s.ensureSession r.session).consume r { Replay.taken r (t + 2) with target := t }, slots := p.slots - 1
          bytes := p.bytes - valueBytesOf r, items := p.items ++ [r] }

/-- Place F(T) with what its CANCELs remove; a CANCEL that finds no room removes nothing, and its target is placed. -/
def State.placeWith (s : State) (t : Nat) (f : List Request) : Nat → List (Nat × Nat × Nat) → Placing
  | 0, gone => f.foldl (Placing.step t gone)
      { s, slots := slotsOf s.store.length / 2, bytes := writeOf s.store.length / 2, items := [], refused := [] }
  | n + 1, gone =>
    let p := s.placeWith t f 0 gone
    let void := gone.filter fun x => p.refused.any fun r => r.1.isId x.1 x.2.2
    if void.isEmpty then p else s.placeWith t f n (gone.filter fun x => !void.contains x)

/-- Place F(T): what enters the list of T + 2, and what is refused. -/
def State.placeSet (s : State) (t : Nat) (f : List Request) : Placing :=
  s.placeWith t f (s.cancelled f).length (s.cancelled f)

/-- F(T) is sealed: chain, log and last sealed measure (R266, R270). -/
def Chorus.sealed (c : Chorus) (t : Nat) (f : List Request) : Chorus :=
  { c with
    chain := ((t, chainNext (c.chainAt t) t f) :: c.chain).take 65537
    log := ((t, f) :: c.log).take 65536
    lastSealed := t
    resuming := none }

/-- Measure `t` is done with: what was held for it goes. -/
def ChorusRun.drop (k : ChorusRun) (t : Nat) : ChorusRun :=
  { k with
    onTime := dropKey t k.onTime, late := k.late.filter (fun r => r.target != t), listed := dropKey t k.listed
    clash := k.clash.filter fun c => c.1 != t }

/-- The request that an entry of a list stands for, as far as a member that lacks it knows it: the session's binding is its
source, and FLAGS and NAMESPACE, which a list does not carry, are free values (R267; log entry 120). -/
def State.unseen (s : State) (e : Listed) (t v : Nat) : Request :=
  { src := s.pulledSource e.session, op := e.op, flags := v % 32, ns := v / 32 % 256, session := e.session, resv10 := 0
    seq := e.seq, target := t, status := 0, offset := 0, length := 0, segment := 0, resv38 := 0, key := [], body := [] }

/-- An entry of U(T) that no request held here stands for: refused DIVERGED like the others (R265, R267). Whether this member
holds the shard of its key it cannot know, and it answers (log entry 120). -/
def State.divergeUnknown (s : State) (e : Listed) (t : Nat) : State :=
  let (v, s1) := s.drawSealed 13
  s1.refuseAnswered true (s1.unseen e t v) .diverged t

/-- The refusals of R265 outside F(T): DIVERGED in U(T), LATE for what is held and not in U(T). -/
def State.refuseOthers (s : State) (t : Nat) (held : List Request) (u : List Listed) (f : List Request) : State × List (Request × Status) :=
  let lost := held.filter fun r => u.contains r.listed && !f.contains r
  let late := held.filter fun r => !u.contains r.listed
  let s1 := lost.foldl (fun x r => x.refuseSealed r .diverged t) s
  let s2 := (u.filter fun e => !held.any fun r => r.listed == e).foldl (fun x e => x.divergeUnknown e t) s1
  (late.foldl (fun x r => x.refuseSealed r .late t) s2, lost.map (·, .diverged) ++ late.map (·, .late))

/-- The round-2 reports that bear on the seal of `t`: those of peers that are not ignored. -/
def State.roundTwo (s : State) (c : Chorus) (t : Nat) : List Report :=
  s.chorus.reports.filter fun r => r.measure == t && r.round == 2 && r.member != c.self && !s.ignored r.member

/-- The conditions of R264. -/
def State.maySeal (s : State) (c : Chorus) (t : Nat) (own : Report) : Bool :=
  !s.ownFenced c && c.majority (s.countedFor c t).length && (s.roundTwo c t).all fun r => r.set == own.set

/-- Seal F(T): the state, the Chorus items of the list of T + 2, and the refusals. -/
def State.sealSet (s : State) (c : Chorus) (t : Nat) (own : Report) : State × List Request × List (Request × Status) :=
  let held := s.chorus.heldFor t
  let u := s.chorus.union t
  let gaps := own.gaps ++ ((s.roundTwo c t).map (·.gaps)).flatten
  let f := sortRequests (held.filter fun r => u.contains r.listed && !gaps.contains (r.session, r.seq))
  let s1 := (s.modStore fun x => { x with chorus := some (c.sealed t f) }).modChorus fun k =>
    { k.drop t with fencedBy := none, unconfirmed := k.unconfirmed ++ [t], counted := (t, s.countedFor c t), reports := k.reports.filter fun r => !r.resuming }
  let p := s1.placeSet t f
  let o := p.s.refuseOthers t held u f
  (o.1.confirm (c.sealed t f) t, p.items, p.refused ++ o.2)

/-- At the tick that closes the open measure T + 2: the Chorus set of T, or the fence of R264. -/
def State.sealChorus (s : State) : State × List Request × List (Request × Status) :=
  match s.store.chorus with
  | none => (s, [], [])
  | some c =>
    let t := s.tb.measure - 2
    if s.tb.measure < 2 ∨ s.store.chorusClosed c t ∨ t ≤ c.lastSealed then (s, [], [])
    else
      let own := (s.chorus.report c.self t 2).getD (s.ownReport c t 2)
      if s.maySeal c t own then s.sealSet c t own
      else if c.resuming.isSome then (s, [], [])
      else (s.fenceOwn 1, [], [])

/-! ## Peers at a boundary (R268, R269) -/

/-- One peer's rounds for the measure whose rounds are both due: FENCED without round 2, DEGRADED for a missed round, towards
requalification otherwise. -/
def State.judgePeer (s : State) (c : Chorus) (t k : Nat) : State :=
  let id := memberId k
  match s.chorus.report k t 1, s.chorus.report k t 2 with
  | some _, none => s.lowerMember k .fenced
  | none, _ => (s.modUnit id fun u => { u with good := 0, events := s.tb.measure :: recent s.tb.measure u.events }).degrade id
  | some a, some b =>
    if a.fenced || b.fenced || a.length != s.store.length || s.chainDiffers c a then s.modUnit id fun u => { u with good := 0 }
    else
      let s1 := s.modUnit id fun u => { u with good := u.good + 1 }
      if 16 ≤ ((s1.unit id).map (·.good)).getD 0 then
        s1.modUnit id fun u => { u with qualified := u.qualified || decide (u.data.num < 2) }
      else s1

/-- Every peer at the tick that closes the open measure; members of a parked Chorus may be silent (R272). -/
def State.judgePeers (s : State) : State :=
  match s.store.chorus with
  | none => s
  | some c =>
    let t := s.tb.measure - 2
    let s1 := if s.tb.measure < c.e + 2 ∨ c.isParked then s else c.peers.foldl (fun x k => x.judgePeer c t k) s
    s1.modChorus fun k =>
      { k with reports := k.reports.filter (fun r => r.resuming || decide (s.tb.measure ≤ r.measure + 16)), caughtUp := 0 }

/-! ## Catch-up (R270, R272) -/

/-- The cut at or above which a request's shard was taken over by transfer already. -/
def State.takenOver (s : State) (r : Request) (t : Nat) : Bool :=
  s.chorus.receiving.any fun v => v.2.ns == r.ns && decide (t + 2 ≤ v.1) &&
    inRange v.2.lo v.2.hi (keyHash r.ns r.key)

/-- Apply a fetched set: sealed and executed as the others did, with no response from here. A set from before the E of a RESUME
leaves the member resuming (R272). -/
def State.applySet (s : State) (c : Chorus) (t : Nat) (f : List Request) : State :=
  let held := s.chorus.heldFor t
  let c1 := { c.sealed t f with resuming := c.resuming.filter fun e => decide (t < e) }
  let s1 := (s.modStore fun x => { x with chorus := some c1 }).modChorus fun k =>
    { k.drop t with fetched := dropKey t k.fetched, unconfirmed := k.unconfirmed.filter (· != t) }
  let p := s1.placeSet t f
  let x : Ctx := { m := t + 2, adm := t + 2, chorus := true }
  let s2 := p.items.foldl (fun y r => if y.takenOver r t then y else y.runRequest x r) p.s
  let s3 := s2.modSeq fun q => { q with replies := s.seq.replies, scans := s.seq.scans }
  let s4 := (held.filter fun r => f.contains r).foldl (fun y r => y.modSession r.session (Session.returnCredit r.seq)) s3
  f.foldl (fun y r => y.modReplay r.session r.seq fun q => { q with placed := true }) s4

/-- Value bytes of a set. -/
def setBytes (f : List Request) : Nat := (f.map valueBytesOf).sum

/-- Apply fetched sets in order, at most `n`, while the measure has had fewer than 4 and the write allowance left has room. -/
def State.applyFetched (s : State) : Nat → State
  | 0 => s
  | n + 1 =>
    match s.store.chorus with
    | none => s
    | some c => match getKey (c.lastSealed + 1) s.chorus.fetched with
      | none => s
      | some f =>
        if s.chorus.caughtUp < 4 ∧ s.seq.bytes + setBytes f ≤ writeOf s.store.length then
          (((s.applySet c (c.lastSealed + 1) f).modSeq fun q => { q with bytes := q.bytes + setBytes f }).modChorus
            fun k => { k with caughtUp := k.caughtUp + 1 }).applyFetched n
        else s

/-- The highest last sealed measure that a RESUMING report names, with the member. -/
def State.highest (s : State) (c : Chorus) : Nat × Nat :=
  (s.chorus.reports.filter (fun r => r.resuming && r.member != c.self)).foldl
    (fun b r => if b.2 < r.measure then (r.member, r.measure) else b) (c.self, c.lastSealed)

/-- The peer that sets are pulled from: after a RESUME the member with the highest sealed measure, else the first whose unit
is ONLINE or DEGRADED. -/
def State.source (s : State) (c : Chorus) : Option Nat :=
  if c.resuming.isSome ∧ c.lastSealed < (s.highest c).2 then some (s.highest c).1
  else c.peers.find? fun k => decide (2 ≤ (s.effective (memberId k)).num)

/-- The first measure whose set is neither applied nor fetched. -/
def firstMissing (fetched : List (Nat × List Request)) : Nat → Nat → Nat
  | 0, t => t
  | n + 1, t => if (getKey t fetched).isSome then firstMissing fetched n (t + 1) else t

/-- Members, this one included, whose newest chain equals this member's (R270). -/
def State.chainPeers (s : State) (c : Chorus) : Nat :=
  let mine := c.chainAt c.lastSealed
  ((List.range c.members).filter fun k => k == c.self || s.chorus.reports.any fun r =>
    r.member == k && r.round == 1 && r.chain == mine &&
    (if r.resuming then r.measure == c.lastSealed else decide (c.lastSealed + 2 ≤ r.measure))).length

/-- A peer's round 1 shows a chain of a set that this member has not applied: the Chorus seals again. -/
def State.sealsAgain (s : State) (c : Chorus) : Bool :=
  s.chorus.reports.any fun r => r.round == 1 && !r.resuming && r.member != c.self && r.chain != zeros 32 &&
    decide (c.lastSealed + 2 < r.measure)

/-- The member resumes, and no other seals yet. -/
def State.resumes (s : State) (c : Chorus) : Bool := c.resuming.isSome && !s.sealsAgain c

/-- Every set sealed so far is applied. -/
def State.upToDate (s : State) (c : Chorus) : Bool :=
  if s.resumes c then decide ((s.highest c).2 ≤ c.lastSealed) else decide (s.tb.measure ≤ c.lastSealed + 3)

/-- The chain of every member that has resumed lower agrees with this member's (R272). -/
def State.lowerAgree (s : State) (c : Chorus) : Bool :=
  let l := s.chorus.reports.filter fun r => r.resuming
  c.majority (((l.map (·.member)).filter (· != c.self)).eraseDups.length + 1) &&
  l.all fun r => decide (c.lastSealed < r.measure) || r.chain == c.chainAt r.measure

/-- The own unit may rise at the next boundary: no condition that fences it lasts (Table 2.1, Table 12.6), its management
view allows it, and it has caught up. -/
def State.mayRise (s : State) (c : Chorus) : Bool :=
  !s.tb.state.fences && decide (s.power.step < 4) && decide (2 ≤ (s.mgmtView c.ownId).num) && s.upToDate c && (c.majority (s.chainPeers c) || (c.resuming.isSome && s.lowerAgree c))

/-- A returning member's work of one measure: up to 4 sets applied, the next ones asked for, the rise prepared. -/
def State.catchUp (s : State) : State :=
  match s.store.chorus with
  | none => s
  | some c =>
    if !s.inService ∨ 2 ≤ (s.dataView c.ownId).num ∨ s.chorus.transferDue ∨ c.restore.isSome ∨ c.isParked then s
    else
      let s1 := s.applyFetched 4
      let c1 := s1.store.chorus.getD c
      let first := firstMissing s1.chorus.fetched 65536 (c1.lastSealed + 1)
      let top := if s1.resumes c1 then (s1.highest c1).2 else s1.tb.measure - 3
      let s2 := match s1.source c1 with
        | some k => if first ≤ top then s1.sendPull c1 k 3 (min 16 (top + 1 - first)) first [] else s1
        | none => s1
      if s2.mayRise c1 then s2.modUnit c1.ownId fun u => { u with qualified := true } else s2

/-! ## Transfer (R271) -/

/-- The body of a TRANSFER after the common fields. -/
def transferArgs (shard index : Nat) : Bytes := be 2 shard ++ be 2 0 ++ be 4 index

/-- Ask for a shard anew: the first holder in holder order, other than this member, whose unit is ONLINE or DEGRADED. -/
def State.askTransfer (s : State) (c : Chorus) (h : Shard) : State :=
  match (c.holders h.ns h.index).find? fun k => k != c.self && decide (2 ≤ (s.effective (memberId k)).num) with
  | some k => s.sendPull c k 4 0 0 (transferArgs h.num 0)
  | none => s

/-- Start a rejoin by transfer: every shard held is asked for. -/
def State.startTransfer (s : State) : State :=
  match s.store.chorus with
  | none => s
  | some c =>
    if s.inService ∧ 2 > (s.dataView c.ownId).num ∧ c.restore.isNone ∧
        (s.chorus.transferDue ∨ c.lastSealed + 65536 < s.tb.measure) then
      c.shards.foldl (fun t h => t.askTransfer c h)
        (s.modChorus fun k => { k with transferDue := true, receiving := [], fetched := [] })
    else s

/-- Every shard held has been received. -/
def ChorusRun.allReceived (k : ChorusRun) (c : Chorus) : Bool :=
  c.shards.all fun h => k.receiving.any fun v => v.2.shard == h.num && v.2.ended

/-- The transfer is complete: the member stands at the earliest cut X with F(X − 2) applied, and catches up from there. Its
chain value is the one that a peer's round 1 for X reports, or a free value. -/
def State.endTransfer (s : State) (c : Chorus) : State :=
  let x := (s.chorus.receiving.map (·.1)).foldl min ((s.chorus.receiving.head?.map (·.1)).getD 0)
  let known := (s.chorus.reports.find? fun r => r.round == 1 && !r.resuming && r.measure == x && r.member != c.self).map (·.chain)
  let (v, s1) := s.draw 256
  let c1 := { c with
    lastSealed := x - 2, chain := [(x - 2, known.getD (be 32 v))], log := []
    resuming := c.resuming.filter fun e => decide (x - 2 < e) }
  (s1.modStore fun t => { t with chorus := some c1 }).modChorus fun k => { k with transferDue := false, fencedBy := none, unconfirmed := [] }

/-- The keys of a shard are removed before its transfer is loaded. -/
def Store.clearShard (t : Store) (l : LoadShard) : Store :=
  t.modNs l.ns fun n => { n with keys := n.keys.filter fun e => !inRange l.lo l.hi (keyHash n.id e.key) }

/-- A received shard takes its counter. -/
def Store.setCounter (t : Store) (num counter : Nat) : Store :=
  { t with chorus := t.chorus.map fun c =>
    { c with shards := c.shards.map fun h => if h.num == num then { h with counter } else h } }

/-- Load one stanza of a transfer, and ask for the next. -/
def State.takeStanza (s : State) (c : Chorus) (a : PullAnswer) (h : StanzaHead) (p : Bytes) : State :=
  let old := s.chorus.receiving.find? fun v => v.2.shard == a.shard
  let cut := if a.index = 0 then h.cut else (old.map (·.1)).getD 0
  let l := if a.index = 0 then .start a.shard h else (old.map (·.2)).getD (.start a.shard h)
  let put := fun (x : State) (v : LoadShard) => x.modChorus fun k =>
    { k with receiving := (cut, v) :: k.receiving.filter fun w => w.2.shard != a.shard }
  if l.next ≠ a.index ∨ l.ended ∨ h.index ≠ a.index then s
  else if endMismatch l h p || !l.inPlace h p then
    (put (s.modStore fun t => t.clearShard l) (.start a.shard h)).sendPull c a.member 4 0 cut (transferArgs a.shard 0)
  else
    let t0 := if a.index = 0 then s.store.clearShard l else s.store
    match loadStanza t0 l h p with
    | .error _ => s
    | .ok (t, l1) =>
      let s1 := put { s with store := if l1.ended then t.setCounter a.shard l1.counter else t } l1
      if !l1.ended then s1.sendPull c a.member 4 0 cut (transferArgs a.shard l1.next)
      else
        let c1 := s1.store.chorus.getD c
        if s1.chorus.allReceived c1 then s1.endTransfer c1 else s1

/-! ## Answers to this member's PULLs (R263, R270, R271) -/

/-- Cut a byte string into 16-byte entries. -/
def entriesOf (b : Bytes) : List Listed := (List.range (b.length / 16)).map fun i => listedOf (sub b (16 * i) 16)

/-- The payloads of a FETCH answer or of one set: `n` lengths with their payloads, and the rest. -/
def takePayloads : Nat → Bytes → List Bytes × Bytes
  | 0, b => ([], b)
  | n + 1, b =>
    if b.length < 2 ∨ b.length < 2 + fld b 0 2 then ([], [])
    else
      let r := takePayloads n (b.drop (2 + fld b 0 2))
      (sub b 2 (fld b 0 2) :: r.1, r.2)

/-- The sets of a SETS answer. -/
def takeSets : Nat → Bytes → List (Nat × List Bytes)
  | 0, _ => []
  | n + 1, b =>
    if b.length < 8 then []
    else
      let r := takePayloads (fld b 6 2) (b.drop 8)
      (fld b 0 6, r.1) :: takeSets n r.2

/-- A pulled payload as a request. -/
def State.pulled (s : State) (b : Bytes) : Request := parseRequest (s.pulledSource (fld b 8 2)) b

/-- The ids asked for in one FETCH. -/
def fetchArgs (l : List Listed) : Bytes := l.flatMap fun e => be 2 e.session ++ be 2 0 ++ be 4 e.seq

/-- Ask a member for the requests of a list of entries, 64 at a time. -/
def State.fetchMissing (s : State) (c : Chorus) (k t : Nat) : Nat → List Listed → State
  | 0, _ => s
  | n + 1, l =>
    if l.isEmpty then s
    else (s.sendPull c k 2 (l.take 64).length t (fetchArgs (l.take 64))).fetchMissing c k t n (l.drop 64)

/-- A LIST answer: the entries join U(T), and those not held are fetched. -/
def State.listRx (s : State) (c : Chorus) (a : PullAnswer) : State :=
  if (s.chorus.report c.self a.measure 2).isSome ∨ a.measure ≤ c.lastSealed then s
  else
    let l := entriesOf a.body
    let s1 := s.modChorus fun k => { k with listed := insertKey a.measure (((getKey a.measure k.listed).getD [] ++ l).eraseDups) k.listed }
    let missing := l.filter fun e => !(s.chorus.heldFor a.measure).any fun r => r.listed == e
    s1.fetchMissing c a.member a.measure l.length missing

/-- One fetched request: kept when it stands in a list and is not held yet. -/
def State.keepFetched (s : State) (t : Nat) (b : Bytes) : State :=
  let r := s.pulled b
  if r.target = t ∧ ((getKey t s.chorus.listed).getD []).contains r.listed ∧
      !(s.chorus.heldFor t).any (fun q => q.listed == r.listed) then
    ((s.ensureSession r.session).modSession r.session (Session.takeCredit r.seq)).modChorus fun k =>
      { k with late := k.late ++ [r] }
  else s

/-- A SETS answer: the sets above the last one sealed are kept. -/
def State.setsRx (s : State) (c : Chorus) (b : Bytes) : State :=
  (takeSets b.length b).foldl (fun x p =>
    if c.lastSealed < p.1 then
      x.modChorus fun k => { k with fetched := insertKey p.1 (p.2.map x.pulled) k.fetched }
    else x) s

/-- A peer's answer to a PULL. A SETS answer that lacks a set leads to a transfer (R271) when the set has left the log, or when it
would lie in the time without seals before a RESUME. -/
def State.pullResponse (s : State) (a : PullAnswer) : State :=
  match s.store.chorus with
  | none => s
  | some c =>
    if !s.inService ∨ c.self = a.member ∨ c.members ≤ a.member then s
    else match a.mode with
      | 1 => if a.status = 0 then s.listRx c a else s
      | 2 => if a.status = 0 then (takePayloads a.body.length a.body).1.foldl (fun x b => x.keepFetched a.measure b) s else s
      | 3 =>
        if a.status = 0 then s.setsRx c a.body
        else if c.lastSealed + 65536 < s.tb.measure ∨ (c.resuming.isSome ∧ (s.highest c).2 ≤ c.lastSealed ∧ s.sealsAgain c) then
          s.modChorus fun k => { k with transferDue := true }
        else s
      | 4 =>
        if !s.chorus.transferDue then s
        else if a.status = 0 then
          match parseStanza a.body with
          | some (h, p) => if stanzaCrcOk a.body then s.takeStanza c a h p else s
          | none => s
        else match c.shards.find? fun h => h.num == a.shard with
          | some h => s.askTransfer c h
          | none => s
      | _ => s

/-! ## Rounds -/

/-- Send a round of DIGEST (Table 10.3): round 1 for the last measure, round 2 for the one before. -/
def State.sendRound (s : State) (c : Chorus) (round : Nat) (copy : Bool) : State :=
  let t := s.tb.measure - round
  if round = 1 ∧ c.resuming.isSome ∧ s.ownFenced c then
    let r := s.resumeReport c
    (s.modChorus fun k => { k with reports := k.reports.filter (fun q => !(q.resuming && q.member == c.self)) ++ [r] }).sendDigest c r copy
  else if s.tb.measure < c.e + round then s
  else
    let sent := s.chorus.report c.self t round
    let r := sent.getD (s.ownReport c t round)
    let s1 := (s.modChorus fun k => k.addReport r).sendDigest c r copy
    if round = 1 ∧ sent.isNone then
      ((s1.chorus.reports.filter fun q => q.measure == t && q.round == 1 && q.member != c.self && !q.resuming).foldl
        (fun x q => x.listIfDiffers c t q) s1).confirm c (t - 2)
    else s1

/-! ## Meanings -/

/-- DIGEST (R261, R268). -/
def execDigest (r : Request) (s : State) : Out := .next (s.served r fun t => t.digestRx r)

/-- A PULL of a mode as its row has it. -/
def pullOf (mode : Nat) (r : Request) : Request := { r with op := 0x12, body := be 1 mode ++ r.body.drop 1 }

/-- PULL LIST (R262). -/
def execPullList (r : Request) (s : State) : Out := .next (s.served r fun t => t.pullRx (pullOf 1 r))
/-- PULL FETCH (R262). -/
def execPullFetch (r : Request) (s : State) : Out := .next (s.served r fun t => t.pullRx (pullOf 2 r))
/-- PULL SETS (R270). -/
def execPullSets (r : Request) (s : State) : Out := .next (s.served r fun t => t.pullRx (pullOf 3 r))
/-- PULL TRANSFER (R271). -/
def execPullTransfer (r : Request) (s : State) : Out := .next (s.served r fun t => t.pullRx (pullOf 4 r))
/-- PULL_RESPONSE_RECEIVE (R263, R270, R271). -/
def execPullResponseReceive (a : PullAnswer) (s : State) : Out := .next (s.pullResponse a)

/-- DIGEST_ROUND_SEND (R261): in Service, while a measure is open (Table 10.9). -/
def execDigestRoundSend (round : Fin 2) (copy : Bool) (s : State) : Out :=
  match s.store.chorus with
  | some c => if s.inService && s.tb.opened then .next (s.sendRound c (round.val + 1) copy) else .next s
  | none => .next s

/-- PEER_SILENCE_TIMEOUT (Table 10.6): no DIGEST from the peer for 64 measures, unless the Chorus is parked (R272). -/
def execPeerSilenceTimeout (member : Fin 8) (s : State) : Out :=
  match s.store.chorus with
  | some c =>
    if s.inService ∧ !c.isParked ∧ member.val ≠ c.self ∧ member.val < c.members ∧ s.chorus.lastHeard[member] + 64 ≤ s.tb.measure then
      .next (s.lowerMember member .offline)
    else .next s
  | none => .next s

/-- CHORUS_CATCH_UP (R270, R272). -/
def execChorusCatchUp (s : State) : Out := .next s.catchUp
/-- CHORUS_TRANSFER_REJOIN (R271). -/
def execChorusTransferRejoin (s : State) : Out := .next s.startTransfer

/-- TRANSFER_WINDOW_EXPIRY (R271): snapshots served for 65,536 measures go. -/
def execTransferWindowExpiry (s : State) : Out :=
  .next (s.modChorus fun k => { k with serving := k.serving.filter fun v => decide (s.tb.measure < v.2.cut + 65536) })

/-- SNAPSHOT_EXPIRY (R274): a checkpoint's snapshot goes 2^24 measures after its cut. -/
def execSnapshotExpiry (s : State) : Out :=
  .next (s.modStore fun t => { t with chorus := t.chorus.map fun c =>
    { c with checkpoint := c.checkpoint.filter fun sn => decide (s.tb.measure < sn.cut + 2 ^ 24) } })

/-- The chain of a set that this member sealed is not confirmed by the close of T + 4 (R266): no response for it or any later
set, the fence, which may stand already, and a rejoin by transfer. -/
def State.chainLost (s : State) (t : Nat) : State :=
  match s.store.chorus with
  | none => s
  | some c =>
    if !s.chorus.unconfirmed.contains t ∨ s.tb.measure < t + 4 then s
    else
      let s1 := s.dropReplies fun r => match r.set with
        | some m => decide (t ≤ m)
        | none => false
      ((if s.ownFenced c then s1 else s1.fenceOwn 2)).modChorus fun k => { k with transferDue := true, unconfirmed := [] }

/-- CHAIN_CONFIRM_DEADLINE (R266). -/
def execChainConfirmDeadline (measure : Nat) (s : State) : Out := .next (s.chainLost measure)

end Sys2Proof.Machine
end

