-- ==== Sys2Proof/Machine/Cluster.lean ====
section
/-! DEFINITION. Below the drive's firmware: memory protection, L2 ownership, debug and JTAG (R72 to R75, R367). -/

namespace Sys2Proof.Machine

open Sys2Proof

/-! ## Memory protection (R74, R75) -/

/-- The region grants the access type. A descriptor reads its source range and writes its destination range. -/
def ProtRegion.grants (r : ProtRegion) (a : Access) (dest : Bool) : Bool :=
  match a with
  | .load => r.r
  | .store => r.w
  | .fetch => r.x
  | .descriptor => if dest then r.w else r.r

/-- The lowest address in [a, end_) that no region permits; each step passes the end of a region that covers `a`. -/
def firstForbidden (ok : ProtRegion → Bool) (rs : List ProtRegion) (end_ : Nat) : Nat → Nat → Option Nat
  | 0, a => if a < end_ then some a else none
  | fuel + 1, a =>
    if a < end_ then
      match rs.find? fun r => decide (r.base ≤ a) && decide (a < r.limit) && ok r with
      | none => some a
      | some r => firstForbidden ok rs end_ fuel r.limit
    else none

/-- Cantor runs: out of reset, not in Custody. -/
def State.cantorRuns (s : State) : Bool := !s.power.inReset && s.power.mode != .custody

/-- PROTECTION_FAULT (R74, R75): an access that some byte forbids is refused whole; its entry names the core, the access and
the first forbidden address, and the fault is fatal. Which of a descriptor's two ranges it is, is not told: a free value (log
entry 2). -/
def execProtectionFault (core : Fin 4) (access : Access) (start size : Nat) (s : State) : Out :=
  let (d, s1) := if access = .descriptor then s.draw 1 else (0, s)
  let rs := s.cluster.regions[core]
  match firstForbidden (fun r => r.grants access (d == 1)) rs (start + size) rs.length start with
  | none => .next s1
  | some a =>
    if s.cantorRuns then
      .next (s1.fatal 1 core (some (0x0401, 3,
        be 1 core ++ be 1 (accessNum access) ++ zeros 2 ++ be 4 start ++ be 4 a ++ be 4 size)))
    else .next s1

/-! ## Ownership (R72, R73) -/

/-- Place of a core in the rotating order that starts at core `start`. -/
def turnOf (start : Nat) (c : Fin 4) : Nat := (c.val + 4 - start % 4) % 4

/-- The request that is granted next: of those that have waited behind most grants, so that one that has lost goes before a fresh
one and none waits behind more than three (R73), the first in the rotating order. -/
def nextOwner (start : Nat) (l : List (Fin 4 × Nat)) : Option (Fin 4) :=
  let most := (l.map (·.2)).foldl max 0
  ((l.filter fun p => p.2 == most).map (·.1)).foldl (fun best c => match best with
    | none => some c
    | some b => if turnOf start c < turnOf start b then some c else some b) none

/-- Grant the line to one request; the others have waited behind one grant more. -/
def DirLine.grant (start : Nat) (d : DirLine) : DirLine :=
  match nextOwner start d.waiting with
  | none => d
  | some c => { d with owner := some c, waiting := (d.waiting.filter fun p => p.1 != c).map fun p => (p.1, p.2 + 1) }

/-- Insert a line in ascending order of line. -/
def insertLine (d : DirLine) : List DirLine → List DirLine
  | [] => [d]
  | x :: xs => if d.line ≤ x.line then d :: x :: xs else x :: insertLine d xs

/-- The directory's entry of a line. -/
def State.dirLine (s : State) (line : Nat) : DirLine :=
  (s.cluster.dir.find? fun d => d.line == line).getD { line, owner := none, waiting := [] }

/-- Put a line's entry into the directory; a line without owner and requests has none. -/
def State.setLine (s : State) (d : DirLine) : State :=
  s.modCluster fun c =>
    let rest := c.dir.filter fun x => x.line != d.line
    { c with dir := if d.owner.isNone && d.waiting.isEmpty then rest else insertLine d rest }

/-- OWNERSHIP_REQUEST (R72): a writeback in progress completes first, then one request is granted. -/
def execOwnershipRequest (line : Nat) (cores : List (Fin 4)) (writeback : Bool) (s : State) : Out :=
  if s.cantorRuns then
    let d := s.dirLine line
    let fresh := cores.filter fun c => !d.waiting.any fun p => p.1 == c
    let d1 := { d with owner := if writeback then none else d.owner, waiting := d.waiting ++ fresh.map (·, 0) }
    .next (s.setLine (d1.grant s.tb.measure))
  else .next s

/-- OWNERSHIP_RETRY (R72): 4 CORE cycles later the losers ask again, and one is granted. -/
def execOwnershipRetry (line : Nat) (s : State) : Out :=
  if s.cantorRuns then .next (s.setLine ((s.dirLine line).grant s.tb.measure)) else .next s

/-! ## Debug and JTAG (R367) -/

/-- The JTAG instruction in force, and what it shifts out. -/
def State.jtag (s : State) (i : JtagInstr) (tdo : Nat) : State := s.modCluster fun c => { c with jtag := i, tdo := tdo }

/-- BYPASS: one stage, which captures 0. -/
def State.bypass (s : State) : State := s.jtag .bypass 0

/-- PORST_n or SYS_RST_n is asserted. -/
def State.ballReset (s : State) : Bool := s.power.inReset && (s.power.cause == .porst || s.power.cause == .sysRst)

/-- DEBUG_HALT: while DEBUG_LOCKED is clear a debugger halts or resumes a core; the watchdog is paused while one is halted,
and an entry is made. After it is blown the instruction acts as BYPASS. -/
def execDebugHalt (core : Fin 4) (halt : Bool) (s : State) : Out :=
  if s.fuses.debugLocked then .next s.bypass
  else if s.cantorRuns then
    let s1 := s.modCluster fun c => { c with halted := c.halted.set core halt }
    .next ((s1.modPower fun p => { p with wdogPaused := s1.cluster.halted.toList.any id }).report 0x0404 3
      (be 1 core ++ be 1 (b2n halt)))
  else .next s

/-- JTAG BYPASS. -/
def execJtagBypass (s : State) : Out := .next s.bypass

/-- The 32 bits of IDCODE: version, part number, manufacturer, 1 (log entry 6). -/
def idcode : Nat := 0x2 * 2 ^ 28 + 0x4810 * 2 ^ 12 + Config.jep106 % 2 ^ 11 * 2 + 1

/-- JTAG IDCODE. -/
def execJtagIdcode (s : State) : Out := .next (s.jtag .idcode idcode)

/-- JTAG SAMPLE/PRELOAD: the balls are sampled, and the boundary register is loaded. The order of its cells is not in the
manual: what is sampled is a free value (log entry 6). -/
def execJtagSamplePreload (boundary : Nat) (s : State) : Out :=
  let (v, s1) := s.draw 32
  .next ((s1.jtag .samplePreload v).modCluster fun c => { c with boundary := boundary })

/-- JTAG EXTEST: in force only while a reset ball is asserted; the balls then take the boundary register's values. -/
def execJtagExtest (s : State) : Out :=
  if s.ballReset then
    let (v, s1) := s.draw 32
    .next (s1.jtag .extest v)
  else .next s.bypass

/-- JTAG CLAMP: in force only while a reset ball is asserted; the bypass stage is shifted. -/
def execJtagClamp (s : State) : Out := .next (if s.ballReset then s.jtag .clamp 0 else s.bypass)

/-- JTAG HIGHZ: in force only while a reset ball is asserted; the bypass stage is shifted. -/
def execJtagHighz (s : State) : Out := .next (if s.ballReset then s.jtag .highz 0 else s.bypass)

end Sys2Proof.Machine
end

