-- ==== Sys2Proof/Machine/Net.lean ====
section
/-! DEFINITION. The NET commands (Tables 15.8 to 15.10; R135, R140, R142, R148 to R150, R153, R155, R156, R390 to R393). -/

namespace Sys2Proof.Machine

open Sys2Proof

/-- The port a NET layout names: RANGE above 1, NOT_FOUND for port 1 on a board without it. -/
def State.portArg (s : State) (v : Nat) : Except Status (Fin 2) :=
  match v with
  | 0 => .ok 0
  | 1 => if s.board.port1 then .ok 1 else .error .notFound
  | _ => .error .range

/-- Run `f` on the port that byte 0 names. -/
def onPort (b : Bytes) (s : State) (f : Fin 2 → Res) : Res :=
  match s.portArg (u8 b 0) with
  | .ok p => f p
  | .error e => refuse s e

/-- PORT outside 0 and 1 is a matter of the arguments alone. -/
def portRange (b : Bytes) : Option Status := if 1 < u8 b 0 then some .range else none

/-! ## NET.SET_PORT -/

/-- The settings of Table 15.9's layout. -/
def portSettings (b : Bytes) : PortSettings where
  sgmii := u8 b 1 == 1
  maxRate := u8 b 2
  jumbo := u8 b 3 == 1
  flow := u8 b 4 == 1
  honourPause := u8 b 5 == 1
  phyAddr := u8 b 6
  highWm := fld b 8 2
  lowWm := fld b 10 2
  dataVid := fld b 12 2
  mgmtVid := fld b 14 2
  dataPcp := u8 b 16
  mgmtPcp := u8 b 17
  ptpRx := fld b 20 2
  ptpTx := fld b 22 2

/-- The values of Table 6.2 and R390. -/
def setPortOk (b : Bytes) : Bool :=
  let t := portSettings b
  decide (u8 b 1 ≤ 1 ∧ 1 ≤ t.maxRate ∧ t.maxRate ≤ 4 ∧ (t.sgmii → t.maxRate = 1)) &&
  decide (u8 b 3 ≤ 1 ∧ u8 b 4 ≤ 1 ∧ u8 b 5 ≤ 1 ∧ t.phyAddr ≤ 31) &&
  decide (64 ≤ t.highWm ∧ t.highWm ≤ 448 ∧ t.highWm % 16 = 0) &&
  decide (32 ≤ t.lowWm ∧ t.lowWm + 32 ≤ t.highWm ∧ t.lowWm % 16 = 0) &&
  decide (t.dataVid ≤ 4094 ∧ t.mgmtVid ≤ 4094 ∧ t.dataPcp ≤ 7 ∧ t.mgmtPcp ≤ 7 ∧ t.ptpRx ≤ 4095 ∧ t.ptpTx ≤ 4095)

/-- The settings in Table 15.9's layout. -/
def PortSettings.bytes (t : PortSettings) (p : Fin 2) : Bytes :=
  be 1 p ++ be 1 (b2n t.sgmii) ++ be 1 t.maxRate ++ be 1 (b2n t.jumbo) ++ be 1 (b2n t.flow) ++ be 1 (b2n t.honourPause) ++
  be 1 t.phyAddr ++ be 1 0 ++ be 2 t.highWm ++ be 2 t.lowWm ++ be 2 t.dataVid ++ be 2 t.mgmtVid ++ be 1 t.dataPcp ++
  be 1 t.mgmtPcp ++ be 2 0 ++ be 2 t.ptpRx ++ be 2 t.ptpTx

/-- A change of INTERFACE, MAX_RATE or MTU retrains the link (R135). -/
def retrains (old new : PortSettings) : Bool :=
  old.sgmii != new.sgmii || old.maxRate != new.maxRate || old.jumbo != new.jumbo

/-- The new settings at the boundary (R135): a retrain takes the link down, and the data-path view to OFFLINE. -/
def State.applyPort (s : State) (p : Fin 2) (t : PortSettings) : State :=
  let s1 := s.modNet p fun n => { n with set := t }
  (if retrains (s.net p).set t then s1.dropLink p else s1).flowCheck s p

/-- NET.SET_PORT. -/
def cmdNetSetPort : CmdDef :=
  { CmdDef.base 0x0601 .sealedBoundary .mgmt (· == 24) (fun c s => onPort c.cmd.args s fun _ => okay s []) with
    pre := fun _ b => if 1 < u8 b 0 ∨ !setPortOk b then some .range else none
    later := fun c s => onPort c.cmd.args s fun p => okay (s.applyPort p (portSettings c.cmd.args)) [] }

/-! ## Addresses and filters -/

/-- NET.SET_FILTER at its sealed place (R140, R391). -/
def setFilter (c : SealedCmd) (s : State) : Res :=
  onPort c.cmd.args s fun p =>
    let e := u8 c.cmd.args 1
    let on := u8 c.cmd.args 2 == 1
    let a := fld c.cmd.args 4 6
    if e = 0 then okay (s.modNet p fun n => { n with filter0 := if on then a else n.filter0, filter0On := on }) []
    else
      okay (s.modNet p fun n =>
        { n with filter4 := Vector.ofFn fun i : Fin 4 => if i.val + 4 = e then (if on then some a else none) else n.filter4[i] }) []

/-- NET.SET_FILTER. -/
def cmdNetSetFilter : CmdDef :=
  { CmdDef.base 0x0602 .sealedNow .mgmt (· == 12) setFilter with
    pre := fun _ b =>
      let e := u8 b 1
      if 1 < u8 b 0 ∨ 7 < e ∨ (1 ≤ e ∧ e ≤ 3) ∨ 1 < u8 b 2 ∨ (e = 0 ∧ bit (fld b 4 6) 40) then some .range else none }

/-- An IPv6 address a port may take: neither multicast nor link-local (R391). -/
def ipv6Ok (a : Nat) : Bool := a / 2 ^ 120 != 0xFF && a / 2 ^ 118 != 0x3FA

/-- An IPv4 address a port may take: not 0.0.0.0, broadcast or multicast (R391). -/
def ipv4Ok (a : Nat) : Bool := a != 0 && a != 0xFFFFFFFF && a / 2 ^ 28 != 0xE

/-- NET.SET_ADDRESS at its sealed place. -/
def setAddress (c : SealedCmd) (s : State) : Res :=
  onPort c.cmd.args s fun p =>
    let f := u8 c.cmd.args 1
    okay (s.modNet p fun n =>
      { n with
        ipv6 := if bit f 0 then some (fld c.cmd.args 4 16) else none
        ipv4 := if bit f 1 then some (fld c.cmd.args 20 4) else none }) []

/-- NET.SET_ADDRESS. -/
def cmdNetSetAddress : CmdDef :=
  { CmdDef.base 0x0603 .sealedNow .mgmt (· == 24) setAddress with
    pre := fun _ b =>
      let f := u8 b 1
      if 1 < u8 b 0 ∨ (bit f 0 ∧ !ipv6Ok (fld b 4 16)) ∨ (bit f 1 ∧ !ipv4Ok (fld b 20 4)) then some .range else none }

/-- NET.SET_MGMT_PEERS: the list for both ports (R90, R391). -/
def cmdNetSetMgmtPeers : CmdDef :=
  { CmdDef.base 0x0604 .sealedNow .sec (fun n => 4 ≤ n && n ≤ 132 && n % 16 == 4) (fun c s =>
      okay (s.modSettings fun t =>
        { t with peers := (List.range (u8 c.cmd.args 0)).map fun i => fld c.cmd.args (4 + 16 * i) 16 }) []) with
    pre := fun _ b => if 8 < u8 b 0 ∨ b.length ≠ 4 + 16 * u8 b 0 then some .range else none }

/-- NET.SET_HEARTBEAT at its sealed place (R153, R391): FAMILY 0 restores the default destination. -/
def setHeartbeat (c : SealedCmd) (s : State) : Res :=
  onPort c.cmd.args s fun p =>
    let fam := u8 c.cmd.args 1
    okay (s.modNet p fun n =>
      { n with hbDest := if fam = 0 then none else some (fld c.cmd.args 4 16, fld c.cmd.args 20 2) }) []

/-- NET.SET_HEARTBEAT. -/
def cmdNetSetHeartbeat : CmdDef :=
  { CmdDef.base 0x0605 .sealedNow .mgmt (· == 24) setHeartbeat with
    pre := fun _ b =>
      if 1 < u8 b 0 ∨ ¬ (u8 b 1 = 0 ∨ u8 b 1 = 4 ∨ u8 b 1 = 6) ∨ (u8 b 1 = 4 ∧ !isV4 (fld b 4 16)) then some .range
      else none }

/-! ## MACsec (R148 to R150, R392) -/

/-- NET.MACSEC_POLICY. -/
def cmdNetMacsecPolicy : CmdDef :=
  { CmdDef.base 0x0606 .sealedNow .sec (· == 4) (fun c s => onPort c.cmd.args s fun p =>
      okay (s.modNet p fun n =>
        { n with
          policy := match u8 c.cmd.args 1 with
            | 0 => .disabled
            | 1 => .check
            | _ => .strict
          replayWindow := u8 c.cmd.args 2 }) []) with
    pre := fun _ b => if 1 < u8 b 0 ∨ 2 < u8 b 1 then some .range else none }

/-- The association of Table 15.10's layout. -/
def saArgs (b : Bytes) : Sa where
  an := u8 b 2
  suite := u8 b 3
  persist := bit (u8 b 4) 0
  sci := fld b 8 8
  pn := fld b 16 8
  pnPersisted := fld b 16 8 / 2 ^ 20 * 2 ^ 20
  warned := false
  ssci := fld b 24 4
  salt := sub b 32 12
  key := if u8 b 3 = 1 ∨ u8 b 3 = 3 then sub b 48 16 else sub b 48 32

/-- R392's ranges. -/
def installOk (b : Bytes) : Bool :=
  decide (u8 b 0 ≤ 1 ∧ u8 b 1 ≤ 1 ∧ u8 b 2 ≤ 3 ∧ 1 ≤ u8 b 3 ∧ u8 b 3 ≤ 4) &&
  decide (fld b 16 8 ≠ 0) && decide (u8 b 3 ≤ 2 → fld b 16 8 ≤ 0xFFFFFFFF) &&
  decide ((u8 b 3 = 1 ∨ u8 b 3 = 3) → fld b 64 16 = 0)

/-- The list of associations with one installed: it replaces its own number, and goes in front; none when two others are
installed. -/
def installSa (l : List Sa) (a : Sa) : Option (List Sa) :=
  let others := l.filter fun b => b.an != a.an
  if 2 ≤ others.length then none else some (a :: others)

/-- NET.MACSEC_INSTALL_SA at its sealed place. -/
def macsecInstall (c : SealedCmd) (s : State) : Res :=
  onPort c.cmd.args s fun p =>
    let a := saArgs c.cmd.args
    let tx := u8 c.cmd.args 1 == 0
    match installSa (if tx then (s.net p).txSa else (s.net p).rxSa) a with
    | none => refuse s .busy
    | some l => okay (s.modNet p fun n => if tx then { n with txSa := l } else { n with rxSa := l }) []

/-- NET.MACSEC_INSTALL_SA. -/
def cmdNetMacsecInstallSa : CmdDef :=
  { CmdDef.base 0x0607 .sealedNow .sec (· == 80) macsecInstall with
    pre := fun _ b => if installOk b then none else some .range }

/-- NET.MACSEC_REMOVE_SA at its sealed place (R392). -/
def macsecRemove (c : SealedCmd) (s : State) : Res :=
  onPort c.cmd.args s fun p =>
    let an := u8 c.cmd.args 2
    let n := s.net p
    if u8 c.cmd.args 1 = 0 then
      if !n.txSa.any fun a => a.an == an then refuse s .notFound
      else if (n.txSa.head?.map (·.an)) = some an then refuse s .busy
      else okay (s.modNet p fun m => { m with txSa := m.txSa.filter fun a => a.an != an }) []
    else if !n.rxSa.any fun a => a.an == an then refuse s .notFound
    else okay (s.modNet p fun m => { m with rxSa := m.rxSa.filter fun a => a.an != an }) []

/-- NET.MACSEC_REMOVE_SA. -/
def cmdNetMacsecRemoveSa : CmdDef :=
  { CmdDef.base 0x0608 .sealedNow .sec (· == 4) macsecRemove with
    pre := fun _ b => if 1 < u8 b 0 ∨ 1 < u8 b 1 ∨ 3 < u8 b 2 then some .range else none }

/-! ## PHYs (R155, R156, R393) -/

/-- NET.PHY_RESET: the line is asserted and the port falls to OFFLINE at the sealed place. -/
def cmdNetPhyReset : CmdDef :=
  { CmdDef.base 0x0609 .sealedNow .mgmt (· == 4) (fun c s => onPort c.cmd.args s fun p =>
      okay ((s.modPort p fun q => { q with phyRun := false, phySilent := false, cleanMeasure := false }).lowerData (portId p)
        .offline) []) with
    pre := fun _ => portRange }

/-- CLAUSE and PHY of an MDIO layout. -/
def mdioRange (b : Bytes) : Option Status :=
  if ¬ (u8 b 0 = 22 ∨ u8 b 0 = 45) ∨ 31 < u8 b 1 then some .range else none

/-- NET.MDIO_WRITE: one write on the MDIO bus, which is not acknowledged. -/
def cmdNetMdioWrite : CmdDef :=
  { CmdDef.base 0x060A .sealedNow .mgmt (· == 8) (fun c s =>
      let b := c.cmd.args
      okay (s.modCluster fun k =>
        { k with mdio := some ⟨u8 b 0, u8 b 1, if u8 b 0 = 45 then u8 b 2 else 0, fld b 4 2, fld b 6 2⟩ }) []) with
    pre := fun _ => mdioRange }

/-- NET.MDIO_READ: the value the PHY drives (log entry 10), NOT_FOUND when none does. -/
def cmdNetMdioRead : CmdDef :=
  { CmdDef.base 0x060B .immediate .rt (· == 8) (fun c s =>
      let b := c.cmd.args
      let s1 := { s with fresh := s.fresh + 1 }
      match Config.mdioRead s.fresh (u8 b 0) (u8 b 1) (if u8 b 0 = 45 then u8 b 2 else 0) (fld b 4 2) with
      | none => refuse s1 .notFound
      | some v => okay s1 (be 2 v ++ be 2 0)) with
    pre := fun _ => mdioRange }

/-! ## Port queries -/

/-- NET.TX_FLUSH at its grant (R393): every class 5 descriptor whose preamble has not started. -/
def txFlush (c : SealedCmd) (s : State) : Res :=
  onPort c.cmd.args s fun p =>
    let n := (s.port p).queue.length
    let late := match (s.port p).inFlight with
      | some f => b2n (f.cls == .queue)
      | none => 0
    okay ((s.modPort p fun q => { q with queue := [] }).count p .txCancelled n) (be 4 n ++ be 4 late)

/-- NET.TX_FLUSH. -/
def cmdNetTxFlush : CmdDef := { CmdDef.base 0x060C .immediate .mgmt (· == 4) txFlush with pre := fun _ => portRange }

/-- MACn_STATUS (Table 6.9). -/
def State.macStatus (s : State) (p : Fin 2) : Nat :=
  let q := s.port p
  let n := s.net p
  b2n q.link + 2 * q.rate + 2 ^ 4 * b2n n.set.sgmii + 2 ^ 5 * b2n n.set.jumbo + 2 ^ 6 * b2n n.set.flow + 2 ^ 7 * b2n q.paused +
  2 ^ 8 * b2n q.xoff + 2 ^ 9 * n.policy.num + 2 ^ 11 * (s.effective (portId p)).num +
  2 ^ 14 * (s.dataView (portId p)).num + 2 ^ 17 * (s.mgmtView (portId p)).num + 2 ^ 20 * b2n q.phyInt +
  2 ^ 21 * b2n (s.tb.source == some p) + 2 ^ 22 * b2n q.linkChange + 2 ^ 23 * b2n q.pnHigh

/-- MACn_RXBUF (Table 6.9). -/
def Port.rxBuf (q : Port) : Nat := (q.rxBytes + 1023) / 1024 + 2 ^ 16 * q.rxDesc

/-- NET.PORT_STATUS. -/
def cmdNetPortStatus : CmdDef :=
  { CmdDef.base 0x060D .immediate .rt (· == 4) (fun c s => onPort c.cmd.args s fun p =>
      okay s (be 4 (s.macStatus p) ++ be 4 (s.port p).rxBuf ++ (s.net p).set.bytes p ++ be 16 ((s.net p).ipv6.getD 0) ++
        be 4 ((s.net p).ipv4.getD 0) ++ be 4 0)) with
    pre := fun _ => portRange }

/-- NET.COUNTERS. -/
def cmdNetCounters : CmdDef :=
  { CmdDef.base 0x060E .immediate .rt (· == 4) (fun c s => onPort c.cmd.args s fun p =>
      okay s ((s.port p).counters.toList.flatMap (be 8))) with
    pre := fun _ => portRange }

/-! ## Meanings -/

/-- NET.SET_PORT (R135, R390). -/
def execNetSetPort (c : Cmd) (s : State) : Out := .next (cmdNetSetPort.run c s)
/-- NET.SET_FILTER (R140). -/
def execNetSetFilter (c : Cmd) (s : State) : Out := .next (cmdNetSetFilter.run c s)
/-- NET.SET_ADDRESS (R142). -/
def execNetSetAddress (c : Cmd) (s : State) : Out := .next (cmdNetSetAddress.run c s)
/-- NET.SET_MGMT_PEERS (R391). -/
def execNetSetMgmtPeers (c : Cmd) (s : State) : Out := .next (cmdNetSetMgmtPeers.run c s)
/-- NET.SET_HEARTBEAT (R153). -/
def execNetSetHeartbeat (c : Cmd) (s : State) : Out := .next (cmdNetSetHeartbeat.run c s)
/-- NET.MACSEC_POLICY (R148). -/
def execNetMacsecPolicy (c : Cmd) (s : State) : Out := .next (cmdNetMacsecPolicy.run c s)
/-- NET.MACSEC_INSTALL_SA (R149). -/
def execNetMacsecInstallSa (c : Cmd) (s : State) : Out := .next (cmdNetMacsecInstallSa.run c s)
/-- NET.MACSEC_REMOVE_SA (R392). -/
def execNetMacsecRemoveSa (c : Cmd) (s : State) : Out := .next (cmdNetMacsecRemoveSa.run c s)
/-- NET.PHY_RESET (R155). -/
def execNetPhyReset (c : Cmd) (s : State) : Out := .next (cmdNetPhyReset.run c s)
/-- NET.MDIO_WRITE (R393). -/
def execNetMdioWrite (c : Cmd) (s : State) : Out := .next (cmdNetMdioWrite.run c s)
/-- NET.MDIO_READ (R393). -/
def execNetMdioRead (c : Cmd) (s : State) : Out := .next (cmdNetMdioRead.run c s)
/-- NET.TX_FLUSH (R393). -/
def execNetTxFlush (c : Cmd) (s : State) : Out := .next (cmdNetTxFlush.run c s)
/-- NET.PORT_STATUS (R393). -/
def execNetPortStatus (c : Cmd) (s : State) : Out := .next (cmdNetPortStatus.run c s)
/-- NET.COUNTERS (R393). -/
def execNetCounters (c : Cmd) (s : State) : Out := .next (cmdNetCounters.run c s)

end Sys2Proof.Machine
end

