-- ==== Sys2Proof/Machine/Events.lean ====
section
/-! DEFINITION. The EVENT commands and the event fabric's own steps (R284 to R301, Tables 11.3 to 11.6). -/

namespace Sys2Proof.Machine

open Sys2Proof

/-! ## Channel arguments -/

/-- The channel with the number, RANGE above 31. -/
def chanArg (v : Nat) : Option (Fin 32) := if h : v < 32 then some ⟨v, h⟩ else none

/-- The channels a 32-bit mask names, ascending. -/
def chanMask (m : Nat) : List (Fin 32) := (List.finRange 32).filter fun c => bit m c

/-- The mailbox's owner ranks at least as high as the channel's (R87 step 5, Table 11.3). -/
def State.mayUse (s : State) (m : Fin 8) (c : Fin 32) : Bool := (s.ownerOf m).covers (s.chan c).cfg.owner

/-- As `mayUse`, and a secure channel answers SEC mailboxes only (R295). -/
def State.mayUseSecure (s : State) (m : Fin 8) (c : Fin 32) : Bool :=
  s.mayUse m c && (!(s.chan c).cfg.secure || s.ownerOf m == .sec)

/-- Change a channel's configuration in force and in the settings (R293: it persists). -/
def State.setChan (s : State) (c : Fin 32) (f : ChanCfg → ChanCfg) : State :=
  (s.modChan c fun h => { h with cfg := f h.cfg }).modSettings fun t =>
    { t with channels := t.channels.set c (f t.channels[c]) }

/-! ## Commands -/

/-- The configuration of CONFIGURE's arguments, over the channel's owner and secure attribute. -/
def configureArgs (b : Bytes) (old : ChanCfg) : ChanCfg :=
  { old with
    enable := bit (u8 b 1) 0
    remember := bit (u8 b 1) 1
    producers := BitVec.ofNat 64 (fld b 4 8)
    consumers := BitVec.ofNat 64 (fld b 12 8) }

/-- EVENT.CONFIGURE's RANGE checks (R293), which the arguments decide. -/
def configureRange (b : Bytes) : Bool :=
  let p := BitVec.ofNat 64 (fld b 4 8)
  let k := BitVec.ofNat 64 (fld b 12 8)
  decide (31 < u8 b 0) || !maskOk producers p || !maskOk consumers k ||
  (k.getLsbD 0 && decide (7 < u8 b 0)) || (p.getLsbD 5 && k.getLsbD 2)

/-- EVENT.CONFIGURE's checks at its sealed place, in the order of R293. -/
def configureCheck (c : SealedCmd) (s : State) : Status :=
  let b := c.cmd.args
  match chanArg (u8 b 0) with
  | none => .range
  | some ch =>
    let n := configureArgs b (s.chan ch).cfg
    if configureRange b then .range
    else if (n.consumers.getLsbD 2 && !(s.chan ch).cfg.secure) || !s.mayUseSecure c.cmd.mailbox ch then .denied
    else if (s.chan ch).locked then .sealed
    else .ok

/-- The new configuration at the boundary (R293): pending bits of the consumers it removes are cleared. -/
def configureApply (c : SealedCmd) (s : State) : Res :=
  match chanArg (u8 c.cmd.args 0) with
  | none => refuse s .range
  | some ch =>
    let s1 := s.setChan ch (configureArgs c.cmd.args)
    okay (s1.modChan ch fun h => { h with pending := h.pending &&& h.cfg.consumers }) []

/-- EVENT.CONFIGURE. -/
def cmdEventConfigure : CmdDef :=
  { CmdDef.base 0x0901 .sealedBoundary .rt (· == 20) (fun c s => (s, configureCheck c s, [])) with
    pre := fun _ b => if configureRange b then some .range else none
    later := configureApply }

/-- EVENT.SET_OWNER: owner and secure attribute at the boundary; SEALED on a locked channel (R295). -/
def cmdEventSetOwner : CmdDef :=
  { CmdDef.base 0x0902 .sealedBoundary .sec (· == 4) (fun c s =>
      match chanArg (u8 c.cmd.args 0) with
      | none => refuse s .range
      | some ch => if (s.chan ch).locked then refuse s .sealed else okay s []) with
    pre := fun _ b => if 31 < u8 b 0 ∨ 2 < u8 b 1 then some .range else none
    later := fun c s =>
      match chanArg (u8 c.cmd.args 0), Owner.ofNum (u8 c.cmd.args 1) with
      | some ch, some o => okay (s.setChan ch fun g => { g with owner := o, secure := bit (u8 c.cmd.args 2) 0 }) []
      | _, _ => refuse s .range }

/-- EVF_LOCKED. -/
def State.lockedMask (s : State) : Nat :=
  ((List.finRange 32).map fun c => if (s.chan c).locked then 2 ^ c.val else 0).sum

/-- EVENT.LOCK at its sealed place (R296). -/
def lockChannels (c : SealedCmd) (s : State) : Res :=
  let cs := chanMask (fld c.cmd.args 0 4)
  if !cs.all fun ch => s.mayUse c.cmd.mailbox ch then refuse s .denied
  else
    let s1 := cs.foldl (fun t ch => t.modChan ch fun h => { h with locked := true }) s
    okay s1 (be 4 s1.lockedMask)

/-- EVENT.LOCK. -/
def cmdEventLock : CmdDef := .base 0x0903 .sealedNow .rt (· == 4) lockChannels

/-- A producer or consumer of the ball is enabled on a locked channel (R296). -/
def State.ballLocked (s : State) (ball : Nat) : Bool :=
  (List.finRange 32).any fun c =>
    (s.chan c).locked && ((s.chan c).cfg.producers.getLsbD (8 + ball) || (s.chan c).cfg.consumers.getLsbD (8 + ball))

/-- The ball's configuration of EVIO_CONFIG's arguments. -/
def evioArgs (b : Bytes) : EvioCfg := ⟨u8 b 1, u8 b 2 % 4, u8 b 2 / 4 % 4, bit (u8 b 2) 4⟩

/-- EVENT.EVIO_CONFIG: the ball's direction at the boundary; it persists (R299). A ball that is not IN shows low. -/
def cmdEventEvioConfig : CmdDef :=
  { CmdDef.base 0x0904 .sealedBoundary .mgmt (· == 4) (fun c s =>
      if s.ballLocked (u8 c.cmd.args 0) then refuse s .sealed else okay s []) with
    pre := fun _ b =>
      if 15 < u8 b 0 ∨ 2 < u8 b 1 ∨ (u8 b 1 = 1 ∧ u8 b 2 % 4 = 0) then some .range else none
    later := fun c s =>
      let b := u8 c.cmd.args 0
      let e := evioArgs c.cmd.args
      let up := fun (v : Vector EvioCfg 16) => Vector.ofFn fun i : Fin 16 => if i.val = b then e else v[i]
      let s1 := s.modSettings fun t => { t with evio := up t.evio }
      okay (s1.modFabric fun g =>
        { g with evio := up g.evio, level := if e.dir = 1 then g.level else setBit16 g.level b false }) [] }

/-- EVENT.SET_PARAMS: the AON timer and TICK_DIV's exponent at the boundary; they persist (R294). -/
def cmdEventSetParams : CmdDef :=
  { CmdDef.base 0x0905 .sealedBoundary .mgmt (· == 8) (fun _ s => okay s []) with
    pre := fun _ b => if 86400000 < fld b 0 4 ∨ 16 < u8 b 4 then some .range else none
    later := fun c s =>
      let p := fld c.cmd.args 0 4
      let k := u8 c.cmd.args 4
      okay ((s.modSettings fun t => { t with aonTimer := p, tickDiv := k }).modFabric fun g =>
        { g with aonTimer := p, tickDiv := k }) [] }

/-- EVENT.TRIGGER at its grant (R297): one event into each named channel that is enabled. -/
def triggerChannels (c : SealedCmd) (s : State) : Res :=
  let cs := chanMask (fld c.cmd.args 0 4)
  if !cs.all fun ch => s.mayUseSecure c.cmd.mailbox ch then refuse s .denied
  else okay (s.injectAll (cs.filter fun ch => (s.chan ch).cfg.enable && s.channelRuns ch)) []

/-- EVENT.TRIGGER. -/
def cmdEventTrigger : CmdDef := .base 0x0906 .immediate .rt (· == 4) triggerChannels

/-- EVF_CH_CFG (Table 11.5). -/
def Chan.flags (h : Chan) (c : Fin 32) : Nat :=
  b2n h.cfg.enable + 2 * b2n h.cfg.remember + 4 * b2n (c.val < 8) + 8 * b2n h.cfg.secure + 16 * h.cfg.owner.num +
  64 * b2n h.locked

/-- EVENT.QUERY's result (R298). -/
def Chan.query (h : Chan) (c : Fin 32) : Bytes :=
  be 1 c ++ be 1 (h.flags c) ++ be 1 h.cfg.owner.num ++ be 1 0 ++ be 8 h.cfg.producers.toNat ++
  be 8 h.cfg.consumers.toNat ++ be 4 h.events ++ be 4 h.merged ++ be 4 h.overruns ++ be 4 h.absent ++ be 8 h.ts

/-- EVENT.QUERY. -/
def cmdEventQuery : CmdDef :=
  { CmdDef.base 0x0907 .immediate .rt (· == 4) (fun c s =>
      match chanArg (u8 c.cmd.args 0) with
      | none => refuse s .range
      | some ch =>
        if s.mayUseSecure c.cmd.mailbox ch then okay s ((s.chan ch).query ch) else refuse s .denied) with
    pre := fun _ b => if 31 < u8 b 0 then some .range else none }

/-- A channel with its counters zero and its overrun flag clear. -/
def Chan.clear (h : Chan) : Chan := { h with events := 0, merged := 0, overruns := 0, absent := 0, overrunFlag := false }

/-- EVENT.CLEAR at its grant (R298). -/
def clearChannels (c : SealedCmd) (s : State) : Res :=
  let cs := chanMask (fld c.cmd.args 0 4)
  if !cs.all fun ch => s.mayUseSecure c.cmd.mailbox ch then refuse s .denied
  else okay (cs.foldl (fun t ch => t.modChan ch Chan.clear) s) []

/-- EVENT.CLEAR. -/
def cmdEventClear : CmdDef := .base 0x0908 .immediate .rt (· == 4) clearChannels

/-! ## The fabric's own steps -/

/-- The edge is one the ball selects (Table 11.4). -/
def EvioCfg.selects (e : EvioCfg) (rising : Bool) : Bool :=
  e.dir == 1 && (e.edge == 3 || e.edge == (if rising then 1 else 2))

/-- A filtered edge on an input ball (R299): its level shows, and the selected edge pulses its producer. -/
def execEvioInputEdge (ball : Fin 16) (rising : Bool) (_time : Nat) (s : State) : Out :=
  let e := s.fabric.evio[ball]
  let runs := e.dir = 1 ∧ s.power.mode ≠ .recovery ∧ !s.power.inReset ∧ (s.power.mode = .custody → ball.val < 8)
  let s1 := if runs then s.modFabric fun g => { g with level := setBit16 g.level ball rising } else s
  .next (if runs ∧ e.selects rising then s1.pulse (8 + ball) else s1)

/-- An event for a busy consumer is dropped (R289). -/
def Chan.drop (h : Chan) : Chan := { h with overruns := bump h.overruns, overrunFlag := true }

/-- An event reaches a consumer that is not busy, or waits or is dropped by the policy (R289, R290). Events with the pulse
time of the one in action reach the consumer in its cycle, and wait under every policy. `remember` is the policy at the pulse
(R293). -/
def State.deliver (s : State) (c : Fin 32) (k time : Nat) (remember : Bool) : State :=
  match s.fabric.busy.find? fun p => p.1 == k with
  | none => s.act c k time
  | some (_, c', t') =>
    if (s.chan c).pending.getLsbD k then s.modChan c Chan.drop
    else if remember || (t' == time && c' != c.val) then
      s.modChan c fun h => { h with pending := h.pending ||| (1#64 <<< k), tsWait := if k = 32 then time else h.tsWait }
    else s.modChan c Chan.drop

/-- An event of a channel arrives at a consumer (R287 to R291): merged, counted absent, or delivered. -/
def execEventDeliver (channel : Fin 32) (consumer : Fin 64) (merged : Bool) (time : Nat) (s : State) : Out :=
  .next (
    match s.fabric.flight.find? fun f => f.1 == channel.val && f.2.1 == consumer.val with
    | none => s
    | some f =>
      let s1 := s.modFabric fun g => { g with flight := g.flight.erase f }
      if !s.consumerPresent consumer then s1.modChan channel fun h => { h with absent := bump h.absent }
      else if merged then s1.modChan channel fun h => { h with merged := bump h.merged }
      else s1.deliver channel consumer time f.2.2)

/-- A consumer's action completes (R290). CODA_FREEZE completes with its freeze. -/
def execConsumerActionComplete (consumer : Fin 64) (s : State) : Out :=
  .next (
    if s.fabric.isBusy consumer && !(consumer.val == 2 && s.coda.state == .collecting) then s.finish consumer else s)

/-- The AON timer expires and restarts (R294). -/
def execAonTimerExpiry (s : State) : Out := .next (if 0 < s.fabric.aonTimer then s.pulse 4 else s)

/-! ## Meanings of the commands -/

/-- EVENT.CONFIGURE (R293). -/
def execEventConfigure (c : Cmd) (s : State) : Out := .next (cmdEventConfigure.run c s)
/-- EVENT.SET_OWNER (R295). -/
def execEventSetOwner (c : Cmd) (s : State) : Out := .next (cmdEventSetOwner.run c s)
/-- EVENT.LOCK (R296). -/
def execEventLock (c : Cmd) (s : State) : Out := .next (cmdEventLock.run c s)
/-- EVENT.EVIO_CONFIG (R299). -/
def execEventEvioConfig (c : Cmd) (s : State) : Out := .next (cmdEventEvioConfig.run c s)
/-- EVENT.SET_PARAMS (R294). -/
def execEventSetParams (c : Cmd) (s : State) : Out := .next (cmdEventSetParams.run c s)
/-- EVENT.TRIGGER (R297). -/
def execEventTrigger (c : Cmd) (s : State) : Out := .next (cmdEventTrigger.run c s)
/-- EVENT.QUERY (R298). -/
def execEventQuery (c : Cmd) (s : State) : Out := .next (cmdEventQuery.run c s)
/-- EVENT.CLEAR (R298). -/
def execEventClear (c : Cmd) (s : State) : Out := .next (cmdEventClear.run c s)

end Sys2Proof.Machine
end

