-- ==== Sys2Proof/Machine/CodaCmds.lean ====
section
/-! DEFINITION. The CODA commands (Table 14.5, R356, R361, R365, R398) and Coda's own steps (R355 to R360). -/

namespace Sys2Proof.Machine

open Sys2Proof

/-! ## CODA.READ and CODA.LIST -/

/-- An entry as a mailbox that is not SEC sees it: a secure one with CODE, SOURCE, TIME and PAYLOAD zero (R365). -/
def CodaEntry.shown (e : CodaEntry) (sec : Bool) : CodaEntry :=
  if e.secure && !sec then { e with code := 0, source := 0, time := 0, payload := [] } else e

/-- CODA.READ's result header. -/
def codaHeader (source kind entries firstSeq dropped index count : Nat) : Bytes :=
  be 1 source ++ be 1 kind ++ be 2 entries ++ be 4 firstSeq ++ be 4 dropped ++ be 2 index ++ be 1 count ++ be 1 0

/-- The vault slot that SOURCE 1 to 17 names. -/
def Coda.slot (c : Coda) (source : Nat) : Option VaultRecord := (c.vault.toList.getD (source - 1) none)

/-- What a source holds: KIND, entries oldest first, FIRST_SEQ, DROPPED. -/
def State.codaSource (s : State) (source : Nat) : Option (Nat × List CodaEntry × Nat × Nat) :=
  if source = 0 then
    some (0, s.coda.ring.reverse, (s.coda.ring.getLast?.map (·.seq)).getD 0, s.coda.dropped)
  else (s.coda.slot source).map fun r => (r.kind, r.entries, r.firstSeq, r.dropped)

/-- CODA.READ (R365). -/
def codaReadAct (c : SealedCmd) (s : State) : Res :=
  let b := c.cmd.args
  let source := u8 b 0
  let index := fld b 2 2
  if 0 < source ∧ s.power.mode = .recovery then refuse s .mode
  else match s.codaSource source with
  | none => refuse s .notFound
  | some (kind, entries, firstSeq, dropped) =>
    if index = 0xFFFF ∧ 0 < source then
      okay s (codaHeader source kind entries.length firstSeq dropped index 0 ++
        ((s.coda.slot source).map fun r => r.header source).getD [])
    else if entries.length ≤ index then refuse s .range
    else
      let es := (entries.drop index).take (u8 b 4)
      okay s (codaHeader source kind entries.length firstSeq dropped index es.length ++
        es.flatMap fun e => (e.shown (s.ownerOf c.cmd.mailbox == .sec)).bytes)

/-- CODA.READ. -/
def cmdCodaRead : CmdDef :=
  { CmdDef.base 0x0B01 .immediate .rt (· == 8) codaReadAct with
    inRecovery := true
    pre := fun _ b => if 17 < u8 b 0 ∨ u8 b 4 = 0 ∨ 7 < u8 b 4 then some .range else none }

/-- A CODA.LIST summary; of an empty slot, its number and zeros. -/
def vaultSummary (slot : Nat) (r : Option VaultRecord) : Bytes :=
  match r with
  | none => be 1 slot ++ zeros 23
  | some r => be 1 slot ++ be 1 r.kind ++ be 1 r.flags ++ be 1 0 ++ be 2 r.entries.length ++ be 2 r.triggerCode ++
      be 4 r.triggerSeq ++ be 6 r.triggerMeasure ++ be 2 0 ++ be 4 r.starts

/-- CODA.LIST. -/
def cmdCodaList : CmdDef := .base 0x0B02 .immediate .rt (· == 0) fun _ s =>
  okay s ((List.finRange 17).flatMap fun i => vaultSummary (i.val + 1) s.coda.vault[i])

/-! ## CODA.FREEZE, CODA.SET_TRIGGERS, CODA.KEEP -/

/-- CODA.FREEZE at its grant: FREEZE_BEGIN is written, after the copy that ends a hold (R357, R398). -/
def codaFreezeAct (c : SealedCmd) (s : State) : Res :=
  let s1 := s.copyRecord.trigger 3 0 0 (fld c.cmd.args 0 4)
  let s2 := if s1.coda.state = .collecting ∧ 256 ≤ s1.coda.post then s1.completeFreeze 1 else s1
  okay s2 (be 4 s1.coda.headSeq)

/-- CODA.FREEZE. -/
def cmdCodaFreeze : CmdDef := .base 0x0B03 .immediate .mgmt (· == 4) codaFreezeAct

/-- CODA.SET_TRIGGERS at its sealed place: bits 0, 1 and 3 stay set, reserved bits read 0 (R356, R4). -/
def setTriggersAct (c : SealedCmd) (s : State) : Res :=
  let m := (BitVec.ofNat 32 (fld c.cmd.args 0 4) &&& 0x3FF) ||| 0xB
  okay ((s.modSettings fun t => { t with codaMask := m }).modCoda fun k => { k with mask := m }) (be 4 m.toNat)

/-- CODA.SET_TRIGGERS. -/
def cmdCodaSetTriggers : CmdDef := .base 0x0B04 .sealedNow .mgmt (· == 4) setTriggersAct

/-- Record slots with KEPT. -/
def Coda.keptCount (c : Coda) : Nat := ((c.vault.toList.take 16).filter fun r => (r.map (·.kept)).getD false).length

/-- CODA.KEEP at its sealed place (R361): BUSY beyond 12, NOT_FOUND for an empty slot (log entry 16). -/
def codaKeepAct (c : SealedCmd) (s : State) : Res :=
  let keep := u8 c.cmd.args 1 == 1
  match s.coda.slot (u8 c.cmd.args 0) with
  | none => refuse s .notFound
  | some r =>
    if keep && !r.kept && decide (12 ≤ s.coda.keptCount) then refuse s .busy
    else okay (s.modCoda fun k =>
      { k with vault := Vector.ofFn fun i : Fin 17 =>
          if i.val + 1 = u8 c.cmd.args 0 then some { r with kept := keep } else k.vault[i] }) []

/-- CODA.KEEP. -/
def cmdCodaKeep : CmdDef :=
  { CmdDef.base 0x0B05 .sealedNow .mgmt (· == 4) codaKeepAct with
    pre := fun _ b => if u8 b 0 = 0 ∨ 16 < u8 b 0 ∨ 1 < u8 b 1 then some .range else none }

/-! ## Meanings -/

/-- CODA.READ (R365). -/
def execCodaRead (c : Cmd) (s : State) : Out := .next (cmdCodaRead.run c s)
/-- CODA.LIST (R365). -/
def execCodaList (c : Cmd) (s : State) : Out := .next (cmdCodaList.run c s)
/-- CODA.FREEZE (R356, R398). -/
def execCodaFreeze (c : Cmd) (s : State) : Out := .next (cmdCodaFreeze.run c s)
/-- CODA.SET_TRIGGERS (R356). -/
def execCodaSetTriggers (c : Cmd) (s : State) : Out := .next (cmdCodaSetTriggers.run c s)
/-- CODA.KEEP (R361). -/
def execCodaKeep (c : Cmd) (s : State) : Out := .next (cmdCodaKeep.run c s)

/-- The next report waits: there is none, or the ring is held and a copy can be made. -/
def State.codaWaits (s : State) : Bool := s.coda.queue.isEmpty || (s.coda.state == .held && s.canCopy)

/-- How many reports besides the first of the queue reach the ring in this AON cycle: a free value (log entry 143). -/
def State.sameCycle (s : State) : Nat := Config.freeValue s.fresh % 2 ^ 12

/-- A report from the CODA queue goes to the ring; of those that reach it in one AON cycle the lowest SOURCE goes first (R355). -/
def execCodaEntryWrite (s : State) : Out :=
  if s.codaWaits then .next s else .next (State.codaStep s.sameCycle { s with fresh := s.fresh + 1 })

/-- 100 ms after the trigger the freeze completes (R357). -/
def execFreezeTimeout (s : State) : Out := .next (s.completeFreeze 2)

/-- Cantor's copy of the held record ends the hold (R358). -/
def execCodaRecordCopy (s : State) : Out := .next s.copyRecord

/-- A copied record is durable in the vault (R360): in Service, and in Start-up once the flash layer runs. -/
def execVaultFlush (s : State) : Out :=
  .next (match s.power.mode with
    | .service => s.flushVault
    | .startup => if s.power.loaded then s.flushVault else s
    | .quiesceStop => s
    | .quiesceCustody => s.flushVault
    | .custody => s
    | .recovery => s)

end Sys2Proof.Machine
end

