-- ==== Sys2Proof/Machine/Media.lean ====
section
/-! DEFINITION. Superblocks and their contents, media warnings (R214, Table 8.11), and the MEDIA commands (Table 15.11; R193,
R194, R200, R213, R214, R394). -/

namespace Sys2Proof.Machine

open Sys2Proof

/-! ## Superblocks (R187, R199, R205) -/

/-- LUNs of a group that are writable (R187). -/
def State.writable (s : State) (group : Nat) : List Nat :=
  (s.flash.luns.filter fun l => s.groupOf l.id == group && s.sound l.id).map (·.id)

/-- Writable LUNs of a superblock's group that it has blocks on. -/
def State.openLuns (s : State) (b : Superblock) : List Nat :=
  (s.writable b.group).filter fun l => b.blocks.any fun k => k.lun == l && k.state != .retired

/-- The superblock is free: every block of it on a writable LUN is FREE (R187, R205). -/
def State.isFree (s : State) (b : Superblock) : Bool :=
  let l := s.openLuns b
  !l.isEmpty && b.blocks.all fun k => !l.contains k.lun || k.state == .free || k.state == .retired

/-- Read levels of an area (R199). -/
def Board.levels (b : Board) (native : Bool) : Nat := if native then 2 ^ b.cellBits - 1 else 1

/-- The window of an area and level (R200). -/
def Settings.window (t : Settings) (native : Bool) (level : Nat) : Int × Int :=
  match t.readPolicy.find? fun p => p.1 == b2n native && p.2.1 == level with
  | some (_, _, lo, hi) => (lo, hi)
  | none => (-32, 31)

/-- A reference clamped to a window. -/
def clampTo (w : Int × Int) (v : Int) : Int := max w.1 (min w.2 v)

/-- Change every reference of a superblock, level by level. -/
def Superblock.modRefs (b : Superblock) (f : Nat → Int → Int) : Superblock :=
  { b with refs := (b.refs.zipIdx).map fun p => f (p.2 + 1) p.1 }

/-! ## Warnings (R214, Table 8.11) -/

/-- Spare of a LUN in per mille of its format spares; a LUN not yet formatted lacks none. -/
def Lun.spareMille (l : Lun) : Nat := if l.spareFormat = 0 then 1000 else l.spares.length * 1000 / l.spareFormat

/-- SPARE_MIN. -/
def Flash.spareMin (f : Flash) : Nat := (f.luns.map Lun.spareMille).foldl min 1000

/-- Superblocks of an area. -/
def Flash.area (f : Flash) (native : Bool) : List Superblock := f.sbs.filter fun b => b.native == native

/-- Blocks of an area. -/
def Flash.areaBlocks (f : Flash) (native : Bool) : List NandBlock := (f.area native).flatMap (·.blocks)

/-- SLC_FREE: free SLC superblocks in per mille. -/
def State.slcFree (s : State) : Nat :=
  let all := s.flash.area false
  if all.isEmpty then 0 else (all.filter s.isFree).length * 1000 / all.length

/-- Sum of erase counts. -/
def erasesSum (l : List NandBlock) : Nat := (l.map (·.erases)).sum
/-- Highest erase count. -/
def erasesMax (l : List NandBlock) : Nat := (l.map (·.erases)).foldl max 0
/-- Mean erase count, in whole cycles. -/
def erasesMean (l : List NandBlock) : Nat := if l.isEmpty then 0 else erasesSum l / l.length

/-- Lost LUNs of a group. -/
def State.lostIn (s : State) (group : Nat) : Nat := (s.lostLuns.filter fun l => s.groupOf l == group).length

/-- A mean erase count has reached WEAR_HIGH of its rating. -/
def State.wearHighNow (s : State) : Bool :=
  match s.store.format with
  | none => false
  | some f =>
    let n := s.flash.areaBlocks true
    let c := s.flash.areaBlocks false
    (!n.isEmpty && decide (s.store.settings.wearHigh * f.endNative * n.length ≤ 100 * erasesSum n)) ||
    (!c.isEmpty && decide (s.store.settings.wearHigh * f.endSlc * c.length ≤ 100 * erasesSum c))

/-- A block's erase count has reached its rating. -/
def State.wearLimitNow (s : State) : Bool :=
  match s.store.format with
  | none => false
  | some f => s.flash.sbs.any fun b => decide ((if b.native then f.endNative else f.endSlc) ≤ b.erases)

/-- The condition of a warning that lasts (bits 0 to 6 and 10). -/
def State.warnNow (s : State) (w : Nat) : Bool :=
  match w with
  | 0 => decide (s.flash.spareMin < s.store.settings.spareLow)
  | 1 => decide (s.flash.spareMin < 100)
  | 2 => s.wearHighNow
  | 3 => s.wearLimitNow
  | 4 => s.store.format.isSome && decide (s.slcFree < 100)
  | 5 => (List.range s.groups).any fun g => decide (1 ≤ s.lostIn g)
  | 6 => (List.range s.groups).any fun g => decide (2 ≤ s.lostIn g)
  | 10 => match s.flash.temp with
    | some t => decide (s.store.settings.tempHigh ≤ t)
    | none => false
  | _ => false

/-- A warning becomes active: latched, its Coda entry (which freezes for DATA_LOSS and GROUP_LOST), and the pulse. The unit of
a warning that names none is open (log entry 7). -/
def State.raiseWarn (s : State) (w : Nat) (unit : Option Nat) : State :=
  if s.flash.active.getLsbD w then s else
  let mask := BitVec.ofNat 32 (2 ^ w)
  let s1 := s.modFlash fun f => { f with active := f.active ||| mask, latched := f.latched ||| mask }
  let (u, s2) := match unit with
    | some u => (u, s1)
    | none => s1.draw 16
  (s2.report 0x0601 6 (be 1 w ++ be 1 0 ++ be 2 u) (if w = 7 ∨ w = 6 then some 5 else none)).pulse 38

/-- Bring one lasting warning up to date. -/
def State.checkWarn (s : State) (w : Nat) : State :=
  if s.warnNow w then s.raiseWarn w none
  else s.modFlash fun f => { f with active := f.active &&& ~~~(BitVec.ofNat 32 (2 ^ w)) }

/-- Bring every lasting warning up to date. -/
def State.checkWarns (s : State) : State := [0, 1, 2, 3, 4, 5, 6, 10].foldl State.checkWarn s

/-! ## FORMAT (R193, R194) -/

/-- Spare reserve of a LUN: 2% of its blocks (R193, R209; log entry 84). -/
def Board.spareReserve (b : Board) : Nat := b.blocks * 2 / 100

/-- Good blocks of a LUN: those without a factory mark that are not on its grown-bad list (R193, R194). -/
def State.goodBlocks (s : State) (l : Lun) : List Nat :=
  let bad := (getKey l.id s.board.factoryBad).getD []
  (List.range s.board.blocks).filter fun i => !bad.contains i && !l.retired.contains i

/-- g of R193, in pages of 16 KiB. -/
def State.goodPages (s : State) : Nat :=
  (s.flash.luns.map fun l => ((s.goodBlocks l).length - s.board.spareReserve) * s.board.pages).sum

/-- c_max: floor(0.9 x 15/16 x (g - a)); a GiB has 65,536 pages. -/
def State.cMax (s : State) (slcGib : Nat) : Nat := (s.goodPages - s.board.cellBits * (slcGib + 4) * 65536) * 27 / (32 * 65536)

/-- K of R161. -/
def Board.keyCapacity (b : Board) : Nat := (b.lpddrGib * 7 * 2 ^ 27 - 840 * 2 ^ 20) / 72

/-- Blocks of each plane of each LUN that `gib` GiB in SLC mode take, spread over every LUN. -/
def State.slcBlocks (s : State) (gib : Nat) : Nat :=
  let per := s.board.pages * s.board.planes * s.flash.luns.length
  (gib * 65536 * s.board.cellBits + per - 1) / max 1 per

/-- Erase count of a block of a LUN, kept over formats (R194). -/
def State.erasesOf (s : State) (l : Lun) (id : Nat) : Nat :=
  match s.flash.sbs.findSome? fun b => b.blocks.find? fun k => k.lun == l.id && k.id == id with
  | some k => k.erases
  | none => (getKey id l.spares).getD 0

/-- Good blocks of one plane of a LUN outside the system area, ascending (Table 8.4; log entry 85). -/
def State.planeBlocks (s : State) (l : Lun) (plane : Nat) : List Nat :=
  ((s.goodBlocks l).filter fun i => i % s.board.planes == plane).drop (s.slcBlocks 4)

/-- Spare blocks of a plane: its part of the reserve. -/
def Board.planeSpares (b : Board) (plane : Nat) : Nat :=
  b.spareReserve / b.planes + b2n (decide (plane < b.spareReserve % b.planes))

/-- Blocks of a plane of a LUN that its superblocks take, in order of superblock. -/
def State.dataBlocks (s : State) (l : Lun) (plane : Nat) : List Nat := (s.planeBlocks l plane).drop (s.board.planeSpares plane)

/-- Superblocks that a LUN has a block of every plane for. -/
def State.sbsOn (s : State) (l : Lun) : Nat :=
  ((List.range s.board.planes).map fun p => (s.dataBlocks l p).length).foldl min (s.board.blocks)

/-- A block that waits for its first erase. -/
def State.newBlock (s : State) (l : Lun) (id : Nat) : NandBlock where
  lun := l.id
  id := id
  state := .erasePending
  pending := false
  erased := false
  indeterminate := false
  erases := s.erasesOf l id
  reads := 0
  openedAt := 0
  scrubbedAt := 0
  rebuilt := 0

/-- Blocks of superblock `i` of a group: one of each plane of each LUN that still has one (R186). -/
def State.sbBlocks (s : State) (group i : Nat) : List NandBlock :=
  (s.flash.luns.filter fun l => s.groupOf l.id == group && decide (i < s.sbsOn l)).flatMap fun l =>
    (List.range s.board.planes).filterMap fun p => ((s.dataBlocks l p)[i]?).map (s.newBlock l)

/-- A superblock that a format makes. -/
def State.newSb (s : State) (slc group i : Nat) : Superblock where
  group := group
  num := i
  native := decide (slc ≤ i)
  stream := .slcHost
  blocks := s.sbBlocks group i
  luns := []
  words := []
  used := 0
  closedAt := 0
  refs := List.replicate (s.board.levels (decide (slc ≤ i))) 0
  hard := false
  draining := false

/-- References start inside their windows (R199). -/
def State.clampRefs (s : State) (b : Superblock) : Superblock :=
  b.modRefs fun level v => clampTo (s.store.settings.window b.native level) v

/-- The superblocks of a format: of each group, the SLC write area's and the native ones (Table 8.4). -/
def State.layout (s : State) (slcGib : Nat) : List Superblock :=
  let slc := s.slcBlocks slcGib
  (List.range s.groups).flatMap fun g =>
    let n := ((s.flash.luns.filter fun l => s.groupOf l.id == g).map s.sbsOn).foldl max 0
    (List.range n).map fun i => s.clampRefs (s.newSb slc g i)

/-- Journal entries that mark every block of some superblocks ERASE_PENDING. -/
def pendingEntries (l : List Superblock) : List JournalEntry :=
  l.flatMap fun b => ((b.blocks.map (·.lun)).eraseDups).map fun n => { group := b.group, num := b.num, lun := n, done := false }

/-- A superblock whose blocks all wait for an erase. -/
def Superblock.marked (b : Superblock) : Superblock :=
  { b with blocks := b.blocks.map fun k => if k.state = .retired then k else { k with state := .erasePending, erased := false } }

/-- FORMAT at its place makes every block outside the system area ERASE_PENDING; the entries go with the bank of its measure (R194,
R205). The first format of a drive makes the superblocks. -/
def State.formatMark (s : State) (slcGib : Nat) : State :=
  let sbs := (if s.flash.sbs.isEmpty then s.layout slcGib else s.flash.sbs).map Superblock.marked
  s.modFlash fun f => { f with sbs, blocksRetired := 0, collecting := [], moves := [], journal := pendingEntries sbs }

/-- The spare reserve of a LUN as a format sets it, with the erase counts kept (R194, R209). -/
def State.setSpares (s : State) (l : Lun) : Lun :=
  let ids := (List.range s.board.planes).flatMap fun p => (s.planeBlocks l p).take (s.board.planeSpares p)
  { l with spares := ids.map fun i => (i, s.erasesOf l i), spareFormat := ids.length }

/-- An operation whose superblock is no more: it ends without effect. -/
def Lun.forget (l : Lun) : Lun :=
  { l with op := l.op.map (fun o => { o with kind := .feature }), held := none, next := none, fg := [], bg := [] }

/-- The bank of a FORMAT is durable: blocks are laid out anew, all of them ERASE_PENDING in the durable journal (R193, R205). -/
def State.formatFlash (s : State) (slcGib : Nat) : State :=
  let sbs := (s.layout slcGib).map fun b => { b with blocks := b.blocks.map fun k => { k with pending := true } }
  s.modFlash fun f =>
    { f with
      sbs, waiting := [], moves := [], luns := f.luns.map fun l => (s.setSpares l).forget
      journal := f.journal.filter fun e => sbs.any fun b => b.group == e.group && b.num == e.num && !e.done }

/-- The RANGE checks of Table 8.5 and R193 that the arguments decide. -/
def mediaFormatPre (b : Bytes) : Bool :=
  decide (fld b 4 2 < 16) || decide (256 < fld b 4 2) || decide (fld b 0 4 < 64) || fld b 8 4 == 0 || fld b 12 4 == 0

/-- MEDIA.FORMAT at its sealed place. -/
def mediaFormat (c : SealedCmd) (s : State) : Res :=
  let b := c.cmd.args
  let cap := fld b 0 4
  let slc := fld b 4 2
  let cMax := s.cMax slc
  if !s.board.nandOk then refuse s .unitOffline
  else if mediaFormatPre b ∨ cMax < cap then refuse s .range
  else if s.store.chorus.isSome then refuse s .busy
  else if s.store.nss.any fun n => n.unexpired c.adm then refuse s .sealed
  else
    let k := s.board.keyCapacity
    let s1 := s.store.nss.foldl (fun t n => t.removeNs n.id c.adm) s
    let s2 := s1.modStore fun t =>
      { t with
        format := some { cl := cap, k, slcGib := slc, endNative := fld b 8 4, endSlc := fld b 12 4 }
        formats := t.formats + 1 }
    let luns := ((List.range s.groups).map fun g => (s.writable g).length).sum
    okay (s2.formatMark slc) (be 4 cap ++ be 2 luns ++ be 2 0 ++ be 4 cMax ++ be 4 k)

/-- MEDIA.FORMAT: how many measures the removal takes is open (R194; log entry 20). -/
def cmdMediaFormat : CmdDef :=
  { CmdDef.base 0x0701 .sliced .sec (· == 16) mediaFormat with
    slices := fun _ s => 1 + Config.sealedValue s.store.draws
    pre := fun b args => if !b.nandOk then some .unitOffline else if mediaFormatPre args then some .range else none
    holds := fun _ => everyNs
    touches := fun _ _ => everyNs }

/-! ## SET_READ_POLICY (R200, R394) -/

/-- The leading RANGE checks of R394 and R200 that the arguments decide. -/
def readPolicyPre (b : Bytes) : Option Status :=
  let lo := signed 8 (u8 b 2)
  let hi := signed 8 (u8 b 3)
  if 1 < u8 b 0 ∨ u8 b 1 = 0 ∨ 15 < u8 b 1 ∨ (u8 b 0 = 0 ∧ u8 b 1 ≠ 1) ∨ hi < lo ∨ lo < -64 ∨ 63 < hi then some .range
  else none

/-- The reference of one area and level clamped to a window. -/
def Superblock.clampLevel (native : Bool) (level : Nat) (w : Int × Int) (b : Superblock) : Superblock :=
  if b.native = native then b.modRefs (fun l v => if l = level then clampTo w v else v) else b

/-- MEDIA.SET_READ_POLICY at its sealed place: every reference of the area and level is clamped into the new window. -/
def setReadPolicy (c : SealedCmd) (s : State) : Res :=
  let b := c.cmd.args
  let native := u8 b 0 == 1
  let level := u8 b 1
  let w := (signed 8 (u8 b 2), signed 8 (u8 b 3))
  if s.board.levels native < level then refuse s .range
  else
    let old := s.store.settings.window native level
    let s1 := s.modSettings fun t =>
      { t with readPolicy := (t.readPolicy.filter fun p => !(p.1 == b2n native && p.2.1 == level)) ++
        [(b2n native, level, w.1, w.2)] }
    let s2 := s1.modFlash fun f => { f with sbs := f.sbs.map (Superblock.clampLevel native level w) }
    okay s2 (be 1 (unsigned 8 old.1) ++ be 1 (unsigned 8 old.2) ++ be 2 0)

/-- MEDIA.SET_READ_POLICY. -/
def cmdMediaSetReadPolicy : CmdDef :=
  { CmdDef.base 0x0702 .sealedNow .mgmt (· == 4) setReadPolicy with pre := fun _ => readPolicyPre }

/-! ## SET_WARN, ACK_WARNINGS (R214) -/

/-- MEDIA.SET_WARN's bounds. -/
def setWarnPre (b : Bytes) : Option Status :=
  if fld b 0 2 < 100 ∨ 500 < fld b 0 2 ∨ u8 b 2 < 50 ∨ 95 < u8 b 2 ∨ signed 8 (u8 b 3) < 60 ∨ 95 < signed 8 (u8 b 3) then
    some .range
  else none

/-- MEDIA.SET_WARN. -/
def cmdMediaSetWarn : CmdDef :=
  { CmdDef.base 0x0703 .sealedNow .mgmt (· == 4) (fun c s =>
      let b := c.cmd.args
      okay (s.modSettings fun t =>
        { t with spareLow := fld b 0 2, wearHigh := u8 b 2, tempHigh := signed 8 (u8 b 3) }).checkWarns []) with
    pre := fun _ => setWarnPre }

/-- MEDIA.ACK_WARNINGS: the latched bits of the mask are cleared. -/
def cmdMediaAckWarnings : CmdDef := .base 0x0704 .sealedNow .mgmt (· == 4) fun c s =>
  okay (s.modFlash fun f => { f with latched := f.latched &&& ~~~(BitVec.ofNat 32 (fld c.cmd.args 0 4)) }) []

/-! ## HEALTH, LUN_HEALTH (R213) -/

/-- A temperature as reported: 0x80 without a sensor. -/
def tempByte (t : Option Int) : Nat := match t with
  | some v => unsigned 8 v
  | none => 0x80

/-- LUNs whose reach state a test picks out. -/
def State.lunsReaching (s : State) (p : UnitState → Bool) : Nat := (s.flash.luns.filter fun l => p (s.reach l.id)).length

/-- WARN_ACTIVE: the lasting conditions as they hold now, and the single happenings of the current measure. -/
def State.warnActive (s : State) : BitVec 32 :=
  (s.flash.active &&& 0xB80#32) |||
  BitVec.ofNat 32 (([0, 1, 2, 3, 4, 5, 6, 10].filter s.warnNow).map fun w => 2 ^ w).sum

/-- MEDIA.HEALTH's result (Table 8.10). -/
def State.mediaHealth (s : State) : Bytes :=
  let f := s.flash
  let n := f.areaBlocks true
  let c := f.areaBlocks false
  let fm := s.store.format
  be 2 1 ++ be 2 s.board.profile ++ be 4 s.warnActive.toNat ++ be 4 f.latched.toNat ++ be 2 f.luns.length ++
  be 1 (s.lunsReaching (· == .degraded)) ++ be 1 (s.lunsReaching fun v => v == .fenced || v == .offline) ++
  be 2 f.spareMin ++ be 2 s.slcFree ++ be 4 ((fm.map (·.cl)).getD 0) ++
  be 4 (erasesMean n) ++ be 4 (erasesMax n) ++ be 4 (erasesMean c) ++ be 4 (erasesMax c) ++
  be 4 ((fm.map (·.endNative)).getD 0) ++ be 4 ((fm.map (·.endSlc)).getD 0) ++
  be 8 f.hostBytes ++ be 8 f.nandBytes ++ be 8 f.stage2 ++ be 8 f.stage3 ++ be 8 f.stage4 ++ be 8 f.unreadable ++
  be 4 f.programFails ++ be 4 f.eraseFails ++ be 4 f.blocksRetired ++ be 4 f.indeterminate ++ be 4 f.overridden ++
  be 4 f.timeouts ++ be 1 (tempByte f.temp) ++ be 1 (tempByte f.tempMax) ++ be 6 f.tempMeasure ++
  f.hist.toList.flatMap (be 8)

/-- MEDIA.HEALTH. -/
def cmdMediaHealth : CmdDef := .base 0x0705 .immediate .rt (· == 0) fun _ s => okay s s.mediaHealth

/-- MEDIA.LUN_HEALTH's result. -/
def State.lunHealth (s : State) (l : Lun) : Bytes :=
  let mine := (s.flash.sbs.flatMap (·.blocks)).filter fun k => k.lun == l.id
  be 2 l.id ++ be 1 (s.reach l.id).num ++ be 1 0 ++ be 2 l.spareMille ++ be 2 0 ++ be 4 (erasesMean mine) ++
  be 4 (erasesMax mine) ++ be 4 l.stage2 ++ be 4 l.stage3 ++ be 4 l.stage4 ++ be 4 0

/-- MEDIA.LUN_HEALTH. -/
def cmdMediaLunHealth : CmdDef := .base 0x0706 .immediate .rt (· == 2) fun c s =>
  match s.flash.luns.find? fun l => l.id == fld c.cmd.args 0 2 with
  | none => refuse s .range
  | some l => okay s (s.lunHealth l)

/-! ## Meanings -/

/-- MEDIA.FORMAT (R194). -/
def execMediaFormat (c : Cmd) (s : State) : Out := .next (cmdMediaFormat.run c s)
/-- MEDIA.SET_READ_POLICY (R200). -/
def execMediaSetReadPolicy (c : Cmd) (s : State) : Out := .next (cmdMediaSetReadPolicy.run c s)
/-- MEDIA.SET_WARN (R214). -/
def execMediaSetWarn (c : Cmd) (s : State) : Out := .next (cmdMediaSetWarn.run c s)
/-- MEDIA.ACK_WARNINGS (R214). -/
def execMediaAckWarnings (c : Cmd) (s : State) : Out := .next (cmdMediaAckWarnings.run c s)
/-- MEDIA.HEALTH (R213). -/
def execMediaHealth (c : Cmd) (s : State) : Out := .next (cmdMediaHealth.run c s)
/-- MEDIA.LUN_HEALTH (R213). -/
def execMediaLunHealth (c : Cmd) (s : State) : Out := .next (cmdMediaLunHealth.run c s)

end Sys2Proof.Machine
end

