-- ==== Sys2Proof/Machine/Flash.lean ====
section
/-! DEFINITION. Placement of codewords in stripes (R186, R187, R190), retirement and LUN conditions (R209, Table 8.8), reads
(R189, R199, R201), LUN slots, suspends and channel buses (R52, R202 to R204), the end of NAND operations (R185, R190), erases
(R205, R206), and relocation (R191, R195 to R198, R212). -/

namespace Sys2Proof.Machine

open Sys2Proof

/-- The flash layer runs operations: in Service and in both forms of Quiesce (Table 8.12). -/
def State.flashRuns (s : State) : Bool :=
  !s.power.inReset && match s.power.mode with
  | .service | .quiesceStop | .quiesceCustody => true
  | .startup | .custody | .recovery => false

/-- Background work may be issued: in Service once a measure is open, and not while PWR_FAIL_n is asserted (Table 8.12). -/
def State.bgMay (s : State) : Bool := s.inService && s.tb.opened && !s.power.pwrFail

/-! ## Opening and closing superblocks (R187, R197, R205) -/

/-- The blocks of a superblock that are OPEN are CLOSED in measure `m`. -/
def Superblock.close (m : Nat) (b : Superblock) : Superblock :=
  { b with blocks := b.blocks.map fun k => if k.state = .opened then { k with state := .closed } else k, closedAt := m }

/-- A free superblock is opened for a stream over some LUNs in measure `m` (R187). -/
def Superblock.open (stream : Stream) (luns : List Nat) (m : Nat) (b : Superblock) : Superblock :=
  { b with
    stream, luns, words := [], used := 0, hard := false, draining := false
    blocks := b.blocks.map fun k =>
      if luns.contains k.lun && k.state == .free then
        { k with state := .opened, reads := 0, rebuilt := 0, openedAt := m, scrubbedAt := m }
      else k }

/-- The better of two free superblocks for a stream: least worn, or most worn for a wear move; ties to the lower number (R197). -/
def betterFree (stream : Stream) (a b : Superblock) : Superblock :=
  if stream = .wearMove then (if a.erases < b.erases then b else a) else if b.erases < a.erases then b else a

/-- Open a superblock of a group's area for a stream: over every writable LUN that it has blocks on, of which there must be 8
(R187, R197). -/
def State.openSb (s : State) (group : Nat) (native : Bool) (stream : Stream) : Option (State × Superblock) :=
  match s.flash.sbs.filter fun b => b.group == group && b.native == native && s.isFree b && decide (8 ≤ (s.openLuns b).length) with
  | [] => none
  | b :: rest =>
    let pick := rest.foldl (betterFree stream) b
    let o := pick.open stream (s.openLuns pick) s.tb.measure
    some (s.modSb group pick.num fun _ => o, o)

/-- The open superblock of a stream in a group. -/
def State.openOf (s : State) (group : Nat) (native : Bool) (stream : Stream) : Option Superblock :=
  s.flash.sbs.find? fun b => b.group == group && b.native == native && b.stream == stream && b.any .opened

/-- The open superblock of a stream with room for a codeword. One that is full, or that has a LUN which is no longer writable, is
closed and another opened (R187). -/
def State.roomSb (s : State) (group : Nat) (native : Bool) (stream : Stream) : Option (State × Superblock) :=
  match s.openOf group native stream with
  | none => s.openSb group native stream
  | some b =>
    if decide (b.used < b.total s.board) && b.luns.all s.sound then some (s, b)
    else (s.modSb group b.num (Superblock.close s.tb.measure)).openSb group native stream

/-! ## Placement in stripes (R186, R187, R190, R427) -/

/-- A page: group, superblock, stripe, LUN. -/
abbrev Page := Nat × Nat × Nat × Nat

/-- Where the data codeword place `pos` of a superblock lies: its stripe, and its LUN. Which of the stripe's data LUNs takes a page
is the drive's choice (R427; log entry 9). -/
def Superblock.place (b : Superblock) (bd : Board) (pos : Nat) : Nat × Nat :=
  let stripe := pos / max 1 (b.stripeWords bd)
  let data := b.luns.eraseIdx (stripe % b.luns.length)
  let j := pos % max 1 (b.stripeWords bd) / max 1 bd.pageWords
  (stripe, (data[(j + Config.pageOrder b.group b.num stripe) % data.length]?).getD 0)

/-- Place one codeword in a group: the state, its page, and the parity page of its stripe. None without a free superblock. -/
def State.placeIn (s : State) (group : Nat) (native : Bool) (stream : Stream) (w : Codeword) : Option (State × List Page) :=
  (s.roomSb group native stream).map fun (t, b) =>
    let p := b.place s.board b.used
    let w1 := { w with stripe := p.1, lun := p.2, programmed := false }
    (t.modSb group b.num fun x => { x with words := x.words ++ [w1], used := x.used + 1 },
      (group, b.num, p.1, p.2) :: (b.parityLun p.1).toList.map fun l => (group, b.num, p.1, l))

/-- Place one codeword in the first of some groups that has room (R192, R212). -/
def State.placeAny (s : State) (native : Bool) (stream : Stream) (w : Codeword) : List Nat → Option (State × List Page)
  | [] => none
  | g :: rest => match s.placeIn g native stream w with
    | some r => some r
    | none => s.placeAny native stream w rest

/-- Every group, from one on. -/
def State.groupsFrom (s : State) (g : Nat) : List Nat := (List.range s.groups).map fun i => (g + i) % s.groups

/-- Place codewords one after another; `first` gives the group each is tried in first. All pages that took part are returned. -/
def State.placeAll (s : State) (native : Bool) (stream : Stream) (first : Codeword → Nat) :
    List Codeword → Option (State × List Page)
  | [] => some (s, [])
  | w :: rest => (s.placeAny native stream w (s.groupsFrom (first w))).bind fun (t, p) =>
    (t.placeAll native stream first rest).map fun (u, q) => (u, p ++ q)

/-- The stripes that took part are filled no further: what comes next starts a new one (R187). -/
def State.endStripes (s : State) (pages : List Page) : State :=
  pages.foldl (fun t p => t.modSb p.1 p.2.1 fun b =>
    { b with used := max b.used ((p.2.2.1 + 1) * b.stripeWords s.board) }) s

/-- Programs of pages, each on its LUN (R52). -/
def State.programPages (s : State) (kind : NandKind) (bank : Option Nat) (pages : List Page) : State :=
  pages.eraseDups.foldl (fun t p => t.submit p.2.2.2 { NandOp.make kind p.1 p.2.1 p.2.2.1 with bank }) (s.endStripes pages)

/-- Place codewords and queue the programs of their pages, parity pages included. None when there is no room for all of them. -/
def State.write (s : State) (native : Bool) (stream : Stream) (kind : NandKind) (bank : Option Nat) (first : Codeword → Nat)
    (l : List Codeword) : Option State :=
  (s.placeAll native stream first l).map fun (t, pages) => t.programPages kind bank pages

/-! ## Retirement and LUN conditions (R209, Table 8.8) -/

/-- More than `n` events of a list in the last `span` measures. -/
def moreThan (n span now : Nat) (l : List Nat) : Bool := decide (n < (l.filter fun m => now < m + span).length)

/-- The LUN's spare blocks are below 25% of those at format. -/
def Lun.spareShort (l : Lun) : Bool := decide (l.spares.length * 4 < l.spareFormat)

/-- A retired block of a superblock is replaced by a spare (R209; log entry 86: spares are kept erased). -/
def NandBlock.replace (id : Nat) (spare : Nat × Nat) (k : NandBlock) : NandBlock :=
  if k.id = id then { k with id := spare.1, erases := spare.2, indeterminate := false, erased := false, rebuilt := 0 } else k

/-- The block of a superblock on one plane of a LUN is retired (R209): a spare of the same LUN and plane replaces it, or the LUN
falls to FENCED for good. -/
def State.retireBlock (s : State) (b : Superblock) (lun plane : Nat) : State :=
  match s.lun lun, b.blocks.find? fun k => k.lun == lun && k.id % s.board.planes == plane with
  | some l, some k =>
    let s1 := (s.modFlash fun f => { f with blocksRetired := bump f.blocksRetired }).modLun lun fun x =>
      { x with retired := x.retired ++ [k.id] }
    match l.spares.find? fun p => p.1 % s.board.planes == plane with
    | none =>
      ((s1.modSb b.group b.num fun x => x.modBlocks lun fun j => if j.id = k.id then { j with state := .retired } else j).modUnit lun
        fun u => { u with spent := true }).lowerData lun .fenced
    | some p =>
      let s2 := (s1.modLun lun fun x => { x with spares := x.spares.filter fun q => q.1 != p.1 }).modSb b.group b.num fun x =>
        x.modBlocks lun (NandBlock.replace k.id p)
      if (((s2.lun lun).map Lun.spareShort).getD false) then s2.degrade lun else s2
  | _, _ => s

/-- A hard-to-read event of a LUN: more than 64 of them in 4,096 measures degrade it. -/
def State.lunEvent (s : State) (lun : Nat) : State :=
  let now := s.tb.measure
  let s1 := s.modUnit lun fun u => { u with events := now :: recent now u.events }
  if moreThan 64 4096 now (((s1.unit lun).map (·.events)).getD []) then s1.degrade lun else s1

/-- A reconstruction of a codeword of a LUN: more than 4 in 64 measures fence it. -/
def State.lunRebuild (s : State) (lun : Nat) : State :=
  let now := s.tb.measure
  let s1 := s.modUnit lun fun u => { u with events2 := now :: u.events2.filter fun m => now < m + 64 }
  if moreThan 4 64 now (((s1.unit lun).map (·.events2)).getD []) then s1.lowerData lun .fenced else s1

/-- A status read of a LUN failed: more than 16 on its channel in 4,096 measures degrade the channel (Table 8.8). -/
def State.statusError (s : State) (lun : Nat) : State :=
  let now := s.tb.measure
  let ch := channelOf lun
  let s1 := s.modUnit ch fun u => { u with events := now :: recent now u.events }
  if moreThan 16 4096 now (((s1.unit ch).map (·.events)).getD []) then s1.degrade ch else s1

/-! ## The stages of a read (R189, R199, R201) -/

/-- Offsets of the retry steps 1 to 7. -/
def retryOffset (step : Nat) : Int :=
  match step with
  | 1 => 2
  | 2 => -2
  | 3 => 4
  | 4 => -4
  | 5 => 6
  | 6 => -6
  | _ => 8

/-- Pinned levels of an area. -/
def State.pinned (s : State) (native : Bool) : List Nat :=
  (List.range (s.board.levels native)).map (· + 1) |>.filter fun l =>
    decide ((s.store.settings.window native l).1 = (s.store.settings.window native l).2)

/-- A read left a pin (R201). -/
def State.overrodePin (s : State) (lun : Nat) : State :=
  (s.modFlash fun f => { f with overridden := bump f.overridden }).raiseWarn 8 (some lun)

/-- The levels a failed hard decode was made at: all of them unpinned, all pinned, or, where only some are pinned, as a free
value tells, since the manual leaves open which level a page's read used. -/
def State.readPinned (s : State) (native : Bool) : Bool × State :=
  let p := s.pinned native
  if p.isEmpty then (false, s)
  else if p.length = s.board.levels native then (true, s)
  else
    let (v, s1) := s.draw 1
    (v == 1, s1)

/-- The references of a superblock at retry step `k`, 0 for the references themselves: each clamped to its window, a pin kept
(R199). -/
def State.refsAt (s : State) (b : Superblock) (k : Nat) : List Int :=
  (b.modRefs fun l v =>
    let w := s.store.settings.window b.native l
    if w.1 = w.2 then v else clampTo w (if k = 0 then v else v + retryOffset k)).refs

/-- The retry steps of R199 in order, without those that repeat an offset already tried. -/
def State.freshSteps (s : State) (b : Superblock) : List (List Int) → List Nat → List Nat
  | _, [] => []
  | seen, k :: rest =>
    let r := s.refsAt b k
    if seen.contains r then s.freshSteps b seen rest else k :: s.freshSteps b (r :: seen) rest

/-- Retry steps of a read: three outside the pin (R201), or those of R199. -/
def State.stepsFor (s : State) (b : Superblock) (pin : Bool) : List Nat :=
  if pin then [1, 2, 3] else s.freshSteps b [s.refsAt b 0] [1, 2, 3, 4, 5, 6, 7]

/-- How a codeword was read (R189). -/
inductive Decoded where
  | hard
  | retry (step : Nat)
  | soft
  | rebuilt
  | unreadable
  deriving DecidableEq, Repr

/-- A decode gave a codeword that passes its CRC-32C (R188). -/
def decodes (o : Option (Option Bytes)) : Bool :=
  match o with
  | some (some b) => wordSound b
  | _ => false

/-- The first of the retry steps whose decode succeeds. -/
def firstStep : List Nat → List (Option Bytes) → Option Nat
  | k :: ks, r :: rs => if decodes (some r) then some k else firstStep ks rs
  | _, _ => none

/-- The stages of R189 up to the soft decode. -/
def readStages (steps : List Nat) (hard : List (Option Bytes)) (soft : Option Bytes) : Option Decoded :=
  if decodes hard.head? then some .hard
  else match firstStep steps hard.tail with
    | some k => some (.retry k)
    | none => if decodes (some soft) then some .soft else none

/-- Stage 4: the other pages of the stripe rebuild the codeword when the drive may use them all: ONLINE or DEGRADED LUNs (R189), in
an evacuation FENCED ones too (R212). -/
def State.rebuilds (s : State) (b : Superblock) (w : Codeword) (evac : Bool) (others : List Bytes) : Bool :=
  (if evac then (b.pagesOf w.stripe).all fun l => l == w.lun || s.reach l != .offline else s.canRebuild b w) &&
  wordSound (xorAll others)

/-- A read succeeded at a retry step (R199): every unpinned reference of the superblock moves to the step's offset. -/
def State.trackStep (s : State) (b : Superblock) (step : Nat) : State :=
  s.modSb b.group b.num fun x => { x with refs := s.refsAt b step }

/-- Count a decode of stages 2 to 4 of the drive and of the LUN. -/
def State.stageCount (s : State) (lun stage : Nat) : State :=
  match stage with
  | 2 => (s.modFlash fun f => { f with stage2 := sat 64 (f.stage2 + 1) }).modLun lun fun l => { l with stage2 := bump l.stage2 }
  | 3 => (s.modFlash fun f => { f with stage3 := sat 64 (f.stage3 + 1) }).modLun lun fun l => { l with stage3 := bump l.stage3 }
  | _ => (s.modFlash fun f => { f with stage4 := sat 64 (f.stage4 + 1) }).modLun lun fun l => { l with stage4 := bump l.stage4 }

/-- A read of the superblock was hard to make: a refresh is due (Table 8.7). -/
def State.markHard (s : State) (b : Superblock) : State := s.modSb b.group b.num fun x => { x with hard := true }

/-- The blocks of a LUN in a superblock were reconstructed within 1,024 measures of their program: one that was so twice is retired
(Table 8.7). Of a multi-plane page, which plane's block holds the codeword follows from its place in the page. -/
def State.noteRebuilt (s : State) (b : Superblock) (w : Codeword) : State :=
  let place := ((b.words.filter fun v => v.stripe == w.stripe && v.lun == w.lun).findIdx fun v => v.is (w.ext, w.idx))
  let plane := place / 4 % s.board.planes
  match b.blocks.find? fun k => k.lun == w.lun && k.id % s.board.planes == plane with
  | none => s
  | some k =>
    if s.tb.measure ≤ k.openedAt + 1024 then
      let s1 := s.modSb b.group b.num fun x => x.modBlocks w.lun fun j =>
        if j.id = k.id then { j with rebuilt := j.rebuilt + 1 } else j
      if 1 ≤ k.rebuilt then s1.retireBlock b w.lun plane else s1
    else s

/-- What a read of codeword `w` found (R189): counts, tracking, conditions of the LUN, warnings; `pin` tells that the failed hard
decode was at a pin, which such a read leaves (R201). -/
def State.readFound (s : State) (b : Superblock) (w : Codeword) (pin : Bool) (d : Decoded) : State :=
  let s1 := s.modSb b.group b.num fun x => x.modBlocks w.lun fun k => { k with reads := bump k.reads }
  match d with
  | .hard => s1
  | .retry k =>
    let s2 := s1.stageCount w.lun 2
    let s3 := if pin then s2.overrodePin w.lun else s2.trackStep b k
    if 4 ≤ k then (s3.markHard b).lunEvent w.lun else s3
  | .soft =>
    let s2 := s1.stageCount w.lun 3
    ((if pin then s2.overrodePin w.lun else s2).markHard b).lunEvent w.lun
  | .rebuilt =>
    let s2 := s1.stageCount w.lun 4
    (((if pin then s2.overrodePin w.lun else s2).markHard b).lunRebuild w.lun).noteRebuilt b w
  | .unreadable =>
    let s2 := if pin then s1.overrodePin w.lun else s1
    let s3 := s2.modSb b.group b.num fun x => x.modWords (·.is (w.ext, w.idx)) fun v => { v with unread := true }
    (s3.modFlash fun f => { f with unreadable := sat 64 (f.unreadable + 1) }).raiseWarn 7 (some w.lun)

/-! ## What waits for a read: replies (R189) and relocations (R196) -/

/-- A codeword was read: the replies that need it wait for it no longer. -/
def State.readServed (s : State) (k : Nat × Nat) : State :=
  s.modSeq fun q => { q with replies := q.replies.map fun r => { r with reads := r.reads.filter (· != k) } }

/-- The reply of a request that needs an unreadable codeword: UNIT_OFFLINE (R173, R189). -/
def Reply.lost (r : Reply) : Reply :=
  { r with status := .unitOffline, pieces := [(0, 0, [], [])], bytes := 0, reads := [], flags := r.flags % 32 }

/-- A codeword is unreadable: the requests that need it are answered UNIT_OFFLINE. -/
def State.readFailed (s : State) (k : Nat × Nat) : State :=
  let hit := s.seq.replies.filter fun r => r.reads.contains k
  hit.foldl (fun t r => t.modReplay r.session r.seq fun p => { p with status := some .unitOffline, body := [] })
    (s.modSeq fun q => { q with replies := q.replies.map fun r => if r.reads.contains k then r.lost else r })

/-- A copy that a relocation places (R191, R196). -/
def Codeword.copy (w : Codeword) (group num : Nat) : Codeword :=
  { w with programmed := false, live := false, durable := false, source := some (group, num) }

/-- A superblock that is being relocated and holds nothing valid any more becomes ERASE_PENDING, with its journal entries (R191,
R198, R205). -/
def State.reclaim (s : State) (group num : Nat) : State :=
  match s.sb group num with
  | none => s
  | some b =>
    let busy := s.flash.moves.any fun m => m.group == group && m.num == num
    if b.draining && !busy && b.any .closed && (s.validOf b).isEmpty then
      let luns := ((b.blocks.filter fun k => k.state == .closed).map (·.lun)).eraseDups
      (s.modSb group num fun x =>
        { x with
          draining := false, hard := false
          blocks := x.blocks.map fun k => if k.state = .closed then { k with state := .erasePending, erased := false } else k }).modFlash
        fun f => { f with journal := f.journal ++ luns.map fun l => { group, num, lun := l, done := false } }
    else s

/-- A relocation whose reads are done: what the map still has there is copied, and programmed as background work. It waits while no
superblock can take the copies. -/
def State.finishMove (s : State) (m : Relocation) : State :=
  let keep := s.modFlash fun f => { f with moves := f.moves ++ [m] }
  match s.sb m.group m.num with
  | none => s
  | some b =>
    let l := ((s.validOf b).filter fun w => w.live && m.got.any w.is).map fun w => w.copy m.group m.num
    match s.write true m.stream .programBg none (fun _ => m.group) l with
    | none => keep
    | some t => t.reclaim m.group m.num

/-- Relocations whose reads are done go on (R196). -/
def State.finishMoves (s : State) : State :=
  s.flash.moves.foldl (fun t m =>
    if m.pending.isEmpty then t.finishMove m else t.modFlash fun f => { f with moves := f.moves ++ [m] })
    (s.modFlash fun f => { f with moves := [] })

/-- A relocation that waits for a codeword of a superblock has it, or does without it. -/
def State.moveRead (s : State) (group num : Nat) (k : Nat × Nat) (ok : Bool) : State :=
  (s.modFlash fun f => { f with moves := f.moves.map fun m =>
    if m.group == group && m.num == num && m.pending.contains k then
      { m with pending := m.pending.filter (· != k), got := if ok then m.got ++ [k] else m.got }
    else m }).finishMoves

/-- The codewords of a superblock that a relocation reads: valid, durable, and to be read or rebuilt; in an evacuation FENCED LUNs are
read too (R196, R211, R212). -/
def State.movable (s : State) (b : Superblock) (evac : Bool) : List Codeword :=
  (s.validOf b).filter fun w =>
    w.live && w.durable && !w.unread && (s.sound w.lun || s.canRebuild b w ||
      (evac && (s.reach w.lun == .fenced || (b.pagesOf w.stripe).all fun l => l == w.lun || s.reach l != .offline)))

/-- Relocate a superblock (R191, R196, R198): an open one is closed, every valid codeword that is durable and can be read is read as
background work, and the superblock becomes ERASE_PENDING once the copies are durable and nothing valid is left in it. -/
def State.relocate (s : State) (b : Superblock) (stream : Stream) (evac : Bool) : State :=
  if s.flash.moves.any fun m => m.group == b.group && m.num == b.num then s else
  let words := s.movable b evac
  let s1 := s.modSb b.group b.num fun x => { x.close (if x.any .opened then s.tb.measure else x.closedAt) with draining := true }
  let s2 := words.foldl (fun t w => t.readWord .readBg b w evac) s1
  let m : Relocation := { group := b.group, num := b.num, stream, evac, pending := words.map fun w => (w.ext, w.idx), got := [] }
  if words.isEmpty then s2.reclaim b.group b.num else s2.modFlash fun f => { f with moves := f.moves ++ [m] }

/-- A read operation has its data (R188, R189): the stage that succeeded, what it leaves, and what waited for the codeword. -/
def State.endRead (s : State) (o : NandOp) (r : NandResult) : State :=
  match o.word, s.sb o.group o.num, r with
  | some k, some b, .read hard soft others =>
    match b.words.find? (·.is k) with
    | none => s
    | some w =>
      let evac := s.flash.moves.any fun m => m.group == o.group && m.num == o.num && m.evac
      let plain := !o.rebuild && decodes hard.head?
      let (pin, s1) := if plain || o.rebuild then (false, s) else s.readPinned b.native
      let d := if o.rebuild then none else readStages (s.stepsFor b pin) hard soft
      let found := match d with
        | some v => v
        | none => if s1.rebuilds b w evac others then .rebuilt else .unreadable
      let s2 := s1.readFound b w pin found
      let ok := found != .unreadable
      let s3 := if ok then s2.readServed k else s2.readFailed k
      s3.moveRead o.group o.num k ok
  | _, _, _ => s

/-! ## Channel buses (R204) -/

/-- The operation's data waits for the bus or moves over it. -/
def NandOp.onBus (o : NandOp) : Bool := o.phase != .array

/-- LUNs of a channel whose operation has data to move, foreground or background. -/
def State.busWaits (s : State) (ch : Fin 8) (bg : Bool) : List Nat :=
  (s.flash.luns.filter fun l => channelOf l.id == 0x2000 + ch.val &&
    l.op.any fun o => o.onBus && o.kind.background == bg).map (·.id)

/-- Change a channel bus. -/
def State.modBus (s : State) (ch : Fin 8) (f : Bus → Bus) : State :=
  s.modFlash fun g => { g with buses := g.buses.set ch (f g.buses[ch]) }

/-- A background transfer starts. -/
def Bus.takeBg (lun : Nat) (b : Bus) : Bus := { b with moving := some lun, bgRan := true, bgFirst := false }

/-- The next transfer of an idle bus: foreground before background, but for the one that R204 guarantees the background. -/
def State.busNext (s : State) (ch : Fin 8) : State :=
  let b := s.flash.buses[ch]
  if b.moving.isSome then s else
  match s.busWaits ch false, s.busWaits ch true with
  | f :: _, g :: _ =>
    if b.bgFirst then s.modBus ch (Bus.takeBg g) else s.modBus ch fun x => { x with moving := some f, bgRefused := true }
  | f :: _, [] => s.modBus ch fun x => { x with moving := some f }
  | [], g :: _ => s.modBus ch (Bus.takeBg g)
  | [], [] => s

/-- The transfer under way on a channel ends: a program starts in the device, a read has its data. A transfer ends with the next slot
boundary on its channel (log entry 131). -/
def State.busEnd (s : State) (ch : Fin 8) : State :=
  match s.flash.buses[ch].moving with
  | none => s
  | some id =>
    let s1 := s.modBus ch fun b => { b with moving := none }
    match (s1.lun id).bind (·.op) with
    | none => s1
    | some o => match o.phase with
      | .array => s1
      | .dataIn => s1.modLun id fun l => { l with op := some { o with phase := .array } }
      | .dataOut r => ((s1.modLun id fun l => { l with op := none }).endRead o r).drainNand

/-- The channel of a LUN, as an index. -/
def busOf (lun : Nat) : Fin 8 := Fin.ofNat 8 (lun % 0x1000 / 16)

/-! ## LUN slots (R52, R202, R203) -/

/-- Time a background operation must run after a resume before its next suspend [ns], and how often it may be suspended. -/
def NandKind.suspendRule : NandKind → Option (Nat × Nat)
  | .eraseBg => some (300000, 16)
  | .programBg => some (100000, 8)
  | .readFg => none
  | .programFg => none
  | .readBg => none
  | .suspend => none
  | .lunReset => none
  | .feature => none

/-- The operation may be suspended now (R203): an SLC-mode program never is; `slotNs` is the time between slot boundaries. -/
def NandOp.suspendable (o : NandOp) (slotNs : Nat) : Bool :=
  match o.kind.suspendRule with
  | none => false
  | some (ns, times) =>
    o.phase == .array && decide (o.suspends < times) && (o.suspends == 0 || decide (ns ≤ o.ran * slotNs))

/-- Background work that could take a slot: the suspended operation first, then those that wait. -/
def Lun.bgWork (l : Lun) : Bool := l.held.isSome || !l.bg.isEmpty

/-- Background work takes the slot: it resumes or issues an operation. -/
def Lun.takeBg (l : Lun) : Lun :=
  match l.held, l.bg with
  | some o, _ => { l with op := some { o with ran := 0 }, held := none, bgRan := true, bgFirst := false }
  | none, o :: rest => { l with op := some o, bg := rest, bgRan := true, bgFirst := false }
  | none, [] => l

/-- Foreground work takes the slot of an idle LUN. -/
def Lun.takeFg (l : Lun) : Lun :=
  match l.fg with
  | [] => l
  | o :: rest => { l with op := some o, fg := rest, bgRefused := l.bgRefused || l.bgWork }

/-- One slot boundary of a LUN (R202, R203). `bg` tells whether background work may take a slot, `free` whether it may take
more than R52 guarantees. A read that takes the slot of a running erase or native program suspends it, and follows once the
device is ready. -/
def Lun.slot (l : Lun) (slotNs : Nat) (bg free : Bool) : Lun :=
  match l.op with
  | none =>
    if l.bgFirst && bg && l.bgWork then l.takeBg
    else if !l.fg.isEmpty then l.takeFg
    else if bg && free && l.bgWork then l.takeBg
    else { l with bgRefused := l.bgRefused || l.bgWork }
  | some o =>
    let o1 := { o with ran := o.ran + 1 }
    match l.fg with
      | h :: rest =>
        if h.kind = .readFg ∧ o1.suspendable slotNs ∧ l.held.isNone then
          { l with
            op := some (.make .suspend o.group o.num 0), next := some h, fg := rest
            held := some { o1 with suspends := o.suspends + 1 }, bgRefused := true }
        else { l with op := some o1 }
      | [] => { l with op := some o1 }

/-- Pages whose programs wait on a LUN that has stopped being writable: their codewords are placed again elsewhere, and its waiting
erases wait until it is back (R187, Table 8.8). A LUN that is OFFLINE takes no operation at all. -/
def State.divert (s : State) (lun : Nat) (again : State → NandOp → State) : State :=
  match s.lun lun with
  | none => s
  | some l =>
    if s.sound lun then s else
    let off := s.reach lun == .offline
    let drop := fun (o : NandOp) => o.kind.writes || off
    let s1 := s.modLun lun fun x => { x with fg := x.fg.filter fun o => !drop o, bg := x.bg.filter fun o => !drop o }
    (l.fg ++ l.bg).foldl (fun t o => if drop o then again t o else t) s1

/-! ## The end of an operation (R185, R190, R205, R209) -/

/-- The codewords of a page, or for a parity page those of its stripe. -/
def Superblock.page (b : Superblock) (stripe lun : Nat) : List Codeword :=
  b.words.filter fun w => w.stripe == stripe && (w.lun == lun || b.parityLun stripe == some lun)

/-- A page is programmed again into the next stripe (R190): its codewords take new places; those of a failed parity page's stripe
all do, since their parity would lie elsewhere (log entry 132). Without room it waits (R192). -/
def State.placeAgain (s : State) (o : NandOp) (lun : Nat) : State :=
  match s.sb o.group o.num with
  | none => s
  | some b =>
    let l := b.page o.stripe lun
    let s1 := s.modSb b.group b.num fun x =>
      { x with
        words := x.words.filter fun w => !(l.any fun v => v == w)
        used := max x.used ((o.stripe + 1) * x.stripeWords s.board) }
    (s1.write b.native b.stream o.kind o.bank (fun _ => b.group) l).getD (s.modFlash fun f => { f with again := f.again ++ [(lun, o)] })

/-- Pages that wait for room are tried once more. -/
def State.retryPages (s : State) : State :=
  s.flash.again.foldl (fun t p => t.placeAgain p.2 p.1) (s.modFlash fun f => { f with again := [] })

/-- Work that a LUN below DEGRADED no longer does: a program goes elsewhere, a read is made from the rest of its stripe. -/
def State.redo (s : State) (lun : Nat) (o : NandOp) : State :=
  if o.kind = .programFg ∨ o.kind = .programBg then s.placeAgain o lun
  else match o.word, s.sb o.group o.num with
    | some k, some b => match b.words.find? (·.is k) with
      | some w => match s.readAt b w false with
        | some (l, rebuild) => if l = lun then s else s.submit l { o with rebuild, phase := .array }
        | none => (s.readFailed k).moveRead o.group o.num k false
      | none => s
    | _, _ => s

/-- A copy is programmed: the map points to it if it still points to where it was read (R196). -/
def State.mapMoves (s : State) (b : Superblock) (l : List Codeword) : State :=
  l.foldl (fun t w => match w.source with
    | none => t
    | some (g, n) =>
      let k := (w.ext, w.idx)
      if ((t.sb g n).map fun x => x.words.any fun v => v.live && v.is k).getD false then
        (t.modSb g n fun x => x.modWords (·.is k) fun v => { v with live := false }).modSb b.group b.num fun x =>
          x.modWords (fun v => v.is k && v.source == some (g, n)) fun v => { v with live := true }
      else t) s

/-- A program ended with pass status: its page's codewords are on the medium. -/
def State.programmed (s : State) (lun : Nat) (o : NandOp) : State :=
  let s1 := s.modFlash fun f => { f with nandBytes := sat 64 (f.nandBytes + 16384 * s.board.planes) }
  let s2 := s1.modSb o.group o.num fun x => x.modWords (fun w => w.stripe == o.stripe && w.lun == lun) fun w =>
    { w with programmed := true }
  match s2.sb o.group o.num with
  | none => s2
  | some b => s2.mapMoves b (b.words.filter fun w => w.stripe == o.stripe && w.lun == lun)

/-- A program or an erase failed on a plane (R190, R205, R209): the block is retired; a program is made again into the next stripe, the
erase on the spare that came in. -/
def State.opFailed (s : State) (lun plane : Nat) (o : NandOp) : State :=
  match s.sb o.group o.num with
  | none => s
  | some b =>
    if o.kind = .eraseBg then
      let s1 := (s.modFlash fun f => { f with eraseFails := bump f.eraseFails }).retireBlock b lun plane
      if s1.sound lun then s1.submit lun (.make .eraseBg o.group o.num 0) else s1
    else
      ((s.modFlash fun f => { f with programFails := bump f.programFails }).retireBlock b lun plane).placeAgain o lun

/-- The operation of a LUN is over. -/
def State.free (s : State) (lun : Nat) : State := s.modLun lun fun l => { l with op := none }

/-- NAND_OP_COMPLETE (R185): the device is done. A suspend or a LUN reset is followed by the operation that waited for it; what was
read waits for the bus; a failed status read is repeated. -/
def State.opDone (s : State) (lun : Nat) (o : NandOp) (r : NandResult) : State :=
  match o.kind, r with
  | _, .statusError => s.statusError lun
  | .suspend, .pass | .lunReset, .pass => s.modLun lun fun l => { l with op := l.next, next := none }
  | .feature, .pass => s.free lun
  | .eraseBg, .pass => (s.free lun).modSb o.group o.num fun b => b.modBlocks lun fun k =>
      if k.state = .erasePending then { k with erased := true } else k
  | .programFg, .pass => (s.free lun).programmed lun o
  | .programBg, .pass => (s.free lun).programmed lun o
  | .eraseBg, .fail p | .programFg, .fail p | .programBg, .fail p => (s.free lun).opFailed lun p o
  | .readFg, .read h f t => s.modLun lun fun l => { l with op := some { o with phase := .dataOut (.read h f t) } }
  | .readBg, .read h f t => s.modLun lun fun l => { l with op := some { o with phase := .dataOut (.read h f t) } }
  | _, _ => s

/-- NAND_OP_COMPLETE (R185). -/
def execNandOpComplete (lun : Nat) (r : NandResult) (s : State) : Out :=
  if !s.flashRuns then .next s else
  match (s.lun lun).bind (·.op) with
  | none => .next s
  | some o =>
    if o.phase = .array then .next (((s.opDone lun o r).drainNand).busNext (busOf lun)).checkWarns else .next s

/-- An operation that the LUN reset ended while it was suspended starts afresh: an erase is made again, a program goes into the next
stripe (log entry 133). -/
def State.dropHeld (s : State) (lun : Nat) : State :=
  match (s.lun lun).bind (·.held) with
  | none => s
  | some o =>
    let s1 := s.modLun lun fun l => { l with held := none }
    if o.kind = .programBg then s1.placeAgain o lun else s1.submit lun { o with ran := 0, suspends := 0, phase := .array }

/-- The operation code of OP_TIMEOUT's payload is open; counts and the warning of a timeout (R185, Table 14.2). -/
def State.noteTimeout (s : State) (lun : Nat) : State :=
  let now := s.tb.measure
  let s1 := (s.modFlash fun f => { f with timeouts := bump f.timeouts }).modUnit lun fun u =>
    { u with timeouts := now :: recent now u.timeouts }
  let (code, s2) := s1.draw 8
  (s2.report 0x0602 6 (be 2 lun ++ be 1 code)).raiseWarn 11 (some lun)

/-- NAND_OP_TIMEOUT (R185, Table 8.8): the operation fails, the LUN is reset, and the operation is reissued once after it. With no
operation of a codeword or block under way, it was one of Table 8.2's status or feature operations. A reissue that fails in
turn ends as a failure: a program and an erase as R209 says, a read as unreadable. -/
def execNandOpTimeout (lun : Nat) (s : State) : Out :=
  if !s.flashRuns then .next s else
  match s.lun lun with
  | none => .next s
  | some l =>
      let now := s.tb.measure
      let earlier := ((s.unit lun).map fun u => recent now u.timeouts).getD []
      let o := (l.op.getD (.make .feature 0 0 0))
      let base := if o.kind = .suspend ∨ o.kind = .lunReset then l.next else some o
      let s1 := (s.noteTimeout lun).modLun lun fun x => { x with op := some (.make .lunReset 0 0 0), next := none }
      let s2 := s1.dropHeld lun
      let s3 := match base with
        | none => s2
        | some b =>
          if b.reissued then
            (match b.kind, b.word with
            | .readFg, some k | .readBg, some k => (s2.readFailed k).moveRead b.group b.num k false
            | .eraseBg, _ | .programFg, _ | .programBg, _ => s2.opFailed lun 0 b
            | _, _ => s2)
          else s2.modLun lun fun x =>
            { x with next := some { b with reissued := true, ran := 0, phase := (NandOp.make b.kind 0 0 0).phase } }
      let s4 := s3.lowerData lun (if earlier.isEmpty then .fenced else .offline)
      let whole := (s4.flash.luns.filter fun x => channelOf x.id == channelOf lun).all fun x =>
        ((s4.unit x.id).map fun u => u.timeouts.contains now).getD false
      .next (if whole then s4.lowerData (channelOf lun) .offline else s4).checkWarns

/-- LUN_SLOT_BOUNDARY (R202): a slot is offered; R52 and R203 decide who takes it. A LUN below DEGRADED takes no program or erase
(Table 8.8). During Custody entry no background operation is issued, and a suspended one runs on to its completion (Table
8.12). -/
def execLunSlotBoundary (lun : Nat) (_slot : Fin 16) (s : State) : Out :=
  if !s.flashRuns then .next s else
  let ch := busOf lun
  let s1 := (s.busEnd ch).divert lun (fun t o => t.redo lun o)
  let slotNs := s.lengthNs / 16
  let custody := s.power.mode == .quiesceCustody && !s.power.pwrFail
  let bg := s.bgMay || custody
  let s2 := s1.modLun lun fun l =>
    let l1 := l.slot slotNs bg (decide (s.power.step < 2))
    if custody ∧ l.held.isNone ∧ (l.op.isNone ∨ l1.held.isSome) ∧ (l1.op.any fun o => o.kind.background || o.kind == .suspend) then l
    else l1
  .next (s2.busNext ch)

/-- BACKGROUND_DENIAL_EXPIRY (R52, R204): a measure opens with the count at 7: background work takes the first slot of the LUN, or
the first transfer of the channel. -/
def execBackgroundDenialExpiry (unit : Nat) (s : State) : Out :=
  if unit / 0x1000 = 2 then
    .next (s.modBus (Fin.ofNat 8 unit) fun b => if 7 ≤ b.denied then { b with bgFirst := true, denied := 0 } else b)
  else .next (s.modLun unit fun l => if 7 ≤ l.denied then { l with bgFirst := true, denied := 0 } else l)

/-- The denial counts as a measure closes (R52); `sound` tells that the LUN reaches ONLINE or DEGRADED then, which ends its
evacuation too (R211, R212). -/
def Lun.closeMeasure (m : Nat) (sound : Bool) (l : Lun) : Lun :=
  { l with
    denied := if l.bgRan then 0 else if l.bgRefused then min 7 (l.denied + 1) else 0
    bgRan := false
    bgRefused := false
    bgFirst := false
    soundAt := if sound then m else l.soundAt
    evacuated := l.evacuated && !sound }

/-- The denial count of a channel as a measure closes (R204). -/
def Bus.closeMeasure (b : Bus) : Bus :=
  { b with
    denied := if b.bgRan then 0 else if b.bgRefused then min 7 (b.denied + 1) else 0
    bgRan := false
    bgRefused := false
    bgFirst := false }

/-! ## Erases (R205, R206) -/

/-- Blocks of a superblock on a LUN whose erase may be issued: ERASE_PENDING in the durable journal. -/
def Superblock.eraseDue (b : Superblock) (lun : Nat) : Bool :=
  b.blocks.any fun k => k.lun == lun && k.state == .erasePending && k.pending && !k.erased

/-- Erases that are due on writable LUNs, and neither waiting nor under way, are queued (R205). -/
def State.queueErases (s : State) : State :=
  s.flash.sbs.foldl (fun t b => (((b.blocks.map (·.lun)).eraseDups).filter fun l =>
    b.eraseDue l && s.sound l && !s.anyOp fun n o => n == l && o.kind == .eraseBg && o.group == b.group && o.num == b.num).foldl
    (fun u l => u.submit l (.make .eraseBg b.group b.num 0)) t) s

/-- A block whose erase ended with pass status: FREE, one cycle older (R205, R206). -/
def NandBlock.freed (k : NandBlock) : NandBlock :=
  if k.erased && k.state == .erasePending then
    { k with state := .free, erases := k.erases + 1, erased := false, indeterminate := false, reads := 0, rebuilt := 0 }
  else k

/-- ERASE_DONE (R205, R206): the erase of a superblock's blocks on a LUN ended with pass status; they are FREE, and the entry goes
with the next bank. -/
def execEraseDone (group : Nat) (blocks : SbOnLun) (s : State) : Out :=
  let num := blocks.superblock
  let lun := blocks.lun
  match s.sb group num with
  | none => .next s
  | some b =>
    if !s.flashRuns || !(b.blocks.any fun k => k.lun == lun && k.erased && k.state == .erasePending) then .next s
    else
      let s1 := s.modSb group num fun x =>
        { x.modBlocks lun NandBlock.freed with words := x.words.filter fun w => w.lun != lun }
      .next (s1.modFlash fun f => { f with journal := f.journal ++ [{ group, num, lun, done := true }] }).checkWarns

/-! ## Garbage collection, folding, wear move, scrub, refresh, evacuation -/

/-- Score of a closed native superblock (R195). -/
def State.gcScore (s : State) (b : Superblock) : Int :=
  let all := (s.flash.sbs.filter fun x => x.group == b.group && x.native).map Superblock.erases
  let n : Int := all.length
  let total := b.total s.board
  let v : Int := if total = 0 then 0 else (s.validOf b).length * 1000 / total
  let a : Int := min ((s.tb.measure - b.closedAt) / 65536) 250
  let e : Int := max (-250) (min 250 (((b.erases : Int) * n - all.sum) / (8 * n)))
  4 * v - a + e

/-- The superblock is closed. -/
def Superblock.isClosed (b : Superblock) : Bool := b.any .closed && !b.any .opened

/-- The closed native superblock of a group with the lowest score; ties to the lower number. -/
def State.gcVictim (s : State) (group : Nat) : Option Superblock :=
  match s.flash.sbs.filter fun b => b.group == group && b.native && b.isClosed && !b.draining with
  | [] => none
  | b :: rest => some (rest.foldl (fun x y => if s.gcScore y < s.gcScore x then y else x) b)

/-- Free and all native superblocks of a group. -/
def State.nativeFree (s : State) (group : Nat) : Nat × Nat :=
  let all := s.flash.sbs.filter fun b => b.group == group && b.native
  ((all.filter s.isFree).length, all.length)

/-- GARBAGE_COLLECTION (R195): between 4% and 6% of free native superblocks, the lowest-scoring closed one is collected. -/
def execGarbageCollection (group : Nat) (s : State) : Out :=
  let (free, all) := s.nativeFree group
  let on := decide (free * 100 ≤ 4 * all) || (s.flash.collecting.contains group && decide (free * 100 < 6 * all))
  if !s.bgMay ∨ all = 0 then .next s
  else if !on then .next (s.modFlash fun f => { f with collecting := f.collecting.filter (· != group) })
  else
    let s1 := s.modFlash fun f => { f with collecting := if f.collecting.contains group then f.collecting else group :: f.collecting }
    match s1.gcVictim group with
    | none => .next s1
    | some b => .next (s1.relocate b .gc false).checkWarns

/-- FOLDING (R191): the oldest closed SLC superblock of the group is copied into native cells. -/
def execFolding (group : Nat) (s : State) : Out :=
  if !s.bgMay then .next s else
  match s.flash.sbs.filter fun b => b.group == group && !b.native && b.isClosed with
  | [] => .next s
  | b :: rest => .next (s.relocate (rest.foldl (fun x y => if y.closedAt < x.closedAt then y else x) b) .fold false).checkWarns

/-- The erase counts of a group's native blocks spread too far (R197). -/
def State.wornUneven (s : State) (group : Nat) : Bool :=
  let l := ((s.flash.sbs.filter fun b => b.group == group && b.native).flatMap (·.blocks)).map (·.erases)
  let spread := l.foldl max 0 - l.foldl min (l.headD 0)
  let rated := (s.store.format.map (·.endNative)).getD 0
  decide (100 < spread) && decide (rated * 5 < spread * 100)

/-- All data of the superblock is at least 2^24 measures old (R197). -/
def State.oldData (s : State) (b : Superblock) : Bool :=
  let l := s.validOf b
  !l.isEmpty && l.all fun w => decide (w.measure + 2 ^ 24 ≤ s.tb.measure)

/-- WEAR_MOVE (R197): the least-worn superblock whose data is 2^24 measures old moves. -/
def execWearMove (group : Nat) (s : State) : Out :=
  if !s.bgMay || !s.wornUneven group then .next s else
  match s.flash.sbs.filter fun b => b.group == group && b.native && b.isClosed && s.oldData b with
  | [] => .next s
  | b :: rest => .next (s.relocate (rest.foldl (fun x y => if y.erases < x.erases then y else x) b) .wearMove false).checkWarns

/-- The unit a scrub moves a reference: towards the reading with the fewest bit errors. Where the readings beside the
reference share the lead, which way it moves is free. -/
def scrubStep (low mid high : Nat) (free : Bool) : Int :=
  if mid ≤ low ∧ mid ≤ high then 0
  else if low < high then -1
  else if high < low then 1
  else if free then 1 else -1

/-- One codeword of every wordline of a LUN's blocks: a native wordline carries a page of each bit of its cells (R198). -/
def Superblock.scrubWords (b : Superblock) (bd : Board) (lun : Nat) : List Codeword :=
  let line := fun (w : Codeword) => if b.native then w.stripe / bd.cellBits else w.stripe
  (b.words.filter fun w => w.lun == lun && w.programmed).foldl (fun l w => if l.any fun v => line v == line w then l else l ++ [w]) []

/-- SCRUB (R198, R199) of the blocks of a superblock on one LUN: due after 2^24 measures, 2^23 where the LUN is DEGRADED. -/
def execScrub (group : Nat) (blocks : SbOnLun) (errLow errMid errHigh : Nat) (s : State) : Out :=
  let num := blocks.superblock
  let lun := blocks.lun
  match s.sb group num with
  | none => .next s
  | some b =>
    let every := if s.reach lun = .degraded then 2 ^ 23 else 2 ^ 24
    let due := fun (k : NandBlock) =>
      k.lun == lun && (k.state == .opened || k.state == .closed) && decide (k.scrubbedAt + every ≤ s.tb.measure)
    if !s.bgMay || !s.sound lun || !b.blocks.any due then .next s else
    let (free, s1) := s.draw 1
    let t := s.store.settings
    let s2 := s1.modSb group num fun x =>
      (x.modRefs fun l v =>
          if (t.window b.native l).1 = (t.window b.native l).2 then v
          else clampTo (t.window b.native l) (v + scrubStep errLow errMid errHigh (free == 1))).modBlocks lun fun k =>
        { k with scrubbedAt := s.tb.measure }
    .next ((b.scrubWords s.board lun).foldl (fun u w => u.readWord .readBg b w false) s2)

/-- A refresh of a superblock is due (Table 8.7). -/
def Superblock.refreshDue (b : Superblock) : Bool :=
  (b.any .opened || b.any .closed) &&
    (b.hard || b.blocks.any fun k => decide ((if b.native then 200000 else 1000000) ≤ k.reads))

/-- REFRESH (R198): the superblock is relocated. -/
def execRefresh (group num : Nat) (s : State) : Out :=
  match s.sb group num with
  | none => .next s
  | some b => if !s.bgMay || !b.refreshDue then .next s else .next (s.relocate b (if b.native then .gc else .fold) false).checkWarns

/-- EVACUATION (R212): every superblock that includes a LUN below DEGRADED is relocated; complete when none of them holds
valid data. -/
def execEvacuation (lun : Nat) (s : State) : Out :=
  let mine := fun (t : State) => t.flash.sbs.filter fun b => b.luns.contains lun && (b.any .opened || b.any .closed)
  let present := s.flash.luns.any fun l => l.id == lun
  if !s.bgMay || !present || s.sound lun then .next s else
  let s1 := (mine s).foldl (fun t b => t.relocate b (if b.native then .gc else .fold) true) s
  if (mine s1).all fun b => (s1.validOf b).isEmpty then .next (s1.modLun lun fun l => { l with evacuated := true }).checkWarns
  else .next s1.checkWarns

/-! ## Telemetry (R213) -/

/-- The band of TEMP_HIST a temperature falls into. -/
def tempBand (t : Int) : Fin 8 :=
  if t < 0 then 0 else if t < 25 then 1 else if t < 50 then 2 else if t < 70 then 3 else if t < 85 then 4
  else if t < 95 then 5 else if t < 105 then 6 else 7

/-- TEMPERATURE_SAMPLE (R213): the highest reading of the LUNs' sensors. -/
def execTemperatureSample (temps : List (Nat × Int)) (s : State) : Out :=
  if !s.inService then .next s else
  match (temps.filter fun p => s.flash.luns.any fun l => l.id == p.1).map (·.2) with
  | [] => .next s
  | t :: rest =>
    let top := rest.foldl max t
    .next (s.modFlash fun f =>
      let higher := match f.tempMax with
        | some m => decide (m < top)
        | none => true
      { f with
        temp := some top
        tempMax := if higher then some top else f.tempMax
        tempMeasure := if higher then s.tb.measure else f.tempMeasure
        hist := f.hist.set (tempBand top) (sat 64 (f.hist[tempBand top] + 4096)) }).checkWarns

/-! ## LPDDR5 (R162, R163) -/

/-- LPDDR5_PATROL_PASS (R163, Table 7.3): an uncorrectable error fences the rank, or is fatal when it lies in a fixed region
(a free value tells, for the rank that carries them); more than 64 corrected errors in 4,096 measures degrade it; a clean
pass qualifies it. -/
def execLpddr5PatrolPass (rank : Fin 2) (corrected : Nat) (uncorrectable : Bool) (s : State) : Out :=
  let id := 0x3000 + rank.val
  match s.unit id with
  | none => .next s
  | some u =>
    if s.power.inReset ∨ s.power.mode = .custody ∨ s.power.mode = .recovery ∨ u.data = .offline then .next s
    else if uncorrectable then
      let (v, s1) := s.draw 3
      if s.flash.fixedRank = rank.val ∧ v % 2 = 1 then
        .next ((s1.modFlash fun f => { f with badRank := some rank.val }).fatal 3 (v / 2) none)
      else .next (s1.lowerData id .fenced)
    else
      let now := s.tb.measure
      let s1 := s.modUnit id fun w => { w with events := List.replicate (min corrected 65) now ++ recent now w.events }
      let many := moreThan 64 4096 now (((s1.unit id).map (·.events)).getD [])
      let s2 := if many then s1.degrade id else s1
      if corrected < 8 then .next (s2.modUnit id fun w => { w with qualified := true }) else .next s2

end Sys2Proof.Machine
end

