-- ==== Sys2Proof/Machine/Package.lean ====
section
/-! DEFINITION. The Beralmos package (R334 to R338, Tables 13.3 to 13.5): its fields, its blocks, and the checks in their
order. -/

namespace Sys2Proof.Machine

open Sys2Proof

/-! ## Header, signatures, parts -/

/-- Data bytes of a full package block (R337). -/
def blockData : Nat := 65520

/-- TOTAL_LENGTH. -/
def pkgTotal (st : Bytes) : Nat := fld st 24 4

/-- Blocks of a package of `n` bytes. -/
def blocksFor (n : Nat) : Nat := max 1 ((n + blockData - 1) / blockData)

/-- PART_COUNT. -/
def pkgParts (st : Bytes) : Nat := u8 st 6

/-- The parts of the manifest (Table 13.4): TYPE, OFFSET, LENGTH, NONCE, TAG, DIGEST. -/
structure Part where
  typ : Nat
  off : Nat
  len : Nat
  nonce : Bytes
  tag : Bytes
  digest : Bytes
  deriving DecidableEq, Repr

/-- Entry `k` of the manifest. -/
def partAt (st : Bytes) (k : Nat) : Part :=
  let e := sub st (512 + 128 * k) 128
  { typ := u8 e 0, off := fld e 4 4, len := fld e 8 4, nonce := sub e 12 12, tag := sub e 24 16, digest := sub e 48 48 }

/-- Every part, in manifest order. -/
def partsOf (st : Bytes) : List Part := (List.range (pkgParts st)).map (partAt st)

/-- The header followed by the manifest, as the signatures cover them (R335). -/
def signedText (st : Bytes) : Bytes := sub st 0 128 ++ sub st 512 (128 * pkgParts st)

/-- Parts lie in manifest order without overlap, from `at_` on, and end within `total` (R336). -/
def partsFit (total : Nat) : Nat → List Part → Bool
  | _, [] => true
  | at_, p :: rest => decide (at_ ≤ p.off) && decide (p.off + p.len ≤ total) && p.off % 64 == 0 && partsFit total (p.off + p.len) rest

/-- Whole 64 KiB sectors of a part. -/
def Part.sectors (p : Part) : Nat := (p.len + 65535) / 65536

/-- The parts meet R336. -/
def partsOk (st : Bytes) : Bool :=
  let l := partsOf st
  let images := l.filter fun p => p.typ == 2
  let loaders := l.filter fun p => p.typ == 1
  l.all (fun p => decide (1 ≤ p.typ ∧ p.typ ≤ 3)) &&
  decide (images.length = 1) && images.all (fun p => decide (p.len ≤ 4 * 2 ^ 20)) &&
  decide (loaders.length ≤ 1) && loaders.all (fun p => decide (p.len ≤ 1044480)) &&
  decide ((((l.filter fun p => p.typ != 1).map Part.sectors).sum) ≤ 380) &&
  partsFit (pkgTotal st) (512 + 128 * pkgParts st) l

/-- KEY_SLOT names a fused key. -/
def Fuses.hasKey (f : Fuses) (slot : Nat) : Bool := slot == 0 || (slot == 1 && !f.oemFwKey.isEmpty)

/-- Step 2 of R338 on a stream: R334 to R336, exactly TOTAL_LENGTH bytes, STEPPING, KEY_SLOT. -/
def formatOk (f : Fuses) (st : Bytes) : Bool :=
  decide (512 ≤ st.length) && fld st 0 4 == 0x42524C4D && u8 st 4 == 1 && f.hasKey (u8 st 5) &&
  decide (1 ≤ pkgParts st ∧ pkgParts st ≤ 16) && (u8 st 7 == 0xB1 || u8 st 7 == 0) &&
  decide (u8 st 19 ≤ 64) && decide (1 ≤ fld st 20 2) && decide (fld st 22 2 ≤ fld st 20 2) &&
  decide (pkgTotal st ≤ 25165824) && decide (st.length = pkgTotal st) && partsOk st

/-- Step 3: the Kararn key and signature. -/
def kararnOk (st : Bytes) : Bool :=
  sha384 (sub st 128 96) == Config.rootHash &&
  Config.ecdsaP384 (sub st 128 96) (sha384 (signedText st)) (sub st 224 96)

/-- Step 4: the OEM key and signature, while ID_FUSE.OEM_KEY is set. -/
def oemOk (f : Fuses) (st : Bytes) : Bool :=
  !f.oemKey ||
  (sha384 (sub st 320 96) == f.oemHash &&
   Config.ecdsaP384 (sub st 320 96) (sha384 (signedText st ++ sub st 224 96)) (sub st 416 96))

/-- The key in a firmware key slot (Table 13.2). -/
def Fuses.fwKey (f : Fuses) (slot : Nat) : Bytes := if slot = 0 then Config.fleetKey else f.oemFwKey

/-- Step 7: the content key unwraps, and every part verifies and has its DIGEST. -/
def contentOk (f : Fuses) (st : Bytes) : Bool :=
  match Config.gcmOpen (f.fwKey (u8 st 5)) (sub st 32 12) (sub st 0 32) (sub st 44 32) (sub st 76 16) with
  | none => false
  | some key => (partsOf st).all fun p =>
    match Config.gcmOpen key p.nonce (sub st 0 128) (sub st p.off p.len) p.tag with
    | none => false
    | some plain => sha384 plain == p.digest

/-- Steps 2 to 7 of R338 in their order; `version` is the settings version of step 6, if there is one. -/
def checkStream (f : Fuses) (version : Option Nat) (st : Bytes) : Status :=
  let wrongVersion := match version with
    | none => false
    | some v => decide (v < fld st 22 2) || decide (fld st 20 2 < v)
  if !formatOk f st then .range
  else if !kararnOk st then .signature
  else if !oemOk f st then .signature
  else if u8 st 19 < f.rollback then .rollbackDenied
  else if wrongVersion then .versionMismatch
  else if !contentOk f st then .integrity
  else .ok

/-! ## Blocks (R337) -/

/-- The block passes Table 13.5 as block `index`; `tag` is PACKAGE_TAG, where it is known. -/
def blockOk (index : Nat) (tag : Option Bytes) (b : Bytes) : Bool :=
  let n := fld b 8 4
  fld b 0 2 == 0x4252 && fld b 2 2 == index && decide (1 ≤ n ∧ n ≤ blockData) && decide (b.length = 16 + n) &&
  (match tag with
    | none => true
    | some t => sub b 4 4 == t) &&
  fld b 12 4 == crc32c (sub b 0 12 ++ b.drop 16)

/-- PACKAGE_TAG of a stream: bytes 0 to 3 of PACKAGE_ID. -/
def tagOf (st : Bytes) : Bytes := sub st 8 4

/-- What reading a package's blocks gives: a stream, or the first block that fails and why. -/
abbrev BlockRead := Except (Status × Nat) Bytes

/-- Read blocks `k`, `k + 1`, ... of `n`, each from `get`, onto what has been read. -/
def readBlocks (get : Nat → Option Bytes) (n : Nat) : Nat → Nat → Bytes → BlockRead
  | 0, _, st => .ok st
  | fuel + 1, k, st =>
    if n ≤ k then .ok st else
    match get k with
    | none => .error (.notFound, k)
    | some b =>
      if blockOk k (some (tagOf (if k = 0 then b.drop 16 else st))) b then readBlocks get n fuel (k + 1) (st ++ b.drop 16)
      else .error (.integrity, k)

/-- Step 1 of R338: block 0 tells TOTAL_LENGTH, and with it how many blocks there are. -/
def readPackage (get : Nat → Option Bytes) : BlockRead :=
  match get 0 with
  | none => .error (.notFound, 0)
  | some b =>
    if blockOk 0 (some (tagOf (b.drop 16))) b then
      let n := blocksFor (pkgTotal (b.drop 16))
      readBlocks get n n 0 []
    else .error (.integrity, 0)

/-- Every block but the last holds 65,520 data bytes (R337). A package that breaks this carries no stream of its header's format: the
check is made with step 2 of R338 (log entry 138). -/
def fullBlocks (get : Nat → Option Bytes) (n : Nat) : Bool :=
  (List.range (n - 1)).all fun k => ((get k).map (·.length)) == some (16 + blockData)

/-- The blocks of one value that holds them back to back (R341), each with the rest behind it. -/
def cutBlocks : Nat → Bytes → List Bytes
  | 0, _ => []
  | fuel + 1, v => if v.isEmpty then [] else v.take (16 + fld v 8 4) :: cutBlocks fuel (v.drop (16 + fld v 8 4))

/-- The package a stream holds (Table 13.3). -/
def packageOf (st : Bytes) : Package where
  id := fld st 8 8
  major := u8 st 16
  minor := u8 st 17
  patch := u8 st 18
  rollback := u8 st 19
  settings := fld st 20 2
  stream := st

/-- The image a stream installs. -/
def imageOf (st : Bytes) : Image where
  major := u8 st 16
  minor := u8 st 17
  patch := u8 st 18
  rollback := u8 st 19
  settings := fld st 20 2
  migrates := fld st 22 2
  valid := true

/-- The stream holds a LOADER part. -/
def hasLoader (st : Bytes) : Bool := (partsOf st).any fun p => p.typ == 1

end Sys2Proof.Machine
end

