-- ==== Sys2Proof/Machine/Update.lean ====
section
/-! DEFINITION. Updating the firmware (R339 to R354): the UPDATE commands, the steps from staging to activation, fallback,
settings regions, and the Recovery download over SPI and UDP port 47812. -/

namespace Sys2Proof.Machine

open Sys2Proof

/-! ## The update state (R340) -/

/-- The update state changes, with its Coda entry; `trigger` is the trigger of an image fallback. -/
def State.setUpd (s : State) (v : UpdState) (trigger : Option Nat := none) : State :=
  if s.store.upd = v then s
  else (s.modStore fun t => { t with upd := v }).report 0x0A02 3 (be 1 s.store.upd.num ++ be 1 v.num) trigger

/-- As at a start-up: the state found there is also the durable one. -/
def State.alsoDurable (s : State) (f : Store → Store) : State := { s.modStore f with durable := f s.durable }

/-- Release every held key (R181, R346, R347). -/
def State.releaseHold (s : State) : State := s.modStore fun t => { t with held := [] }

/-- The install is ready (R342). -/
def Nor.ready (n : Nor) : Bool := n.pendingReady && n.archiveReady && n.bootState == .armed

/-- A program or erase of the NOR (R332): while XIP is enabled it is refused with ARRAY_SELF, no effect and a Coda entry. Which
NOR opcode and address the refused command had is a free value (log entry 150). -/
def State.norWrite (s : State) (f : Nor → Nor) : State :=
  if s.nor.xip then
    let (v, s1) := s.draw 40
    (s1.modNor fun n => { n with lastStatus := Status.arraySelf.num }).report 0x0A01 10
      (be 1 (v / 2 ^ 32) ++ be 3 0 ++ be 4 (v % 2 ^ 32))
  else s.modNor f

/-! ## STATUS (R354) -/

/-- PHASE: of the Recovery download, idle outside Recovery. -/
def State.rdlPhase (s : State) : Nat := if s.power.mode = .recovery then s.nor.rdl.phase.num else 0

/-- A fuse burn of a durable CONFIRM is still to be made. -/
def State.fusePending (s : State) : Bool := decide (s.fuses.rollback < s.nor.confirmed)

/-- The result of UPDATE.STATUS. -/
def State.updateStatus (s : State) : Bytes :=
  let n := s.nor
  be 1 s.store.upd.num ++
  be 1 (b2n n.pendingReady + 2 * b2n n.archiveReady + 4 * b2n (n.bootState == .armed) + 8 * b2n s.fusePending +
    16 * b2n s.store.oldSettings.isSome) ++
  be 1 s.rdlPhase ++ be 1 0 ++
  be 1 n.running.major ++ be 1 n.running.minor ++ be 1 n.running.patch ++ be 1 n.running.rollback ++
  (match s.store.package with
    | some p => be 1 p.major ++ be 1 p.minor ++ be 1 p.patch ++ be 1 p.rollback
    | none => zeros 4) ++
  be 1 s.fuses.rollback ++ be 3 0 ++ be 8 ((s.store.package.map (·.id)).getD 0) ++ be 2 n.lastStatus ++
  be 2 s.store.settings.version ++ be 4 0

/-- UPDATE.STATUS. -/
def cmdUpdateStatus : CmdDef :=
  { CmdDef.base 0x0A01 .immediate .rt (· == 0) (fun _ s => okay s s.updateStatus) with inRecovery := true }

/-! ## STAGE (R341) -/

/-- The leading checks of STAGE's arguments: SOURCE and KEY_LENGTH. -/
def stagePre (b : Bytes) : Option Status :=
  let k := u8 b 2
  if u8 b 0 < 1 ∨ 2 < u8 b 0 ∨ k = 0 ∨ (if u8 b 0 = 2 then 238 else 240) < k ∨ b.length ≠ 4 + k then some .range else none

/-- The key of block `k` of a BLOCKS package. -/
def blockKey (pre : Bytes) (k : Nat) : Bytes := pre ++ be 2 k

/-- The entries that hold the package. -/
def stageKeys (n : Namespace) (source : Nat) (key : Bytes) : List KeyEnt :=
  if source = 1 then (n.find key).toList
  else match n.find (blockKey key 0) with
    | none => []
    | some e => (List.range (blocksFor (pkgTotal (e.value.drop 16)))).filterMap fun k => n.find (blockKey key k)

/-- Where STAGE reads its blocks. -/
def stageBlocks (n : Namespace) (source : Nat) (key : Bytes) : Nat → Option Bytes :=
  if source = 1 then
    match n.find key with
    | none => fun _ => none
    | some e => fun k => (cutBlocks (e.value.length / 16 + 1) e.value)[k]?
  else fun k => (n.find (blockKey key k)).map (·.value)

/-- The answer's fields: PACKAGE_ID, release and ROLLBACK of the header where one was read, and BLOCK. -/
def stageResult (st : Bytes) (block : Nat) : Bytes :=
  (if 20 ≤ st.length then sub st 8 8 ++ sub st 16 4 else zeros 12) ++ be 2 block ++ be 2 0

/-- The header bytes of block 0, when there are any. -/
def headerOf (get : Nat → Option Bytes) : Bytes := ((get 0).map fun b => b.drop 16).getD []

/-- UPDATE.STAGE at its sealed place. -/
def updateStage (c : SealedCmd) (s : State) : Res :=
  let b := c.cmd.args
  let source := u8 b 0
  let key := b.drop 4
  if s.store.upd ≠ .idle then refuse s .busy else
  match s.store.ns (u8 b 1) with
  | none => refuse s .notFound
  | some n =>
    if n.typ ≠ .staging then refuse s .range else
    let (s1, verdict) := if source = 1 then s.checkKey none c.adm .read n.id key else s.checkAll none c.adm .read n.id key
    match verdict.refusal with
    | some e => refuse s1 e
    | none =>
      let keys := stageKeys n source key
      if s.noRank || keys.any s.valueLost then refuse s1 .unitOffline else
      let get := stageBlocks n source key
      match readPackage get with
      | .error (st, k) => (s1, st, stageResult (headerOf get) k)
      | .ok stream =>
        let blocks := blocksFor (pkgTotal stream)
        let whole := fullBlocks get blocks && (source != 1 || keys.all fun e => e.value.length == stream.length + 16 * blocks)
        let verdict := if whole then checkStream s.fuses (some s.store.settings.version) stream else .range
        if verdict ≠ .ok then (s1, verdict, stageResult stream blocks)
        else
          let s2 := s1.modStore fun t =>
            { t with package := some (packageOf stream), held := keys.map fun e => (n.id, e.key) }
          okay ((s2.setUpd .staged).modNor fun x => { x with pending := none, pendingReady := false }) (stageResult stream blocks)

/-- UPDATE.STAGE: one read slice a measure. -/
def cmdUpdateStage : CmdDef :=
  { CmdDef.base 0x0A02 .sliced .sec (fun n => 5 ≤ n && n ≤ 244) updateStage with
    pre := fun _ => stagePre
    slices := fun c s => match s.store.ns (u8 c.cmd.args 1) with
      | some n => s.readSlices (valueBytes (stageKeys n (u8 c.cmd.args 0) (c.cmd.args.drop 4)))
      | none => 1
    touches := fun b _ => [if u8 b 0 = 1 then onKey (u8 b 1) (b.drop 4) else ⟨u8 b 1, .under (b.drop 4)⟩] }

/-! ## ACTIVATE, CONFIRM, ROLLBACK, DISCARD (R342, R346, R347) -/

/-- UPDATE.ACTIVATE at its sealed place: the archive is made anew. -/
def updateActivate (c : SealedCmd) (s : State) : Res :=
  if s.store.upd ≠ .staged then refuse s .notFound
  else
    let s1 := (s.modStore fun t => { t with resetWhenReady := bit (u8 c.cmd.args 0) 0 }).setUpd .armed
    okay (s1.modNor fun n => { n with archive := none, archiveReady := false }) []

/-- UPDATE.ACTIVATE. -/
def cmdUpdateActivate : CmdDef := .base 0x0A03 .sealedNow .sec (· == 4) updateActivate

/-- UPDATE.CONFIRM at its sealed place. -/
def updateConfirm (_ : SealedCmd) (s : State) : Res :=
  if s.store.upd ≠ .trial then refuse s .notFound
  else
    let i := s.nor.running
    okay ((s.releaseHold.modStore fun t => { t with package := none }).setUpd .idle)
      (be 1 i.major ++ be 1 i.minor ++ be 1 i.patch ++ be 1 i.rollback)

/-- UPDATE.CONFIRM. -/
def cmdUpdateConfirm : CmdDef := .base 0x0A04 .sealedNow .sec (· == 0) updateConfirm

/-- UPDATE.ROLLBACK at its sealed place. -/
def updateRollback (c : SealedCmd) (s : State) : Res :=
  if s.store.upd ≠ .trial ∨ s.nor.archive.isNone then refuse s .notFound
  else okay ((s.releaseHold.modStore fun t =>
    { t with resetOnRevert := bit (u8 c.cmd.args 0) 0, package := none }).setUpd .reverting) []

/-- UPDATE.ROLLBACK. -/
def cmdUpdateRollback : CmdDef := .base 0x0A05 .sealedNow .sec (· == 4) updateRollback

/-- UPDATE.DISCARD at its sealed place: ARMED leaves the boot record at once. -/
def updateDiscard (_ : SealedCmd) (s : State) : Res :=
  if s.store.upd ≠ .staged ∧ s.store.upd ≠ .armed then refuse s .notFound
  else
    let s1 := (s.releaseHold.modStore fun t => { t with package := none, resetWhenReady := false }).setUpd .idle
    okay (s1.norWrite fun n =>
      { n with bootState := .idle, pending := none, pendingReady := false, archive := none, archiveReady := false }) []

/-- UPDATE.DISCARD. -/
def cmdUpdateDiscard : CmdDef := .base 0x0A06 .sealedNow .mgmt (· == 0) updateDiscard

/-! ## Steps of an update (R341, R342, R346, R347) -/

/-- PENDING_REGION_WRITTEN (R341): the staged stream is in the pending region and compares with the staging copy. -/
def execPendingRegionWritten (s : State) : Out :=
  match s.store.package with
  | some p =>
    if s.inService ∧ (s.store.upd = .staged ∨ s.store.upd = .armed) ∧ !s.nor.pendingReady then
      .next (s.norWrite fun n => { n with pending := some p.stream, pendingReady := true })
    else .next s
  | none => .next s

/-- ARCHIVE_DURABLE (R342): the running image, the active loader slot and the settings version in force are in the firmware archive. -/
def execArchiveDurable (s : State) : Out :=
  if s.inService ∧ s.store.upd = .armed ∧ !s.nor.archiveReady then
    .next (s.modNor fun n => { n with archive := some (n.running, n.activeSlot, s.store.settings.version), archiveReady := true })
  else .next s

/-- BOOT_RECORD_ARMED_WRITE (R342): only once ACTIVATE's measure is durable, and not after a DISCARD. -/
def execBootRecordArmedWrite (s : State) : Out :=
  if s.inService ∧ s.store.upd = .armed ∧ s.durable.upd = .armed ∧ s.durable.package = s.store.package then
    .next (s.norWrite fun n => { n with bootState := .armed })
  else .next s

/-- A planned reset as if DEVICE.RESET with TARGET 0 had been admitted in the measure that opens next (R342). -/
def State.planReset (s : State) : State :=
  s.modPower fun p => { p with plan := p.plan.or (some ⟨s.tb.measure + 1, false⟩) }

/-- INSTALL_READY (R342): with RESET_WHEN_READY set, the drive resets. -/
def execInstallReady (s : State) : Out :=
  if s.inService ∧ s.nor.ready ∧ s.store.upd = .armed ∧ s.store.resetWhenReady then .next s.planReset else .next s

/-- BOOT_RECORD_REVERTING_WRITE (R347): once ROLLBACK is durable; with RESET set, the drive resets. -/
def execBootRecordRevertingWrite (s : State) : Out :=
  if s.inService ∧ s.store.upd = .reverting ∧ s.durable.upd = .reverting ∧ s.nor.bootState = .trial then
    let s1 := s.norWrite fun n => { n with bootState := .reverting }
    .next (if s.store.resetOnRevert && s1.nor.bootState == .reverting then s1.planReset else s1)
  else .next s

/-- A CONFIRM is durable (R346): the boot record records it, the archive and the old settings are released, the pending
region is erased. -/
def State.confirmDurable (s : State) : State :=
  if s.durable.upd = .idle ∧ s.store.upd = .idle ∧ s.nor.bootState = .trial then
    if s.nor.xip then s.norWrite id else
    let s1 := s.modNor fun n =>
      { n with
        bootState := .idle, confirmed := n.running.rollback, archive := none, archiveReady := false, pending := none
        pendingReady := false }
    { s1.alsoDurable (fun t => { t with oldSettings := none }) with
      snaps := s1.snaps.map fun p => { p with store := { p.store with oldSettings := none } } }
  else s

/-- Burn the anti-rollback fuses up to the confirmed value (R339); 64 bits. -/
def State.burnRollback (s : State) : State :=
  { s with fuses := { s.fuses with rollback := max s.fuses.rollback (min 64 s.nor.confirmed) } }

/-- ROLLBACK_FUSE_BURN (R339). -/
def execRollbackFuseBurn (s : State) : Out :=
  if s.inService then .next s.confirmDurable.burnRollback else .next s

/-- The fuses of a durable PROVISION (R402); a fused key or hash stays. -/
def Fuses.burn (f : Fuses) (p : Bool × Bool × Bytes × Bytes) : Fuses :=
  { f with
    provisioned := true
    debugLocked := f.debugLocked || p.2.1
    oemKey := f.oemKey || p.1
    oemHash := if p.1 && !f.oemKey then p.2.2.1 else f.oemHash
    oemFwKey := if p.1 && !f.oemKey then p.2.2.2 else f.oemFwKey }

/-- Burn the provisioning fuses once PROVISION is durable (R402). -/
def State.burnProvision (s : State) : State :=
  match s.durable.provision with
  | none => s
  | some p => if s.fuses.provisioned then s else { s with fuses := s.fuses.burn p }

/-- PROVISION_FUSE_BURN (R402): then the command's response may leave. -/
def execProvisionFuseBurn (s : State) : Out := if s.inService then .next s.burnProvision.placeDue else .next s

/-! ## Settings regions (R348, R349) -/

/-- The newest valid settings region: the one with the higher SEQUENCE. -/
def Nor.newest (n : Nor) : Option Region :=
  match n.regionA, n.regionB with
  | some a, some b => if a.sequence < b.sequence then some b else some a
  | some a, none => some a
  | none, r => r

/-- Write settings to the older region with the next SEQUENCE. -/
def Nor.writeRegion (n : Nor) (t : Settings) : Nor :=
  let r : Region := { version := t.version, sequence := ((n.newest.map (·.sequence)).getD 0) + 1, content := t }
  match n.regionA, n.regionB with
  | none, _ => { n with regionA := some r }
  | some _, none => { n with regionB := some r }
  | some a, some b => if a.sequence < b.sequence then { n with regionA := some r } else { n with regionB := some r }

/-- During a trial that keeps the old format, changes are appended to the region of the new format alone (R349). -/
def Nor.appendRegion (n : Nor) (t : Settings) : Nor :=
  let up := fun (r : Region) => if r.version = t.version then { r with content := t } else r
  { n with regionA := n.regionA.map up, regionB := n.regionB.map up }

/-- SETTINGS_MIRROR_WRITE (R348): durable settings go to a region within 1 s. -/
def execSettingsMirrorWrite (s : State) : Out :=
  let t := s.durable.settings
  if !s.inService || (s.nor.newest.map (·.content)) == some t then .next s
  else .next (s.norWrite fun n => if s.durable.oldSettings.isSome then n.appendRegion t else n.writeRegion t)

/-- At its first start with older settings the image migrates them, in namespace 0 and into the other region, before the first
measure opens; the old ones are kept until CONFIRM (R348). The values carry over. -/
def State.migrate (s : State) : State :=
  let i := s.nor.running
  let v := s.store.settings.version
  if i.migrates ≤ v ∧ v < i.settings then
    let old := s.store.settings
    let s1 := s.alsoDurable fun t => { t with settings := { t.settings with version := i.settings }, oldSettings := some old }
    s1.modNor fun n => n.writeRegion s1.store.settings
  else s

/-! ## Install and fallback (R343, R347, R350) -/

/-- The new image is in force (R343): one boot record write names TRIAL and the loader slot. -/
def State.activate (s : State) (stream : Bytes) : State :=
  let s1 := s.modNor fun n =>
    { n with
      running := imageOf stream
      activeSlot := if hasLoader stream then 1 - n.activeSlot else n.activeSlot
      slotOk := if hasLoader stream then n.slotOk.set (1 - n.activeSlot) true else n.slotOk
      slotRollback := if hasLoader stream then n.slotRollback.set (1 - n.activeSlot) (u8 stream 19) else n.slotRollback
      bootState := .trial
      installing := false
      xip := false }
  (s1.setUpd .trial).alsoDurable fun t => { t with upd := .trial, resetWhenReady := false }

/-- LOADER_INSTALL (R343, R344): in a Start-up whose reset began while the install was ready, the loader checks the pending
stream again and installs it. When the check fails the manual names no effect: the running image stays and starts. -/
def execLoaderInstall (s : State) : Out :=
  if s.power.mode ≠ .startup ∨ s.power.inReset ∨ s.power.held ∨ !s.nor.installing then .next s else
  let stop := fun (t : State) =>
    (t.modNor fun n => { n with installing := false, xip := false }).modPower fun p => { p with loaded := true, starting := true }
  match s.nor.pending with
  | none => .next (stop s)
  | some stream =>
    if checkStream s.fuses (some s.store.settings.version) stream = .ok then
      .next ((s.activate stream).modPower fun p => { p with loaded := true, starting := true })
    else .next (stop s)

/-- The archived image returns (R347, R350): the update state is IDLE, the old settings come back into force, IMAGE_FALLBACK
is set. -/
def State.restoreArchive (s : State) : State :=
  match s.nor.archive with
  | none => s
  | some (image, slot, _) =>
    let s1 := s.modNor fun n =>
      { n with
        running := image, activeSlot := slot, archive := none, archiveReady := false, pending := none
        pendingReady := false, bootState := .idle, installing := false }
    let s2 := (s1.releaseHold.setUpd .idle (some 9)).alsoDurable fun t =>
      { t with
        upd := .idle, held := [], package := none, resetWhenReady := false, resetOnRevert := false
        settings := t.oldSettings.getD t.settings, oldSettings := none }
    s2.modPower fun p => { p with flags := p.flags ||| 0x10#32, afterFallback := true }

/-! ## Recovery download (R351 to R353) -/

/-- A download runs. -/
def Rdl.running (r : Rdl) : Bool :=
  match r.phase with
  | .receiving | .verifying | .installing => true
  | .idle | .done | .failed => false

/-- BEGIN on a path (R351): BUSY while the other path's download runs; else the partial download is discarded. -/
def rdlBeginOp (eth : Bool) (session : Nat) (src : Option Source) (s : State) : Res :=
  if s.nor.rdl.running ∧ s.nor.rdl.eth ≠ eth then refuse s .busy
  else okay (s.modNor fun n =>
    { n with pending := none, pendingReady := false, rdl := { Rdl.reset with phase := .receiving, eth, session, src } }) []

/-- A block with one more chunk; a chunk sent again replaces the first. -/
def addChunk (off : Nat) (data : Bytes) (l : List (Nat × Bytes)) : List (Nat × Bytes) := insertKey off data l

/-- The bytes a block's chunks hold without a gap from its start. -/
def chunksJoined (l : List (Nat × Bytes)) : Bytes :=
  l.foldl (fun acc p => if p.1 ≤ acc.length then acc.take p.1 ++ p.2 else acc) []

/-- The whole block, once its chunks cover header and data. -/
def wholeBlock (l : List (Nat × Bytes)) : Option Bytes :=
  let b := chunksJoined l
  if 16 ≤ b.length ∧ 16 + fld b 8 4 ≤ b.length then some (b.take (16 + fld b 8 4)) else none

/-- RDL_DATA's response body: BLOCK_STATE and BLOCKS_STORED. -/
def rdlBody (state stored : Nat) : Bytes := be 1 state ++ be 1 0 ++ be 2 stored

/-- PACKAGE_TAG, once block 0 is stored. -/
def Rdl.tag (r : Rdl) : Option Bytes := (getKey 0 r.stored).map tagOf

/-- DATA (R351): one chunk of a block. -/
def rdlDataOp (index off : Nat) (data : Bytes) (s : State) : Res :=
  let r := s.nor.rdl
  if r.phase ≠ .receiving then refuse s .busy
  else if (getKey index r.stored).isSome then okay s (rdlBody 1 r.stored.length)
  else if (getKey index r.assembling).isNone ∧ 8 ≤ r.assembling.length then refuse s .busy
  else
    let chunks := addChunk off data ((getKey index r.assembling).getD [])
    match wholeBlock chunks with
    | none =>
      okay (s.modNor fun n => { n with rdl := { r with assembling := insertKey index chunks r.assembling } })
        (rdlBody 0 r.stored.length)
    | some b =>
      let rest := dropKey index r.assembling
      if blockOk index r.tag b then
        let stored := insertKey index (b.drop 16) r.stored
        okay (s.modNor fun n => { n with rdl := { r with assembling := rest, stored } }) (rdlBody 1 stored.length)
      else okay (s.modNor fun n => { n with rdl := { r with assembling := rest } }) (rdlBody 2 r.stored.length)

/-- END (R351): the boot ROM verifies, then installs. -/
def rdlEndOp (s : State) : Res :=
  okay (s.modNor fun n => { n with rdl := { n.rdl with phase := if n.rdl.phase = .receiving then .verifying else n.rdl.phase } }) []

/-- The stream of the stored blocks, in order of index. -/
def Rdl.stream (r : Rdl) : Bytes := r.stored.flatMap fun p => p.2

/-- RECOVERY_INSTALL_COMPLETE (R351): the checks of R338 from step 2; when they pass, the install with no archive, TRIAL, and a
reset of code 7; otherwise the failure is reported. -/
def execRecoveryInstallComplete (s : State) : Out :=
  let r := s.nor.rdl
  if s.power.mode ≠ .recovery ∨ s.power.inReset ∨ (r.phase ≠ .verifying ∧ r.phase ≠ .installing) then .next s else
  let ordered := (r.stored.map (·.1)) == List.range r.stored.length
  let full := fullBlocks (fun k => (getKey k r.stored).map (zeros 16 ++ ·)) r.stored.length
  let verdict := if ordered && full then checkStream s.fuses (s.nor.newest.map (·.version)) r.stream else .range
  if verdict ≠ .ok then
    .next (s.modNor fun n => { n with rdl := { n.rdl with phase := .failed, result := verdict } })
  else
    let s1 := (s.modNor fun n => { n with pending := some r.stream, archive := none, archiveReady := false }).activate r.stream
    let s2 := s1.alsoDurable fun t => { t with package := some (packageOf r.stream) }
    .next ((s2.modNor fun n => { n with rdl := { n.rdl with phase := .done } }).controllerReset .recoveryDone)

/-! ### Over SPI (R353) -/

/-- The download opened over SPI runs; DATA and END answer NOT_FOUND without one, BUSY while the other path's runs. -/
def spiDownload (s : State) (f : Res) : Res :=
  if !s.nor.rdl.running then refuse s .notFound else if s.nor.rdl.eth then refuse s .busy else f

/-- A command valid in Recovery only. -/
def CmdDef.recoveryOnly (d : CmdDef) : CmdDef := { d with inService := false, inRecovery := true }

/-- UPDATE.RDL_BEGIN. -/
def cmdUpdateRdlBegin : CmdDef :=
  (CmdDef.base 0x0A07 .immediate .sec (· == 0) fun _ s => rdlBeginOp false 0 none s).recoveryOnly

/-- UPDATE.RDL_DATA. -/
def cmdUpdateRdlData : CmdDef :=
  (CmdDef.base 0x0A08 .immediate .sec (fun n => 13 ≤ n && n ≤ 268) fun c s =>
    let b := c.cmd.args
    if !s.nor.rdl.running then refuse s .notFound
    else if fld b 4 4 % 256 ≠ 0 ∨ fld b 8 2 = 0 ∨ 256 < fld b 8 2 ∨ b.length ≠ 12 + fld b 8 2 ∨ 65536 < fld b 4 4 + fld b 8 2 then
      refuse s .range
    else spiDownload s (rdlDataOp (fld b 0 2) (fld b 4 4) (b.drop 12) s)).recoveryOnly

/-- UPDATE.RDL_END. -/
def cmdUpdateRdlEnd : CmdDef :=
  (CmdDef.base 0x0A09 .immediate .sec (· == 0) fun _ s => spiDownload s (rdlEndOp s)).recoveryOnly

/-! ### Over UDP port 47812 (R352, Table 13.9) -/

/-- The response to a download datagram (R352). -/
def rdlResponse (r : Request) (st : Status) (body : Bytes) : Bytes :=
  skpHeader (r.op ||| 0x80) 0 0 0 r.session 0 r.seq 0 st.num 0 body.length 0 0 ++ body

/-- The management VLAN of the newest valid region, untagged without one (Table 6.8). -/
def State.recoveryVid (s : State) : Nat := (s.nor.newest.map fun r => r.content.ports[0].set.mgmtVid).getD 0

/-- A datagram to UDP port 47812 is served (R317, Table 6.8): in Recovery, on port 0, on the management VLAN, with MAGIC,
VERSION and a whole header. -/
def State.servesRdl (s : State) (src : Source) (p : Bytes) : Bool :=
  s.power.mode == .recovery && !s.power.inReset && src.port == 0 && src.vid == s.recoveryVid && decide (40 ≤ p.length) &&
  sub p 0 3 == [0x53, 0x4B, 0x03]

/-- A session or source other than the one bound by BEGIN. -/
def State.rdlStranger (s : State) (r : Request) : Bool :=
  s.nor.rdl.running && s.nor.rdl.eth &&
  (s.nor.rdl.session != r.session || (s.nor.rdl.src.map fun x => (x.ip, x.udp)) != some (r.src.ip, r.src.udp))

/-- SESSION is a transfer id. -/
def transferId (v : Nat) : Bool := decide (1 ≤ v ∧ v ≤ 0xFFEF)

/-- Serve one download datagram: `f` answers it, and the response goes to its source. -/
def serveRdl (src : Source) (p : Bytes) (s : State) (f : Request → Res) : State :=
  if s.servesRdl src p then
    let r := parseRequest src p
    let x := f r
    x.1.sendTo src false none none (rdlResponse r x.2.1 x.2.2)
  else s

/-- RDL_BEGIN over UDP. -/
def udpBegin (s : State) (r : Request) : Res :=
  if s.rdlStranger r then refuse s .denied
  else if !transferId r.session ∨ !r.body.isEmpty then refuse s .range
  else rdlBeginOp true r.session (some r.src) s

/-- DATA and END over UDP: DENIED, NOT_FOUND, RANGE, then BUSY (R352). -/
def udpRunning (s : State) (r : Request) (ok : Bool) (f : Res) : Res :=
  if s.rdlStranger r then refuse s .denied
  else if !s.nor.rdl.running then refuse s .notFound
  else if !ok then refuse s .range
  else if !s.nor.rdl.eth then refuse s .busy
  else f

/-- RDL_DATA's fields keep Table 13.9. -/
def rdlDataOk (r : Request) : Bool :=
  transferId r.session && r.offset % 1024 == 0 && decide (1 ≤ r.length ∧ r.length ≤ 1024) &&
  decide (r.body.length = r.length) && decide (r.offset + r.length ≤ 65536)

/-- RDL_STATUS's body (Table 13.9). -/
def rdlStatusBody (r : Rdl) : Bytes :=
  be 1 r.phase.num ++ be 1 0 ++ be 2 r.result.num ++ be 2 r.stored.length ++
  be 2 (match getKey 0 r.stored with
    | none => 0
    | some st => blocksFor (pkgTotal st))

/-- RDL_DATA over UDP. -/
def udpData (s : State) (r : Request) : Res := udpRunning s r (rdlDataOk r) (rdlDataOp r.segment r.offset r.body s)

/-- RDL_END over UDP. -/
def udpEnd (s : State) (r : Request) : Res := udpRunning s r (transferId r.session && r.body.isEmpty) (rdlEndOp s)

/-- RDL_STATUS over UDP. -/
def udpStatus (s : State) (r : Request) : Res :=
  if s.rdlStranger r then refuse s .denied
  else if !transferId r.session ∨ !r.body.isEmpty then refuse s .range
  else okay s (rdlStatusBody s.nor.rdl)

/-- A download datagram by its opcode; any other opcode is a field that Table 13.9 does not allow. -/
def udpAny (s : State) (r : Request) : Res :=
  match r.op with
  | 0x30 => udpBegin s r
  | 0x31 => udpData s r
  | 0x32 => udpEnd s r
  | 0x33 => udpStatus s r
  | _ => refuse s .range

/-- RDL_BEGIN (R352). -/
def execRdlBegin (src : Source) (p : Bytes) (s : State) : Out := .next (serveRdl src p s (udpBegin s))

/-- RDL_DATA (R352). -/
def execRdlData (src : Source) (p : Bytes) (s : State) : Out := .next (serveRdl src p s (udpData s))

/-- RDL_END (R352). -/
def execRdlEnd (src : Source) (p : Bytes) (s : State) : Out := .next (serveRdl src p s (udpEnd s))

/-- RDL_STATUS (R352). -/
def execRdlStatus (src : Source) (p : Bytes) (s : State) : Out := .next (serveRdl src p s (udpStatus s))

/-! ## Meanings of the commands -/

/-- UPDATE.STATUS (R354). -/
def execUpdateStatus (c : Cmd) (s : State) : Out := .next (cmdUpdateStatus.run c s)
/-- UPDATE.STAGE (R341). -/
def execUpdateStage (c : Cmd) (s : State) : Out := .next (cmdUpdateStage.run c s)
/-- UPDATE.ACTIVATE (R342). -/
def execUpdateActivate (c : Cmd) (s : State) : Out := .next (cmdUpdateActivate.run c s)
/-- UPDATE.CONFIRM (R346). -/
def execUpdateConfirm (c : Cmd) (s : State) : Out := .next (cmdUpdateConfirm.run c s)
/-- UPDATE.ROLLBACK (R347). -/
def execUpdateRollback (c : Cmd) (s : State) : Out := .next (cmdUpdateRollback.run c s)
/-- UPDATE.DISCARD (R347). -/
def execUpdateDiscard (c : Cmd) (s : State) : Out := .next (cmdUpdateDiscard.run c s)
/-- UPDATE.RDL_BEGIN (R351). -/
def execUpdateRdlBegin (c : Cmd) (s : State) : Out := .next (cmdUpdateRdlBegin.run c s)
/-- UPDATE.RDL_DATA (R353). -/
def execUpdateRdlData (c : Cmd) (s : State) : Out := .next (cmdUpdateRdlData.run c s)
/-- UPDATE.RDL_END (R351). -/
def execUpdateRdlEnd (c : Cmd) (s : State) : Out := .next (cmdUpdateRdlEnd.run c s)

end Sys2Proof.Machine
end

