-- ==== Sys2Proof/Machine/Security.lean ====
section
/-! DEFINITION. The SECURITY commands (Table 15.14; R76, R89, R399 to R402). -/

namespace Sys2Proof.Machine

open Sys2Proof

/-- SECURITY.MRS_UNLOCK: the secured blocks are open to SPI from its grant (R399). -/
def cmdSecurityMrsUnlock : CmdDef := .base 0x0C01 .immediate .sec (· == 0) fun _ s =>
  okay (s.modSpi fun p => { p with unlocked := true }) []

/-- SECURITY.MRS_LOCK: closed from its grant (R399). -/
def cmdSecurityMrsLock : CmdDef := .base 0x0C02 .immediate .rt (· == 0) fun _ s =>
  okay (s.modSpi fun p => { p with unlocked := false }) []

/-- SECURITY.SET_MAILBOX_OWNER at its sealed place (R400). -/
def setMailboxOwner (c : SealedCmd) (s : State) : Res :=
  let m := u8 c.cmd.args 0
  match Owner.ofNum (u8 c.cmd.args 1), (List.finRange 8).find? fun k => k.val == m with
  | some o, some k =>
    okay (s.modSettings fun t => { t with owners := t.owners.set k o })
      (be 1 (s.store.settings.owners[k]).num ++ be 3 0)
  | _, _ => refuse s .range

/-- SECURITY.SET_MAILBOX_OWNER. -/
def cmdSecuritySetMailboxOwner : CmdDef :=
  { CmdDef.base 0x0C03 .sealedNow .sec (· == 4) setMailboxOwner with
    pre := fun _ b => if u8 b 0 = 0 ∨ 7 < u8 b 0 ∨ 2 < u8 b 1 then some .range else none }

/-- SECURITY.LEDGER_KEY: the public key and its certificate; NOT_FOUND before provisioning (R401). -/
def cmdSecurityLedgerKey : CmdDef := .base 0x0C04 .immediate .rt (· == 0) fun _ s =>
  match s.store.ledgerKey with
  | none => refuse s .notFound
  | some k =>
    let cert := (Config.ledgerCertificate k).take 428
    okay s (ecdsaPublic (ledgerPrivate k) ++ be 2 cert.length ++ be 2 0 ++ cert)

/-- SECURITY.PROVISION at its sealed place (R402). The generated ledger key is a free value. -/
def provision (c : SealedCmd) (s : State) : Res :=
  let b := c.cmd.args
  let oem := bit (u8 b 0) 0
  let key := Config.gcmOpen Config.fleetKey (sub b 52 12) [] (sub b 64 32) (sub b 96 16)
  if s.fuses.provisioned ∨ s.store.provision.isSome then refuse s .sealed
  else if oem ∧ key.isNone then refuse s .integrity
  else
    let s1 := s.modStore fun t =>
      { t with ledgerKey := some s.store.draws, provision := some (oem, bit (u8 b 0) 1, sub b 4 48, padTo 32 (key.getD [])) }
    okay s1.drawn []

/-- SECURITY.PROVISION. -/
def cmdSecurityProvision : CmdDef := .base 0x0C05 .sealedNow .sec (· == 112) provision

/-- SECURITY.STATUS (R401). -/
def cmdSecurityStatus : CmdDef := .base 0x0C06 .immediate .rt (· == 0) fun _ s =>
  okay s (be 1 s.fuses.bits ++ be 1 (b2n (s.spi.unlocked || !s.fuses.provisioned)) ++ be 2 0 ++
    ((List.finRange 8).flatMap fun m => be 1 (s.ownerOf m).num) ++ be 1 s.fuses.rollback ++ be 3 0)

/-! ## Meanings -/

/-- SECURITY.MRS_UNLOCK (R399). -/
def execSecurityMrsUnlock (c : Cmd) (s : State) : Out := .next (cmdSecurityMrsUnlock.run c s)
/-- SECURITY.MRS_LOCK (R399). -/
def execSecurityMrsLock (c : Cmd) (s : State) : Out := .next (cmdSecurityMrsLock.run c s)
/-- SECURITY.SET_MAILBOX_OWNER (R400). -/
def execSecuritySetMailboxOwner (c : Cmd) (s : State) : Out := .next (cmdSecuritySetMailboxOwner.run c s)
/-- SECURITY.LEDGER_KEY (R401). -/
def execSecurityLedgerKey (c : Cmd) (s : State) : Out := .next (cmdSecurityLedgerKey.run c s)
/-- SECURITY.PROVISION (R402). -/
def execSecurityProvision (c : Cmd) (s : State) : Out := .next (cmdSecurityProvision.run c s)
/-- SECURITY.STATUS (R401). -/
def execSecurityStatus (c : Cmd) (s : State) : Out := .next (cmdSecurityStatus.run c s)

end Sys2Proof.Machine
end

