-- ==== Sys2Proof/Machine/CommandTable.lean ====
section
/-! DEFINITION. The commands of firmware line 3 by opcode (R368, chapter 15), for what fetches or executes a command that its
envelope names. -/

namespace Sys2Proof.Machine

open Sys2Proof

/-- DEVICE, TIME and UNIT. -/
def commandsDevice : List CmdDef :=
  [cmdDeviceIdentify, cmdDeviceEcho, cmdDeviceStartupStatus, cmdDeviceEnterCustody, cmdDeviceSetThermal,
   cmdDeviceReset, cmdDevicePowerStatus, cmdTimeStatus, cmdTimeSetLength, cmdTimeSealLog, cmdUnitQuery,
   cmdUnitSetState, cmdUnitList]

/-- NAMESPACE. -/
def commandsNamespaces : List CmdDef :=
  [cmdNamespaceCreate, cmdNamespaceDelete, cmdNamespaceSetQuota, cmdNamespaceInfo, cmdNamespaceList,
   cmdNamespaceDigest, cmdNamespaceLedgerHead, cmdNamespaceLedgerTrim, cmdNamespaceSetRetention,
   cmdNamespaceLedgerExport, cmdNamespaceValueDigest]

/-- SEARCH. -/
def commandsLarkspur : List CmdDef :=
  [cmdSearchEntryWrite, cmdSearchEntryDelete, cmdSearchSetTables, cmdSearchPatternLoad,
   cmdSearchPatternUnload, cmdSearchCascadeSet, cmdSearchCascadeSwitch, cmdSearchProbe, cmdSearchStats]

/-- NET. -/
def commandsNet : List CmdDef :=
  [cmdNetSetPort, cmdNetSetFilter, cmdNetSetAddress, cmdNetSetMgmtPeers, cmdNetSetHeartbeat,
   cmdNetMacsecPolicy, cmdNetMacsecInstallSa, cmdNetMacsecRemoveSa, cmdNetPhyReset, cmdNetMdioWrite,
   cmdNetMdioRead, cmdNetTxFlush, cmdNetPortStatus, cmdNetCounters]

/-- MEDIA. -/
def commandsMedia : List CmdDef :=
  [cmdMediaFormat, cmdMediaSetReadPolicy, cmdMediaSetWarn, cmdMediaAckWarnings, cmdMediaHealth,
   cmdMediaLunHealth]

/-- CHORUS. -/
def commandsChorus : List CmdDef :=
  [cmdChorusForm, cmdChorusLeave, cmdChorusStatus, cmdChorusCheckpoint, cmdChorusCheckpointEnd,
   cmdChorusRestoreEnd, cmdChorusNsCommand, cmdChorusPark, cmdChorusResume]

/-- EVENT. -/
def commandsEvents : List CmdDef :=
  [cmdEventConfigure, cmdEventSetOwner, cmdEventLock, cmdEventEvioConfig, cmdEventSetParams,
   cmdEventTrigger, cmdEventQuery, cmdEventClear]

/-- UPDATE. -/
def commandsUpdate : List CmdDef :=
  [cmdUpdateStatus, cmdUpdateStage, cmdUpdateActivate, cmdUpdateConfirm, cmdUpdateRollback,
   cmdUpdateDiscard, cmdUpdateRdlBegin, cmdUpdateRdlData, cmdUpdateRdlEnd]

/-- CODA. -/
def commandsCoda : List CmdDef :=
  [cmdCodaRead, cmdCodaList, cmdCodaFreeze, cmdCodaSetTriggers, cmdCodaKeep]

/-- SECURITY. -/
def commandsSecurity : List CmdDef :=
  [cmdSecurityMrsUnlock, cmdSecurityMrsLock, cmdSecuritySetMailboxOwner, cmdSecurityLedgerKey,
   cmdSecurityProvision, cmdSecurityStatus]

/-- Every command of firmware line 3. -/
def commands : List CmdDef :=
  commandsDevice ++ commandsNamespaces ++ commandsLarkspur ++ commandsNet ++ commandsMedia ++
  commandsChorus ++ commandsEvents ++ commandsUpdate ++ commandsCoda ++ commandsSecurity

/-- The command with an opcode (R87 step 2, R368). -/
def commandOf (opcode : Nat) : Option CmdDef := commands.find? fun d => d.opcode == opcode

end Sys2Proof.Machine
end

