-- ==== Sys2Proof/Machine/Mailboxes.lean ====
section
/-! DEFINITION. The mailboxes as Cantor and the Ethernet path see them: the fetch, management messages, time-outs
(R82 to R92, R369, R374). -/

namespace Sys2Proof.Machine

open Sys2Proof

/-! ## Fetch (R83, R86 to R88) -/

/-- The mailbox that Cantor fetches next: the lowest one that is POSTED; in Recovery mailbox 0 only, over SPI only (R89). -/
def State.nextPosted (s : State) : Option (Fin 8) :=
  (List.finRange 8).find? fun m => (s.mb m).state == .posted && (s.power.mode != .recovery || (m == 0 && !(s.mb m).eth))

/-- The command in a request buffer. -/
def Mailbox.command (b : Mailbox) (m : Fin 8) : Cmd :=
  { mailbox := m, sequence := fld b.request 4 4, args := sub b.request 16 (fld b.request 8 2) }

/-- The envelope fails step 1 of R87: LENGTH is above 496, or MAILBOX bits 2:0 name another mailbox. -/
def Mailbox.misfit (b : Mailbox) (m : Fin 8) : Bool := decide (496 < fld b.request 8 2) || u8 b.request 2 % 8 != m

/-- The grant of the command in mailbox `m`. -/
def State.fetch (s : State) (m : Fin 8) : State :=
  let b := s.mb m
  let c := b.command m
  if b.repeats c.sequence then s.redeliver m
  else
    let op := fld b.request 0 2
    let s1 := s.modMbx m fun x => x.grant c.sequence
    if b.misfit m then s1.answerCmd c op .range []
    else match commandOf op with
      | none => s1.answerCmd c op .range []
      | some d => d.granted c s1

/-- MAILBOX_FETCH (R83): one fetch, in Service or Recovery. -/
def execMailboxFetch (s : State) : Out :=
  if s.fetches then
    match s.nextPosted with
    | none => .next s
    | some m => .next (s.fetch m)
  else .next s

/-! ## Time-outs -/

/-- MAILBOX_LOADING_TIMEOUT (Table 4.6): 1,000 ms in LOADING. -/
def execMailboxLoadingTimeout (m : Fin 8) (s : State) : Out :=
  if (s.mb m).state = .loading then
    .next (s.modMbx m fun b => { b with state := .idle, eth := false, abandoned := true })
  else .next s

/-- The mailbox's command still waits for an admission slot (R39). -/
def State.waitsForSlot (s : State) (m : Fin 8) : Bool :=
  s.seq.waiting.any fun i => match i with
    | .skp _ => false
    | .cmd c => c.cmd.mailbox == m

/-- COMMAND_TIMEOUT (R84): a command granted 2 s ago without a response is an internal fatal error, with a CMD_TIMEOUT entry.
Time in which it waits for an admission slot does not count. The core that FATAL names is open (log entry 2). -/
def execCommandTimeout (m : Fin 8) (s : State) : Out :=
  let b := s.mb m
  if b.state = .running ∧ !s.waitsForSlot m then
    let (core, s1) := s.draw 2
    .next (s1.fatal 2 core (some (0x0402, 3, be 1 m ++ be 1 0 ++ be 2 (fld b.request 0 2) ++ be 4 (fld b.request 4 4))))
  else .next s

/-! ## Management messages (R90 to R92) -/

/-- The header of a management message (R90), with an envelope. The UDP payload is header, envelope and LENGTH bytes of arguments
and no more: any other is discarded (log entry 130). -/
def mgmtForm (p : Bytes) : Bool :=
  decide (56 ≤ p.length) && decide (p.length ≤ 552) && sub p 0 4 == [0x53, 0x4B, 0x03, 0x20] &&
  u8 p 6 == 0 && u8 p 7 == 0 && fld p 8 2 == 0 && fld p 12 4 == 0 && fld p 16 6 == 0 && fld p 24 8 == 0 && fld p 36 2 == 0 &&
  fld p 32 4 == 16 + fld p 48 2 && p.length == 56 + fld p 48 2

/-- The drive accepts the message: header, management VLAN, and the peer list (R90). -/
def State.mgmtAccepts (s : State) (src : Source) (p : Bytes) : Bool :=
  mgmtForm p && src.vid == (s.net src.port).set.mgmtVid &&
  (s.store.settings.peers.isEmpty || s.store.settings.peers.contains src.ip)

/-- An answer made without running a command. -/
def State.mgmtAnswer (s : State) (src : Source) (e : Bytes) (st : Status) : State :=
  s.sendTo src false none none
    (mgmtResponse st.num (responseEnvelope (fld e 0 2) (u8 e 2 % 8) (bit (u8 e 3) 1) (fld e 4 4) st.num 0 []))

/-- A command's message reaches its mailbox (R82, R88, R92): an IDLE one is claimed and POSTED, a duplicate of a command that
is POSTED or RUNNING is discarded, anything else is answered BUSY. -/
def State.mgmtPost (s : State) (src : Source) (m : Fin 8) (e : Bytes) : State :=
  let b := s.mb m
  if b.state = .idle then
    s.modMbx m fun x => { x with state := .posted, eth := true, peer := some src, request := padTo 512 e }
  else if b.eth && fld b.request 4 4 == fld e 4 4 then s
  else s.mgmtAnswer src e .busy

/-- A cancel message reaches its mailbox (R92); a mailbox that SPI has claimed refuses it (R82). -/
def State.mgmtCancel (s : State) (src : Source) (m : Fin 8) (e : Bytes) : State :=
  let b := s.mb m
  let same := fld b.request 4 4 == fld e 4 4
  if b.state ≠ .idle ∧ !b.eth then s.mgmtAnswer src e .busy
  else if b.state = .posted ∧ same then
    (s.modMbx m fun x => { x with state := .idle, eth := false, peer := none, seqReg := fld e 4 4 }).mgmtAnswer src e .ok
  else if b.state = .running ∧ same then s.mgmtAnswer src e .cancelLate
  else if b.lastDone = some (fld e 4 4) then s.mgmtAnswer src e .cancelLate
  else s.mgmtAnswer src e .notFound

/-- Mailbox number of an envelope. -/
def mailboxOf (e : Bytes) : Fin 8 := ⟨u8 e 2 % 8, Nat.mod_lt _ (by decide)⟩

/-- A datagram to UDP 47811 (R90 to R92, Table 6.8): served in Service on a port that is not OFFLINE. -/
def State.mgmtRxIn (s : State) (eff : UnitState) (src : Source) (p : Bytes) : State :=
  if s.power.inReset ∨ s.power.mode = .custody then s
  else if !s.inService then s.count src.port .mgmtDiscard
  else if eff = .offline then s
  else if !s.mgmtAccepts src p then s.count src.port .mgmtDiscard
  else
    let e := p.drop 40
    let m := mailboxOf e
    if s.ownerOf m = .sec ∧ !src.verified then s.mgmtAnswer src e .denied
    else if bit (u8 e 3) 1 then s.mgmtCancel src m e
    else s.mgmtPost src m e

/-- The same by the port's effective state now. -/
def State.mgmtRx (s : State) (src : Source) (p : Bytes) : State := s.mgmtRxIn (s.effective (portId src.port)) src p

/-- The payload with the envelope's CANCEL flag set or cleared. -/
def withCancel (p : Bytes) (c : Bool) : Bytes :=
  if p.length < 44 then p
  else
    let f := u8 p 43
    p.take 43 ++ be 1 ((if bit f 1 then f - 2 else f) + if c then 2 else 0) ++ p.drop 44

/-- MGMT_MESSAGE (R90): a message without CANCEL. -/
def execMgmtMessage (src : Source) (p : Bytes) (s : State) : Out := .next (s.mgmtRx src (withCancel p false))

/-- MGMT_MESSAGE_CANCEL (R92): a message with CANCEL. -/
def execMgmtMessageCancel (src : Source) (p : Bytes) (s : State) : Out := .next (s.mgmtRx src (withCancel p true))

end Sys2Proof.Machine
end

