-- ==== Sys2Proof/Machine/Measure.lean ====
section
/-! DEFINITION. The measure: numbering and forward steps (R22 to R31), what a boundary raises (R96 to R98, R138, R163, R210,
R241, R269), the tick (R38, R49, Table 2.3), the execution of a sealed list (R42, R45), and the durability of a staging bank
(R190, R205). -/

namespace Sys2Proof.Machine

open Sys2Proof

/-! ## Numbering (R22, R23, R26, R27, R31) -/

/-- A measure anchor: start time, the number that starts there, length code. -/
abbrev Anchor := Nat × Nat × Nat

/-- Length of a measure under an anchor [ns]. -/
def Anchor.ns (a : Anchor) : Nat := lengthUs a.2.2 * 1000

/-- Ideal start of measure `n` under an anchor (R22) [ns]. -/
def Anchor.ideal (a : Anchor) (n : Int) : Int := a.1 + (n - a.2.1) * a.ns

/-- gPTP numbering of a tick that lies between two ideal boundaries: the measure whose ideal start is nearest (log entry 126). -/
def Anchor.nearest (a : Anchor) (time : Nat) : Int := a.2.1 + ((time : Int) - a.1 + a.ns / 2) / a.ns

/-- The measure of the first ideal boundary at or after a time. -/
def Anchor.from_ (a : Anchor) (time : Nat) : Int := a.2.1 + ((time : Int) - a.1 + (a.ns - 1)) / a.ns

/-- The anchor that governs measure `n` (R31): a pending one from its E on. -/
def Store.anchorAt (t : Store) (n : Nat) : Anchor :=
  match t.pendingAnchor with
  | some (te, e, l) => if e ≤ n then (te, e, l) else (t.t0, t.n0, t.length)
  | none => (t.t0, t.n0, t.length)

/-- The anchor that governs a gPTP time, for a drive whose own next number is `n`: a pending one from T_E on. -/
def Store.anchorFor (t : Store) (n time : Nat) : Anchor :=
  match t.pendingAnchor with
  | some (te, e, l) => if te ≤ time then (te, e, l) else t.anchorAt n
  | none => t.anchorAt n

/-- What a tick opens: the number, the time of the boundary, whether it is a forward step, and the timebase state and offset
that follow. -/
structure Opening where
  number : Nat
  time : Nat
  step : Bool
  state : TbState
  offset : Int

/-- State and offset of a synchronised timebase that opens `n` at `time`; `g` is the gPTP numbering (R23, R27). -/
def Store.alignment (t : Store) (n time : Nat) (g : Int) : TbState × Int :=
  let d := (time : Int) - (t.anchorAt n).ideal n
  (if -2500 ≤ d ∧ d ≤ 2500 then .locked else if g + 4 < n then .ahead else .aligning, d)

/-- The measure that a tick at a time opens. A synchronised timebase that lags by more than 4 makes a forward step: the open
measure runs on to the first ideal boundary, whose number is taken (R26). -/
def State.opening (s : State) (time : Nat) : Opening :=
  let n := s.tb.measure + 1
  if s.tb.source.isNone then { number := n, time, step := false, state := s.tb.state, offset := s.tb.offset }
  else
    let a := s.store.anchorFor n time
    let g := a.nearest time
    if n + 4 < g then
      let next := a.from_ time
      { number := max n next.toNat, time := (a.ideal next).toNat, step := true, state := .locked, offset := 0 }
    else
      let v := s.store.alignment n time g
      { number := n, time, step := false, state := v.1, offset := v.2 }

/-- A pending anchor whose E has come governs from now on (R31). -/
def Store.adoptAnchor (t : Store) (n : Nat) : Store :=
  let a := t.anchorAt n
  { t with
    t0 := a.1, n0 := a.2.1, length := a.2.2
    pendingAnchor := t.pendingAnchor.filter fun p => decide (n < p.2.1) }

/-- What waits for a measure number above `m` waits as many measures as before when `skip` numbers are never opened. -/
def Sequencer.skipTo (q : Sequencer) (m skip : Nat) : Sequencer :=
  { q with
    replies := q.replies.map fun r => if m < r.due then { r with due := r.due + skip } else r
    slicing := q.slicing.map fun h => if m < h.final then { h with final := h.final + skip } else h }

/-- The measure opens: number, times, the forward step's marks (R26), the anchor, the timebase state. -/
def State.openMeasure (s : State) (o : Opening) : State :=
  let m := s.tb.measure
  let skip := if o.step then o.number - (m + 1) else 0
  let s1 := (s.modTb fun t =>
    { t with
      measure := o.number, highest := max t.highest o.number, tickTime := o.time, offset := o.offset
      step := t.step || o.step, everStep := t.everStep || o.step, afterStep := o.step
      skipped := bump t.skipped skip }).modStore fun t => t.adoptAnchor o.number
  let s2 := if o.step then ((s1.modSeq fun q => q.skipTo m skip).report 0x0202 2 (be 6 skip)).pulse 35 else s1
  s2.setTb o.state

/-! ## Closing a measure (R38, R41, R51) -/

/-- CANCELs of the open measure remove their targets, in sealed order, before it is sealed (R41, R68). -/
def State.cancelAll (s : State) : State :=
  (sortItems s.seq.admitted).foldl (fun t i => match i with
    | .skp r => if r.op = 0x0A ∧ t.seq.admitted.contains i then t.cancelOpen r else t
    | .cmd _ => t) s

/-- Next sequences at the closes of measures: those not yet persisted, and the newest persisted one. -/
def pruneHistory (persisted : Nat) : List (Nat × Nat) → List (Nat × Nat)
  | [] => []
  | e :: rest => if e.1 ≤ persisted then [e] else e :: pruneHistory persisted rest

/-- The session's next sequence at the close of measure `m` (R107). -/
def Session.close (m persisted : Nat) (x : Session) : Session :=
  { x with history := pruneHistory persisted ((m, x.next) :: x.history) }

/-- The own member unit rises at this boundary (R270): it has caught up with every set sealed before, so that it seals the set
of this tick itself. -/
def State.riseOwn (s : State) : State :=
  match s.store.chorus with
  | none => s
  | some c => match s.unit c.ownId with
    | none => s
    | some u =>
      if u.qualified ∧ u.data.num < 2 ∧ s.mayRise c then
        ((s.modUnit u.id fun v => { v with degradedAt := some s.tb.measure }).raiseData u.id .degraded).modChorus fun k =>
          { k with fencedBy := none }
      else s

/-- Denial counts, and which LUNs are sound, as measure `m` closes (R52, R204, R211). -/
def State.closeFlash (s : State) (m : Nat) : State :=
  s.modFlash fun f =>
    { f with luns := f.luns.map fun l => l.closeMeasure m (s.sound l.id), buses := f.buses.map Bus.closeMeasure }

/-- The open measure closes: the Chorus set of T = m − 2 at the head (R264), the sorted list, its digest (R260, R51). -/
def State.sealMeasure (s : State) : State :=
  let m := s.tb.measure
  let c := if s.inService then s.riseOwn.sealChorus else (s, [], [])
  let s1 := (if s.inService then c.1.judgePeers else c.1).cancelAll
  let head := c.2.1.map Item.skp
  let digest := digestItems (head ++ s1.seq.admitted)
  let l : SealedList :=
    { measure := m, items := head ++ sortItems s1.seq.admitted, chorus := head.length, digest, refused := c.2.2 }
  let s2 := s1.modSeq fun q =>
    { q with
      sealed := q.sealed ++ [l], slots := 0, bytes := 0, admitted := [], readUsed := 0, scanSteps := 0
      scanRan := false }
  { (s2.closeFlash m).modTb fun t => { t with sealLog := ((m, digest) :: t.sealLog).take 4096 } with
    sessions := s2.sessions.map (Session.close m s2.tb.persisted) }

/-! ## Staging banks (R187, R190, R205) -/

/-- A staging bank can take the writes of another list: STG has two (Table 3.1, R54, R192). -/
def State.bankFree (s : State) : Bool := decide (s.snaps.length < 2)

/-- The codewords of a value (Table 8.3), for a bank of measure `m`. -/
def KeyEnt.placed (ns m : Nat) (e : KeyEnt) : List Codeword :=
  (List.range (codewords e.value.length)).map fun i =>
    { ext := e.extent, idx := i, ns, measure := m, data := sub e.value (i * 4096) 4096, stripe := 0, lun := 0, programmed := false
      live := true, durable := false, source := none, unread := false }

/-- Codewords of a store that lie in no superblock yet. -/
def State.unplaced (s : State) (t : Store) (m : Nat) : List Codeword :=
  (t.nss.flatMap fun n => n.keys.flatMap fun e => e.placed n.id m).filter fun w =>
    !s.flash.sbs.any fun b => b.words.any fun v => v.live && v.is (w.ext, w.idx)

/-- The map updates of relocations made since the last bank took some: copies that the live map points to (R196). -/
def State.moved (s : State) : List (Nat × Nat × Nat × Nat) :=
  s.flash.sbs.flatMap fun b => (b.words.filter fun w => w.live && !w.durable && w.source.isSome).map fun w => (w.ext, w.idx, b.group, b.num)

/-- A bank that starts to program: its codewords are placed in SLC write areas, as far as a format does not take those away; it
waits while no free superblock can take them (R192). It carries the journal entries and the relocations made so far (R205,
R207); those of a FORMAT it has already (R194). -/
def State.startBank (s : State) (p : Snap) : State × Snap :=
  if p.programming then (s, p)
  else
    let new := if s.durable.formats < p.store.formats then [] else s.unplaced p.store p.measure
    let first := fun (w : Codeword) => Config.wordGroup w.ext w.idx % max 1 s.groups
    match s.write false .slcHost .programFg (some p.measure) first new with
    | none => (s, p)
    | some t =>
      (t.modFlash fun f => { f with journal := [] },
        { p with programming := true, journal := p.journal ++ s.flash.journal, moves := s.moved })

/-- The oldest filled bank starts to program; the next one follows it. -/
def State.startBanks (s : State) : State :=
  match s.snaps with
  | [] => s
  | p :: rest =>
    let (u, q) := s.startBank p
    { u with snaps := q :: rest }

/-- A journal entry is durable (R205). -/
def State.entryDurable (s : State) (e : JournalEntry) : State :=
  s.modSb e.group e.num fun b => b.modBlocks e.lun fun k =>
    { k with pending := if e.done then k.pending && k.state == .erasePending else k.pending || k.state == .erasePending }

/-- A relocation is durable (R191, R196): the map of M_r points to the copy, and the place it was read from is released. -/
def State.moveDurable (s : State) (m : Nat × Nat × Nat × Nat) : State :=
  let k := (m.1, m.2.1)
  match (s.sb m.2.2.1 m.2.2.2).bind fun b => b.words.find? fun w => w.live && w.is k with
  | none => s
  | some w =>
    let s1 := s.modSb m.2.2.1 m.2.2.2 fun b => b.modWords (fun v => v.live && v.is k) fun v => { v with durable := true, source := none }
    match w.source with
    | none => s1
    | some (g, n) => s1.modSb g n fun b => b.modWords (·.is k) fun v => { v with durable := false }

/-- What a durable bank leaves in flash: its codewords, its journal entries, the relocations it carries; superblocks that have
become empty are reclaimed, and erases that are due are queued (R190, R191, R205). -/
def State.flashDurable (s : State) (p : Snap) : State :=
  let own := fun (w : Codeword) => w.measure == p.measure && w.source.isNone && w.programmed
  let s1 := s.modFlash fun f => { f with sbs := f.sbs.map fun b => b.modWords own fun w => { w with durable := true } }
  let s2 := p.moves.foldl State.moveDurable (p.journal.foldl State.entryDurable s1)
  (s2.flash.sbs.foldl (fun t b => t.reclaim b.group b.num) s2).queueErases

/-- The bank of the oldest executed measure is durable: its store is that of M_r (R321). -/
def State.bankDurable (s : State) (p : Snap) (rest : List Snap) : State :=
  let s1 := { s with durable := p.store, snaps := rest }
  let s2 := if s.durable.formats < p.store.formats then s1.formatFlash ((p.store.format.map (·.slcGib)).getD 16) else s1
  (s2.flashDurable p).modTb fun t => { t with persisted := max t.persisted p.measure }

/-- Every stripe page of the bank, parity pages included, is programmed with pass status (R190). -/
def State.bankProgrammed (s : State) (m : Nat) : Bool :=
  !s.anyOp (fun _ o => o.bank == some m) && !s.flash.again.any fun p => p.2.bank == some m

/-- STAGING_BANK_DURABLE (R190, R43): the oldest bank, once its pages are programmed, is durable with its seal record. Replies that
waited for it alone leave, and the next bank starts, but in the stop form of Quiesce. -/
def execStagingBankDurable (s : State) : Out :=
  match s.snaps with
  | p :: rest =>
    if s.flashRuns ∧ p.programming ∧ s.bankProgrammed p.measure then
      let s1 := (s.bankDurable p rest).confirmDurable
      .next (if s.power.mode = .quiesceStop then s1 else s1.startBanks.placeDue)
    else .next s
  | [] => .next s

/-! ## What a boundary raises (R96) -/

/-- No DEGRADED condition has held for 4,096 whole measures before the one that opens: one that last held in measure d lets
the view rise at the boundary that opens d + 4,097 (R210). -/
def HwUnit.clear (u : HwUnit) (now : Nat) : Bool := match u.degradedAt with
  | none => true
  | some d => decide (d + 4096 < now)

/-- A DEGRADED condition still holds in the open measure. -/
def State.stillDegraded (s : State) (id : Nat) : State := s.modUnit id fun u => { u with degradedAt := some s.tb.measure }

/-- Rise to DEGRADED; the measures towards ONLINE count from here. -/
def State.raiseDegraded (s : State) (id : Nat) : State :=
  (s.modUnit id fun u => { u with degradedAt := some (s.tb.measure - 1) }).raiseData id .degraded

/-- A member's unit (R269). The own unit rises to DEGRADED before the tick seals (R270), and not to ONLINE while the timebase
or step 4 fences it. -/
def State.raiseMember (s : State) (u : HwUnit) : State :=
  let own := (s.store.chorus.map fun c => c.ownId) == some u.id
  if u.data.num < 2 then if u.qualified ∧ !own then s.raiseDegraded u.id else s
  else if u.data = .degraded ∧ u.clear s.tb.measure ∧ !(own && (s.tb.state.fences || decide (4 ≤ s.power.step))) then
    s.raiseData u.id .online
  else s

/-- A Larkspur bank (R241): ONLINE after 4,096 measures without a repair. -/
def State.raiseBank (s : State) (u : HwUnit) : State :=
  let quiet := !s.lks.repaired.any fun r => r.1 / 8192 == u.id % 0x1000 && decide (s.tb.measure ≤ r.2 + 4096)
  if u.qualified ∧ u.data = .fenced then s.raiseDegraded u.id
  else if u.data = .degraded ∧ u.clear s.tb.measure ∧ quiet then s.raiseData u.id .online
  else s

/-- An LPDDR5 rank (R163). -/
def State.raiseRank (s : State) (u : HwUnit) : State :=
  if u.qualified then (s.raiseData u.id .online).modUnit u.id fun v => { v with qualified := false } else s

/-- The conditions that lower a LUN below DEGRADED have ceased (Table 8.8). -/
def HwUnit.lunCeased (u : HwUnit) (now : Nat) : Bool :=
  !u.spent && !moreThan 4 64 now u.events2 && (recent now u.timeouts).isEmpty

/-- A LUN that has passed its qualification test (R210): back in use, its evacuation over. -/
def State.raiseLun (s : State) (u : HwUnit) : State :=
  let now := s.tb.measure
  let low := ((s.lun u.id).map Lun.spareShort).getD false || moreThan 64 4096 now u.events
  let s1 := if low then s.stillDegraded u.id else s
  let clear := !low && u.clear now
  if u.data.num < 2 then
    if u.lunCeased now && s.board.nandOk then
      let (passed, s2) := s1.draw 1
      if passed = 1 then
        ((s2.raiseData u.id (if clear then .online else .degraded)).modLun u.id fun l => { l with evacuated := false }).queueErases
      else s2
    else s1
  else if u.data = .degraded ∧ clear ∧ u.lunCeased now then s1.raiseData u.id .online
  else s1

/-- A channel that has been retrained (R210, Table 8.8): it rises at half or at full rate; where half rate fails it falls, to FENCED
and, when that happens again, to OFFLINE. How the training ends, and when it is made, is a free value (log entry 27). -/
def State.raiseChannel (s : State) (u : HwUnit) : State :=
  if u.data = .online ∨ !s.board.nandOk then s
  else
    let (v, s1) := s.draw 2
    match v with
    | 1 => (s1.raiseData u.id .degraded).modUnit u.id fun w => { w with events2 := [] }
    | 2 => (s1.raiseData u.id .online).modUnit u.id fun w => { w with events2 := [] }
    | 3 => (s1.modUnit u.id fun w => { w with events2 := s.tb.measure :: w.events2 }).lowerData u.id
        (if u.events2.isEmpty then .fenced else .offline)
    | _ => s1

/-- A port (R138, R150). -/
def State.raisePort (s : State) (p : Fin 2) (u : HwUnit) : State :=
  let now := s.tb.measure
  let q := s.port p
  let low := moreThan 16 64 now u.events
  let s1 := if low then s.stillDegraded u.id else s
  let up := q.link && !q.phySilent && decide (q.rate ≤ (s.net p).set.maxRate)
  let full := q.rate == (s.net p).set.maxRate && !low && u.clear now
  let s2 :=
    if u.data.num < 2 then
      if up && q.cleanMeasure && !(s.net p).exhausted then s1.raiseData u.id (if full then .online else .degraded) else s1
    else if u.data = .degraded && up && full then s1.raiseData u.id .online
    else s1
  s2.modPort p fun x => { x with cleanMeasure := x.link }

/-- One unit at a boundary, by its kind. -/
def State.raiseUnit (s : State) (u : HwUnit) : State :=
  match u.id / 0x1000 with
  | 1 => s.raiseLun u
  | 2 => s.raiseChannel u
  | 3 => s.raiseRank u
  | 4 => s.raiseBank u
  | 5 => s.raisePort (if u.id % 2 = 0 then 0 else 1) u
  | 6 => s.raiseMember u
  | _ => s

/-- A unit whose views differ as a measure ends (R98, R99): after a whole measure of one pair, an entry. -/
def State.ageViews (s : State) (u : HwUnit) : State :=
  if s.mgmtView u.id = u.data then s
  else
    let age := u.pairAge + 1
    let s1 := s.modUnit u.id fun v => { v with pairAge := age, apart := sat 16 (v.apart + 1), noted := v.noted || age == 2 }
    if age = 2 then s1.report 0x0302 3 (be 2 u.id ++ be 1 (s.mgmtView u.id).num ++ be 1 u.data.num) else s1

/-- Pending raises of management views take effect (R97). -/
def State.raiseViews (s : State) : State :=
  s.store.raises.foldl (fun t p => t.modStore fun x => x.setMgmt p.1 p.2) (s.modStore fun t => { t with raises := [] })

/-- Every unit at a boundary: pending raises, and what has qualified. -/
def State.boundaryUnits (s : State) : State :=
  let s1 := s.raiseViews
  s1.units.foldl State.raiseUnit s1

/-- Both views of every unit. -/
def State.viewPairs (s : State) : List (Nat × UnitState × UnitState) := s.units.map fun u => (u.id, s.mgmtView u.id, u.data)

/-- Views that differ as a tick begins have lasted one measure more; until it is done, views that move are not compared. -/
def State.beginTick (s : State) : State := (s.units.foldl State.ageViews s).modTb fun t => { t with ticking := true }

/-- The tick is done: each unit whose views have moved since `before` is compared once (R97, R98). -/
def State.endTick (s : State) (before : List (Nat × UnitState × UnitState)) : State :=
  let s1 := s.modTb fun t => { t with ticking := false }
  (s.viewPairs.filter fun p => !before.contains p).foldl (fun t p => t.noteViews p.1 1) s1

/-! ## The rest of a boundary -/

/-- Commands that act at the next boundary (Table 15.1, SB). -/
def State.boundaryCommands (s : State) : State :=
  s.store.boundary.foldl (fun t c => match commandOf c.opcode with
    | some d => (d.later c t).1
    | none => t) (s.modStore fun t => { t with boundary := [] })

/-- The throttle step from Tj as sampled at the tick (R322). -/
def State.throttle (s : State) (tj : Int) : State :=
  let old := s.power.step
  let new := s.power.nextStep s.store.settings.thermal tj s.tb.measure
  let s1 := s.modPower fun p =>
    { p with
      tj, tjMax := max p.tjMax tj, step := new, stepAt := if new = old then p.stepAt else s.tb.measure
      throttled := if 1 ≤ new then bump p.throttled else p.throttled }
  let s2 := if new = old then s1 else s1.report 0x0104 1 (be 1 old ++ be 1 new ++ be 1 (unsigned 8 tj))
  if new = 4 then s2.fenceOwn 4 else s2

/-- The watchdog is served, and ALIVE toggles, at every 64th measure in Service (R306, R326). -/
def State.serveWatchdog (s : State) : State :=
  if s.inService ∧ s.tb.measure % 64 = 0 then s.modPower fun p => { p with alive := !p.alive } else s

/-- The tick's own pulses (Table 11.1): TICK and TICK_DIV overlap, so a channel that takes both carries one event (R285). -/
def State.tickPulses (s : State) : State :=
  s.pulseAll (if s.tb.measure % 2 ^ s.fabric.tickDiv = 0 then [32, 33] else [32])

/-- The Custody form of Quiesce begins at the tick that opens A + 2 (R313): PRESENT_n released, ALIVE low, departure
heartbeats, and what waits in the admission store is discarded. -/
def State.custodyQuiesce (s : State) : State :=
  match s.power.plan with
  | some pl =>
    if pl.custody ∧ s.inService ∧ pl.adm + 2 ≤ s.tb.measure then
      ((s.queueHeartbeats 2 true).modPower fun p => { p with mode := .quiesceCustody, present := false, alive := false }).modSeq
        fun q => { q with held := [], waiting := [], reorder := [] }
    else s
  | none => s

/-- A held request at the opening of its measure, or after its number was skipped (R26, R49). -/
def State.wakeHeld (s : State) (r : Request) : State :=
  if r.target < s.tb.measure then s.refuseAt r .late
  else if s.fits (valueBytesOf r) then s.takeIn r
  else s.refuseAt r .busy

/-- Held requests pinned to the measure that opens, in sealed order, before any other (R49). -/
def State.admitHeld (s : State) : State :=
  let due := s.seq.held.filter fun r => decide (r.target ≤ s.tb.measure)
  let s1 := (sortRequests due).foldl State.wakeHeld (s.modSeq fun q =>
    { q with held := q.held.filter fun r => !decide (r.target ≤ s.tb.measure) })
  due.foldl (fun t r => t.releaseNext r.session t.seq.reorder.length) s1

/-- An item that waits for room (R35, R39). -/
def State.wakeWaiting (s : State) (i : Item) : State :=
  let keep := s.modSeq fun q => { q with waiting := q.waiting ++ [i] }
  match i with
  | .skp r =>
    if s.fits (valueBytesOf r) then
      let s1 := s.takeIn r
      s1.releaseNext r.session s1.seq.reorder.length
    else keep
  | .cmd c =>
    if s.slotFree then
      let (s1, c1) := s.admitCmd c
      s1.modSeq fun q => { q with admitted := q.admitted ++ [.cmd c1] }
    else keep

/-- Waiting items that have room, in the order of their arrival whichever session they belong to; one that does not fit is passed
over (R35; log entry 125). -/
def State.admitWaiting (s : State) : State :=
  s.seq.waiting.foldl State.wakeWaiting (s.modSeq fun q => { q with waiting := [] })

/-- SCANs in progress take a slice each, in sealed order (R236). -/
def State.scanAll (s : State) : State := s.seq.scans.foldl State.scanStep (s.modSeq fun q => { q with scans := [] })

/-- Operations that wait in the flash layer for a place in the queue of channel `k` (Table 3.1 NANDk). -/
def State.nandWaits (s : State) (k : Nat) : Bool := (s.flash.waiting.filter fun o => o.1 % 0x1000 / 16 == k).isEmpty.not

/-- A producer waited for queue `k` in this measure, where the model decides it: the producers of ADM, MBX and CMD never wait (R54,
Table 3.1); the Sequencer waits while two sealed lists do, the engines while both staging banks are filled, the flash layer
while an operation has no place. How fast the other queues drain is not in the manual: a free value `v` (log entry 2). -/
def State.waitedFor (s : State) (v k : Nat) : Bool :=
  match k with
  | 2 | 3 | 4 => false
  | 5 => s.sealFull
  | 8 => !s.bankFree && !s.seq.sealed.isEmpty
  | _ => if 16 ≤ k ∧ k < 24 then s.nandWaits (k - 16) else v.testBit k

/-- Producers that waited for a queue (Table 3.3 WAITS). -/
def State.countWaits (s : State) : State :=
  let (v, s1) := s.draw 32
  s1.modSeq fun q => { q with qwait := Vector.ofFn fun k => if s.waitedFor v k then bump q.qwait[k] else q.qwait[k] }

/-- Single happenings of the closed measure leave WARN_ACTIVE (R214). -/
def State.clearHappenings (s : State) : State := s.modFlash fun f => { f with active := f.active &&& ~~~0xB80#32 }

/-- Flash and Larkspur at a boundary: what waits for free superblocks (R192), warnings (R214), measures without an idle cycle (R53). -/
def State.boundaryMedia (s : State) : State :=
  ((s.clearHappenings.finishMoves.retryPages).modLks fun a => { a with noIdle := a.noIdle + 1, scrubbed := false }).checkWarns

/-- Sliced operations whose final slice lies behind hold nothing any more (R46). -/
def State.endSlices (s : State) : State :=
  s.modSeq fun q => { q with slicing := q.slicing.filter fun h => decide (s.tb.measure ≤ h.final) }

/-- What follows the opening of a measure, in order. -/
def State.opened (s : State) (tj : Int) : State :=
  let s1 := ((s.custodyQuiesce.boundaryCommands.throttle tj).boundaryUnits).endSlices.startBanks
  let s2 := s1.placeDue.admitHeld.admitWaiting.scanAll
  s2.boundaryMedia.countWaits.serveWatchdog.tickPulses

/-- A measure sequence runs: Service, or the Custody form of Quiesce. -/
def State.ticks (s : State) : Bool :=
  !s.power.inReset && s.tb.opened && (s.power.mode == .service || s.power.mode == .quiesceCustody)

/-- The board signals as they stand at the tick. -/
def Power.edges (p : Power) (e : TickSample) : Power :=
  { p with thermAlert := p.thermAlert && !e.alertEnds, holdupOk := p.holdupOk || e.holdupBack, xtal32 := p.xtal32 && !e.xtal32Lost }

/-- The open measure is sealed, the next one opens. -/
def State.tick (s : State) (time : Nat) (tj : Int) : State :=
  ((s.beginTick.sealMeasure.openMeasure (s.opening time)).opened tj).endTick s.viewPairs

/-- MEASURE_TICK (R38). -/
def execMeasureTick (time : Nat) (sample : TickSample) (s : State) : Out :=
  let s1 := s.modPower fun p => p.edges sample
  .next (if s.ticks then s1.tick time sample.tj else s1)

/-! ## Execution (R42, R45, R250) -/

/-- Something that touches `ts` at its place in a list: held behind the sliced operations that change what it touches, and what
comes after it is held behind it in turn (R46). -/
def State.placed (s : State) (ts : List Touch) (run : State → State) : State :=
  let f := s.heldUntil ts
  let s1 := (run (s.modSeq fun q => { q with behind := f })).modSeq fun q => { q with behind := 0 }
  if f = 0 then s1 else s1.hold ts f

/-- What a command reads or changes, as far as R46 goes. -/
def State.touchesCmd (s : State) (c : SealedCmd) : List Touch :=
  ((commandOf c.opcode).map fun d => d.touches c.cmd.args s.store).getD []

/-- One item of a sealed list at its place. -/
def State.runItem (m : Nat) (chorus : Bool) (s : State) (i : Item) : State :=
  match i with
  | .skp r => s.placed (s.touchesOf r) fun t => t.runRequest { m, adm := m, chorus } r
  | .cmd c => s.placed (s.touchesCmd c) fun t => match commandOf c.opcode with
    | some d => d.atPlace c t
    | none => t

/-- Chorus-effective commands whose E has come, after the Chorus set and before every other item of the list; their answers
leave in the first 20 µs of E + 3 (R250, Table 15.1). -/
def State.runEffective (m : Nat) (s : State) : State :=
  let due := s.store.effective.filter fun p => decide (p.1 ≤ m)
  due.foldl (fun t p => t.placed (t.touchesCmd p.2) fun u => match commandOf p.2.opcode with
    | some d =>
      let r := d.later p.2 u
      r.1.schedule (cmdReply p.2 r.2.1 r.2.2 (u.seq.ackAt m).1 (u.seq.ackAt m).2)
    | none => u) (s.modStore fun t => { t with effective := t.effective.filter fun p => !decide (p.1 ≤ m) })

/-- The records of namespace 0 after the list of measure `m`, as kind, item and own size: the state and the replay records of each
session, ledger metadata, accounting, update and settings state, the Chorus log (R170). -/
def State.systemRecords (s : State) (m : Nat) : List (Nat × Nat × Nat) :=
  (s.sessions.filter fun x => x.history.any fun h => decide (h.1 ≤ m)).flatMap (fun x =>
    (0, x.id, 0) :: (x.replay.filter fun r => decide (r.measure ≤ m)).map fun r => (1, x.id * 2 ^ 32 + r.seq, r.body.length)) ++
  ((s.store.nss.filter fun n => n.typ == .ledger).map fun n => (2, n.id, 0)) ++ [(3, 0, s.store.nss.length), (4, 0, 0), (5, 0, 0)] ++
  match s.store.chorus with
  | none => []
  | some c => c.log.map fun l => (6, l.1, l.2.length)

/-- Namespace 0's use and key count after a list (R170): each record charges by its stored length and counts as one key. The drive
holds no more than K keys (R161): what namespace 0 would hold beyond them is not counted (log entry 18). -/
def State.countSystem (s : State) (m : Nat) : State :=
  let l := s.systemRecords m
  s.modStore fun t => { t with
    sysUse := (l.map fun r => charge (Config.storedLength r.1 r.2.1 r.2.2)).sum
    sysKeys := min l.length (t.keyCapacity - (t.keysCommitted - t.sysKeys)) }

/-- A sealed list executes, and its bank is filled; acknowledgements of a list that runs late move by as many measures (R45). -/
def State.runList (s : State) (l : SealedList) (rest : List SealedList) : State :=
  let m := l.measure
  let s0 := (s.expire m).modSeq fun q => { q with sealed := rest, overrunBy := 0, late := s.tb.measure - (m + 1) }
  let s1 := (((l.items.take l.chorus).foldl (State.runItem m true) s0).answerAsks m).runEffective m
  let s2 := ((l.items.drop l.chorus).foldl (State.runItem m false) s1).countSystem m
  let s3 := s2.modSeq fun q => { q with executed := m, late := 0 }
  let fresh := decide (s.store.formats < s3.store.formats)
  let p : Snap := { measure := m, store := s3.store, programming := false, moves := [], journal := if fresh then s3.flash.journal else [] }
  { s3 with snaps := s3.snaps ++ [p], flash := if fresh then { s3.flash with journal := [] } else s3.flash }

/-- Tables that an item's searches need: PEER and ACL for a request and for a command that applies the ACL (R242), ROUTE in a Chorus
set, AUTOMATON where a pattern runs. -/
def State.tablesOf (s : State) (chorus : Bool) (i : Item) : List Table :=
  let watched := if s.seq.watches.any fun w => w.pattern != 0 then [Table.automaton] else []
  match i with
  | .skp r =>
    [.peer, .acl] ++ (if chorus then [.route] else []) ++ if (r.op == 6 || r.op == 7) && fld r.body 0 2 != 0 then [.automaton] else watched
  | .cmd c => (if [0x040A, 0x040B, 0x0504, 0x0A02].contains c.opcode then [.acl] else []) ++ watched

/-- A list sealed after the error that a rebuild mends waits for it, if an item needs the table (R239). -/
def State.rebuildHolds (s : State) (l : SealedList) : Bool :=
  let need := (l.items.take l.chorus).flatMap (s.tablesOf true) ++ (l.items.drop l.chorus).flatMap (s.tablesOf false)
  s.lks.rebuild.any fun r => decide (r.2 ≤ l.measure) && need.any fun tb => (s.store.tables.pairsOf tb).contains r.1

/-- SEALED_LIST_EXECUTE (R42): the oldest sealed list; it waits for a staging bank (R54, R192), and while a Larkspur table that it
searches is rebuilt (R239). -/
def execSealedListExecute (s : State) : Out :=
  match s.seq.sealed with
  | l :: rest => if s.ticks && s.bankFree && !s.rebuildHolds l then .next (s.placeDue.runList l rest) else .next s
  | [] => .next s

/-- EXECUTION_WINDOW_OVERRUN (R45): L − 8 µs have passed and a list has not executed. -/
def execExecutionWindowOverrun (s : State) : Out :=
  if s.ticks ∧ !s.seq.sealed.isEmpty then
    let n := s.seq.overrunBy + 1
    let s1 := (s.modTb fun t => { t with overrun := true, everOverrun := true }).modSeq fun q => { q with overrunBy := n }
    .next ((s1.report 0x0203 2 (be 2 (sat 16 n))).pulse 37)
  else .next s

/-- STARTUP_GPTP_WAIT_EXPIRY (R29): the wait is over; the first measure opens in FREERUN. -/
def execStartupGptpWaitExpiry (s : State) : Out :=
  if s.power.mode = .startup ∧ !s.power.inReset then .next (s.modTb fun t => { t with waitOver := true }) else .next s

end Sys2Proof.Machine
end

