-- ==== Sys2Proof/Machine/Receive.lean ====
section
/-! DEFINITION. A received frame: the checks of Table 6.4, what each kind of frame does, and the parser's way to the
admission port (R100, R104, R136 to R148, R426). -/

namespace Sys2Proof

/-- PTP frames are accepted unprotected in every policy (R148); MAC control frames are consumed before. -/
def Content.exempt : Content → Bool
  | .ptp _ => true
  | .pause _ => true
  | .macControl _ => true
  | .arpRequest _ _ _ => false
  | .arpOther => false
  | .ip _ => false
  | .other _ => false

/-- The frame carries ARP. -/
def Content.isArp : Content → Bool
  | .arpRequest _ _ _ => true
  | .arpOther => true
  | .ptp _ => false
  | .pause _ => false
  | .macControl _ => false
  | .ip _ => false
  | .other _ => false

/-- VID of a frame; 0 without a tag (R141). -/
def Frame.vid (f : Frame) : Nat := (f.vlan.map (·.1)).getD 0

/-- The payload is one that R142 lets through. -/
def Packet.protoOk (k : Packet) : Bool :=
  match k.proto with
  | .udp _ _ ok zero _ => if zero then k.v4 else ok
  | .echo _ => true
  | .neighborSol _ => true
  | .otherIcmp => true
  | .other => false

end Sys2Proof

namespace Sys2Proof.Machine

open Sys2Proof

/-! ## Address filter (R140) -/

/-- MAC address of the solicited-node multicast of an IPv6 address. -/
def solicitedMac (ip : Nat) : Nat := 0x3333FF000000 + ip % 2 ^ 24

/-- The solicited-node multicast address of an IPv6 address. -/
def solicitedIp (ip : Nat) : Nat := 0xFF02 * 2 ^ 112 + 2 ^ 32 + 0xFF * 2 ^ 24 + ip % 2 ^ 24

/-- The Chorus's group addresses as the port filters them: none in Recovery. -/
def State.groupMacs (s : State) : List Nat :=
  if s.power.mode = .recovery then [] else
  match s.store.chorus with
  | none => []
  | some c => (0x333300000000 + c.group6 % 2 ^ 32) :: if c.group4 = 0 then [] else [0x01005E000000 + c.group4 % 2 ^ 23]

/-- The group addresses as IP addresses. -/
def State.groupIps (s : State) : List Nat :=
  if s.power.mode = .recovery then [] else
  match s.store.chorus with
  | none => []
  | some c => c.group6 :: if c.group4 = 0 then [] else [mapV4 c.group4]

/-- The frame passes the filter (Table 6.4 step 4). -/
def State.filterPass (s : State) (p : Fin 2) (f : Frame) : Bool :=
  let n := s.net p
  (n.filter0On && f.dst == n.filter0) || f.dst == solicitedMac (linkLocal n.filter0) ||
  (n.ipv6.any fun a => f.dst == solicitedMac a) || n.filter4.toList.contains (some f.dst) || s.groupMacs.contains f.dst ||
  f.dst == 0x0180C2000001 || f.dst == 0x0180C200000E ||
  (f.dst == 0xFFFFFFFFFFFF && f.content.isArp && n.ipv4.isSome)

/-! ## MACsec (R148) -/

/-- Step 6 of Table 6.4: whether the frame counts as verified, with the port's floors after it; or the counter of its
failure. A SecTAG under DISABLED has no association that takes it. -/
def PortNet.macsec (n : PortNet) (f : Frame) : Except Ctr (Bool × PortNet) :=
  match f.sec with
  | none => if f.content.exempt || n.policy != .strict then .ok (false, n) else .error .rxMacsecUnprotected
  | some t =>
    match if n.policy = .disabled then none else n.rxSa.find? fun a => a.an == t.an with
    | none => .error .rxMacsecNoSa
    | some a =>
      if !Config.macsecVerify a.key a.salt a.sci a.ssci f then .error .rxMacsecIcvFail
      else if t.pn + n.replayWindow < a.pn then .error .rxMacsecReplay
      else .ok (true, { n with
        rxSa := n.rxSa.map fun b =>
          if b.an == t.an then
            { b with pn := max b.pn (t.pn + 1), pnPersisted := max b.pnPersisted (t.pn / 2 ^ 20 * 2 ^ 20) }
          else b })

/-! ## VLAN, IP and UDP (R141, R142) -/

/-- Step 7: the frame's VLAN is one of the port's; PTP and MAC control frames are untagged. -/
def State.vlanPass (s : State) (p : Fin 2) (f : Frame) : Bool :=
  let t := (s.net p).set
  if f.content.exempt then f.vlan.isNone
  else f.vid == t.mgmtVid || (s.power.mode != .recovery && f.vid == t.dataVid)

/-- The packet is addressed to the port, or to the Chorus group; a Neighbor Solicitation also to the solicited-node address
of an address of the port. -/
def State.forUs (s : State) (p : Fin 2) (k : Packet) : Bool :=
  (s.addresses p).contains k.dstIp || s.groupIps.contains k.dstIp ||
  match k.proto with
  | .neighborSol _ => (s.addresses p).any fun a => !isV4 a && k.dstIp == solicitedIp a
  | .udp _ _ _ _ _ => false
  | .echo _ => false
  | .otherIcmp => false
  | .other => false

/-- Step 9 of Table 6.4: the counter of its failure. -/
def State.ipCheck (s : State) (p : Fin 2) (k : Packet) : Option Ctr :=
  if k.fragment then some .rxFragment
  else if k.headerOk && !k.extended && s.forUs p k && k.protoOk then none
  else some .rxIpDiscard

/-! ## SKP datagrams (R100, R104 steps 1 to 3) -/

/-- Opcodes of Table 5.4 (R104 step 3). -/
def knownOp (op : Nat) : Bool := (decide (1 ≤ op) && decide (op ≤ 0x0F)) || (decide (0x11 ≤ op) && decide (op ≤ 0x13))

/-- Step 3 of R104 on a payload that has a header. -/
def stepThree (p : Bytes) (r : Request) : Bool :=
  knownOp r.op && decide (u8 p 7 + 40 ≤ p.length) &&
  (if r.op = 0x0C ∨ r.op = 0x0D ∨ r.op = 0x0F then bareOk r
   else if r.op = 0x0E then r.key.isEmpty && r.target == 0 && plain r && r.body.length == 8
   else true)

/-- A datagram of a Chorus member's answer to a PULL (R262): no request, so step 3 does not refuse its opcode. -/
def State.isPullAnswer (s : State) (r : Request) : Bool :=
  r.op == 0x92 && (s.store.chorus.bind fun c => c.memberOf r.src.ip).isSome

/-- What steps 1 to 3 make of a datagram: a state that has dealt with it, or the request for the parser. -/
def State.skpCheck (s : State) (src : Source) (p : Bytes) : State ⊕ Request :=
  if p.length < 40 ∨ sub p 0 2 ≠ [0x53, 0x4B] then .inl (s.discard src.port)
  else
    let r := parseRequest src p
    if u8 p 2 ≠ 3 then .inl (s.answerNow r .versionMismatch 0 0 [])
    else if stepThree p r || s.isPullAnswer r then .inr r
    else if r.op = 0x11 ∨ r.op = 0x12 then .inl (s.discard src.port)
    else .inl (s.answerNow r .range 0 0 [])

/-! ## What a frame does -/

/-- A frame that leaves the buffer with nothing kept; what it had reserved is given back already. -/
def State.rxDone (s : State) (p : Fin 2) : State := s.rxFree p 0

/-- A frame that fails a check: dropped, counted once (R139). -/
def State.rxFail (s : State) (p : Fin 2) (c : Ctr) : State := (s.count p c).rxDone p

/-- A frame that has passed every check. -/
def State.rxOk (s : State) (p : Fin 2) (f : Frame) : State := (s.count p .rxFramesOk).count p .rxBytesOk f.len

/-- A FCS error (R138): more than 16 in 64 measures degrade the port. -/
def State.fcsError (s : State) (p : Fin 2) : State :=
  let m := s.tb.measure
  let s1 := (s.modPort p fun q => { q with cleanMeasure := false }).modUnit (portId p) fun u =>
    { u with events := m :: u.events.filter fun e => decide (m < e + 64) }
  if 16 < ((s1.unit (portId p)).map (·.events.length)).getD 0 then s1.degrade (portId p) else s1

/-- A gPTP message (R151). The receive time of a frame is not among its fields: a free value (log entry 2). -/
def State.ptpFrame (s : State) (p : Fin 2) (m : PtpMsg) : State :=
  match m with
  | .sync i t => s.syncRx p i t
  | .pdelayReq q => let (t, s1) := s.draw 64; s1.pdelayReqRx p q t
  | .pdelayResp q t2 t3 => let (t, s1) := s.draw 64; s1.pdelayRespRx p q t2 t3 t
  | .other => s

/-- A datagram to UDP port 47810: to the parser if it is served (R104), with its place in the buffer. -/
def State.dataFrame (s : State) (p : Fin 2) (f : Frame) (st : UnitState) (src : Source) (payload : Bytes) : State :=
  match s.skpGateIn st src with
  | some t => t.rxDone p
  | none =>
    let s1 := s.rxOk p f
    match s1.skpCheck src payload with
    | .inl t => t.rxDone p
    | .inr r => s1.modPort p fun q => { q with rxBytes := q.rxBytes + f.len, parser := q.parser ++ [(f.len, r)] }

/-- An IP packet at step 10, on a port in state `st`. -/
def State.ipFrame (s : State) (p : Fin 2) (f : Frame) (st : UnitState) (verified : Bool) (k : Packet) : State :=
  match k.proto with
  | .udp sp dp _ _ payload =>
    let src : Source :=
      { port := p, vid := f.vid, ip := k.srcIp, udp := sp, group := s.groupIps.contains k.dstIp, verified }
    if dp = 47810 then s.dataFrame p f st src payload
    else if dp = 47811 then
      ((if s.inService && s.mgmtAccepts src payload then s.rxOk p f else s).mgmtRxIn st src payload).rxDone p
    else if dp = 47812 ∧ s.power.mode = .recovery then
      (serveRdl src payload (s.rxOk p f) (udpAny (s.rxOk p f))).rxDone p
    else s.rxFail p (if st = .fenced then .fencedDiscard else .skpDiscard)
  | .neighborSol t => ((s.rxOk p f).nsRx p f.vid t k.srcIp).rxDone p
  | .echo _ =>
    if st = .fenced then s.rxFail p .fencedDiscard else ((s.rxOk p f).echoRx p f.vid k).rxDone p
  | .otherIcmp => if st = .fenced then s.rxFail p .fencedDiscard else (s.rxOk p f).rxDone p
  | .other => s.rxFail p .rxIpDiscard

/-- Steps 8 to 10 of Table 6.4. In Quiesce what is received is discarded and counted in SKP_DISCARD (Table 6.8). -/
def State.rxContent (s : State) (p : Fin 2) (f : Frame) (st : UnitState) (verified : Bool) : State :=
  let quiet := s.power.mode = .quiesceStop ∨ s.power.mode = .quiesceCustody
  match f.content with
  | .other _ => s.rxFail p .rxEtypeDiscard
  | .ip k =>
    match s.ipCheck p k with
    | some c => s.rxFail p c
    | none => if quiet then s.rxFail p .skpDiscard else s.ipFrame p f st verified k
  | .arpRequest t ip mac =>
    if quiet then s.rxFail p .skpDiscard else ((s.rxOk p f).arpRx p f.vid t ip mac).rxDone p
  | .arpOther => if quiet then s.rxFail p .skpDiscard else (s.rxOk p f).rxDone p
  | .ptp m => if quiet then s.rxFail p .skpDiscard else ((s.rxOk p f).ptpFrame p m).rxDone p
  | .pause _ => s.rxFail p .rxVlanDiscard
  | .macControl _ => s.rxFail p .rxVlanDiscard

/-- Steps 6 and 7, and then the content. -/
def State.rxSecured (s : State) (p : Fin 2) (f : Frame) (st : UnitState) : State :=
  match (s.net p).macsec f with
  | .error c => s.rxFail p c
  | .ok (verified, n) =>
    let s1 := s.modNet p fun _ => n
    if s1.vlanPass p f then s1.rxContent p f st verified else s1.rxFail p .rxVlanDiscard

/-- Steps 2 to 5 of Table 6.4 on an admitted frame, whose reservation is the limit in force at its arrival. An untagged MAC control
frame is consumed at step 5. -/
def State.rxChecks (s : State) (p : Fin 2) (f : Frame) (limit : Nat) (st : UnitState) : State :=
  if !f.fcsOk then (s.fcsError p).rxFail p .rxFcsErr
  else if limit < f.len then s.rxFail p .rxOversize
  else if f.len < 64 then s.rxFail p .rxUndersize
  else if !s.filterPass p f then s.rxFail p .rxFiltered
  else match f.content, f.vlan with
    | .pause q, none => ((s.rxOk p f).pauseRx p q).rxDone p
    | .macControl _, none => s.rxFail p .rxMacctrlUnsupported
    | _, _ => s.rxSecured p f st

/-- The oldest admitted frame is checked (R139): it gives back what its admission reserved (R143), and is handled under the settings of
its arrival (R135). A port that has gone OFFLINE since counts as it was then (log entry 135). -/
def State.checkStored (s : State) (p : Fin 2) (a : RxSlot) (rest : List RxSlot) (f : Frame) : State :=
  let s1 := s.modPort p fun q => { q with rxPending := rest, rxBytes := q.rxBytes - a.bytes }
  let s2 := (s1.modNet p fun n => { n with set := a.set }).rxChecks p f a.bytes
    (if s.portNow p = .offline then a.state else s.portNow p)
  (s2.modNet p fun n => { n with set := (s.net p).set }).flowCheck s p

/-- RX_FRAME_CHECK (R139): a frame that was admitted at its first byte; step 1 is made here when its RX_FRAME_ADMIT was not
given before. A frame in error spoils the measure that would requalify an OFFLINE port (R138). -/
def execRxFrameCheck (port : Fin 2) (frame : Frame) (s : State) : Out :=
  if s.power.inReset ∨ s.power.mode = .custody then .next s
  else
    match (s.port port).rxPending with
    | a :: rest => .next (s.checkStored port a rest frame)
    | [] =>
      if !s.receives port then
        .next (s.modPort port fun q => { q with cleanMeasure := q.cleanMeasure && frame.fcsOk })
      else
        let s1 := s.rxAdmit port
        match (s1.port port).rxPending with
        | a :: rest => .next (s1.checkStored port a rest frame)
        | [] => .next s1

/-! ## The parser (R426) -/

/-- A request that has passed steps 1 to 3 reaches the admission port, where its opcode decides (R104). Its port was checked as it
arrived. -/
def State.parsed (s : State) (r : Request) : State :=
  match r.op with
  | 0x0C => s.hello r
  | 0x0D => s.bye r
  | 0x0E => s.creditRequest r
  | 0x0F => s.beat r
  | 0x11 => s.digestRx r
  | 0x12 => s.pullRx r
  | 0x92 => s.pullReturned r
  | _ => s.arrive r

/-- REQUEST_TO_ADMISSION_PORT (R33, R35 to R37, R48, R257, R426): the parser passes its oldest datagram on; the buffer is
freed. Outside Service it is discarded (R100). -/
def execRequestToAdmissionPort (port : Fin 2) (s : State) : Out :=
  match (s.port port).parser with
  | [] => .next s
  | (n, r) :: rest =>
    let s1 := ((s.modPort port fun q => { q with parser := rest }).rxFree port n).flowCheck s port
    .next (if s.inService then s1.parsed r else if s.power.inReset || s.power.mode == .custody then s1 else s1.discard port)

end Sys2Proof.Machine
end

