-- ==== Sys2Proof/Machine/Registers.lean ====
section
/-! DEFINITION. The management register space (R76 to R82, R85, R158, R300, R330, R366; Tables 2.2, 3.3, 4.1, 4.2, 4.5, 6.9,
6.10, 11.5, 12.11, 14.6), the SPI frames (Tables 4.3, 4.4), and the register accesses that have rows of their own. -/

namespace Sys2Proof.Machine

open Sys2Proof

/-! ## Blocks (Table 4.1) -/

/-- The blocks of Table 4.1. -/
inductive Block where
  | id
  | mbx
  | evf
  | tmb
  | cda
  | pwr
  | crd
  | mac (p : Fin 2)
  deriving DecidableEq, Repr

/-- The block an address lies in. -/
def blockOf (a : Nat) : Option Block :=
  match a / 0x1000 with
  | 0x00 => some .id
  | 0x01 => some .mbx
  | 0x02 => some .evf
  | 0x03 => some .tmb
  | 0x04 => some .cda
  | 0x05 => some .pwr
  | 0x06 => some .crd
  | 0x10 => some (.mac 0)
  | 0x11 => some (.mac 1)
  | _ => none

/-- Secured blocks (R76). -/
def Block.secured (b : Block) : Bool := b == .evf || b == .cda

/-- In Recovery the mailbox block serves only what R77 lists. -/
def State.recoveryServes (s : State) (a : Nat) : Bool :=
  [0x1000, 0x1004, 0x1008, 0x1200, 0x1204, 0x1208, 0x120C, 0x1210].contains a ||
  (decide (0x1800 ≤ a ∧ a < 0x1C00) && s.spi.winsel == 0)

/-- The address is served in the current mode (R76, R77). In Start-up the mailbox block is served too, since doorbells are
refused there with BUSY (R369). -/
def State.servesAddr (s : State) (b : Block) (a : Nat) : Bool :=
  match s.power.mode with
  | .service | .quiesceStop | .quiesceCustody => true
  | .startup => b == .id || b == .mbx || b == .pwr
  | .recovery => b == .id || b == .cda || b == .pwr || (b == .mbx && s.recoveryServes a)
  | .custody => false

/-- A secured block is locked (R76). -/
def State.lockedOut (s : State) (b : Block) : Bool := b.secured && s.fuses.provisioned && !s.spi.unlocked

/-! ## Reading -/

/-- Identification (Table 4.2). -/
def State.idReg (s : State) (off : Nat) : Nat :=
  match off with
  | 0x00 => 0x0001_4810
  | 0x04 => 0xB1 + 0x100 * s.grade
  | 0x08 => s.release.2.2 + 0x100 * s.release.2.1 + 0x10000 * s.release.1 + 0x1000000 * s.imageCode
  | 0x0C => s.fuses.bits
  | 0x10 => s.board.serial % 2 ^ 32
  | 0x14 => s.board.serial / 2 ^ 32
  | _ => 0

/-- Mailbox numbers with a property, as a mask. -/
def State.mbxMask (s : State) (p : Mailbox → Bool) : Nat :=
  ((List.finRange 8).map fun m => if p (s.mb m) then 2 ^ m.val else 0).sum

/-- A word of a byte buffer: the byte at the address is the low one (R3). -/
def wordAt (b : Bytes) (off : Nat) : Nat := leNat (sub b off 4)

/-- MBXn_STATUS. -/
def State.mbxStatus (s : State) (m : Fin 8) : Nat :=
  let b := s.mb m
  b.state.num + 0x10 * b2n (b.eth && b.state != .idle) + 0x20 * (s.ownerOf m).num + 0x100 * b2n b.cancelled +
  0x200 * b2n b.late + 0x400 * b2n b.abandoned + 0x10000 * b.code

/-- The mailbox block (Table 4.5). -/
def State.mbxReg (s : State) (off : Nat) : Nat :=
  if h : off < 0x200 then
    let m : Fin 8 := ⟨off / 0x40, by omega⟩
    if off % 0x40 = 4 then s.mbxStatus m else if off % 0x40 = 8 then (s.mb m).seqReg else 0
  else if off = 0x200 then s.spi.winsel
  else if off = 0x204 then s.mbxMask (fun b => b.state == .done) + 0x100 * s.mbxMask Mailbox.attention
  else if off = 0x208 then s.spi.portStat
  else if off = 0x20C then s.spi.faultStart
  else if off = 0x210 then s.spi.faultFirst
  else if 0x800 ≤ off ∧ off < 0xA00 then wordAt (s.mb s.spi.winsel).request (off - 0x800)
  else if 0xA00 ≤ off ∧ off < 0xC00 then wordAt (s.mb s.spi.winsel).response (off - 0xA00)
  else 0

/-- Channels with a property, as a mask. -/
def State.chanBits (s : State) (p : Chan → Bool) : Nat :=
  ((List.finRange 32).map fun c => if p (s.chan c) then 2 ^ c.val else 0).sum

/-- EVF_CH_CFG of a channel. -/
def chanCfgReg (c : Fin 32) (h : Chan) : Nat :=
  b2n h.cfg.enable + 2 * b2n h.cfg.remember + 4 * b2n (decide (c.val < 8)) + 8 * b2n h.cfg.secure + 0x10 * h.cfg.owner.num +
  0x40 * b2n h.locked

/-- The event fabric (Table 11.5). -/
def State.evfReg (s : State) (off : Nat) : Nat :=
  let c := s.fabric.chsel
  let h := s.chan c
  match off with
  | 0x00 => c
  | 0x04 => chanCfgReg c h
  | 0x08 => h.cfg.producers.toNat % 2 ^ 32
  | 0x0C => h.cfg.producers.toNat / 2 ^ 32
  | 0x10 => h.cfg.consumers.toNat % 2 ^ 32
  | 0x14 => h.cfg.consumers.toNat / 2 ^ 32
  | 0x18 => h.events
  | 0x1C => h.merged
  | 0x20 => h.overruns
  | 0x24 => h.absent
  | 0x28 => h.ts % 2 ^ 32
  | 0x2C => s.fabric.tsHi
  | 0x40 => s.chanBits (·.overrunFlag)
  | 0x44 => s.chanBits fun x => x.pending != 0
  | 0x48 => s.chanBits (·.locked)
  | 0x4C => s.fabric.level.toNat
  | 0x50 => ((List.finRange 16).map fun n => s.fabric.evio[n].dir * 4 ^ n.val).sum
  | _ => 0

/-- The timebase (Table 2.2). -/
def State.tmbReg (s : State) (off : Nat) : Nat :=
  match off with
  | 0x00 => s.tb.state.num + 0x10 * s.store.length + 0x100 * b2n s.tb.step + 0x200 * b2n s.tb.overrun
  | 0x04 => s.tb.measure % 2 ^ 32
  | 0x08 => s.tb.measureHi
  | 0x0C => unsigned 32 s.tb.offset
  | 0x10 => s.tb.persisted % 2 ^ 32
  | 0x14 => s.tb.persisted / 2 ^ 32
  | 0x18 => s.tb.skipped
  | _ => 0

/-- The 64 bytes in ring slot `k`; a slot that holds no entry shows zeros (log entry 3). -/
def Coda.slotBytes (c : Coda) (k : Nat) : Bytes :=
  match c.ring[(c.headSlot + 4096 - k % 4096) % 4096]? with
  | some e => e.bytes
  | none => zeros 64

/-- The Coda window (Table 14.6). -/
def State.cdaReg (s : State) (off : Nat) : Nat :=
  let c := s.coda
  if 0x200 ≤ off ∧ off < 0x400 then wordAt (c.slotBytes (c.winsel + (off - 0x200) / 64)) ((off - 0x200) % 64)
  else match off with
  | 0x00 => c.state.num + 0x10 * b2n c.pendingFreeze.isSome + 0x20 * b2n (!c.unflushed.isEmpty) + 0x100 * c.unkept +
      0x10000 * (if c.state = .live then 0 else c.post)
  | 0x04 => c.headSeq % 2 ^ 32
  | 0x08 => c.headSlot
  | 0x0C => c.dropped
  | 0x10 => c.mask.toNat
  | 0x14 => c.winsel
  | _ => 0

/-- Power and mode (Table 12.11). -/
def State.pwrReg (s : State) (off : Nat) : Nat :=
  let p := s.power
  match off with
  | 0x00 => p.mode.num + 0x10 * p.step + 0x100 * b2n p.pwrFail + 0x200 * b2n p.holdupOk + 0x400 * b2n p.thermAlert +
      0x800 * b2n p.xtal32 + 0x1000 * b2n p.holdupLow + 0x1000000 * unsigned 8 p.tj
  | 0x04 => p.cause.num + 0x10 * p.previous.num + 0x100 * p.bootFails
  | 0x08 => p.flags.toNat
  | 0x0C => p.mr % 2 ^ 32
  | 0x10 => p.mr / 2 ^ 32
  | 0x14 => p.startupMs + 0x10000 * p.quiesce
  | 0x18 => unsigned 8 p.tjMax + 0x100 * unsigned 8 s.limitTf
  | _ => 0

/-- Items and depth of an internal queue (Table 3.1). IDX and LKS drain within a command, since a row's command is whole. A NAND
queue's items are the operations that wait on its LUNs and those under way or suspended there (log entry 128). -/
def State.queueState (s : State) (k : Nat) : Nat × Nat :=
  let q := s.seq
  let cmds := (q.waiting.filter fun i => match i with
    | .cmd _ => true
    | .skp _ => false).length
  match k with
  | 0 => ((s.port 0).rxDesc, 64)
  | 1 => ((s.port 1).rxDesc, 64)
  | 2 => (q.held.length + q.reorder.length + (q.waiting.length - cmds), 32768)
  | 3 => (((List.finRange 8).filter fun m => (s.mb m).state == .posted).length, 8)
  | 4 => (min cmds 8, 8)
  | 5 => (min q.sealed.length 2, 2)
  | 6 => (0, 256)
  | 7 => (0, 64)
  | 8 => (min s.snaps.length 2, 2)
  | 10 => (min (s.txReady 0).length 256, 256)
  | 11 => (min (s.txReady 1).length 256, 256)
  | 12 => (min s.coda.queue.length 32, 32)
  | _ =>
    if 16 ≤ k ∧ k < 24 then
      (min (s.nandCount (0x2000 + (k - 16))) 32, 32)
    else (0, 0)

/-- Spilled bytes of a port in KiB, rounded up. -/
def State.spillKib (s : State) (p : Fin 2) : Nat := (s.spillBytes p + 1023) / 1024

/-- Credit observation (Table 3.3). -/
def State.crdReg (s : State) (off : Nat) : Nat :=
  let q := s.seq
  match off with
  | 0x00 => s.poolFree + 0x10000 * s.openSessions
  | 0x04 => q.qsel
  | 0x08 => (s.queueState q.qsel).1 + 0x10000 * (s.queueState q.qsel).2
  | 0x0C => if (s.queueState q.qsel).2 = 0 then 0 else q.qwait.toList.getD q.qsel 0
  | 0x10 => q.ssel
  | 0x14 => match s.session q.ssel with
    | some x => if x.opened then x.window + 0x10000 * x.outstanding else 0
    | none => 0
  | 0x18 => s.spillKib 0 + 0x10000 * s.spillKib 1
  | 0x1C => q.refusedCredit
  | 0x20 => q.released
  | _ => 0

/-- A port's block (Tables 6.9, 6.10); in port 1's the PPS registers read 0. -/
def State.macReg (s : State) (p : Fin 2) (off : Nat) : Nat :=
  if h : 0x100 ≤ off ∧ off < 0x1F0 then
    let v := (s.port p).counters[(⟨(off - 0x100) / 8, by omega⟩ : Fin 30)]
    if off % 8 = 0 then v % 2 ^ 32 else v / 2 ^ 32
  else match off with
  | 0x00 => s.macStatus p
  | 0x04 => ((s.port p).rxBytes + 1023) / 1024 + 0x10000 * (s.port p).rxDesc
  | 0x08 => (s.port p).hold
  | 0x10 => if p = 0 then s.tb.ppsTime % 2 ^ 32 else 0
  | 0x14 => if p = 0 then s.tb.ppsHi else 0
  | 0x18 => if p = 0 then s.tb.ppsCount else 0
  | _ => 0

/-- The value of the word at an address of a block. -/
def State.regValue (s : State) (b : Block) (a : Nat) : Nat :=
  let off := a % 0x1000
  match b with
  | .id => s.idReg off
  | .mbx => s.mbxReg off
  | .evf => s.evfReg off
  | .tmb => s.tmbReg off
  | .cda => s.cdaReg off
  | .pwr => s.pwrReg off
  | .crd => s.crdReg off
  | .mac p => s.macReg p off

/-- What a read of the word changes: a low word's read copies its high word (R32, R158, R300). -/
def State.readEffect (s : State) (b : Block) (a : Nat) : State :=
  let off := a % 0x1000
  match b with
  | .tmb => if off = 0x04 then s.modTb fun t => { t with measureHi := t.measure / 2 ^ 32 } else s
  | .evf => if off = 0x28 then s.modFabric fun g => { g with tsHi := (s.chan g.chsel).ts / 2 ^ 32 } else s
  | .mac p =>
    if h : 0x100 ≤ off ∧ off < 0x1F0 then
      if off % 8 = 0 then
        s.modPort p fun q => { q with hold := q.counters[(⟨(off - 0x100) / 8, by omega⟩ : Fin 30)] / 2 ^ 32 }
      else s
    else if off = 0x10 ∧ p = 0 then s.modTb fun t => { t with ppsHi := t.ppsTime / 2 ^ 32 } else s
  | .id => s
  | .mbx => s
  | .cda => s
  | .pwr => s
  | .crd => s

/-- Read words from `a` on, in ascending order; unmapped words do not occur in a burst that passed its checks. -/
def State.readWords (s : State) : Nat → Nat → State × Bytes
  | 0, _ => (s, [])
  | n + 1, a =>
    match blockOf a with
    | none => s.readWords n (a + 4)
    | some b =>
      let v := le 4 (s.regValue b a)
      let (s1, rest) := (s.readEffect b a).readWords n (a + 4)
      (s1, v ++ rest)

/-! ## Writing -/

/-- A mailbox's control actions, in the order of their bits (Table 4.6). -/
def Mailbox.doorbell (b : Mailbox) : Mailbox := if b.state = .loading then { b with state := .posted } else b
/-- CANCEL (R70, Table 4.6): a POSTED command is removed; a RUNNING one completes and is reported LATE. MBXn_SEQ names the
command cancelled. One cancelled before its grant is not the mailbox's previous command of R88: its SEQUENCE posted again runs
(log entry 129). -/
def Mailbox.cancel (b : Mailbox) : Mailbox :=
  match b.state with
  | .posted => { b with state := .idle, eth := false, cancelled := true, seqReg := fld b.request 4 4 }
  | .running => { b with cancelPending := true }
  | .idle | .loading | .done => b
/-- RELEASE (Table 4.6). -/
def Mailbox.release (b : Mailbox) : Mailbox :=
  match b.state with
  | .loading | .done => { b with state := .idle }
  | .idle | .posted | .running => b

/-- MBXn_CTRL. -/
def Mailbox.control (b : Mailbox) (v : Nat) : Mailbox :=
  let b1 := if bit v 0 then b.doorbell else b
  let b2 := if bit v 1 then b1.cancel else b1
  if bit v 2 then b2.release else b2

/-- A word written into a buffer. -/
def putWord (b : Bytes) (off v : Nat) : Bytes := b.take off ++ le 4 v ++ b.drop (off + 4)

/-- The mailbox block (Table 4.5): control, W1C bits, MBX_WINSEL, and the request window, whose first write claims an IDLE
mailbox for SPI. -/
def State.writeMbx (s : State) (off v : Nat) : State :=
  if h : off < 0x200 then
    let m : Fin 8 := ⟨off / 0x40, by omega⟩
    if off % 0x40 = 0 then s.modMbx m fun b => b.control v
    else if off % 0x40 = 4 then s.modMbx m fun b =>
      { b with
        cancelled := b.cancelled && !bit v 8
        late := b.late && !bit v 9
        abandoned := b.abandoned && !bit v 10 }
    else s
  else if off = 0x200 then s.modSpi fun p => { p with winsel := ⟨v % 8, by omega⟩ }
  else if 0x800 ≤ off ∧ off < 0xA00 then
    s.modMbx s.spi.winsel fun b =>
      { b with
        state := if b.state = .idle then .loading else b.state
        request := putWord b.request (off - 0x800) v }
  else s

/-- The event fabric: EVF_CHSEL and the W1C bits of EVF_OVERRUN. -/
def State.writeEvf (s : State) (off v : Nat) : State :=
  if off = 0x00 then s.modFabric fun g => { g with chsel := ⟨v % 32, by omega⟩ }
  else if off = 0x40 then s.modFabric fun g =>
    { g with chans := Vector.ofFn fun c : Fin 32 =>
        { g.chans[c] with overrunFlag := g.chans[c].overrunFlag && !bit v c } }
  else s

/-- Write one word: only the fields that Tables 2.2, 3.3, 4.5, 6.9, 11.5, 12.11 and 14.6 make writable change (R5). HOLDUP_LOW
stays set while HOLDUP_OK is low in Service, since the controller sets it then (R6, R304). -/
def State.writeWord (s : State) (b : Block) (a v : Nat) : State :=
  let off := a % 0x1000
  match b with
  | .id => s
  | .mbx => s.writeMbx off v
  | .evf => s.writeEvf off v
  | .tmb => if off = 0 then s.modTb fun t => { t with step := t.step && !bit v 8, overrun := t.overrun && !bit v 9 } else s
  | .cda => if off = 0x14 then s.modCoda fun c => { c with winsel := v % 4096 } else s
  | .pwr =>
    if off = 0 then s.modPower fun p => { p with holdupLow := (p.holdupLow && !bit v 12) || (s.inService && !p.holdupOk) } else s
  | .crd =>
    if off = 0x04 then s.modSeq fun q => { q with qsel := v % 32 }
    else if off = 0x10 then s.modSeq fun q => { q with ssel := v % 2 ^ 16 } else s
  | .mac p => if off = 0 then s.modPort p fun q =>
      { q with linkChange := q.linkChange && !bit v 22, pnHigh := q.pnHigh && !bit v 23 } else s

/-- The register at an address holds W1C bits, and nothing else that can be written. -/
def clearsOnly (a : Nat) : Bool :=
  a == 0x2040 || a == 0x3000 || a == 0x5000 || a == 0x10000 || a == 0x11000 || (decide (0x1000 ≤ a ∧ a < 0x1200) && a % 0x40 == 4)

/-- Write those words from `a` on that `p` picks, in ascending order. -/
def State.writeSome (s : State) (p : Nat → Bool) : Nat → Nat → Bytes → State
  | 0, _, _ => s
  | n + 1, a, d =>
    let s1 := match blockOf a with
      | none => s
      | some b => if p a then s.writeWord b a (leNat (d.take 4)) else s
    s1.writeSome p n (a + 4) (d.drop 4)

/-- Write words from `a` on. A frame takes effect at once: a bit that another of its words sets is set, although the frame also
clears it (R6, R80). -/
def State.writeWords (s : State) (n a : Nat) (d : Bytes) : State :=
  (s.writeSome clearsOnly n a d).writeSome (fun x => !clearsOnly x) n a d

/-! ## Checks of a burst (R80, R81, R82) -/

/-- The claiming path of the mailbox is Ethernet. -/
def Mailbox.taken (b : Mailbox) : Bool := b.eth && b.state != .idle

/-- The word needs a mailbox state that does not hold (Table 4.6, R82, R369); `v` is the value written. -/
def State.wordBusy (s : State) (a : Nat) (v : Option Nat) : Bool :=
  let off := a - 0x1000
  if a / 0x1000 ≠ 1 then false
  else if h : off < 0x200 then
    let b := s.mb ⟨off / 0x40, by omega⟩
    match v with
    | none => false
    | some v => off % 0x40 == 0 && (b.taken || (bit v 0 && (b.state != .loading || !s.fetches)))
  else if 0x800 ≤ off ∧ off < 0xA00 then
    let b := s.mb s.spi.winsel
    b.taken || (v.isSome && b.state != .idle && b.state != .loading)
  else if 0xA00 ≤ off ∧ off < 0xC00 then
    let b := s.mb s.spi.winsel
    b.taken || (v.isNone && b.state != .done)
  else false

/-- Error bits of one word. -/
structure WordErr where
  addr : Bool
  secure : Bool
  mode : Bool
  busy : Bool
  deriving DecidableEq, Repr

/-- Check one word of a burst. -/
def State.checkWord (s : State) (a : Nat) (v : Option Nat) : WordErr :=
  match blockOf a with
  | none => ⟨true, false, false, false⟩
  | some b => ⟨a % 4 != 0, s.lockedOut b, !s.servesAddr b a, s.wordBusy a v⟩

/-- An error that MBX_FAULT_FIRST names. -/
def WordErr.faulty (e : WordErr) : Bool := e.addr || e.secure || e.mode

/-- Check every word of a burst; `data` is what a write carries. -/
def State.checkBurst (s : State) (data : Option Bytes) : Nat → Nat → List (Nat × WordErr)
  | 0, _ => []
  | n + 1, a => (a, s.checkWord a (data.map fun d => leNat (d.take 4))) :: s.checkBurst (data.map fun d => d.drop 4) n (a + 4)

/-- The status byte (Table 4.4). No register has a locked RWL field, so LOCKED stays 0. -/
def statusByte (l : List (Nat × WordErr)) (frame irq : Bool) : Nat :=
  let e := (if l.any fun p => p.2.addr then spiAddr else 0) + (if l.any fun p => p.2.secure then spiSecure else 0) +
    (if l.any fun p => p.2.busy then spiBusy else 0) + (if frame then spiFrame else 0) +
    (if l.any fun p => p.2.mode then spiMode else 0)
  (if e = 0 then spiDone else e) + if irq then spiIrq else 0

/-- Record a frame's outcome: MBX_PORT_STAT, the fault addresses of a frame refused with ADDR, SECURE or MODE, and MISO. -/
def State.frameDone (s : State) (start status : Nat) (l : List (Nat × WordErr)) (miso : Bytes) : State :=
  s.modSpi fun p =>
    match l.find? fun x => x.2.faulty with
    | none => { p with portStat := status, miso }
    | some (a, _) => { p with portStat := status, miso, faultStart := start % 2 ^ 24, faultFirst := a % 2 ^ 24 }

/-- The SPI port responds: not in Custody, not in reset. -/
def State.spiAlive (s : State) : Bool := !s.power.inReset && s.power.mode != .custody

/-- A frame's header is whole and well formed: opcode, and 1 to 256 words. -/
def headerOk (op : Nat) (m : Bytes) : Bool :=
  decide (6 ≤ m.length) && u8 m 0 == op && decide (1 ≤ fld m 4 2 ∧ fld m 4 2 ≤ 256)

/-- What a frame with a bad header would touch: with a known opcode, its burst as far as a length of 1 to 256 words goes; a length
that is refused still has the start address (R81). -/
def State.badHeader (s : State) (op : Nat) (m : Bytes) (data : Option Bytes) : List (Nat × WordErr) :=
  if 6 ≤ m.length ∧ u8 m 0 = op then s.checkBurst data (max 1 (min (fld m 4 2) 256)) (fld m 1 3) else []

/-- A read frame (R79 to R81). MISO from byte 6 on: turnaround, status, data. -/
def State.readFrame (s : State) (m : Bytes) : State :=
  if !s.spiAlive then s else
  let start := fld m 1 3
  let n := fld m 4 2
  let room := m.length - 6
  if !headerOk 0x0B m then
    let l := s.badHeader 0x0B m none
    let st := statusByte l true s.mirq
    s.frameDone start st l ((0xFF#8 :: be 1 st).take room)
  else
    let l := s.checkBurst none n start
    let st := statusByte l false s.mirq
    if bit st 0 then
      let (s1, d) := s.readWords n start
      s1.frameDone start st l ((0xFF#8 :: be 1 st ++ d).take room)
    else s.frameDone start st l ((0xFF#8 :: be 1 st ++ zeros (4 * n)).take room)

/-- A write frame (R79 to R81): applied whole after its last data byte, or not at all. MISO from byte 6 on: zeros, then the
status byte. -/
def State.writeFrame (s : State) (m : Bytes) : State :=
  if !s.spiAlive then s else
  let start := fld m 1 3
  let n := fld m 4 2
  let data := sub m 6 (4 * n)
  let room := m.length - 6
  if !headerOk 0x02 m then
    let l := s.badHeader 0x02 m (some data)
    s.frameDone start (statusByte l true s.mirq) l (zeros room)
  else
    let short := decide (data.length < 4 * n)
    let l := s.checkBurst (some data) n start
    let st := statusByte l short s.mirq
    if bit st 0 then
      let s1 := s.writeWords n start data
      let st1 := statusByte l short s1.mirq
      s1.frameDone start st1 l ((zeros (4 * n) ++ be 1 st1).take room)
    else s.frameDone start st l ((zeros (4 * n) ++ be 1 st).take room)

/-! ## Meanings -/

/-- The MOSI bytes of a read of `n` words. -/
def readMosi (a n : Nat) : Bytes := be 1 0x0B ++ be 3 a ++ be 2 n ++ zeros (2 + 4 * n)

/-- The MOSI bytes of a write of whole words. -/
def writeMosi (a : Nat) (d : Bytes) : Bytes := be 1 0x02 ++ be 3 a ++ be 2 (d.length / 4) ++ d ++ zeros 1

/-- SPI_WRITE_FRAME (R80). -/
def execSpiWriteFrame (m : Bytes) (s : State) : Out := .next (s.writeFrame m)

/-- SPI_READ_FRAME (R80, R81). -/
def execSpiReadFrame (m : Bytes) (s : State) : Out := .next (s.readFrame m)

/-- MBX_DOORBELL (R82): LOADING becomes POSTED; anywhere else the frame is answered BUSY. -/
def execMbxDoorbell (m : Fin 8) (s : State) : Out := .next (s.writeFrame (writeMosi (0x1000 + 0x40 * m) (le 4 1)))

/-- CANCEL in MBXn_CTRL (R70, Table 4.6). -/
def execMbxCtrlCancel (m : Fin 8) (s : State) : Out := .next (s.writeFrame (writeMosi (0x1000 + 0x40 * m) (le 4 2)))

/-- RELEASE in MBXn_CTRL (Table 4.6). -/
def execMbxRelease (m : Fin 8) (s : State) : Out := .next (s.writeFrame (writeMosi (0x1000 + 0x40 * m) (le 4 4)))

/-- A write to the request window (R82). -/
def execMbxRequestWindowWrite (off : Nat) (d : Bytes) (s : State) : Out := .next (s.writeFrame (writeMosi (0x1800 + off) d))

/-- TMB_MEASURE_LO read (R32): the high bits are copied. -/
def execTmbMeasureLoRead (s : State) : Out := .next (s.readFrame (readMosi 0x3004 1))

/-- A counter's low word read (R158): MACn_HOLD takes its high word. -/
def execMacCounterLowRead (p : Fin 2) (c : Fin 30) (s : State) : Out :=
  .next (s.readFrame (readMosi (0x10000 + 0x1000 * p + 0x100 + 8 * c) 1))

/-- MAC0_PPS_LO read (R158): MAC0_PPS_HI takes the timestamp's high word. -/
def execMac0PpsLoRead (s : State) : Out := .next (s.readFrame (readMosi 0x10010 1))

/-- EVF_CH_TS_LO read (R300): EVF_CH_TS_HI takes the high word. -/
def execEvfChTsLoRead (s : State) : Out := .next (s.readFrame (readMosi 0x2028 1))

end Sys2Proof.Machine
end

