-- ==== Sys2Proof/Machine/Startup.lean ====
section
/-! DEFINITION. Start-up, Recovery entry, the first measure, and the entry into Custody (R28 to R30, R155, R163, R184, R206,
R248, R307 to R317, R329, R339, R345, R348, R350, R362, R363, R408). -/

namespace Sys2Proof

/-- The view a channel's training leaves (Table 8.8). -/
def Training.view : Training → Machine.UnitState
  | .half => .degraded
  | .failedOnce => .fenced
  | .failedTwice => .offline

end Sys2Proof

namespace Sys2Proof.Machine

open Sys2Proof

/-! ## Straps (R408) -/

/-- Low samples of a strap, of the three that `v` holds as bits. -/
def lows (v : Fin 8) : Nat := ((List.range 3).filter fun i => !v.val.testBit i).length

/-- MODE_RECOV_n counts as asserted when all three samples are low. -/
def recovAsserted (v : Fin 8) : Bool := lows v == 3

/-- A CASC_ID bit takes the value of at least two samples. -/
def strapBit (v : Fin 8) : Nat := if 2 ≤ lows v then 0 else 1

/-! ## Which image starts (R339, R343, R345, R350) -/

/-- A loader slot passes R345, and its ROLLBACK is at or above the fused count (R339). -/
def State.slotPasses (s : State) (i : Fin 2) : Bool := s.nor.slotOk[i] && decide (s.fuses.rollback ≤ s.nor.slotRollback[i])

/-- The running image fails R345 or R339. -/
def State.imageBad (s : State) : Bool := !s.nor.running.valid || decide (s.nor.running.rollback < s.fuses.rollback)

/-- The archive is restored; Recovery (reason 2) when that image cannot start either. -/
def State.restoreOr (s : State) : State × Option Nat :=
  let s1 := s.restoreArchive
  (s1, if s1.imageBad then some 2 else none)

/-- The loader's answer to a failed start (R350): BOOT_FAILS counts a fallback whose next start failed too, and 3 of them lead
to Recovery (reason 3); the archive returns when the failed image is on trial or cannot start; otherwise the same image starts
again. A fallback freezes Coda (Table 14.3 bit 9). -/
def State.fallback (s : State) : State × Option Nat :=
  let n := if s.power.afterFallback then min 3 (s.power.bootFails + 1) else s.power.bootFails
  let s1 := s.modPower fun p => { p with bootFails := n, failed := false, afterFallback := true }
  if 3 ≤ n then (s1, some 3)
  else if (s.imageBad ∨ s.nor.bootState = .trial) ∧ s.nor.archive.isSome then s1.restoreOr
  else if s.imageBad then (s1, some 2)
  else (if s1.triggerOn 9 then s1.trigger 9 0 0 0 else s1, none)

/-- What the boot ROM and the loader decide: the state after it, and the reason of a Recovery entry (R307, R309, R343 to R350).
A trial that ROLLBACK ended restores the archive; an install that was ready or was cut short begins. -/
def State.boot (s : State) (strap : Bool) : State × Option Nat :=
  if strap then (s, some 1)
  else if s.power.recoveryRequest then (s, some 4)
  else if !s.slotPasses 0 && !s.slotPasses 1 then (s, some 2)
  else
    let s1 := if s.slotPasses s.nor.activeSlot then s else s.modNor fun n => { n with activeSlot := 1 - n.activeSlot }
    if s1.nor.bootState = .reverting ∧ s1.nor.archive.isSome then s1.restoreOr
    else if s1.nor.ready || s1.nor.installing then (s1.modNor fun n => { n with installing := true, xip := true }, none)
    else if s1.power.failed || s1.imageBad then s1.fallback
    else (s1, none)

/-! ## Coda (R362, R363) -/

/-- The highest SEQ in the vault. -/
def Coda.vaultTop (c : Coda) : Nat :=
  (c.vault.toList.flatMap fun r => match r with
    | some v => v.entries.map (·.seq)
    | none => []).foldl max 0

/-- No valid entry in the ring: RING_RESTART; SEQ goes on from the vault's highest, or from 1 in Recovery. How many slots were
discarded is a free value. -/
def State.ringStart (s : State) (recovery : Bool) : State :=
  if s.coda.ring.isEmpty then
    let (v, s1) := s.draw 16
    (s1.modCoda fun c => { c with headSeq := if recovery then 0 else c.vaultTop }).writeEntry 0x0005 0 false false false (be 2 v)
  else s

/-! ## Recovery (R307, R317, Table 6.8) -/

/-- The settings of Recovery: manufacture, with what the boot block of the newest region holds (R348). -/
def State.recoverySettings (s : State) : Settings :=
  let m := Settings.reset s.board
  match s.nor.newest with
  | none => m
  | some r =>
    let b := r.content.ports[0]
    let set := { m.ports[0].set with
      sgmii := b.set.sgmii, maxRate := b.set.maxRate, jumbo := b.set.jumbo, mgmtVid := b.set.mgmtVid }
    { m with ports := m.ports.set 0 { m.ports[0] with set, ipv6 := b.ipv6, ipv4 := b.ipv4 }, peers := r.content.peers }

/-- Start-up enters Recovery. -/
def State.enterRecovery (s : State) (reason : Nat) : State :=
  ((s.modPower fun p => { p with mode := .recovery, recoveryReason := reason, recoveryRequest := false }).modStore fun t =>
    { t with settings := s.recoverySettings }).report 0x010A 1 (be 1 reason)

/-! ## Start-up (R308, R311, Table 12.5) -/

/-- A block is erase-indeterminate (R206). -/
def State.eraseCut (s : State) : Bool := s.flash.sbs.any fun b => b.blocks.any (·.indeterminate)

/-- Findings that any Start-up makes anew: GROUP_LOST, WEAR_LIMIT, MEDIA_MISMATCH, UNFORMATTED, RANK_LOST. -/
def State.findings (s : State) : BitVec 32 :=
  (if (List.range s.groups).any fun g => decide (2 ≤ s.lostIn g) then 0x4#32 else 0) |||
  (if s.wearLimitNow then 0x8#32 else 0) |||
  (if s.board.nandOk then 0 else 0x20#32) |||
  (if s.store.format.isNone then 0x40#32 else 0) |||
  (if s.units.any fun u => u.id / 0x1000 == 3 && decide (u.data.num < 2) then 0x80#32 else 0)

/-- Findings about the previous stop: UNCLEAN_STOP, HOLDUP_LOW; and ERASE_INDETERMINATE. -/
def State.stopFindings (s : State) : BitVec 32 :=
  (if s.power.hasRun && s.power.stopRecord.isNone then 0x1#32 else 0) |||
  (match s.power.stopRecord with
    | some (_, holdup, _) => if holdup then 0 else 0x2#32
    | none => 0) |||
  (if s.eraseCut then 0x100#32 else 0)

/-- The LPDDR5 rank whose fixed region failed starts FENCED (R163). -/
def State.startRanks (s : State) : State :=
  match s.flash.badRank with
  | none => s
  | some r => (s.modUnit (0x3000 + r) fun u => { u with data := .fenced }).modFlash fun f => { f with badRank := none }

/-- The fixed regions are placed in the lowest-numbered usable rank, and stay where they were when there is none (R161, R163). -/
def State.placeFixed (s : State) : State :=
  match (List.range s.board.ranks).find? fun r => decide (2 ≤ (s.effective (0x3000 + r)).num) with
  | none => s
  | some r => s.modFlash fun f => { f with fixedRank := r }

/-- LUNs of NAND that breaks R184 start OFFLINE. -/
def State.startLuns (s : State) : State :=
  if s.board.nandOk then s
  else { s with units := s.units.map fun u => if u.id / 0x1000 = 1 then { u with data := .offline } else u }

/-- An open batch is discarded; its members' replay records read LATE with ABORTED (R130). -/
def State.dropBatches (s : State) : State :=
  s.store.batches.foldl (fun t b => b.members.foldl (fun u m => u.modReplay m.1.session m.1.seq fun p =>
    { p with status := some .late, aborted := true, body := [] }) t) (s.modStore fun t => { t with batches := [] })

/-- The settings take effect in the event fabric and in Coda (R293, R299, R301, R356). -/
def State.applySettings (s : State) : State :=
  let t := s.store.settings
  (s.modFabric fun g =>
    { g with
      chans := Vector.zipWith (fun h c => { h with cfg := c }) g.chans t.channels
      evio := t.evio, aonTimer := t.aonTimer, tickDiv := t.tickDiv }).modCoda fun c => { c with mask := t.codaMask ||| 0xB#32 }

/-- PENDING_READY stands for the package staged at M_r: after a fault that took a STAGE or a DISCARD back, the pending region is
written again (R340, R341; log entry 149). -/
def State.checkPending (s : State) : State :=
  if s.store.upd = .staged ∨ s.store.upd = .armed then
    s.modNor fun n => { n with pendingReady := n.pendingReady && n.pending == s.store.package.map (·.stream) }
  else s

/-- The Start-up that runs an image: its findings, the media as found, fuse burns that were cut short, the settings. -/
def State.startUp (s : State) : State :=
  let s1 := ((s.ringStart false).startRanks.startLuns.dropBatches.applySettings).checkPending.confirmDurable.burnRollback.burnProvision
  let s2 := s1.modPower fun p =>
    { p with
      mr := s1.tb.persisted
      flags := p.flags ||| s1.findings ||| s1.stopFindings
      stopMeasure := (p.stopRecord.map (·.1)).getD 0
      loaded := !s1.nor.installing, starting := !s1.nor.installing }
  s2.checkWarns

/-- JTAG EXTEST, CLAMP and HIGHZ act as BYPASS once no reset ball is asserted (R367). -/
def Cluster.released (c : Cluster) : Cluster :=
  if c.jtag = .extest ∨ c.jtag = .clamp ∨ c.jtag = .highz then { c with jtag := .bypass, tdo := 0 } else c

/-- The boot ROM runs: straps, PHY resets released, start counted, Larkspur loaded from namespace 0 (R155, R243, R248). -/
def State.powerUp (s : State) (chip : Nat) : State :=
  let s1 := (s.modPower fun p => { p with inReset := false, mode := .startup, starts := bump p.starts }).modLks fun a =>
    { a with chipId := chip }
  (((s1.modPort 0 fun p => { p with phyRun := true }).modPort 1 fun p => { p with phyRun := true }).modCluster
    Cluster.released)

/-- The reset is released with the straps as sampled. -/
def State.releaseReset (s : State) (strap : Bool) (chip : Nat) : State :=
  let (s1, why) := (s.powerUp chip).boot strap
  match why with
  | some r => (s1.ringStart true).enterRecovery r
  | none => s1.startUp

/-- CONTROLLER_RESET_RELEASE (R308, R309, R408): not while the reset is held (R310, R324); a Start-up that finds PWR_FAIL_n
asserted holds itself in a reset of cause 5. -/
def execControllerResetRelease (modeRecov cascId0 cascId1 : Fin 8) (s : State) : Out :=
  if !s.power.inReset ∨ s.power.held ∨ s.power.thermalHold then .next s
  else if s.power.pwrFail then .next ((s.controllerReset .powerReturn).modPower fun p => { p with held := true })
  else .next (s.releaseReset (recovAsserted modeRecov) (strapBit cascId0 + 2 * strapBit cascId1))

/-! ## The first measure (R28 to R30, Table 12.3) -/

/-- What the first measure is: at least 8 above the last persisted one and above every number opened before; the number gPTP
gives once it is there; after Custody one above the extrapolated count, in FREERUN. -/
def State.firstOpening (s : State) (time : Nat) : Opening :=
  let low := max (s.tb.persisted + 8) (s.tb.highest + 1)
  if s.power.flags.getLsbD 10 then
    { number := max low (s.tb.extrapolated + 1), time, step := false, state := .freerun, offset := s.tb.offset }
  else if s.tb.source.isNone then { number := low, time, step := false, state := .freerun, offset := s.tb.offset }
  else
    let a := s.store.anchorFor low time
    let g := a.from_ time
    let n := max low g.toNat
    let t := (a.ideal g).toNat
    let v := s.store.alignment n t g
    { number := n, time := t, step := false, state := v.1, offset := v.2 }

/-- The power controller as the first measure opens: Service, PRESENT_n asserted; the image has started. How long the Start-up
took is a free value. -/
def Power.open (p : Power) (flags : BitVec 32) (ms : Nat) : Power :=
  { p with
    mode := .service, ready := true, present := true, alive := false, starting := false, afterFallback := false, failed := false
    bootFails := 0, hasRun := true, stopRecord := none, startupMs := ms, flags }

/-- START's payload (Table 14.2). -/
def State.startEntry (s : State) (p : Power) : Bytes :=
  be 1 p.cause.num ++ be 1 p.previous.num ++ be 1 p.bootFails ++ be 1 0 ++ be 4 s.power.flags.toNat ++ be 6 s.power.mr ++
  be 2 s.power.startupMs

/-- What the tests of the start-up found lowers the views of the units concerned (Tables 7.3, 8.8, 8.12, 9.7), and the cascade has
to rejoin (R247, R248); a port whose PHY does
not answer makes a Coda entry and is kept OFFLINE (R156). -/
def State.startTests (s : State) (f : Found) : State :=
  let s1 := f.luns.foldl (fun t l => if l / 0x1000 = 1 then t.lowerData l .offline else t) s.startLuns
  let s2 := f.channels.foldl (fun t c => t.lowerData (0x2000 + c.1) c.2.view) s1
  let s3 := f.ranks.foldl (fun t r => t.lowerData (0x3000 + r) .offline) s2
  let bad := f.banks.map (·.val) ++ (s3.lks.cells.filter (·.stuck)).map (·.pos / 8192)
  let s4 := bad.foldl (fun t k => t.lowerData (0x4000 + k) .offline) s3
  f.phys.foldl State.phySilent (if s4.store.tables.cascade.isSome then s4.loseCascade else s4)

/-- What Start-up makes of the media it finds: the fixed regions' rank (R163), erase-indeterminate blocks with their warning, and the
erases that are due (R206, R215). -/
def State.startMedia (s : State) (f : Found) : State :=
  let s1 := (s.startTests f).placeFixed.queueErases
  (if s1.eraseCut then s1.raiseWarn 9 none else s1).checkWarns

/-- The first measure opens, after the tests of the start-up. START reports BOOT_FAILS as it was before it returns to 0; HOLDUP_OK
low on entering Service is recorded (R304). -/
def State.firstMeasure (s0 : State) (time : Nat) (found : Found) : State :=
  let s := s0.startMedia found
  let s1 := s.migrate
  let o := s1.firstOpening time
  let (ms, s2) := s1.draw 16
  let flags := s.power.flags ||| s.findings ||| (if s.eraseCut then 0x100#32 else 0) ||| (if o.state = .freerun then 0x200#32 else 0)
  let s3 := (s2.modPower fun p => p.open flags ms).openMeasure o
  let s4 := (s3.modTb fun t => { t with opened := true }).modChorus fun k => { k with lastHeard := Vector.replicate 8 o.number }
  let s5 := (s4.report 0x0101 1 (s4.startEntry s.power)).noteHoldup
  (((s5.modTb fun t => { t with ticking := true }).boundaryCommands.boundaryUnits.endTick s.viewPairs).checkWarns).serveWatchdog.tickPulses

/-- FIRST_MEASURE_OPEN (R308): once the image is loaded, replay is complete and the gPTP wait has ended. -/
def execFirstMeasureOpen (start : StartUpEnd) (s : State) : Out :=
  let p := s.power
  if p.mode = .startup ∧ !p.inReset ∧ !p.held ∧ p.loaded ∧ !s.nor.installing ∧ (s.tb.waitOver ∨ s.tb.source.isSome) then
    .next (s.firstMeasure start.time start.found)
  else .next s

/-! ## Custody entry (R313 to R315) -/

/-- The measure that admitted DEVICE.ENTER_CUSTODY, once A + 4 is open. -/
def State.custodyPlan (s : State) : Option Nat :=
  match s.power.plan with
  | some pl => if s.power.mode = .quiesceCustody ∧ pl.adm + 4 ≤ s.tb.measure then some pl.adm else none
  | none => none

/-- CUSTODY_PORT_STOP_TIMEOUT (R313 step 3): the ports send nothing more. -/
def execCustodyPortStopTimeout (s : State) : Out :=
  if s.custodyPlan.isSome then .next (s.modPower fun p => { p with portsStopped := true }) else .next s

/-- Every session closes, and what the spill still holds is released (R313 step 4). -/
def State.closeAll (s : State) : State :=
  ((s.sessions.filter (·.opened)).foldl (fun t x => t.closeSession x.id) (s.modSeq fun q => { q with watches := [] })).releaseSpill

/-- The flash layer as Custody begins: the banks, the journal and the relocations made so far are durable (R215). -/
def State.flashCustody (s : State) : State :=
  let s1 := s.snaps.foldl State.flashDurable s
  (s1.modFlash fun f => { f with journal := [] }).flashDurable
    { measure := 0, store := s1.store, programming := true, journal := s1.flash.journal, moves := s1.moved }

/-- No LUN has an operation under way or suspended, and no bank's pages wait (Table 8.12). -/
def State.lunsIdle (s : State) : Bool :=
  (s.flash.luns.all fun l => l.op.isNone && l.held.isNone && l.next.isNone && l.fg.isEmpty) &&
  !s.flash.waiting.any fun p => !p.2.kind.background

/-- A port in Custody (R155, R157): its PHY is in reset and its serdes powered down, and nothing is received or sent. -/
def Port.down (q : Port) : Port :=
  { q with
    phyRun := false, link := false, rate := 0, paused := false, pauseQuanta := 0, xoff := false, rxBytes := 0, rxDesc := 0
    rxPending := [], parser := [], urgent := [], hb := none, inFlight := none, cleanMeasure := false }

/-- The fabric in Custody: consumers without power are absent, their pending bits clear (R291), and EVIO8 to EVIO15 are OFF (R299). -/
def Fabric.custody (g : Fabric) : Fabric :=
  { g with
    chans := g.chans.map fun h => { h with pending := h.pending &&& 0xFFFF#64 }
    busy := g.busy.filter fun b => decide (b.1 < 16)
    level := g.level &&& 0xFF#16 }

/-- What Custody entry leaves: sessions closed, the last closed measure durable (R30), Coda in the vault, the port unlock
revoked (R314), PHYs in reset (R155), ALIVE high, the count extrapolated from here. -/
def State.enterCustody (s : State) : State :=
  let last := s.tb.measure - 1
  let s1 := s.closeAll.codaDrain.codaCustody
  let s2 : State := { s1.flashCustody with durable := s1.store, snaps := [] }
  let s3 := s2.modTb fun t =>
    { t with persisted := max t.persisted last, extrapolated := t.measure, opened := false, ppsOut := false }
  let s4 := (s3.modPower fun p => { p with mode := .custody, alive := true, present := false, plan := none }).modSpi fun p =>
    { p with unlocked := false }
  let s5 := (s4.modPort 0 Port.down).modPort 1 Port.down
  (s5.modFabric Fabric.custody).report 0x0106 1 []

/-- The steps of R313 are done: the lists of A + 1 and before are durable, later lists are empty, every LUN is idle (Table 8.12), and
the ports have sent all or have stopped. -/
def State.custodyReady (s : State) (adm : Nat) : Bool :=
  decide (adm + 1 ≤ s.tb.persisted) && s.seq.sealed.all (fun l => l.items.isEmpty) && s.lunsIdle &&
  (s.power.portsStopped || ((s.port 0).queue.isEmpty && (s.port 1).queue.isEmpty))

/-- CUSTODY_ENTRY_COMPLETE (R313): Custody; a wake event that was kept ends it at once (R315). -/
def execCustodyEntryComplete (s : State) : Out :=
  match s.custodyPlan with
  | some adm =>
    if s.custodyReady adm then
      let s1 := s.enterCustody
      match s.power.wakeKept with
      | some (source, channel) => .next (s1.exitCustody source channel)
      | none => .next s1
    else .next s
  | none => .next s

end Sys2Proof.Machine
end

