-- ==== Sys2Proof/Machine/Dispatch.lean ====
section
/-! DEFINITION. The dispatcher: one arm per command, each one direct call of its meaning. -/

namespace Sys2Proof.Machine

open Sys2Proof

/-- The effect of a command on everything but the queue of waiting commands. -/
def exec (i : Instr) (s : State) : Host.Outcome State Fault Refusal :=
  match i with
  | .deviceIdentify c => Sys2Proof.Machine.execDeviceIdentify c s
  | .deviceEcho c => Sys2Proof.Machine.execDeviceEcho c s
  | .deviceStartupStatus c => Sys2Proof.Machine.execDeviceStartupStatus c s
  | .deviceEnterCustody c => Sys2Proof.Machine.execDeviceEnterCustody c s
  | .deviceSetThermal c => Sys2Proof.Machine.execDeviceSetThermal c s
  | .deviceReset c => Sys2Proof.Machine.execDeviceReset c s
  | .devicePowerStatus c => Sys2Proof.Machine.execDevicePowerStatus c s
  | .timeStatus c => Sys2Proof.Machine.execTimeStatus c s
  | .timeSetLength c => Sys2Proof.Machine.execTimeSetLength c s
  | .timeSealLog c => Sys2Proof.Machine.execTimeSealLog c s
  | .unitQuery c => Sys2Proof.Machine.execUnitQuery c s
  | .unitSetState c => Sys2Proof.Machine.execUnitSetState c s
  | .unitList c => Sys2Proof.Machine.execUnitList c s
  | .namespaceCreate c => Sys2Proof.Machine.execNamespaceCreate c s
  | .namespaceDelete c => Sys2Proof.Machine.execNamespaceDelete c s
  | .namespaceSetQuota c => Sys2Proof.Machine.execNamespaceSetQuota c s
  | .namespaceInfo c => Sys2Proof.Machine.execNamespaceInfo c s
  | .namespaceList c => Sys2Proof.Machine.execNamespaceList c s
  | .namespaceDigest c => Sys2Proof.Machine.execNamespaceDigest c s
  | .namespaceLedgerHead c => Sys2Proof.Machine.execNamespaceLedgerHead c s
  | .namespaceLedgerTrim c => Sys2Proof.Machine.execNamespaceLedgerTrim c s
  | .namespaceSetRetention c => Sys2Proof.Machine.execNamespaceSetRetention c s
  | .namespaceLedgerExport c => Sys2Proof.Machine.execNamespaceLedgerExport c s
  | .namespaceValueDigest c => Sys2Proof.Machine.execNamespaceValueDigest c s
  | .searchSetTables c => Sys2Proof.Machine.execSearchSetTables c s
  | .searchEntryWrite c => Sys2Proof.Machine.execSearchEntryWrite c s
  | .searchEntryDelete c => Sys2Proof.Machine.execSearchEntryDelete c s
  | .searchPatternLoad c => Sys2Proof.Machine.execSearchPatternLoad c s
  | .searchPatternUnload c => Sys2Proof.Machine.execSearchPatternUnload c s
  | .searchCascadeSet c => Sys2Proof.Machine.execSearchCascadeSet c s
  | .searchCascadeSwitch c => Sys2Proof.Machine.execSearchCascadeSwitch c s
  | .searchProbe c => Sys2Proof.Machine.execSearchProbe c s
  | .searchStats c => Sys2Proof.Machine.execSearchStats c s
  | .netSetPort c => Sys2Proof.Machine.execNetSetPort c s
  | .netSetFilter c => Sys2Proof.Machine.execNetSetFilter c s
  | .netSetAddress c => Sys2Proof.Machine.execNetSetAddress c s
  | .netSetMgmtPeers c => Sys2Proof.Machine.execNetSetMgmtPeers c s
  | .netSetHeartbeat c => Sys2Proof.Machine.execNetSetHeartbeat c s
  | .netMacsecPolicy c => Sys2Proof.Machine.execNetMacsecPolicy c s
  | .netMacsecInstallSa c => Sys2Proof.Machine.execNetMacsecInstallSa c s
  | .netMacsecRemoveSa c => Sys2Proof.Machine.execNetMacsecRemoveSa c s
  | .netPhyReset c => Sys2Proof.Machine.execNetPhyReset c s
  | .netMdioWrite c => Sys2Proof.Machine.execNetMdioWrite c s
  | .netMdioRead c => Sys2Proof.Machine.execNetMdioRead c s
  | .netTxFlush c => Sys2Proof.Machine.execNetTxFlush c s
  | .netPortStatus c => Sys2Proof.Machine.execNetPortStatus c s
  | .netCounters c => Sys2Proof.Machine.execNetCounters c s
  | .mediaFormat c => Sys2Proof.Machine.execMediaFormat c s
  | .mediaSetReadPolicy c => Sys2Proof.Machine.execMediaSetReadPolicy c s
  | .mediaSetWarn c => Sys2Proof.Machine.execMediaSetWarn c s
  | .mediaAckWarnings c => Sys2Proof.Machine.execMediaAckWarnings c s
  | .mediaHealth c => Sys2Proof.Machine.execMediaHealth c s
  | .mediaLunHealth c => Sys2Proof.Machine.execMediaLunHealth c s
  | .chorusForm c => Sys2Proof.Machine.execChorusForm c s
  | .chorusLeave c => Sys2Proof.Machine.execChorusLeave c s
  | .chorusStatus c => Sys2Proof.Machine.execChorusStatus c s
  | .chorusCheckpoint c => Sys2Proof.Machine.execChorusCheckpoint c s
  | .chorusCheckpointEnd c => Sys2Proof.Machine.execChorusCheckpointEnd c s
  | .chorusRestoreEnd c => Sys2Proof.Machine.execChorusRestoreEnd c s
  | .chorusNsCommand c => Sys2Proof.Machine.execChorusNsCommand c s
  | .chorusPark c => Sys2Proof.Machine.execChorusPark c s
  | .chorusResume c => Sys2Proof.Machine.execChorusResume c s
  | .eventConfigure c => Sys2Proof.Machine.execEventConfigure c s
  | .eventSetOwner c => Sys2Proof.Machine.execEventSetOwner c s
  | .eventLock c => Sys2Proof.Machine.execEventLock c s
  | .eventEvioConfig c => Sys2Proof.Machine.execEventEvioConfig c s
  | .eventSetParams c => Sys2Proof.Machine.execEventSetParams c s
  | .eventTrigger c => Sys2Proof.Machine.execEventTrigger c s
  | .eventQuery c => Sys2Proof.Machine.execEventQuery c s
  | .eventClear c => Sys2Proof.Machine.execEventClear c s
  | .updateStatus c => Sys2Proof.Machine.execUpdateStatus c s
  | .updateStage c => Sys2Proof.Machine.execUpdateStage c s
  | .updateActivate c => Sys2Proof.Machine.execUpdateActivate c s
  | .updateConfirm c => Sys2Proof.Machine.execUpdateConfirm c s
  | .updateRollback c => Sys2Proof.Machine.execUpdateRollback c s
  | .updateDiscard c => Sys2Proof.Machine.execUpdateDiscard c s
  | .updateRdlBegin c => Sys2Proof.Machine.execUpdateRdlBegin c s
  | .updateRdlData c => Sys2Proof.Machine.execUpdateRdlData c s
  | .updateRdlEnd c => Sys2Proof.Machine.execUpdateRdlEnd c s
  | .codaRead c => Sys2Proof.Machine.execCodaRead c s
  | .codaList c => Sys2Proof.Machine.execCodaList c s
  | .codaFreeze c => Sys2Proof.Machine.execCodaFreeze c s
  | .codaSetTriggers c => Sys2Proof.Machine.execCodaSetTriggers c s
  | .codaKeep c => Sys2Proof.Machine.execCodaKeep c s
  | .securityMrsUnlock c => Sys2Proof.Machine.execSecurityMrsUnlock c s
  | .securityMrsLock c => Sys2Proof.Machine.execSecurityMrsLock c s
  | .securitySetMailboxOwner c => Sys2Proof.Machine.execSecuritySetMailboxOwner c s
  | .securityLedgerKey c => Sys2Proof.Machine.execSecurityLedgerKey c s
  | .securityProvision c => Sys2Proof.Machine.execSecurityProvision c s
  | .securityStatus c => Sys2Proof.Machine.execSecurityStatus c s
  | .get r => Sys2Proof.Machine.execGet r s
  | .put r => Sys2Proof.Machine.execPut r s
  | .delete r => Sys2Proof.Machine.execDelete r s
  | .cas r => Sys2Proof.Machine.execCas r s
  | .append r => Sys2Proof.Machine.execAppend r s
  | .scan r => Sys2Proof.Machine.execScan r s
  | .watch r => Sys2Proof.Machine.execWatch r s
  | .watchStop r => Sys2Proof.Machine.execWatchStop r s
  | .batchOpen r => Sys2Proof.Machine.execBatchOpen r s
  | .batchClose r => Sys2Proof.Machine.execBatchClose r s
  | .cancel r => Sys2Proof.Machine.execCancel r s
  | .segment r => Sys2Proof.Machine.execSegment r s
  | .segmentCommit r => Sys2Proof.Machine.execSegmentCommit r s
  | .segmentAbort r => Sys2Proof.Machine.execSegmentAbort r s
  | .hello r => Sys2Proof.Machine.execHello r s
  | .bye r => Sys2Proof.Machine.execBye r s
  | .credit r => Sys2Proof.Machine.execCredit r s
  | .heartbeat r => Sys2Proof.Machine.execHeartbeat r s
  | .digest r => Sys2Proof.Machine.execDigest r s
  | .pullList r => Sys2Proof.Machine.execPullList r s
  | .pullFetch r => Sys2Proof.Machine.execPullFetch r s
  | .pullSets r => Sys2Proof.Machine.execPullSets r s
  | .pullTransfer r => Sys2Proof.Machine.execPullTransfer r s
  | .pullResponseReceive a => Sys2Proof.Machine.execPullResponseReceive a s
  | .stanzaRead r => Sys2Proof.Machine.execStanzaRead r s
  | .stanzaLoad r => Sys2Proof.Machine.execStanzaLoad r s
  | .mgmtMessage src payload => Sys2Proof.Machine.execMgmtMessage src payload s
  | .mgmtMessageCancel src payload => Sys2Proof.Machine.execMgmtMessageCancel src payload s
  | .rdlBegin src payload => Sys2Proof.Machine.execRdlBegin src payload s
  | .rdlData src payload => Sys2Proof.Machine.execRdlData src payload s
  | .rdlEnd src payload => Sys2Proof.Machine.execRdlEnd src payload s
  | .rdlStatus src payload => Sys2Proof.Machine.execRdlStatus src payload s
  | .rxFrameAdmit port => Sys2Proof.Machine.execRxFrameAdmit port s
  | .rxFrameCheck port frame => Sys2Proof.Machine.execRxFrameCheck port frame s
  | .pauseReceive port quanta => Sys2Proof.Machine.execPauseReceive port quanta s
  | .receivedPauseExpiry port pausedUs => Sys2Proof.Machine.execReceivedPauseExpiry port pausedUs s
  | .pauseRepeat port => Sys2Proof.Machine.execPauseRepeat port s
  | .gptpSyncReceive port logInterval time => Sys2Proof.Machine.execGptpSyncReceive port logInterval time s
  | .syncLoss port => Sys2Proof.Machine.execSyncLoss port s
  | .holdoverExpiry => Sys2Proof.Machine.execHoldoverExpiry s
  | .startupGptpWaitExpiry => Sys2Proof.Machine.execStartupGptpWaitExpiry s
  | .pdelayReqReceive port seq t2 => Sys2Proof.Machine.execPdelayReqReceive port seq t2 s
  | .pdelayRespReceive port seq t2 t3 t4 => Sys2Proof.Machine.execPdelayRespReceive port seq t2 t3 t4 s
  | .pdelayReqSend port t1 => Sys2Proof.Machine.execPdelayReqSend port t1 s
  | .arpRequestReceive port vid target senderIp senderMac => Sys2Proof.Machine.execArpRequestReceive port vid target senderIp senderMac s
  | .neighborSolicitationReceive port vid target source => Sys2Proof.Machine.execNeighborSolicitationReceive port vid target source s
  | .echoRequestReceive port vid packet => Sys2Proof.Machine.execEchoRequestReceive port vid packet s
  | .requestToAdmissionPort port => Sys2Proof.Machine.execRequestToAdmissionPort port s
  | .measureTick time sample => Sys2Proof.Machine.execMeasureTick time sample s
  | .chainConfirmDeadline measure => Sys2Proof.Machine.execChainConfirmDeadline measure s
  | .sealedListExecute => Sys2Proof.Machine.execSealedListExecute s
  | .executionWindowOverrun => Sys2Proof.Machine.execExecutionWindowOverrun s
  | .stagingBankDurable => Sys2Proof.Machine.execStagingBankDurable s
  | .heartbeatQueue => Sys2Proof.Machine.execHeartbeatQueue s
  | .frameTransmitStart port => Sys2Proof.Machine.execFrameTransmitStart port s
  | .txDescriptorCancel port descriptor => Sys2Proof.Machine.execTxDescriptorCancel port descriptor s
  | .linkDown port => Sys2Proof.Machine.execLinkDown port s
  | .linkUp port rate fullDuplex => Sys2Proof.Machine.execLinkUp port rate fullDuplex s
  | .phyIntPoll port register value => Sys2Proof.Machine.execPhyIntPoll port register value s
  | .ppsInEdge time => Sys2Proof.Machine.execPpsInEdge time s
  | .ppsOutSecond => Sys2Proof.Machine.execPpsOutSecond s
  | .mailboxFetch => Sys2Proof.Machine.execMailboxFetch s
  | .mailboxLoadingTimeout mailbox => Sys2Proof.Machine.execMailboxLoadingTimeout mailbox s
  | .commandTimeout mailbox => Sys2Proof.Machine.execCommandTimeout mailbox s
  | .gapTimeout session => Sys2Proof.Machine.execGapTimeout session s
  | .batchDeadline session => Sys2Proof.Machine.execBatchDeadline session s
  | .segmentedValueDeadline session => Sys2Proof.Machine.execSegmentedValueDeadline session s
  | .sessionIdleClose session => Sys2Proof.Machine.execSessionIdleClose session s
  | .watchDurationEnd session seq => Sys2Proof.Machine.execWatchDurationEnd session seq s
  | .watchLimitReached session seq => Sys2Proof.Machine.execWatchLimitReached session seq s
  | .lunSlotBoundary lun slot => Sys2Proof.Machine.execLunSlotBoundary lun slot s
  | .backgroundDenialExpiry unit => Sys2Proof.Machine.execBackgroundDenialExpiry unit s
  | .nandOpComplete lun result => Sys2Proof.Machine.execNandOpComplete lun result s
  | .nandOpTimeout lun => Sys2Proof.Machine.execNandOpTimeout lun s
  | .eraseDone group blocks => Sys2Proof.Machine.execEraseDone group blocks s
  | .garbageCollection group => Sys2Proof.Machine.execGarbageCollection group s
  | .folding group => Sys2Proof.Machine.execFolding group s
  | .wearMove group => Sys2Proof.Machine.execWearMove group s
  | .scrub group blocks errLow errMid errHigh => Sys2Proof.Machine.execScrub group blocks errLow errMid errHigh s
  | .refresh group superblock => Sys2Proof.Machine.execRefresh group superblock s
  | .evacuation lun => Sys2Proof.Machine.execEvacuation lun s
  | .temperatureSample temps => Sys2Proof.Machine.execTemperatureSample temps s
  | .lpddr5PatrolPass rank corrected uncorrectable => Sys2Proof.Machine.execLpddr5PatrolPass rank corrected uncorrectable s
  | .larkspurScrub upsets => Sys2Proof.Machine.execLarkspurScrub upsets s
  | .larkspurForcedScrub => Sys2Proof.Machine.execLarkspurForcedScrub s
  | .onePlaceMove table => Sys2Proof.Machine.execOnePlaceMove table s
  | .shadowRebuild pair => Sys2Proof.Machine.execShadowRebuild pair s
  | .bankRequalify bank passed => Sys2Proof.Machine.execBankRequalify bank passed s
  | .cascadeTransaction header word matchIn result => Sys2Proof.Machine.execCascadeTransaction header word matchIn result s
  | .cascadeLoss why => Sys2Proof.Machine.execCascadeLoss why s
  | .cascadeGenerationCopy => Sys2Proof.Machine.execCascadeGenerationCopy s
  | .digestRoundSend round copy => Sys2Proof.Machine.execDigestRoundSend round copy s
  | .peerSilenceTimeout member => Sys2Proof.Machine.execPeerSilenceTimeout member s
  | .chorusCatchUp => Sys2Proof.Machine.execChorusCatchUp s
  | .chorusTransferRejoin => Sys2Proof.Machine.execChorusTransferRejoin s
  | .transferWindowExpiry => Sys2Proof.Machine.execTransferWindowExpiry s
  | .snapshotExpiry => Sys2Proof.Machine.execSnapshotExpiry s
  | .evioInputEdge ball rising time => Sys2Proof.Machine.execEvioInputEdge ball rising time s
  | .eventDeliver channel consumer merged time => Sys2Proof.Machine.execEventDeliver channel consumer merged time s
  | .consumerActionComplete consumer => Sys2Proof.Machine.execConsumerActionComplete consumer s
  | .aonTimerExpiry => Sys2Proof.Machine.execAonTimerExpiry s
  | .porstNAssert => Sys2Proof.Machine.execPorstNAssert s
  | .sysRstNAssert => Sys2Proof.Machine.execSysRstNAssert s
  | .controllerResetRelease modeRecov cascId0 cascId1 => Sys2Proof.Machine.execControllerResetRelease modeRecov cascId0 cascId1 s
  | .firstMeasureOpen start => Sys2Proof.Machine.execFirstMeasureOpen start s
  | .watchdogExpiry => Sys2Proof.Machine.execWatchdogExpiry s
  | .wdogWarn core => Sys2Proof.Machine.execWdogWarn core s
  | .internalFatalError reason core => Sys2Proof.Machine.execInternalFatalError reason core s
  | .protectionFault core access start size => Sys2Proof.Machine.execProtectionFault core access start size s
  | .ownershipRequest line cores writeback => Sys2Proof.Machine.execOwnershipRequest line cores writeback s
  | .ownershipRetry line => Sys2Proof.Machine.execOwnershipRetry line s
  | .pwrFailAssert offsetUs => Sys2Proof.Machine.execPwrFailAssert offsetUs s
  | .stopQuiesceComplete quiesce10us => Sys2Proof.Machine.execStopQuiesceComplete quiesce10us s
  | .powerReturn => Sys2Proof.Machine.execPowerReturn s
  | .deviceResetQuiesceStart => Sys2Proof.Machine.execDeviceResetQuiesceStart s
  | .holdupOkFall => Sys2Proof.Machine.execHoldupOkFall s
  | .thermAlertAssert => Sys2Proof.Machine.execThermAlertAssert s
  | .thermalShutdown tj => Sys2Proof.Machine.execThermalShutdown tj s
  | .thermalShutdownRelease tj => Sys2Proof.Machine.execThermalShutdownRelease tj s
  | .custodyPortStopTimeout => Sys2Proof.Machine.execCustodyPortStopTimeout s
  | .custodyEntryComplete => Sys2Proof.Machine.execCustodyEntryComplete s
  | .wakeRise => Sys2Proof.Machine.execWakeRise s
  | .xtal32Stable => Sys2Proof.Machine.execXtal32Stable s
  | .pendingRegionWritten => Sys2Proof.Machine.execPendingRegionWritten s
  | .bootRecordArmedWrite => Sys2Proof.Machine.execBootRecordArmedWrite s
  | .archiveDurable => Sys2Proof.Machine.execArchiveDurable s
  | .installReady => Sys2Proof.Machine.execInstallReady s
  | .loaderInstall => Sys2Proof.Machine.execLoaderInstall s
  | .bootRecordRevertingWrite => Sys2Proof.Machine.execBootRecordRevertingWrite s
  | .rollbackFuseBurn => Sys2Proof.Machine.execRollbackFuseBurn s
  | .provisionFuseBurn => Sys2Proof.Machine.execProvisionFuseBurn s
  | .settingsMirrorWrite => Sys2Proof.Machine.execSettingsMirrorWrite s
  | .recoveryInstallComplete => Sys2Proof.Machine.execRecoveryInstallComplete s
  | .codaEntryWrite => Sys2Proof.Machine.execCodaEntryWrite s
  | .freezeTimeout => Sys2Proof.Machine.execFreezeTimeout s
  | .codaRecordCopy => Sys2Proof.Machine.execCodaRecordCopy s
  | .vaultFlush => Sys2Proof.Machine.execVaultFlush s
  | .debugHalt core halt => Sys2Proof.Machine.execDebugHalt core halt s
  | .jtagBypass => Sys2Proof.Machine.execJtagBypass s
  | .jtagIdcode => Sys2Proof.Machine.execJtagIdcode s
  | .jtagSamplePreload boundary => Sys2Proof.Machine.execJtagSamplePreload boundary s
  | .jtagExtest => Sys2Proof.Machine.execJtagExtest s
  | .jtagClamp => Sys2Proof.Machine.execJtagClamp s
  | .jtagHighz => Sys2Proof.Machine.execJtagHighz s
  | .mbxDoorbell mailbox => Sys2Proof.Machine.execMbxDoorbell mailbox s
  | .mbxCtrlCancel mailbox => Sys2Proof.Machine.execMbxCtrlCancel mailbox s
  | .mbxRelease mailbox => Sys2Proof.Machine.execMbxRelease mailbox s
  | .mbxRequestWindowWrite offset data => Sys2Proof.Machine.execMbxRequestWindowWrite offset data s
  | .tmbMeasureLoRead => Sys2Proof.Machine.execTmbMeasureLoRead s
  | .macCounterLowRead port counter => Sys2Proof.Machine.execMacCounterLowRead port counter s
  | .mac0PpsLoRead => Sys2Proof.Machine.execMac0PpsLoRead s
  | .evfChTsLoRead => Sys2Proof.Machine.execEvfChTsLoRead s
  | .spiWriteFrame mosi => Sys2Proof.Machine.execSpiWriteFrame mosi s
  | .spiReadFrame mosi => Sys2Proof.Machine.execSpiReadFrame mosi s
  | .ppsOutPulseEnd => Sys2Proof.Machine.execPpsOutPulseEnd s
  | .phyResetRelease phy => Sys2Proof.Machine.execPhyResetRelease phy s
  | .departureHeartbeatExpiry port => Sys2Proof.Machine.execDepartureHeartbeatExpiry port s

end Sys2Proof.Machine
end

