-- ==== Sys2Proof/Safety.lean ====
section
/-! DEFINITION. What counts as a run that goes on, and the words the statements are written in: a command completes; a mailbox
takes a command; the life of a Cantor command as the mailboxes and the Sequencer show it, apart from what the command does. -/

namespace Sys2Proof.Machine

open Sys2Proof

/-! ## Runs -/

/-- Command `i` in state `s` answers a next state, and `P` holds of it. -/
def completes (i : Instr) (s : State) (P : State → Prop) : Prop := ∃ t, exec i s = .next t ∧ P t

/-- The block's step goes on: neither a fault nor a refusal. -/
def goesOn (s : State) : Prop := ∃ t, step s = .next t

/-! ## Cantor commands over SPI (R82 to R89, R371) -/

/-- The mailbox of `c` takes it now: the block is in Service and out of reset, the mailbox is IDLE and not claimed over
Ethernet, the command does not repeat the mailbox's previous one (R88), and the mailbox's owner may send commands of class `o`
(R87 step 4). -/
def State.ready (s : State) (c : Cmd) (o : Owner) : Prop :=
  s.power.mode = .service ∧ s.power.inReset = false ∧ (s.mb c.mailbox).state = .idle ∧ (s.mb c.mailbox).eth = false ∧
  (s.mb c.mailbox).cancelPending = false ∧ (s.mb c.mailbox).repeats c.sequence = false ∧ (s.ownerOf c.mailbox).covers o = true

/-- As `ready`, with a free admission slot in the open measure (R39). -/
def State.readySealed (s : State) (c : Cmd) (o : Owner) : Prop := s.ready c o ∧ s.slotFree = true

/-- As `ready`, in Recovery: mailbox 0 alone is served there (R89). -/
def State.readyRecovery (s : State) (c : Cmd) : Prop :=
  s.power.mode = .recovery ∧ s.power.inReset = false ∧ c.mailbox = 0 ∧ (s.mb c.mailbox).state = .idle ∧
  (s.mb c.mailbox).eth = false ∧ (s.mb c.mailbox).cancelPending = false ∧ (s.mb c.mailbox).repeats c.sequence = false

/-- The mailbox of `c` runs it: the request stands in its buffer, SEQ and the previous sequence are the command's. -/
def State.granted (s : State) (c : Cmd) (op : Nat) : State :=
  s.modMbx c.mailbox fun b =>
    { b with state := .running, seqReg := c.sequence, prevSeq := some c.sequence, stored := false
             request := padTo 512 (requestEnvelope op c.mailbox 0 c.sequence c.args) }

/-- An immediate command has its answer: mailbox DONE, CODE of OK, the response with MEASURE 0 in the response buffer
(R84, R371). -/
def State.answered (s : State) (c : Cmd) (op : Nat) (result : Bytes) : State :=
  s.modMbx c.mailbox fun b =>
    { b with state := .done, eth := false, peer := none, code := 0, seqReg := c.sequence, prevSeq := some c.sequence
             stored := true, lastDone := some c.sequence, cancelPending := false
             request := padTo 512 (requestEnvelope op c.mailbox 0 c.sequence c.args)
             response := padTo 512 (responseEnvelope op c.mailbox false c.sequence 0 0 result) }

/-- The sealed command that `c` becomes in the open measure N: it takes the mailbox's next admission count (R86). -/
def State.asSealed (s : State) (c : Cmd) (op : Nat) : SealedCmd :=
  { opcode := op, cmd := c, count := (s.store.admCount[c.mailbox] + 1) % 2 ^ 32, adm := s.tb.measure }

/-- A sealed command has entered the open measure: its mailbox runs it, it has one slot and the mailbox's next admission count,
and it stands among the measure's admitted items (R39, R86). -/
def State.taken (s : State) (c : Cmd) (op : Nat) : State :=
  ((s.granted c op).modStore fun t =>
    { t with admCount := t.admCount.set c.mailbox (s.store.admCount[c.mailbox] + 1) }).modSeq fun q =>
      { q with slots := q.slots + 1, admitted := q.admitted ++ [.cmd (s.asSealed c op)] }

/-- The row of a sealed command completes: over SPI, in a mailbox of class `o` that is ready, with arguments that pass the checks
which arguments decide (R87), it enters the open measure. The measure's sealed list gives it its place (R38, R39). -/
def entersMeasure (row : Cmd → Instr) (op : Nat) (o : Owner) (ok : Board → Bytes → Prop) : Prop :=
  ∀ (c : Cmd) (s : State), s.readySealed c o → ok s.board c.args → exec (row c) s = .next (s.taken c op)

/-- Command `c`, of opcode `op`, has its turn in the list of the measure that admitted it: the list executes in the next measure,
no sliced operation or SCAN of an earlier item runs, and no old settings are kept for a trial (R42, R46, R349). -/
def State.reaches (s : State) (c : SealedCmd) (op : Nat) : Prop :=
  c.opcode = op ∧ s.tb.measure = c.adm + 1 ∧ s.seq.late = 0 ∧ s.seq.behind = 0 ∧ s.seq.slicing = [] ∧ s.seq.scans = [] ∧
  s.store.oldSettings = none

/-- What command `c` of a sealed list makes of the state at its place (R42). -/
def State.atPlace (s : State) (c : SealedCmd) : State := State.runItem c.adm false s (.cmd c)

/-- The answer of `c` waits for the first 20 µs of measure `due`, once measure `durable` is persisted (R371). -/
def State.replying (s : State) (c : SealedCmd) (st : Status) (result : Bytes) (due durable : Nat) : State :=
  s.modSeq fun q => { q with replies := q.replies ++ [cmdReply c st result due durable] }

/-- A sealed command admitted in N has status OK: its answer leaves in N + 3, once N is persisted. -/
def State.sealedOk (s : State) (c : SealedCmd) (result : Bytes) : State := s.replying c .ok result (c.adm + 3) c.adm

/-! ## Events (R285, R287) -/

/-- From `s` to `t`, one event went into each channel that `q` names and into no other: EVENTS counts it, every consumer of
Table 11.2 that the channel enables and that has power is to see it, and nothing else has changed but ABSENT. -/
def State.injects (s t : State) (q : Fin 32 → Prop) : Prop :=
  t = { s with fabric := { s.fabric with chans := t.fabric.chans, flight := t.fabric.flight } } ∧
  (∀ c, q c → t.chan c = { s.chan c with events := bump (s.chan c).events, absent := (t.chan c).absent }) ∧
  (∀ c, ¬ q c → t.chan c = s.chan c) ∧
  (∀ p ∈ s.fabric.flight, p ∈ t.fabric.flight) ∧
  (∀ c k, q c → k ∈ consumers → (s.chan c).cfg.consumers.getLsbD k = true → s.consumerPresent k = true →
    (c.val, k, (s.chan c).cfg.remember) ∈ t.fabric.flight)

/-! ## SKP requests (R33, R104, R109) -/

/-- The drive serves SKP to this source: it is in Service, the port is usable, and the datagram lies on the data VLAN (R100,
R141). -/
def State.serves (s : State) (src : Source) : Prop :=
  s.power.mode = .service ∧ s.power.inReset = false ∧ s.portUsable src.port = true ∧ src.vid = (s.net src.port).set.dataVid

/-- The next request of an open local session arrives where the drive serves it and can be admitted at once: it comes from the
source that the session is bound to, it has the session's next sequence and no target, a credit is free, its fields keep
Table 5.5, the open measure has room, and nothing waits in a reorder window. -/
def State.readySkp (s : State) (r : Request) (x : Session) : Prop :=
  s.serves r.src ∧ s.session r.session = some x ∧ x.opened = true ∧ x.chorus = false ∧ x.boundTo r.src = true ∧ r.seq = x.next ∧ x.next < 2 ^ 32 ∧
  x.outstanding < x.window ∧ r.target = 0 ∧ formOk r = true ∧ s.fits (valueBytesOf r) = true ∧ s.awaits r = false ∧
  s.seq.reorder = []

/-- The request has entered the open measure N: its sequence is consumed with a replay record, it holds a credit, one slot and
its value bytes count, and it stands among the measure's admitted items (R33, R61, R110). The measure's sealed list gives it its
place (R38). -/
def State.entered (s : State) (r : Request) : State :=
  (s.modSession r.session fun x =>
    Session.consume s.tb.persisted (.taken r s.tb.measure)
      (Session.takeCredit r.seq { x with lastSeen := s.tb.measure })).modSeq fun q =>
    { q with slots := q.slots + 1, bytes := q.bytes + valueBytesOf r, admitted := q.admitted ++ [.skp r] }

/-- A request has its turn in the list of measure `m`: the list executes in the next measure, and no sliced operation of an earlier
item runs (R42, R46). -/
def State.reachesSkp (s : State) (m : Nat) : Prop :=
  s.tb.measure = m + 1 ∧ s.seq.late = 0 ∧ s.seq.behind = 0 ∧ s.seq.slicing = []

/-- What a local request of the list of measure `m` makes of the state at its place (R42). -/
def State.serve (s : State) (m : Nat) (r : Request) : State := State.runItem m false s (.skp r)

/-- The request, in the list of measure `m`, may use its namespace `n`, local to this drive (R132 steps 1 to 3, R163). -/
def State.mayAccess (s : State) (m : Nat) (r : Request) (n : Namespace) : Prop :=
  s.noRank = false ∧ r.ns ≠ 0 ∧ s.store.ns r.ns = some n ∧ s.store.chorusNs r.ns = none ∧
  (n.typ = .ledger → ledgerOp r = true) ∧ (s.checkAcl ⟨m, m, false⟩ r).2 = .permitted

/-- `t` is `u` with the response to `r` queued for its window, or sent where that window is open: to its source, with the status and
the pieces, from measure `due` on, once `durable` is persisted (R43, R44); only the response that opens a watch keeps its credit
(R124). -/
def State.responds (u t : State) (r : Request) (st : Status) (pieces : List (Nat × Nat × Bytes × Bytes)) (due durable : Nat) : Prop :=
  ∃ q : Reply, t = u.schedule q ∧ q.session = r.session ∧ q.seq = r.seq ∧ q.src = r.src ∧ q.op = r.op ∧ q.ns = r.ns ∧
    q.status = st ∧ q.pieces = pieces ∧ q.due = due ∧ q.durable = durable ∧ q.notify = false ∧
    q.credit = !(r.op == 7 && !bit r.flags 4 && st == .ok)

/-- At its place in the list of measure `m` the request leads to a state of which `P` holds, and is answered with the status and the
pieces, from measure `due` on, once `durable` is persisted. -/
def State.servesWith (s : State) (m : Nat) (r : Request) (st : Status) (pieces : List (Nat × Nat × Bytes × Bytes)) (due durable : Nat)
    (P : State → Prop) : Prop :=
  ∃ u, u.responds (s.serve m r) r st pieces due durable ∧ P u

/-- What no data request touches. -/
def State.sameRest (s t : State) : Prop :=
  t.pending = s.pending ∧ t.board = s.board ∧ t.fuses = s.fuses ∧ t.nor = s.nor ∧ t.tb = s.tb ∧ t.mbx = s.mbx ∧
  t.ports = s.ports ∧ t.power = s.power ∧ t.spi = s.spi ∧ t.cluster = s.cluster ∧ t.chorus = s.chorus ∧ t.durable = s.durable ∧
  t.snaps = s.snaps

/-- Two stores that differ in namespace `ns`, its version counter and the next extent alone. -/
def Store.sameBut (a b : Store) (ns : Nat) : Prop :=
  (∀ k, k ≠ ns → b.ns k = a.ns k ∧ getKey k b.counters = getKey k a.counters) ∧
  b = { a with nss := b.nss, counters := b.counters, nextExtent := b.nextExtent }

/-! ## Stops and resets (R305, R319, R321) -/

/-- From `s` to `t` a controller reset of the cause has begun: sessions are closed, the registers of the switched domains are at
their reset values, locks are gone, the store is that of M_r with the packet numbers used since (R149), and fuses, the boot NOR
but a Recovery download, and the numbers of measures are kept (R28, R305, R321). -/
def State.resetBy (s t : State) (cause : ResetCause) : Prop :=
  t.power.inReset = true ∧ t.power.mode = .startup ∧ t.power.cause = cause ∧
  t.power.previous = (if cause = .porst then .porst else s.power.cause) ∧
  t.power.bootFails = (if cause = .porst then 0 else s.power.bootFails) ∧
  t.mbx = Vector.replicate 8 .reset ∧ t.spi = .reset ∧ t.seq = .reset ∧ t.fabric = .reset ∧ t.snaps = [] ∧
  (∀ x ∈ t.sessions, x.opened = false) ∧ t.tb.opened = false ∧ t.tb.highest = s.tb.highest ∧ t.tb.persisted = s.tb.persisted ∧
  t.durable = s.durable ∧ t.store = Store.recover s.durable s.store ∧ t.nor = { s.nor with rdl := .reset } ∧
  t.fuses = s.fuses ∧ t.board = s.board ∧ t.pending = s.pending

/-- From `s` to `t` the stop form of Quiesce has begun in the open measure (R319): PRESENT_n is released, ALIVE is low, nothing
more is admitted or executed, a bank that is not being programmed is dropped, and `code` is the reset that follows without
waiting for PWR_FAIL_n. -/
def State.stopsAs (s t : State) (code : Option ResetCause) : Prop :=
  t.power.mode = .quiesceStop ∧ t.power.present = false ∧ t.power.alive = false ∧
  t.power.stopping = some (s.tb.measure, s.power.holdupOk) ∧ t.power.stopped = false ∧ t.power.stopCode = code ∧
  t.power.plan = none ∧ t.seq.sealed = [] ∧ t.seq.admitted = [] ∧ t.seq.waiting = [] ∧ t.seq.held = [] ∧ t.seq.reorder = [] ∧
  t.snaps = s.snaps.filter (·.programming) ∧ t.store = s.store ∧ t.durable = s.durable ∧ t.tb = s.tb ∧ t.nor = s.nor ∧
  t.fuses = s.fuses ∧ t.sessions = s.sessions ∧ t.mbx = s.mbx

/-! ## L2 ownership (R73) -/

/-- No core waits twice, and at most 4 − j requests for the line have waited behind j grants or more. -/
def DirLine.fair (d : DirLine) : Prop :=
  (d.waiting.map (·.1)).Nodup ∧
  ∀ j, d.waiting.all (fun p => decide (p.2 < j)) = true ∨ (d.waiting.filter fun p => decide (j ≤ p.2)).length + j ≤ 4

/-! ## The flash layer (R191, R196, R202) -/

/-- From `s` to `t` LUN `id` alone has changed, from `l` to `m`. -/
def State.turnsLun (s t : State) (id : Nat) (m : Lun) : Prop :=
  t.lun id = some m ∧ (∀ k, k ≠ id → t.lun k = s.lun k) ∧ t = { s with flash := { s.flash with luns := t.flash.luns } }

/-- From `s` to `t` the relocation of superblock `b` has begun (R191, R196): nothing is written to it any more; with something to be
read it keeps its codewords and a relocation waits for each of them; with nothing valid left its closed blocks wait for their
erase. No value and no durable state has changed. -/
def State.movedFrom (s t : State) (b : Superblock) (stream : Stream) (evac : Bool) : Prop :=
  (∃ y, t.sb b.group b.num = some y ∧ y.any .opened = false ∧ y.words = b.words ∧
    (s.movable b evac ≠ [] → y.draining = true) ∧ (s.validOf b = [] → y.any .closed = false)) ∧
  (s.movable b evac ≠ [] →
    { group := b.group, num := b.num, stream, evac, pending := (s.movable b evac).map fun w => (w.ext, w.idx), got := [] } ∈
      t.flash.moves) ∧
  t.store = s.store ∧ t.durable = s.durable ∧ t.tb = s.tb ∧ t.nor = s.nor ∧ t.sessions = s.sessions

/-! ## Requests by their rows (R33, R48) -/

/-- The row of a request that uses a session sequence, by its opcode, the flags of WATCH and SEGMENT, and STANZA's operation. -/
def rowOf (r : Request) : Option Instr :=
  match r.op with
  | 0x01 => some (.get r)
  | 0x02 => some (.put r)
  | 0x03 => some (.delete r)
  | 0x04 => some (.cas r)
  | 0x05 => some (.append r)
  | 0x06 => some (.scan r)
  | 0x07 => some (if bit r.flags 4 then .watchStop r else .watch r)
  | 0x08 => some (.batchOpen r)
  | 0x09 => some (.batchClose r)
  | 0x0A => some (.cancel r)
  | 0x0B => some (if bit r.flags 3 then .segmentAbort r else if bit r.flags 2 then .segmentCommit r else .segment r)
  | 0x13 => if u8 r.body 0 = 1 then some (.stanzaRead r) else if u8 r.body 0 = 2 then some (.stanzaLoad r) else none
  | _ => none

/-- As `readySkp`, for a request pinned to a measure; whether that measure has room is left open. -/
def State.readyPinned (s : State) (r : Request) (x : Session) : Prop :=
  s.serves r.src ∧ s.session r.session = some x ∧ x.opened = true ∧ x.chorus = false ∧ x.boundTo r.src = true ∧
  r.seq = x.next ∧ x.next < 2 ^ 32 ∧ x.outstanding < x.window ∧ x.closing = [] ∧ r.target ≠ 0 ∧ formOk r = true ∧
  s.awaits r = false ∧ s.seq.reorder = []

/-- The request has arrived and taken a credit; nothing else has come of it. -/
def State.arrived (s : State) (r : Request) : State :=
  s.modSession r.session fun x => Session.takeCredit r.seq { x with lastSeen := s.tb.measure }

/-- From `s` to `t` the admission port has refused the request with `st` (R37): its sequence is consumed with a replay record of
the refusal, its credit is back, the refusal with TARGET 0 waits at its port, and nothing else has changed. -/
def State.refuses (s t : State) (r : Request) (x : Session) (st : Status) : Prop :=
  (∃ y, t.session r.session = some y ∧ y.holding = x.holding ∧
    y.replay = keepReplay s.tb.persisted (Replay.refusal r s.tb.measure st :: x.replay)) ∧
  (∀ k, k ≠ r.session → t.session k = s.session k) ∧ t.ports = (s.answerNow r st 0 s.tb.measure []).ports ∧
  t = { s with sessions := t.sessions, ports := t.ports }

/-! ## What lasts (R28, R339, R402) -/

/-- The open measure is the newest that was ever opened. -/
def State.countsOnce (s : State) : Prop := s.tb.opened = true → s.tb.measure = s.tb.highest

/-- Fuses as they may be: at most the 64 anti-rollback bits that there are. -/
def Fuses.wf (f : Fuses) : Prop := f.rollback ≤ 64

/-- From `f` to `g` fuses were only burnt: no bit is back, and what was fused stays as it is. -/
def Fuses.onlyBurnt (f g : Fuses) : Prop :=
  f.rollback ≤ g.rollback ∧ (f.provisioned = true → g.provisioned = true) ∧ (f.debugLocked = true → g.debugLocked = true) ∧
  (f.oemKey = true → g.oemKey = true ∧ g.oemHash = f.oemHash ∧ g.oemFwKey = f.oemFwKey)

end Sys2Proof.Machine
end

