-- ==== Sys2Proof/Certificates/Slice0/Obligations.lean ====
section
/-! DEFINITION. The statements for the provers. Each is a `def Obligations.<Name> : Prop`; its docstring names the rules of spec/
it formalises. -/

open Sys2Proof Sys2Proof.Machine

/-! ## The block -/

/-- The step takes the command at the front of the queue and is its `exec` on the state with the queue's rest; with an empty
queue the block idles (log entry 17). -/
def Obligations.StepRunsFrontCommand : Prop :=
  (∀ (c : Instr) (rest : List Instr) (s : State), step { s with pending := c :: rest } = exec c { s with pending := rest }) ∧
  (∀ s : State, s.pending = [] → step s = .next s)

/-- After reset the block's queue is empty, it stands in its reset in Start-up with no measure open and none ever opened, no
session, nothing admitted, no anti-rollback fuse burnt, the event fabric, SPI and mailboxes idle; and the invariants of
`EveryMeasureNumberIsNew` and `FusesOnlyBurn` hold. -/
def Obligations.ResetKeepsInvariants : Prop :=
  State.reset.pending = [] ∧ State.reset.countsOnce ∧ State.reset.fuses.wf ∧ State.reset.fuses.rollback = 0 ∧
  State.reset.power.inReset = true ∧ State.reset.power.mode = .startup ∧ State.reset.tb.opened = false ∧
  State.reset.tb.highest = 0 ∧ State.reset.sessions = [] ∧ State.reset.seq.admitted = [] ∧ State.reset.seq.sealed = [] ∧
  State.reset.store.nss = [] ∧ State.reset.fabric.flight = [] ∧ (∀ m, (State.reset.mb m).state = .idle)

/-- R28: every measure that any step opens has a number greater than that of every measure opened before, whatever the step: a
reset, a power loss, Custody, Recovery or an update keeps the highest number there ever was. `countsOnce` is the invariant, and
it is kept too. -/
def Obligations.EveryMeasureNumberIsNew : Prop :=
  ∀ s t : State, s.countsOnce → step s = .next t →
    t.countsOnce ∧ s.tb.highest ≤ t.tb.highest ∧
    (t.tb.opened = true → (s.tb.opened = true ∧ t.tb.measure = s.tb.measure) ∨ s.tb.highest < t.tb.measure)

/-- Every step keeps the board as it is, takes one command from the queue, and only burns fuses: the anti-rollback bits never
exceed 64 and never fall, PROVISIONED, DEBUG_LOCKED and the OEM key never go back, a fused key and its hash stay. -/
def Obligations.FusesOnlyBurn : Prop :=
  ∀ s t : State, s.fuses.wf → step s = .next t →
    t.fuses.wf ∧ s.fuses.onlyBurnt t.fuses ∧ t.board = s.board ∧ t.pending = s.pending.tail

/-- Table 5.2, Table 4.7: no field of an SKP header is dropped or moved, and none of a command's envelope: reading the UDP
payload of a well-formed request gives the request, and the fields of a well-formed command's envelope stand at their offsets,
its arguments behind them. -/
def Obligations.HeadersReadBack : Prop :=
  (∀ r : Request, r.wf = true → parseRequest r.src (encodeRequest r) = r) ∧
  (∀ (op flags : Nat) (c : Cmd), op < 2 ^ 16 → flags < 256 → c.wf = true →
    let e := requestEnvelope op c.mailbox flags c.sequence c.args
    fld e 0 2 = op ∧ u8 e 2 = c.mailbox.val ∧ u8 e 3 = flags ∧ fld e 4 4 = c.sequence ∧ fld e 8 2 = c.args.length ∧
    fld e 10 2 = 0 ∧ fld e 12 4 = 0 ∧ e.drop 16 = c.args)

/-! ## Cantor commands -/

/-- The immediate commands of DEVICE, TIME and UNIT complete from a ready mailbox: the answer of Table 15.3 (R375), the echo,
R329's start-up and power status, R376's time status, R378's seal log, R99's and R379's unit records stand in the response
buffer with status OK, and nothing but the mailbox has changed. -/
def Obligations.DeviceTimeUnitReadsAnswer : Prop :=
  ∀ (c : Cmd) (s : State), s.ready c .rt →
    (c.args = [] →
      exec (.deviceIdentify c) s = .next (s.answered c 0x0101 s.identity) ∧
      exec (.deviceStartupStatus c) s = .next (s.answered c 0x0103 s.startupStatus) ∧
      exec (.devicePowerStatus c) s = .next (s.answered c 0x0107 s.powerStatus) ∧
      exec (.timeStatus c) s = .next (s.answered c 0x0201 s.timeStatus)) ∧
    (c.args.length ≤ 496 → exec (.deviceEcho c) s = .next (s.answered c 0x0102 c.args)) ∧
    (∀ last dLast oldest dOldest, c.args.length = 8 → 1 ≤ u8 c.args 6 → u8 c.args 6 ≤ 15 →
      s.tb.sealLog.head? = some (last, dLast) → s.tb.sealLog.getLast? = some (oldest, dOldest) →
      oldest ≤ fld c.args 0 6 → fld c.args 0 6 ≤ last →
      exec (.timeSealLog c) s = .next (s.answered c 0x0203
        (be 6 (fld c.args 0 6) ++ be 1 (min (u8 c.args 6) (last - fld c.args 0 6 + 1)) ++ be 1 0 ++
          (List.range (min (u8 c.args 6) (last - fld c.args 0 6 + 1))).flatMap fun i =>
            (getKey (fld c.args 0 6 + i) s.tb.sealLog).getD (zeros 32)))) ∧
    (∀ u, c.args.length = 2 → s.unit (fld c.args 0 2) = some u →
      exec (.unitQuery c) s = .next (s.answered c 0x0301 (s.unitRecord u))) ∧
    (c.args.length = 4 →
      exec (.unitList c) s = .next (s.answered c 0x0303
        (be 1 ((s.units.filter fun u => decide (fld c.args 0 2 ≤ u.id)).take 61).length ++ be 1 0 ++
          be 2 ((((s.units.filter fun u => decide (fld c.args 0 2 ≤ u.id)).drop 61).head?.map (·.id)).getD 0) ++
          ((s.units.filter fun u => decide (fld c.args 0 2 ≤ u.id)).take 61).flatMap s.unitRecord)))

/-- The sealed commands of DEVICE, TIME and UNIT complete. Each row enters the open measure N with one slot and the mailbox's
next admission count (R39, R86). At its place in N's list it does what its rule gives it and nothing else, and is answered OK in
N + 3: a planned stop is set (R312, Table 12.10); the thresholds wait for the boundary (R323); the pending anchor is (T_E, E,
new length) (R31, R377), unless the length is the one in force (the model's choice, log entry 29); a raise of a management view
waits for the boundary, a lower one applies at once (R97, R99). -/
def Obligations.DeviceTimeUnitChangesComplete : Prop :=
  entersMeasure .deviceEnterCustody 0x0104 .mgmt (fun _ a => a.length = 4) ∧
  entersMeasure .deviceSetThermal 0x0105 .mgmt (fun _ a => a.length = 4 ∧ rising (thermalArgs a) = true) ∧
  entersMeasure .deviceReset 0x0106 .mgmt (fun _ a => a.length = 4 ∧ u8 a 0 ≤ 1) ∧
  entersMeasure .timeSetLength 0x0202 .mgmt (fun _ a => a.length = 8 ∧ u8 a 0 ≤ 3) ∧
  entersMeasure .unitSetState 0x0302 .mgmt (fun _ a => a.length = 4 ∧ u8 a 2 ≤ 3) ∧
  (∀ (c : SealedCmd) (s : State) (a : Bytes), a = c.cmd.args →
     (s.reaches c 0x0104 → s.power.xtal32 = true → (bit (u8 a 0) 0 = false ∨ s.store.chorus = none) → s.power.plan = none →
       s.atPlace c = (s.sealedOk c []).modPower fun p => { p with plan := some ⟨c.adm, true⟩ }) ∧
     (s.reaches c 0x0105 → thermalOk s.thermalDefaults (thermalArgs a) = true →
       s.atPlace c = (s.sealedOk c []).modStore fun t => { t with boundary := t.boundary ++ [c] }) ∧
     (s.reaches c 0x0106 → s.power.plan = none →
       s.atPlace c = (s.sealedOk c []).modPower fun p =>
         { p with plan := some ⟨c.adm, false⟩, planRecovery := u8 a 0 == 1 }) ∧
     (s.reaches c 0x0202 → u8 a 0 ≤ 3 → u8 a 0 ≠ s.store.length → c.adm + 2 ≤ fld a 2 6 → fld a 2 6 ≤ c.adm + 65536 →
       s.store.pendingAnchor = none → s.store.startOf (fld a 2 6) % (lengthUs (u8 a 0) * 1000) = 0 →
       s.atPlace c = (s.sealedOk c (be 6 (fld a 2 6) ++ be 2 0 ++ be 8 (s.store.startOf (fld a 2 6)))).modStore fun t =>
         { t with pendingAnchor := some (s.store.startOf (fld a 2 6), fld a 2 6, u8 a 0) }) ∧
     (∀ u, s.reaches c 0x0302 → u8 a 2 ≤ 3 → s.unit (fld a 0 2) = some u →
       ((s.mgmtView (fld a 0 2)).num < u8 a 2 →
         s.atPlace c = (s.sealedOk c (be 2 (fld a 0 2) ++ be 1 (s.mgmtView (fld a 0 2)).num ++ be 1 (u8 a 2))).modStore fun t =>
           { t with raises := insertKey (fld a 0 2) (UnitState.ofNum (u8 a 2)) (dropKey (fld a 0 2) t.raises) }) ∧
       (u8 a 2 < (s.mgmtView (fld a 0 2)).num → ∀ t, t = s.atPlace c →
         t.mgmtView (fld a 0 2) = UnitState.ofNum (u8 a 2) ∧ (∀ k, k ≠ fld a 0 2 → t.mgmtView k = s.mgmtView k) ∧
         getKey (fld a 0 2) t.store.raises = none ∧
         cmdReply c .ok (be 2 (fld a 0 2) ++ be 1 (s.mgmtView (fld a 0 2)).num ++ be 1 (u8 a 2)) (c.adm + 3) c.adm ∈ t.seq.replies ∧
         t.store.nss = s.store.nss ∧ t.store.settings = s.store.settings ∧ t.sessions = s.sessions ∧ t.tb = s.tb)))

/-- The NAMESPACE commands that change something complete: each row enters the open measure (R39, R86), and at its place in the
measure's list it is answered OK in N + 3. R166: CREATE of a free id, whose quota is 0 or no lower than the guarantee, a
ledger's RETENTION in range, and a guarantee within the commitment limit: the namespace stands in its place in the list, empty,
with the arguments' QUOTA and GUARANTEE; a ledger's RETENTION, EPOCH and the genesis hash are set; the answer is COMMITTED and
LIMIT (R381). R168, R382: DELETE of a local namespace that holds neither an unexpired record nor a held key removes it, its open
segmented values and its holds, ends its watches, and keeps every other namespace and every version counter. R167: SET_QUOTA
sets QUOTA and GUARANTEE of the namespace alone; R177: SET_RETENTION never lowers a RETENTION and sets that alone; R385:
LEDGER_TRIM removes the records up to N, all expired, and moves the oldest record. -/
def Obligations.NamespaceChangesComplete : Prop :=
  entersMeasure .namespaceCreate 0x0401 .mgmt (fun _ a => a.length = 36 ∧ u8 a 0 ≠ 0 ∧ u8 a 1 ∈ [1, 2, 3] ∧
    (fld a 4 8 = 0 ∨ fld a 12 8 ≤ fld a 4 8) ∧
    (NsType.ofNum (u8 a 1) = some .ledger → 1 ≤ fld a 20 8 ∧ fld a 20 8 ≤ 2 ^ 47)) ∧
  entersMeasure .namespaceDelete 0x0402 .mgmt (fun _ a => a.length = 4 ∧ u8 a 0 ≠ 0) ∧
  entersMeasure .namespaceSetQuota 0x0403 .mgmt (fun _ a => a.length = 20 ∧ u8 a 0 ≠ 0) ∧
  entersMeasure .namespaceLedgerTrim 0x0408 .mgmt (fun _ a => a.length = 12 ∧ u8 a 0 ≠ 0) ∧
  entersMeasure .namespaceSetRetention 0x0409 .mgmt (fun _ a => a.length = 12 ∧ u8 a 0 ≠ 0) ∧
  (∀ (c : SealedCmd) (s : State) (a : Bytes), a = c.cmd.args → u8 a 0 ≠ 0 →
     (∀ typ, s.reaches c 0x0401 → NsType.ofNum (u8 a 1) = some typ → s.store.ns (u8 a 0) = none →
       (fld a 12 8 = 0 ∨ s.store.committed + fld a 12 8 ≤ s.store.limit typ) → ∀ t, t = s.atPlace c →
       t.store.nss = insertNs
         { id := u8 a 0, typ, quota := fld a 4 8, guarantee := fld a 12 8
           retention := if typ = .ledger then fld a 20 8 else 0, epoch := if typ = .ledger then fld a 28 8 else 0
           keys := [], record := 0, oldest := 0
           head := if typ = .ledger then genesis (u8 a 0) (fld a 28 8) else [] } s.store.nss ∧
       t = (s.sealedOk c (be 8 t.store.committed ++ be 8 (s.store.limit typ))).modStore fun x => { x with nss := t.store.nss }) ∧
     (∀ n : Namespace, s.store.ns (u8 a 0) = some n → s.store.chorusNs (u8 a 0) = none →
       (s.reaches c 0x0402 → n.unexpired c.adm = false → s.store.anyHeld n.id = false → ∀ t, t = s.atPlace c →
         t.store.nss = s.store.nss.filter (fun x => x.id != u8 a 0) ∧
         t.store.segs = s.store.segs.filter (fun g => g.ns != u8 a 0) ∧
         t.store.held = s.store.held.filter (fun h => h.1 != u8 a 0) ∧
         t.store.counters = s.store.counters ∧ t.store.settings = s.store.settings ∧ t.store.tables = s.store.tables ∧
         (∀ w ∈ t.seq.watches, w.ns ≠ u8 a 0 ∧ w ∈ s.seq.watches) ∧
         cmdReply c .ok (be 8 n.keys.length ++ be 8 (s.store.use n)) (c.adm + 3) c.adm ∈ t.seq.replies) ∧
       (s.reaches c 0x0403 → (fld a 4 8 = 0 ∨ fld a 12 8 ≤ fld a 4 8) →
         (max (s.store.use n) (fld a 12 8) ≤ max (s.store.use n) n.guarantee ∨
           s.store.committed - max (s.store.use n) n.guarantee + max (s.store.use n) (fld a 12 8) ≤ s.store.limit n.typ) →
         ∀ t, t = s.atPlace c →
         t.store = s.store.modNs n.id (fun m => { m with quota := fld a 4 8, guarantee := fld a 12 8 }) ∧
         t = { s.sealedOk c (be 8 t.store.committed ++ be 8 (s.store.limit n.typ)) with store := t.store }) ∧
       (s.reaches c 0x0409 → n.typ = .ledger → 1 ≤ fld a 4 8 → fld a 4 8 ≤ 2 ^ 47 → n.retention ≤ fld a 4 8 →
         s.atPlace c = (s.sealedOk c (be 8 n.retention)).modStore fun t =>
           t.modNs n.id fun m => { m with retention := fld a 4 8 }) ∧
       (s.reaches c 0x0408 → n.typ = .ledger → fld a 4 8 ≤ n.record →
         (∀ e ∈ n.keys, fld e.key 0 8 ≤ fld a 4 8 → e.adm + n.retention ≤ c.adm) →
         s.atPlace c = (s.sealedOk c (be 8 (if n.oldest = 0 ∨ fld a 4 8 < n.oldest then n.oldest else fld a 4 8 + 1) ++
             be 8 (n.keys.filter fun e => decide (fld e.key 0 8 ≤ fld a 4 8)).length)).modStore fun x =>
           x.modNs n.id fun m =>
             { m with
               keys := m.keys.filter fun e => decide (fld a 4 8 < fld e.key 0 8)
               oldest := if n.oldest = 0 ∨ fld a 4 8 < n.oldest then n.oldest else fld a 4 8 + 1 })))

/-- The reading NAMESPACE commands complete: INFO (R383), the bitmap of LIST (R383; that namespace 0 is listed in it is the
model's choice, log entry 38), which change nothing but the mailbox; and, entering the open measure first, a whole-namespace
DIGEST (R169, R384), the LEDGER_HEAD signed under R176 and a VALUE_DIGEST (R180, R387), which leave what the store holds as it
was. R178, R386: LEDGER_EXPORT of records FIRST to LAST of a ledger with its key to a key of a local ordinary namespace
completes: the target key holds the image of Table 7.7. -/
def Obligations.NamespaceReadsComplete : Prop :=
  entersMeasure .namespaceDigest 0x0406 .rt (fun _ a => 8 ≤ a.length ∧ a.length ≤ 248 ∧ u8 a 0 ≠ 0) ∧
  entersMeasure .namespaceLedgerHead 0x0407 .rt (fun _ a => a.length = 4 ∧ u8 a 0 ≠ 0) ∧
  entersMeasure .namespaceLedgerExport 0x040A .mgmt (fun _ a => 21 ≤ a.length ∧ a.length ≤ 260 ∧ u8 a 0 ≠ 0) ∧
  entersMeasure .namespaceValueDigest 0x040B .rt (fun _ a => 5 ≤ a.length ∧ a.length ≤ 244 ∧ u8 a 0 ≠ 0) ∧
  (∀ (c : Cmd) (s : State),
     (s.ready c .rt → c.args = [] → exec (.namespaceList c) s = .next (s.answered c 0x0405 s.store.nsBitmap)) ∧
     ∀ n : Namespace, u8 c.args 0 ≠ 0 → s.store.ns (u8 c.args 0) = some n → s.ready c .rt → c.args.length = 4 →
       exec (.namespaceInfo c) s = .next (s.answered c 0x0404 (s.nsInfo n))) ∧
  (∀ (c : SealedCmd) (s : State) (a : Bytes) (n : Namespace), a = c.cmd.args → u8 a 0 ≠ 0 → s.store.ns (u8 a 0) = some n →
     s.noRank = false →
     (s.reaches c 0x0406 → a.length = 8 → u8 a 1 = 0 → fld a 4 4 = 0 → n.keys.length ≤ 262144 → valueBytes n.keys ≤ 256 * 2 ^ 20 →
       s.pageLost 2 n.id = false → (∀ e ∈ n.keys, s.valueLost e = false) →
       s.atPlace c = s.drawn.replying c .ok
         (s.store.nsDigest n ++ be 4 n.keys.length ++ be 1 0 ++ be 1 (((n.keys.getLast?).map (·.key)).getD []).length ++ be 2 0 ++
           ((n.keys.getLast?).map (·.key)).getD [])
         (c.adm + s.readSlices (valueBytes n.keys) + 2) (c.adm + s.readSlices (valueBytes n.keys) - 1)) ∧
     (∀ k, s.reaches c 0x0407 → n.typ = .ledger → s.store.ledgerKey = some k →
       s.atPlace c = s.sealedOk c (signHead (some k) (ledgerHead n n.record n.head n.oldest))) ∧
     (∀ e, s.reaches c 0x040B → 1 ≤ u8 a 1 → u8 a 1 ≤ 240 → a.length = 4 + u8 a 1 → n.typ = .staging →
       (s.checkKey none c.adm .read n.id (a.drop 4)).2 = .permitted → n.find (a.drop 4) = some e → s.pageLost 3 e.extent = false →
       s.atPlace c = (s.checkKey none c.adm .read n.id (a.drop 4)).1.sealedOk c (be 8 e.version ++ e.sha384)) ∧
     (∀ target : Namespace, s.reaches c 0x040A → n.typ = .ledger → u8 a 1 ≠ 0 → s.store.ns (u8 a 1) = some target →
       target.typ = .ordinary → s.store.chorus = none → s.store.ledgerKey.isSome → 1 ≤ u8 a 2 → u8 a 2 ≤ 240 →
       a.length = 20 + u8 a 2 → 1 ≤ fld a 4 8 → fld a 4 8 ≤ fld a 12 8 → n.oldest ≠ 0 → n.oldest ≤ fld a 4 8 → fld a 12 8 ≤ n.record →
       ∀ recs, recs = n.recordsIn (fld a 4 8) (fld a 12 8) →
       (s.checkAll none c.adm .read n.id []).2 = .permitted →
       ((s.checkAll none c.adm .read n.id []).1.checkKey none c.adm .write target.id (a.drop 20)).2 = .permitted →
       imageLength recs ≤ 64 * 2 ^ 20 →
       s.store.roomFor target (a.drop 20) (charge (imageLength recs))
         (((target.find (a.drop 20)).map fun e => charge e.value.length).getD 0) (b2n (target.find (a.drop 20)).isNone) = true →
       (∀ e ∈ recs, s.valueLost e = false) → ∀ t, t = s.atPlace c →
       (∃ m, t.store.ns (u8 a 1) = some m ∧ ∃ e, m.find (a.drop 20) = some e ∧
         e.value = exportImage s.store.ledgerKey n (fld a 4 8) (fld a 12 8) recs ∧
         e.version = (getKey (u8 a 1) s.store.counters).getD 0 + 1 ∧ e.adm = c.adm) ∧
       (∀ k, k ≠ u8 a 1 → t.store.ns k = s.store.ns k) ∧
       ∃ v, cmdReply c .ok (be 8 v ++ be 4 (imageLength recs) ++ be 4 0) (c.adm + s.readSlices (imageLength recs) + 2)
         (c.adm + s.readSlices (imageLength recs) - 1) ∈ t.seq.replies))

/-- The sealed SEARCH commands that change tables complete. Each row enters the open measure (R39, R87). At its place, R227:
ENTRY_WRITE applies its records in argument order to the table (of a cascaded table, to the inactive generation), each new entry
of an unordered table in the free slot that the drive chooses (log entry 9), and completes when none of R227's checks fails on
the way and no written entry lies in a lost pair (R242): the table holds the result, and the answer is its occupancy. R228,
R389: ENTRY_DELETE removes exactly the entries its tags name. SET_TABLES gives the pairs the assignment of a legal argument when
no changed pair holds an entry (R218, R388); CASCADE_SET waits for the boundary (R243; that it is BUSY where two generations do
not fit is the model's choice, log entry 140); CASCADE_SWITCH adds a switch measure of the cascade (R246). A change finds the
generation copies of the switches up to its measure made (log entry 140). -/
def Obligations.SearchChangesComplete : Prop :=
  entersMeasure .searchSetTables 0x0501 .sec (fun _ a => a.length = 32 ∧ ∃ ps, (List.range 8).mapM (pairRec a) = some ps ∧ pairsOk ps = true) ∧
  entersMeasure .searchEntryWrite 0x0502 .mgmt (fun _ a =>
    4 ≤ a.length ∧ a.length ≤ 496 ∧ (Table.ofNum (u8 a 0) = some .peer ∨ Table.ofNum (u8 a 0) = some .acl) ∧ 1 ≤ u8 a 1 ∧ u8 a 1 ≤ 12) ∧
  entersMeasure .searchEntryDelete 0x0503 .mgmt (fun _ a =>
    (Table.ofNum (u8 a 0) = some .peer ∨ Table.ofNum (u8 a 0) = some .acl) ∧ 1 ≤ u8 a 1 ∧ u8 a 1 ≤ 64 ∧ a.length = 4 + 4 * u8 a 1 ∧
    0xFFFFF ∉ (List.range (u8 a 1)).map (fun i => fld a (4 + 4 * i) 4 % 2 ^ 20) ∧
    ((List.range (u8 a 1)).map fun i => fld a (4 + 4 * i) 4 % 2 ^ 20).Nodup) ∧
  entersMeasure .searchCascadeSet 0x0506 .sec (fun _ a =>
    a.length = 4 ∧ 1 ≤ u8 a 0 ∧ u8 a 0 ≤ 4 ∧ (u8 a 2 = 1 ∨ u8 a 2 = 2)) ∧
  entersMeasure .searchCascadeSwitch 0x0507 .mgmt (fun _ a => a.length = 8) ∧
  (∀ (c : SealedCmd) (s : State) (a : Bytes) (t : Tables) (tb : Table), a = c.cmd.args → t = s.store.tables.settled c.adm →
     Table.ofNum (u8 a 0) = some tb → (tb = .peer ∨ tb = .acl) →
     (∀ recs : List EntryRec, s.reaches c 0x0502 → recs = (List.range (u8 a 1)).map (entryRec a (t.shape tb).width) →
       1 ≤ u8 a 1 → u8 a 1 ≤ entryMax (t.shape tb).width → a.length = 4 + u8 a 1 * (8 + 32 * (t.shape tb).width) →
       (∀ x ∈ recs, x.stage = t.cascaded tb ∧ x.tag ≠ 0xFFFFF) → (recs.map (·.tag)).Nodup →
       ∀ r : Trial, r = ((List.range (u8 a 1)).zip recs).foldl (fun (x : Trial) ir =>
           x.apply (t.slots tb) (t.shape tb).ordered (t.capacity tb) (Config.placement (s.store.draws + ir.1)) (t.mine tb c.adm)
             (t.stampFor tb c.adm) ir.2)
         ⟨t.entries tb, false, false, false, false⟩ →
       r.exists_ = false → r.absent = false → r.clash = false → r.tooMany = false →
       (∀ e ∈ r.es, e ∉ t.entries tb → s.pairLost (e.addr / 8192) = false) →
       s.atPlace c = ((s.drawnBy (u8 a 1)).setTables (t.setEntries tb r.es)).sealedOk c ((t.setEntries tb r.es).occupancy tb)) ∧
     (∀ tags : List Nat, s.reaches c 0x0503 → tags = (List.range (u8 a 1)).map (fun i => fld a (4 + 4 * i) 4 % 2 ^ 20) →
       1 ≤ u8 a 1 → u8 a 1 ≤ 64 → a.length = 4 + 4 * u8 a 1 → bit (u8 a 2) 0 = t.cascaded tb → 0xFFFFF ∉ tags → tags.Nodup →
       (∀ g ∈ tags, ∃ e ∈ t.entries tb, e.tag = g ∧ t.mine tb c.adm e = true) →
       ∃ t1 : Tables, s.atPlace c = (s.setTables t1).sealedOk c (t1.occupancy tb) ∧
         t1.entries tb = (t.entries tb).filter (fun e => !(tags.contains e.tag && t.mine tb c.adm e)) ∧
         (∀ tb', tb' ≠ tb → t1.entries tb' = t.entries tb') ∧ t1.pairs = t.pairs ∧ t1.cascade = t.cascade)) ∧
  (∀ (c : SealedCmd) (s : State) (a : Bytes), a = c.cmd.args →
     (∀ ps new, s.reaches c 0x0501 → (List.range 8).mapM (pairRec a) = some ps → a.length = 32 → pairsOk ps = true →
       (∀ k : Fin 8, new.pairs[k] = (ps[k.val]?).getD (.make .unassigned 1 false 0)) →
       new = { s.store.tables with pairs := new.pairs } →
       (∀ k : Fin 8, s.store.tables.pairs[k] ≠ new.pairs[k] →
         s.store.tables.pairUsed k = false ∧ s.store.tables.cascaded s.store.tables.pairs[k].table = false ∧
         s.store.tables.cascaded new.pairs[k].table = false) →
       s.atPlace c = (s.modStore fun x => { x with tables := new }).sealedOk c
         (be 4 (new.capacity .peer) ++ be 4 (new.capacity .acl) ++ be 4 (new.capacity .route) ++ be 4 (new.capacity .automaton))) ∧
     (∀ t1, s.reaches c 0x0506 → u8 a 1 < u8 a 0 → u8 a 1 = s.lks.chipId →
       t1 = s.store.tables.setCascade a (c.adm + 2) (Config.placement s.store.draws) →
       (u8 a 0 = 1 ∨ t1.valid .peer ≤ t1.capacity .peer ∧ t1.valid .acl ≤ t1.capacity .acl) →
       (∀ tb e, (tb = .peer ∨ tb = .acl) → e ∈ t1.entries tb → e ∉ s.store.tables.entries tb → s.pairLost (e.addr / 8192) = false) →
       s.atPlace c = (s.sealedOk c []).modStore fun t => { t with boundary := t.boundary ++ [c] }) ∧
     (∀ t k, s.reaches c 0x0507 → t = s.store.tables.settled c.adm → t.cascade = some k →
       c.adm + 4 ≤ fld a 0 6 → fld a 0 6 ≤ c.adm + 64 →
       s.atPlace c = (s.setTables { t with cascade := some { k with switches := putSwitch (fld a 0 6) k.switches } }).sealedOk c []))

/-- R234: PATTERN_LOAD and PATTERN_UNLOAD enter the open measure. At its place PATTERN_LOAD of a readable key whose value is a
pattern image fills a free slot when the free entries suffice: the table holds the image's records, in the run of slots and with
the action indexes that the drive chooses (log entry 9), no other table has changed, and the answer waits for the last of its
slices, whose number is open (log entry 20). PATTERN_UNLOAD of a pattern no watch uses empties its slot. -/
def Obligations.SearchPatternsComplete : Prop :=
  entersMeasure .searchPatternLoad 0x0504 .mgmt (fun _ a =>
    1 ≤ u8 a 0 ∧ u8 a 0 ≤ 64 ∧ u8 a 1 ≠ 0 ∧ 1 ≤ u8 a 2 ∧ u8 a 2 ≤ 240 ∧ a.length = 4 + u8 a 2) ∧
  entersMeasure .searchPatternUnload 0x0505 .mgmt (fun _ a => a.length = 4 ∧ 1 ≤ u8 a 0 ∧ u8 a 0 ≤ 64) ∧
  (∀ (c : SealedCmd) (s : State) (a : Bytes), a = c.cmd.args →
    (∀ n e p t1 moves slices u, s.reaches c 0x0504 → s.store.ns (u8 a 1) = some n →
      (s.checkKey none c.adm .read n.id (a.drop 4)).2 = .permitted → s.store.holds n.id (a.drop 4) = true →
      n.find (a.drop 4) = some e → s.noRank = false → s.valueLost e = false → parsePattern (u8 a 0) e.value = .ok p →
      s.store.tables.pattern (u8 a 0) = none → p.recs.length ≤ s.store.tables.autoFree →
      (t1, moves) = s.store.tables.placePattern (Config.placement s.store.draws) (Config.placement (s.store.draws + 1)) p →
      (∀ x ∈ t1.entries .automaton, x ∉ s.store.tables.entries .automaton →
        (s.checkKey none c.adm .read n.id (a.drop 4)).1.pairLost (x.addr / 8192) = false) →
      slices = 1 + Config.placement (s.store.draws + 2) →
      u = ((((s.checkKey none c.adm .read n.id (a.drop 4)).1.drawnBy 2).setTables t1).modLks fun k =>
        { k with moves := bump k.moves moves }) →
      s.atPlace c = (if 1 < slices then u.hold [onSlot (u8 a 0)] (c.adm + slices) else u).drawn.replying c .ok
        (be 4 p.recs.length ++ be 4 t1.autoFree) (c.adm + slices + 2) (c.adm + slices - 1) ∧
      t1.acl = s.store.tables.acl ∧ t1.peer = s.store.tables.peer ∧ t1.route = s.store.tables.route ∧
      (s.store.tables.autoUsed + p.recs.length ≤ 2 ^ 15 →
        ∃ q, t1.pattern (u8 a 0) = some q ∧ q.stride = p.stride ∧ q.states = p.states ∧ q.start = p.start ∧
          q.recs.map (fun x => { x with addr := 0, tag := 0 }) = p.recs)) ∧
    (∀ p t1, s.reaches c 0x0505 → s.store.tables.pattern (u8 a 0) = some p → (∀ w ∈ s.seq.watches, w.pattern ≠ u8 a 0) →
      t1 = { s.store.tables with patterns := s.store.tables.patterns.filter fun q => q.slot != u8 a 0 } →
      s.atPlace c = (s.setTables t1).sealedOk c (be 4 p.recs.length ++ be 4 t1.autoFree)))

/-- R389: SEARCH.PROBE makes one search and answers its first match, with the address, tag and priority of the entry; over a
cascade the first match can be another chip's, whose address and priority are free values (log entry 19). SEARCH.STATS reads. -/
def Obligations.SearchReadsComplete : Prop :=
  ∀ (c : Cmd) (s : State), s.ready c .rt →
    (c.args = [] → exec (.searchStats c) s = .next (s.answered c 0x0509 s.searchStats)) ∧
    (∀ tb word s1 s2, Table.ofNum (u8 c.args 0) = some tb → tb ≠ .unassigned →
      c.args.length = 4 + 16 * (s.store.tables.shape tb).width → 20 ≤ c.args.length → c.args.length ≤ 68 →
      s.tableLost tb = false → word = fld c.args 4 (16 * (s.store.tables.shape tb).width) → s1 = s.consult tb word →
      s2 = { s1 with fresh := s1.fresh + 2 } →
      (s.store.tables.cascaded tb = false →
        exec (.searchProbe c) s = .next (s2.answered c 0x0508
          (match s1.search tb word with
          | none => zeros 16
          | some e => be 1 1 ++ zeros 3 ++ be 4 e.addr ++ be 4 e.tag ++ be 2 e.prio ++ be 2 0))) ∧
      (s.store.tables.cascaded tb = true →
        exec (.searchProbe c) s = .next (s2.answered c 0x0508 ((s1.overChips tb
          (fun lower => (Config.cascadeHit lower tb.num s.tb.measure word).map fun tag =>
            be 1 1 ++ zeros 3 ++ be 4 (Config.freeValue s1.fresh % 2 ^ 16) ++ be 4 tag ++
              be 2 (Config.freeValue (s1.fresh + 1) % 2 ^ 12) ++ be 2 0)
          ((s1.search tb word).map fun e =>
            be 1 1 ++ zeros 3 ++ be 4 e.addr ++ be 4 e.tag ++ be 2 e.prio ++ be 2 0)).getD (zeros 16)))))

/-- The sealed NET commands complete. Each row enters the open measure (R39, R87, R390 to R393). At its place in that measure's
list each sets exactly what its rule says: SET_PORT waits for the boundary (R135); SET_FILTER sets entry 0 or one of entries 4
to 7 (R140); SET_ADDRESS the addresses that FLAGS names; SET_MGMT_PEERS the list for both ports (R90); SET_HEARTBEAT the
destination, or its default; MACSEC_POLICY the policy and window; MACSEC_INSTALL_SA and REMOVE_SA the association lists;
PHY_RESET holds the PHY in reset and takes the port's data-path view to OFFLINE (R156); MDIO_WRITE drives one write on the bus.
-/
def Obligations.NetChangesComplete : Prop :=
  entersMeasure .netSetPort 0x0601 .mgmt (fun _ a => a.length = 24 ∧ u8 a 0 ≤ 1 ∧ setPortOk a = true) ∧
  entersMeasure .netSetFilter 0x0602 .mgmt (fun _ a => a.length = 12 ∧ u8 a 0 ≤ 1 ∧ u8 a 2 ≤ 1 ∧
    (u8 a 1 = 0 ∧ (fld a 4 6).testBit 40 = false ∨ 4 ≤ u8 a 1 ∧ u8 a 1 ≤ 7)) ∧
  entersMeasure .netSetAddress 0x0603 .mgmt (fun _ a => a.length = 24 ∧ u8 a 0 ≤ 1 ∧
    (bit (u8 a 1) 0 = true → ipv6Ok (fld a 4 16) = true) ∧ (bit (u8 a 1) 1 = true → ipv4Ok (fld a 20 4) = true)) ∧
  entersMeasure .netSetMgmtPeers 0x0604 .sec (fun _ a => u8 a 0 ≤ 8 ∧ a.length = 4 + 16 * u8 a 0) ∧
  entersMeasure .netSetHeartbeat 0x0605 .mgmt (fun _ a => a.length = 24 ∧ u8 a 0 ≤ 1 ∧
    (u8 a 1 = 0 ∨ u8 a 1 = 6 ∨ (u8 a 1 = 4 ∧ isV4 (fld a 4 16) = true))) ∧
  entersMeasure .netMacsecPolicy 0x0606 .sec (fun _ a => a.length = 4 ∧ u8 a 0 ≤ 1 ∧ u8 a 1 ≤ 2) ∧
  entersMeasure .netMacsecInstallSa 0x0607 .sec (fun _ a => a.length = 80 ∧ installOk a = true) ∧
  entersMeasure .netMacsecRemoveSa 0x0608 .sec (fun _ a => a.length = 4 ∧ u8 a 0 ≤ 1 ∧ u8 a 1 ≤ 1 ∧ u8 a 2 ≤ 3) ∧
  entersMeasure .netPhyReset 0x0609 .mgmt (fun _ a => a.length = 4 ∧ u8 a 0 ≤ 1) ∧
  entersMeasure .netMdioWrite 0x060A .mgmt (fun _ a => a.length = 8 ∧ (u8 a 0 = 22 ∨ u8 a 0 = 45) ∧ u8 a 1 ≤ 31) ∧
  (∀ (c : SealedCmd) (s : State) (p : Fin 2) (a : Bytes), a = c.cmd.args → u8 a 0 = p → (p = 1 → s.board.port1 = true) →
     (s.reaches c 0x0601 →
       s.atPlace c = (s.sealedOk c []).modStore fun t => { t with boundary := t.boundary ++ [c] }) ∧
     (s.reaches c 0x0602 → u8 a 1 = 0 →
       s.atPlace c = (s.sealedOk c []).modNet p fun n =>
         { n with filter0 := if u8 a 2 = 1 then fld a 4 6 else n.filter0, filter0On := u8 a 2 == 1 }) ∧
     (∀ (e : Fin 4) (t : State), s.reaches c 0x0602 → u8 a 1 = e + 4 → t = s.atPlace c →
       (t.net p).filter4[e] = (if u8 a 2 = 1 then some (fld a 4 6) else none) ∧
       (∀ j : Fin 4, j ≠ e → (t.net p).filter4[j] = (s.net p).filter4[j]) ∧
       t = (s.sealedOk c []).modNet p fun n => { n with filter4 := (t.net p).filter4 }) ∧
     (s.reaches c 0x0603 →
       s.atPlace c = (s.sealedOk c []).modNet p fun n =>
         { n with
           ipv6 := if bit (u8 a 1) 0 then some (fld a 4 16) else none
           ipv4 := if bit (u8 a 1) 1 then some (fld a 20 4) else none }) ∧
     (s.reaches c 0x0605 →
       s.atPlace c = (s.sealedOk c []).modNet p fun n =>
         { n with hbDest := if u8 a 1 = 0 then none else some (fld a 4 16, fld a 20 2) }) ∧
     (∀ t, s.reaches c 0x0606 → u8 a 1 ≤ 2 → t = s.atPlace c →
       (t.net p).policy.num = u8 a 1 ∧ (t.net p).replayWindow = u8 a 2 ∧
       t = (s.sealedOk c []).modNet p fun n => { n with policy := (t.net p).policy, replayWindow := u8 a 2 }) ∧
     (s.reaches c 0x0607 → u8 a 1 ≤ 1 →
       (u8 a 1 = 0 → ((s.net p).txSa.filter fun b => b.an != u8 a 2).length < 2) →
       (u8 a 1 = 1 → ((s.net p).rxSa.filter fun b => b.an != u8 a 2).length < 2) →
       s.atPlace c = (s.sealedOk c []).modNet p fun n =>
         if u8 a 1 = 0 then { n with txSa := saArgs a :: n.txSa.filter fun b => b.an != u8 a 2 }
         else { n with rxSa := saArgs a :: n.rxSa.filter fun b => b.an != u8 a 2 }) ∧
     (s.reaches c 0x0608 → u8 a 1 = 0 → (∃ k ∈ (s.net p).txSa, k.an = u8 a 2) →
       (s.net p).txSa.head?.map (·.an) ≠ some (u8 a 2) →
       s.atPlace c = (s.sealedOk c []).modNet p fun n => { n with txSa := n.txSa.filter fun k => k.an != u8 a 2 }) ∧
     (s.reaches c 0x0608 → u8 a 1 = 1 → (∃ k ∈ (s.net p).rxSa, k.an = u8 a 2) →
       s.atPlace c = (s.sealedOk c []).modNet p fun n => { n with rxSa := n.rxSa.filter fun k => k.an != u8 a 2 }) ∧
     (∀ t, s.reaches c 0x0609 → t = s.atPlace c →
       (t.port p).phyRun = false ∧ t.dataView (portId p) = .offline ∧ cmdReply c .ok [] (c.adm + 3) c.adm ∈ t.seq.replies ∧
       t.store = s.store ∧ t.sessions = s.sessions ∧ t.tb = s.tb ∧ ∀ q, q ≠ p → t.port q = s.port q)) ∧
  (∀ (c : SealedCmd) (s : State) (a : Bytes), a = c.cmd.args →
     (s.reaches c 0x0604 →
       s.atPlace c = (s.sealedOk c []).modSettings fun t =>
         { t with peers := (List.range (u8 a 0)).map fun i => fld a (4 + 16 * i) 16 }) ∧
     (s.reaches c 0x060A →
       s.atPlace c = (s.sealedOk c []).modCluster fun k =>
         { k with mdio := some (MdioWrite.mk (u8 a 0) (u8 a 1) (if u8 a 0 = 45 then u8 a 2 else 0) (fld a 4 2) (fld a 6 2)) }))

/-- The immediate NET commands complete: PORT_STATUS and COUNTERS read (R393); MDIO_READ answers what the PHY drives, a free
value (log entry 10), or NOT_FOUND where none drives the turnaround; TX_FLUSH removes the class 5 frames that wait, counts them,
and answers how many and whether one was in flight (R393). -/
def Obligations.NetQueriesComplete : Prop :=
  ∀ (c : Cmd) (s : State) (p : Fin 2), (p = 1 → s.board.port1 = true) →
    (s.ready c .rt → c.args.length = 4 → u8 c.args 0 = p →
      exec (.netPortStatus c) s = .next (s.answered c 0x060D
        (be 4 (s.macStatus p) ++ be 4 (s.port p).rxBuf ++ (s.net p).set.bytes p ++ be 16 ((s.net p).ipv6.getD 0) ++
          be 4 ((s.net p).ipv4.getD 0) ++ be 4 0)) ∧
      exec (.netCounters c) s = .next (s.answered c 0x060E ((s.port p).counters.toList.flatMap (be 8)))) ∧
    (s.ready c .rt → c.args.length = 8 → (u8 c.args 0 = 22 ∨ u8 c.args 0 = 45) → u8 c.args 1 ≤ 31 →
      ∀ drives, drives = Config.mdioRead s.fresh (u8 c.args 0) (u8 c.args 1) (if u8 c.args 0 = 45 then u8 c.args 2 else 0)
        (fld c.args 4 2) →
      completes (.netMdioRead c) s fun t =>
        (∀ v, drives = some v → t = { s.answered c 0x060B (be 2 v ++ be 2 0) with fresh := s.fresh + 1 }) ∧
        (drives = none → (t.mb c.mailbox).state = .done ∧ (t.mb c.mailbox).code = Status.num .notFound ∧
          (∀ k, k ≠ c.mailbox → t.mb k = s.mb k) ∧ t = { s with mbx := t.mbx, fresh := s.fresh + 1 })) ∧
    (s.ready c .mgmt → c.args.length = 4 → u8 c.args 0 = p →
      exec (.netTxFlush c) s = .next (((s.answered c 0x060C (be 4 (s.port p).queue.length ++
          be 4 (match (s.port p).inFlight with
            | some f => b2n (f.cls == .queue)
            | none => 0))).modPort p fun q => { q with queue := [] }).count p .txCancelled (s.port p).queue.length))

/-- The sealed MEDIA commands complete. Each row enters the open measure (R39, R87, R394). At its place in that measure's list,
R194: FORMAT of a drive that is in no Chorus and holds no unexpired record, with its capacities in range, removes every
namespace, sets the format to the arguments', marks every block of the data area ERASE_PENDING, keeps the version counters, and
is answered with CAPACITY, the LUNs that serve, c_max and K; how many measures the removal takes is a free value (log entry 20).
R200: SET_READ_POLICY puts the window of one area and level in force and clamps every reference of it, in the superblocks of
that area; R214: SET_WARN sets the three thresholds, ACK_WARNINGS clears the latched warnings its mask names. -/
def Obligations.MediaChangesComplete : Prop :=
  entersMeasure .mediaFormat 0x0701 .sec (fun b a => a.length = 16 ∧ b.nandOk = true ∧ 16 ≤ fld a 4 2 ∧ fld a 4 2 ≤ 256 ∧
    64 ≤ fld a 0 4 ∧ fld a 8 4 ≠ 0 ∧ fld a 12 4 ≠ 0) ∧
  entersMeasure .mediaSetReadPolicy 0x0702 .mgmt (fun _ a => a.length = 4 ∧ u8 a 0 ≤ 1 ∧ 1 ≤ u8 a 1 ∧ u8 a 1 ≤ 15 ∧
    (u8 a 0 = 0 → u8 a 1 = 1) ∧ signed 8 (u8 a 2) ≤ signed 8 (u8 a 3) ∧ -64 ≤ signed 8 (u8 a 2) ∧ signed 8 (u8 a 3) ≤ 63) ∧
  entersMeasure .mediaSetWarn 0x0703 .mgmt (fun _ a => a.length = 4 ∧ 100 ≤ fld a 0 2 ∧ fld a 0 2 ≤ 500 ∧ 50 ≤ u8 a 2 ∧
    u8 a 2 ≤ 95 ∧ 60 ≤ signed 8 (u8 a 3) ∧ signed 8 (u8 a 3) ≤ 95) ∧
  entersMeasure .mediaAckWarnings 0x0704 .mgmt (fun _ a => a.length = 4) ∧
  (∀ (c : SealedCmd) (s t : State) (a : Bytes), a = c.cmd.args → t = s.atPlace c →
     (∀ n, s.reaches c 0x0701 → s.board.nandOk = true → 16 ≤ fld a 4 2 → fld a 4 2 ≤ 256 → 64 ≤ fld a 0 4 →
       fld a 0 4 ≤ s.cMax (fld a 4 2) → fld a 8 4 ≠ 0 → fld a 12 4 ≠ 0 → s.store.chorus = none →
       (∀ n ∈ s.store.nss, n.unexpired c.adm = false) → n = 1 + Config.sealedValue s.store.draws →
       t.store.nss = [] ∧ t.store.segs = s.store.segs.filter (fun g => !s.store.nss.any fun n => n.id == g.ns) ∧
       t.store.counters = s.store.counters ∧ t.store.settings = s.store.settings ∧ t.store.tables = s.store.tables ∧
       t.store.format = some { cl := fld a 0 4, k := s.board.keyCapacity, slcGib := fld a 4 2
                               endNative := fld a 8 4, endSlc := fld a 12 4 } ∧
       (∀ b ∈ t.flash.sbs, ∀ k ∈ b.blocks, k.state = .erasePending ∨ k.state = .retired) ∧
       cmdReply c .ok (be 4 (fld a 0 4) ++ be 2 (((List.range s.groups).map fun g => (s.writable g).length).sum) ++ be 2 0 ++
         be 4 (s.cMax (fld a 4 2)) ++ be 4 s.board.keyCapacity) (c.adm + n + 2) (c.adm + n - 1) ∈ t.seq.replies) ∧
     (s.reaches c 0x0702 → u8 a 0 ≤ 1 → 1 ≤ u8 a 1 → u8 a 1 ≤ s.board.levels (u8 a 0 == 1) →
       t.store.settings.window (u8 a 0 == 1) (u8 a 1) = (signed 8 (u8 a 2), signed 8 (u8 a 3)) ∧
       (∀ n l, (n, l) ≠ (u8 a 0 == 1, u8 a 1) → t.store.settings.window n l = s.store.settings.window n l) ∧
       t.flash.sbs = s.flash.sbs.map (Superblock.clampLevel (u8 a 0 == 1) (u8 a 1) (signed 8 (u8 a 2), signed 8 (u8 a 3))) ∧
       t = { (s.sealedOk c (be 1 (unsigned 8 (s.store.settings.window (u8 a 0 == 1) (u8 a 1)).1) ++
             be 1 (unsigned 8 (s.store.settings.window (u8 a 0 == 1) (u8 a 1)).2) ++ be 2 0)).modSettings fun x =>
           { x with readPolicy := t.store.settings.readPolicy } with flash := { s.flash with sbs := t.flash.sbs } }) ∧
     (s.reaches c 0x0703 →
       t.store.settings = { s.store.settings with
         spareLow := fld a 0 2, wearHigh := u8 a 2, tempHigh := signed 8 (u8 a 3) } ∧
       cmdReply c .ok [] (c.adm + 3) c.adm ∈ t.seq.replies ∧
       t.store.nss = s.store.nss ∧ t.flash.sbs = s.flash.sbs ∧ t.flash.luns = s.flash.luns) ∧
     (s.reaches c 0x0704 →
       t = (s.sealedOk c []).modFlash fun f => { f with latched := f.latched &&& ~~~(BitVec.ofNat 32 (fld a 0 4)) }))

/-- MEDIA.HEALTH and MEDIA.LUN_HEALTH read (R213). -/
def Obligations.MediaReadsComplete : Prop :=
  ∀ (c : Cmd) (s : State), s.ready c .rt →
    (c.args = [] → exec (.mediaHealth c) s = .next (s.answered c 0x0705 s.mediaHealth)) ∧
    (∀ l, c.args.length = 2 → s.flash.luns.find? (fun l => l.id == fld c.args 0 2) = some l →
      exec (.mediaLunHealth c) s = .next (s.answered c 0x0706 (s.lunHealth l)))

/-- R250, R395: the rows of the CHORUS commands that take effect at E, and of CHECKPOINT_END, enter the open measure A, with
arguments that pass the checks which arguments alone decide. At its place in the list of A, a command of the family with E from
A + 4 to A + 64 waits for E in sealed order and is not answered until then: FORM with arguments that R251 lets pass; LEAVE,
RESTORE_END, PARK and RESUME in a Chorus; CHECKPOINT in one with no checkpoint open (R273); NS_COMMAND whose namespace exists
and is of its inner command's type (R253, R396). R274: CHECKPOINT_END naming the open checkpoint ends it. R397: CHORUS.STATUS
reads the Chorus state. -/
def Obligations.ChorusCommandsComplete : Prop :=
  entersMeasure .chorusForm 0x0801 .sec (fun _ a => a.length = 488 ∧ (formArgs a).formed = true) ∧
  entersMeasure .chorusLeave 0x0802 .mgmt (fun _ a => a.length = 8) ∧
  entersMeasure .chorusCheckpoint 0x0804 .mgmt (fun _ a => a.length = 16 ∧ 1024 ≤ fld a 14 2 ∧ fld a 14 2 ≤ 8128 ∧
    fld a 14 2 % 64 = 0) ∧
  entersMeasure .chorusCheckpointEnd 0x0805 .mgmt (fun _ a => a.length = 8) ∧
  entersMeasure .chorusRestoreEnd 0x0806 .mgmt (fun _ a => a.length = 8) ∧
  entersMeasure .chorusNsCommand 0x0807 .mgmt (fun _ a => 12 ≤ a.length ∧ a.length ≤ 496 ∧
    ∀ need len, innerCommand (fld a 8 2) = some (need, len) → a.length = 12 + len ∧ (fld a 8 2 = 0x0403 → fld a 16 8 ≠ 0)) ∧
  entersMeasure .chorusPark 0x0808 .mgmt (fun _ a => a.length = 8) ∧
  entersMeasure .chorusResume 0x0809 .mgmt (fun _ a => a.length = 8) ∧
  (∀ (c : SealedCmd) (s : State) (a : Bytes), a = c.cmd.args →
     (s.reaches c 0x0801 → (formArgs a).ok c.adm s = true → formCheck (formArgs a) s = none →
       s.atPlace c = s.modStore fun t => { t with effective := t.effective ++ [(fld a 8 6, c)] }) ∧
     (∀ k, s.store.chorus = some k →
       (∀ op ∈ [0x0802, 0x0806, 0x0808, 0x0809], s.reaches c op → c.adm + 4 ≤ fld a 0 6 → fld a 0 6 ≤ c.adm + 64 →
         s.atPlace c = s.modStore fun t => { t with effective := t.effective ++ [(fld a 0 6, c)] }) ∧
       (s.reaches c 0x0804 → c.adm + 4 ≤ fld a 8 6 → fld a 8 6 ≤ c.adm + 64 → k.checkpoint = none →
         s.atPlace c = s.modStore fun t => { t with effective := t.effective ++ [(fld a 8 6, c)] }) ∧
       (∀ need len n, s.reaches c 0x0807 → c.adm + 4 ≤ fld a 0 6 → fld a 0 6 ≤ c.adm + 64 →
         innerCommand (fld a 8 2) = some (need, len) → a.length = 12 + len → u8 a 12 ≠ 0 →
         s.store.ns (u8 a 12) = some n → (need = none ∨ need = some n.typ) → (fld a 8 2 = 0x0403 → fld a 16 8 ≠ 0) →
         s.atPlace c = s.modStore fun t => { t with effective := t.effective ++ [(fld a 0 6, c)] }) ∧
       (∀ sn, s.reaches c 0x0805 → k.checkpoint = some sn → sn.id = fld a 0 8 →
         s.atPlace c = (s.sealedOk c []).modStore fun t => { t with chorus := some { k with checkpoint := none } }))) ∧
  (∀ (c : Cmd) (s : State) (k : Chorus), s.store.chorus = some k → s.ready c .rt → c.args.length = 4 → fld c.args 0 2 % 512 = 0 →
     exec (.chorusStatus c) s = .next (s.answered c 0x0803 (s.chorusStatus k (fld c.args 0 2))))

/-- R251: what CHORUS.FORM does at E, when its checks still pass and the usable ROUTE pairs hold its shards. The Chorus stands
with C(E − 1) = SHA-256(id ‖ E − 1's start) as its chain, nothing sealed before E, one version counter E × 4,096 for every shard
held; each of its namespaces has its QUOTA and this member's share of it as GUARANTEE; ROUTE holds one entry per shard; the own
member unit is DEGRADED and every peer's FENCED. That the shards held are answered is Table 15.12's. R272: CHORUS.PARK at E
parks the Chorus once, drops the on-time requests pinned to E or later and keeps the others; R254: CHORUS.LEAVE at E ends the
Chorus: no ROUTE entry and no member unit is left, and the content of the namespaces stays; CHORUS.RESUME ends the park, and the
member resumes from E. R273: CHECKPOINT keeps a snapshot of the shards held, named and cut at E; R282: RESTORE_END of a member
whose load is complete ends the restore, and the Chorus starts again at the first E that was named. -/
def Obligations.ChorusCommandsTakeEffect : Prop :=
  (∀ (sc : SealedCmd) (s : State), formCheck (formArgs sc.cmd.args) s = none →
     shardTotal (formArgs sc.cmd.args).nss ≤ s.routeSlots.count → (formArgs sc.cmd.args).self < (formArgs sc.cmd.args).members →
     ∃ t, cmdChorusForm.later sc s = (t, .ok, be 2 (formArgs sc.cmd.args).chorus.shards.length ++ be 2 0) ∧
       t.store.chorus = some (formArgs sc.cmd.args).chorus ∧
       (∀ h ∈ (formArgs sc.cmd.args).chorus.shards, h.counter = fld sc.cmd.args 8 6 * 4096) ∧
       (t.store.tables.entries .route).length = shardTotal (formArgs sc.cmd.args).nss ∧
       t.dataView (memberId (formArgs sc.cmd.args).self) = .degraded ∧
       (∀ k, k < (formArgs sc.cmd.args).members → k ≠ (formArgs sc.cmd.args).self → t.dataView (memberId k) = .fenced) ∧
       t.sessions = s.sessions ∧ t.seq = s.seq ∧ t.tb = s.tb ∧ t.store.settings = s.store.settings ∧
       t.store.counters = s.store.counters) ∧
  (∀ (sc : SealedCmd) (s : State) (k : Chorus), s.store.chorus = some k →
     (∃ t, cmdChorusPark.later sc s = (t, .ok, []) ∧
       t.store.chorus = some { k with parked := some (k.parked.getD (fld sc.cmd.args 0 6)), resuming := none } ∧
       t.chorus.onTime = s.chorus.onTime.filter fun p => decide (p.1 < fld sc.cmd.args 0 6)) ∧
     (∃ t, cmdChorusLeave.later sc s = (t, .ok, []) ∧ t.store.chorus = none ∧ t.store.tables.entries .route = [] ∧
       t.store.nss = s.store.nss ∧ t.store.tables.acl = s.store.tables.acl ∧ t.store.tables.peer = s.store.tables.peer ∧
       (∀ u ∈ t.units, u.id / 0x1000 ≠ 6) ∧ t.chorus = .reset) ∧
     (∃ t, cmdChorusResume.later sc s = (t, .ok, []) ∧
       t.store = { s.store with chorus := some { k with parked := none, resuming := some (fld sc.cmd.args 0 6) } } ∧
       t.chorus = { s.chorus with lastHeard := Vector.replicate 8 s.tb.measure } ∧ t.units = s.units ∧ t.seq = s.seq) ∧
     (k.checkpoint = none → ∃ t sn, cmdChorusCheckpoint.later sc s = (t, .ok, []) ∧
       t = { s with store := { s.store with chorus := some { k with checkpoint := some sn } } } ∧
       sn.id = fld sc.cmd.args 0 8 ∧ sn.cut = fld sc.cmd.args 8 6 ∧ sn.size = fld sc.cmd.args 14 2 ∧ sn.shards = k.shards ∧
       ∀ n, n ∈ sn.content ↔ n ∈ s.store.nss ∧ ∃ x ∈ k.nss, x.ns = n.id) ∧
     (∀ v, k.restore = some v → k.loaded v = true → ∃ t k', cmdChorusRestoreEnd.later sc s = (t, .ok, []) ∧
       t.store.chorus = some k' ∧ k'.restore = none ∧ k'.e = fld sc.cmd.args 0 6 ∧
       k'.lastSealed = v.firstEnd.getD (fld sc.cmd.args 0 6) - 1 ∧
       k'.chain = [(k'.lastSealed, chainStart k.id (v.firstEnd.getD (fld sc.cmd.args 0 6)))]))

/-- The EVENT commands that change a configuration complete. Each row enters the open measure (R39, R87). At its place in that
measure's list CONFIGURE of an unlocked channel that its mailbox may use, with masks over existing producers and consumers and
no combination that R293 refuses, SET_OWNER of an unlocked channel (R295), EVIO_CONFIG of a ball that no locked channel uses
(R296, R299; that an input ball needs an edge is the model's reading of Table 11.4, log entry 33) and SET_PARAMS (R294) are
answered and wait for the next boundary; LOCK locks its channels at once and answers EVF_LOCKED (R296). What they do at the
boundary, in the settings and in force alike: a channel's enable, policy and masks, with the pending bits of removed consumers
cleared (R293); its owner and secure attribute (R295); a ball's direction, edges and filter, where a ball that is not IN shows
low (R299); the AON timer and the tick divider (R294). -/
def Obligations.EventConfigurationsComplete : Prop :=
  entersMeasure .eventConfigure 0x0901 .rt (fun _ a => a.length = 20 ∧ u8 a 0 ≤ 31 ∧
    maskOk producers (BitVec.ofNat 64 (fld a 4 8)) = true ∧ maskOk consumers (BitVec.ofNat 64 (fld a 12 8)) = true ∧
    (bit (fld a 12 8) 0 = true → u8 a 0 < 8) ∧ (bit (fld a 4 8) 5 && bit (fld a 12 8) 2) = false) ∧
  entersMeasure .eventSetOwner 0x0902 .sec (fun _ a => a.length = 4 ∧ u8 a 0 ≤ 31 ∧ u8 a 1 ≤ 2) ∧
  entersMeasure .eventLock 0x0903 .rt (fun _ a => a.length = 4) ∧
  entersMeasure .eventEvioConfig 0x0904 .mgmt (fun _ a => a.length = 4 ∧ u8 a 0 ≤ 15 ∧ u8 a 1 ≤ 2 ∧ (u8 a 1 = 1 → u8 a 2 % 4 ≠ 0)) ∧
  entersMeasure .eventSetParams 0x0905 .mgmt (fun _ a => a.length = 8 ∧ fld a 0 4 ≤ 86400000 ∧ u8 a 4 ≤ 16) ∧
  (∀ (c : SealedCmd) (s : State) (a : Bytes), a = c.cmd.args →
     (∀ ch : Fin 32, s.reaches c 0x0901 → u8 a 0 = ch →
       maskOk producers (BitVec.ofNat 64 (fld a 4 8)) = true → maskOk consumers (BitVec.ofNat 64 (fld a 12 8)) = true →
       (bit (fld a 12 8) 0 = true → ch.val < 8) → (bit (fld a 4 8) 5 && bit (fld a 12 8) 2) = false →
       (bit (fld a 12 8) 2 = true → (s.chan ch).cfg.secure = true) → s.mayUseSecure c.cmd.mailbox ch = true →
       (s.chan ch).locked = false →
       s.atPlace c = (s.sealedOk c []).modStore fun t => { t with boundary := t.boundary ++ [c] }) ∧
     (∀ ch : Fin 32, s.reaches c 0x0902 → u8 a 0 = ch → (s.chan ch).locked = false →
       s.atPlace c = (s.sealedOk c []).modStore fun t => { t with boundary := t.boundary ++ [c] }) ∧
     (s.reaches c 0x0904 → s.ballLocked (u8 a 0) = false →
       s.atPlace c = (s.sealedOk c []).modStore fun t => { t with boundary := t.boundary ++ [c] }) ∧
     (s.reaches c 0x0905 →
       s.atPlace c = (s.sealedOk c []).modStore fun t => { t with boundary := t.boundary ++ [c] }) ∧
     (∀ t : State, s.reaches c 0x0903 → (∀ ch : Fin 32, bit (fld a 0 4) ch = true → s.mayUse c.cmd.mailbox ch = true) →
       t = s.atPlace c →
       (∀ ch, t.chan ch = { s.chan ch with locked := (s.chan ch).locked || bit (fld a 0 4) ch }) ∧
       t = { s.sealedOk c (be 4 t.lockedMask) with fabric := { s.fabric with chans := t.fabric.chans } })) ∧
  (∀ (c : SealedCmd) (s : State) (a : Bytes), a = c.cmd.args →
     (∀ ch : Fin 32, u8 a 0 = ch →
       ∃ t, cmdEventConfigure.later c s = (t, .ok, []) ∧
         (t.chan ch).cfg = { (s.chan ch).cfg with
           enable := bit (u8 a 1) 0, remember := bit (u8 a 1) 1
           producers := BitVec.ofNat 64 (fld a 4 8), consumers := BitVec.ofNat 64 (fld a 12 8) } ∧
         t.store.settings.channels[ch] = { s.store.settings.channels[ch] with
           enable := bit (u8 a 1) 0, remember := bit (u8 a 1) 1
           producers := BitVec.ofNat 64 (fld a 4 8), consumers := BitVec.ofNat 64 (fld a 12 8) } ∧
         (∀ k, (t.chan ch).pending.getLsbD k = ((s.chan ch).pending.getLsbD k && (t.chan ch).cfg.consumers.getLsbD k)) ∧
         (∀ d, d ≠ ch → t.chan d = s.chan d ∧ t.store.settings.channels[d] = s.store.settings.channels[d]) ∧
         t = { s with fabric := { s.fabric with chans := t.fabric.chans }
                      store := { s.store with settings := { s.store.settings with channels := t.store.settings.channels } } }) ∧
     (∀ (ch : Fin 32) (o : Owner), u8 a 0 = ch → Owner.ofNum (u8 a 1) = some o →
       ∃ t, cmdEventSetOwner.later c s = (t, .ok, []) ∧
         t.chan ch = { s.chan ch with cfg := { (s.chan ch).cfg with owner := o, secure := bit (u8 a 2) 0 } } ∧
         t.store.settings.channels[ch] = { s.store.settings.channels[ch] with owner := o, secure := bit (u8 a 2) 0 } ∧
         (∀ d, d ≠ ch → t.chan d = s.chan d ∧ t.store.settings.channels[d] = s.store.settings.channels[d]) ∧
         t = { s with fabric := { s.fabric with chans := t.fabric.chans }
                      store := { s.store with settings := { s.store.settings with channels := t.store.settings.channels } } }) ∧
     (∀ b : Fin 16, u8 a 0 = b →
       ∃ t, cmdEventEvioConfig.later c s = (t, .ok, []) ∧ t.fabric.evio[b] = evioArgs a ∧
         t.store.settings.evio[b] = evioArgs a ∧
         (∀ d, d ≠ b → t.fabric.evio[d] = s.fabric.evio[d] ∧ t.store.settings.evio[d] = s.store.settings.evio[d]) ∧
         t.fabric.level.getLsbD b = (s.fabric.level.getLsbD b && u8 a 1 == 1) ∧
         (∀ d : Fin 16, d ≠ b → t.fabric.level.getLsbD d = s.fabric.level.getLsbD d) ∧ t.fabric.chans = s.fabric.chans) ∧
     cmdEventSetParams.later c s =
       (((s.modSettings fun t => { t with aonTimer := fld a 0 4, tickDiv := u8 a 4 }).modFabric fun g =>
         { g with aonTimer := fld a 0 4, tickDiv := u8 a 4 }), .ok, []))

/-- The immediate EVENT commands complete: TRIGGER puts one event into each named channel that is enabled (R297), QUERY answers
the channel's configuration, counters and timestamp, and CLEAR zeroes the counters and the overrun flag of the named channels
alone (R298). The fabric's own steps. A selected edge of an IN ball pulses its producer and its level shows (R299, R285); the
AON timer pulses (R294); an event that arrives at a busy consumer waits under REMEMBER and is counted in OVERRUNS under OVERRUN,
as the policy was at its pulse (R293), one that finds its pending bit set is counted in OVERRUNS (R289); a consumer that
completes starts the pending event of the lowest channel, or is idle (R290). -/
def Obligations.EventFabricCompletes : Prop :=
  (∀ (c : Cmd) (s : State), s.ready c .rt → c.args.length = 4 →
     ((∀ ch : Fin 32, bit (fld c.args 0 4) ch = true → s.mayUseSecure c.mailbox ch = true) →
       completes (.eventTrigger c) s fun t =>
         (s.answered c 0x0906 []).injects t fun ch => bit (fld c.args 0 4) ch = true ∧ (s.chan ch).cfg.enable = true) ∧
     (∀ ch : Fin 32, u8 c.args 0 = ch → s.mayUseSecure c.mailbox ch = true →
       exec (.eventQuery c) s = .next (s.answered c 0x0907 ((s.chan ch).query ch))) ∧
     ((∀ ch : Fin 32, bit (fld c.args 0 4) ch = true → s.mayUseSecure c.mailbox ch = true) →
       completes (.eventClear c) s fun t =>
         (∀ ch, t.chan ch = if bit (fld c.args 0 4) ch then
           { s.chan ch with events := 0, merged := 0, overruns := 0, absent := 0, overrunFlag := false } else s.chan ch) ∧
         t = { s.answered c 0x0908 [] with fabric := { s.fabric with chans := t.fabric.chans } })) ∧
  (∀ (s : State),
     (∀ ball rising time, (s.fabric.evio[(ball : Fin 16)]).dir = 1 → s.power.mode = .service → s.power.inReset = false →
       completes (.evioInputEdge ball rising time) s fun t =>
         t.fabric.level.getLsbD ball = rising ∧
         (s.modFabric fun g => { g with level := t.fabric.level }).injects t fun c =>
           ((s.fabric.evio[ball]).edge = 3 ∨ (s.fabric.evio[ball]).edge = if rising then 1 else 2) ∧
           (s.chan c).cfg.enable = true ∧ (s.chan c).cfg.producers.getLsbD (8 + ball.val) = true) ∧
     (0 < s.fabric.aonTimer → completes .aonTimerExpiry s fun t =>
       s.injects t fun c => s.channelRuns c = true ∧ (s.chan c).cfg.enable = true ∧ (s.chan c).cfg.producers.getLsbD 4 = true) ∧
     (∀ (c : Fin 32) (k : Fin 64) keep c' time time',
       s.fabric.flight.find? (fun f => f.1 == c.val && f.2.1 == k.val) = some (c.val, k.val, keep) → s.consumerPresent k = true →
       s.fabric.busy.find? (fun p => p.1 == k.val) = some (k.val, c', time') →
       ((s.chan c).pending.getLsbD k = true ∨ keep = false ∧ (time' ≠ time ∨ c' = c.val) →
         exec (.eventDeliver c k false time) s = .next
           ((s.modFabric fun g => { g with flight := g.flight.erase (c.val, k.val, keep) }).modChan c fun h =>
             { h with overruns := bump h.overruns, overrunFlag := true })) ∧
       ((s.chan c).pending.getLsbD k = false → keep = true →
         completes (.eventDeliver c k false time) s fun t =>
           (∀ j, (t.chan c).pending.getLsbD j = ((s.chan c).pending.getLsbD j || decide (j = k.val))) ∧
           t.fabric.busy = s.fabric.busy ∧ (t.chan c).overruns = (s.chan c).overruns ∧
           (∀ d, d ≠ c → t.chan d = s.chan d) ∧ t = { s with fabric := t.fabric })) ∧
     (∀ k : Fin 64, s.fabric.isBusy k = true → k.val ≠ 2 →
       ((∀ c, (s.chan c).pending.getLsbD k = false) →
         completes (.consumerActionComplete k) s fun t =>
           t.fabric.isBusy k = false ∧ t.fabric.chans = s.fabric.chans ∧ t = { s with fabric := t.fabric }) ∧
       (∀ c : Fin 32, (s.chan c).pending.getLsbD k = true → (∀ d, d < c → (s.chan d).pending.getLsbD k = false) →
         k.val ≠ 0 → k.val ≠ 32 → k.val ≠ 33 →
         completes (.consumerActionComplete k) s fun t =>
           (∀ j, (t.chan c).pending.getLsbD j = ((s.chan c).pending.getLsbD j && decide (j ≠ k.val))) ∧
           (∀ d, d ≠ c → (t.chan d).pending = (s.chan d).pending) ∧ (k.val, c.val, 0) ∈ t.fabric.busy) ∧
       (∀ c : Fin 32, k.val = 32 → (s.chan c).pending.getLsbD k = true → (∀ d, d < c → (s.chan d).pending.getLsbD k = false) →
         completes (.consumerActionComplete k) s fun t => (t.chan c).ts = (s.chan c).tsWait ∧ t.fabric.isBusy k = true)))

/-- R340 to R342, R346, R347, R354: the UPDATE commands complete. STATUS answers at once; each other row enters the open
measure. At their places in that measure's list, in the update states their rules name, ACTIVATE arms a staged package; CONFIRM
ends a trial and releases the held keys; ROLLBACK of a trial with an archived image sets REVERTING; DISCARD of a staged or armed
package drops it and takes ARMED from the boot record; each change of state is reported. R341: STAGE of a package whose blocks
all pass Table 13.5 and whose stream passes every check of R338 stages it: its keys are held, and the answer, which waits for
its last read slice, names the package and its blocks; the pending region is to be written anew. -/
def Obligations.UpdateCommandsComplete : Prop :=
  entersMeasure .updateStage 0x0A02 .sec (fun _ a => (u8 a 0 = 1 ∨ u8 a 0 = 2) ∧ 1 ≤ u8 a 2 ∧
    u8 a 2 ≤ (if u8 a 0 = 2 then 238 else 240) ∧ a.length = 4 + u8 a 2) ∧
  entersMeasure .updateActivate 0x0A03 .sec (fun _ a => a.length = 4) ∧
  entersMeasure .updateConfirm 0x0A04 .sec (fun _ a => a = []) ∧
  entersMeasure .updateRollback 0x0A05 .sec (fun _ a => a.length = 4) ∧
  entersMeasure .updateDiscard 0x0A06 .mgmt (fun _ a => a = []) ∧
  (∀ (c : Cmd) (s : State), s.ready c .rt → c.args = [] → exec (.updateStatus c) s = .next (s.answered c 0x0A01 s.updateStatus)) ∧
  (∀ (c : SealedCmd) (s : State) (a : Bytes), a = c.cmd.args →
     (s.reaches c 0x0A03 → s.store.upd = .staged →
       s.atPlace c = (((s.sealedOk c []).modStore fun t =>
         { t with resetWhenReady := bit (u8 a 0) 0, upd := .armed }).report 0x0A02 3 (be 1 1 ++ be 1 2)).modNor fun n =>
         { n with archive := none, archiveReady := false }) ∧
     (s.reaches c 0x0A04 → s.store.upd = .trial →
       s.atPlace c = ((s.sealedOk c (be 1 s.nor.running.major ++ be 1 s.nor.running.minor ++
           be 1 s.nor.running.patch ++ be 1 s.nor.running.rollback)).modStore fun t =>
         { t with held := [], package := none, upd := .idle }).report 0x0A02 3 (be 1 3 ++ be 1 0)) ∧
     (s.reaches c 0x0A05 → s.store.upd = .trial → s.nor.archive.isSome →
       s.atPlace c = ((s.sealedOk c []).modStore fun t =>
         { t with held := [], resetOnRevert := bit (u8 a 0) 0, package := none, upd := .reverting }).report 0x0A02 3
           (be 1 3 ++ be 1 4)) ∧
     (s.reaches c 0x0A06 → s.nor.xip = false → (s.store.upd = .staged ∨ s.store.upd = .armed) →
       s.atPlace c = (((s.sealedOk c []).modStore fun t =>
         { t with held := [], package := none, resetWhenReady := false, upd := .idle }).report 0x0A02 3
           (be 1 s.store.upd.num ++ be 1 0)).modNor fun n =>
         { n with bootState := .idle, pending := none, pendingReady := false, archive := none, archiveReady := false })) ∧
  (∀ (c : SealedCmd) (s s1 : State) (a : Bytes) (n : Namespace) (stream : Bytes) (keys : List KeyEnt) (k : Nat), a = c.cmd.args →
     s.reaches c 0x0A02 → s.store.upd = .idle → s.store.ns (u8 a 1) = some n → n.typ = .staging →
     (if u8 a 0 = 1 then s.checkKey none c.adm .read n.id (a.drop 4) else s.checkAll none c.adm .read n.id (a.drop 4)) =
       (s1, .permitted) →
     keys = stageKeys n (u8 a 0) (a.drop 4) → s.noRank = false → (∀ e ∈ keys, s.valueLost e = false) →
     readPackage (stageBlocks n (u8 a 0) (a.drop 4)) = .ok stream →
     fullBlocks (stageBlocks n (u8 a 0) (a.drop 4)) (blocksFor (pkgTotal stream)) = true →
     (u8 a 0 = 1 → ∀ e ∈ keys, e.value.length = stream.length + 16 * blocksFor (pkgTotal stream)) →
     checkStream s.fuses (some s.store.settings.version) stream = .ok → k = s.readSlices (valueBytes keys) →
     s.atPlace c = ((((s1.modStore fun t =>
         { t with package := some (packageOf stream), held := keys.map (fun e => (n.id, e.key)), upd := .staged }).report 0x0A02 3
           (be 1 0 ++ be 1 1)).modNor fun x => { x with pending := none, pendingReady := false }).drawn).replying c .ok (stageResult stream (blocksFor (pkgTotal stream))) (c.adm + k + 2) (c.adm + k - 1))

/-- R351 to R353, Table 13.9: the Recovery download completes over SPI. BEGIN discards what a download on this path held, DATA
keeps a chunk, stores a block that its chunk completes and that passes Table 13.5, or drops one that fails, and END starts the
verification. R351, R352: the same download completes over UDP port 47812. BEGIN binds session and source; each datagram is
answered to its source, and STATUS answers the phase, the result and the stored blocks. -/
def Obligations.RecoveryDownloadCompletes : Prop :=
  (∀ (c : Cmd) (s : State), s.readyRecovery c →
     (c.args = [] → (s.nor.rdl.running = true → s.nor.rdl.eth = false) →
       exec (.updateRdlBegin c) s = .next ((s.answered c 0x0A07 []).modNor fun n =>
         { n with pending := none, pendingReady := false, rdl := { Rdl.reset with phase := .receiving } })) ∧
     (c.args = [] → s.nor.rdl.phase = .receiving → s.nor.rdl.eth = false →
       exec (.updateRdlEnd c) s = .next ((s.answered c 0x0A09 []).modNor fun n =>
         { n with rdl := { n.rdl with phase := .verifying } })) ∧
     (s.nor.rdl.phase = .receiving → s.nor.rdl.eth = false → fld c.args 4 4 % 256 = 0 → 1 ≤ fld c.args 8 2 → fld c.args 8 2 ≤ 256 →
       c.args.length = 12 + fld c.args 8 2 → fld c.args 4 4 + fld c.args 8 2 ≤ 65536 →
       getKey (fld c.args 0 2) s.nor.rdl.stored = none →
       ((getKey (fld c.args 0 2) s.nor.rdl.assembling).isSome ∨ s.nor.rdl.assembling.length < 8) →
       ∀ chunks, chunks = addChunk (fld c.args 4 4) (c.args.drop 12) ((getKey (fld c.args 0 2) s.nor.rdl.assembling).getD []) →
       (wholeBlock chunks = none →
         exec (.updateRdlData c) s = .next ((s.answered c 0x0A08 (be 1 0 ++ be 1 0 ++ be 2 s.nor.rdl.stored.length)).modNor
           fun n => { n with rdl := { n.rdl with assembling := insertKey (fld c.args 0 2) chunks n.rdl.assembling } })) ∧
       (∀ b, wholeBlock chunks = some b → blockOk (fld c.args 0 2) s.nor.rdl.tag b = true →
         exec (.updateRdlData c) s = .next ((s.answered c 0x0A08 (be 1 1 ++ be 1 0 ++
             be 2 (insertKey (fld c.args 0 2) (b.drop 16) s.nor.rdl.stored).length)).modNor fun n =>
           { n with rdl := { n.rdl with assembling := dropKey (fld c.args 0 2) n.rdl.assembling
                                        stored := insertKey (fld c.args 0 2) (b.drop 16) n.rdl.stored } })) ∧
       (∀ b, wholeBlock chunks = some b → blockOk (fld c.args 0 2) s.nor.rdl.tag b = false →
         exec (.updateRdlData c) s = .next ((s.answered c 0x0A08 (be 1 2 ++ be 1 0 ++ be 2 s.nor.rdl.stored.length)).modNor
           fun n => { n with rdl := { n.rdl with assembling := dropKey (fld c.args 0 2) n.rdl.assembling } })))) ∧
  (∀ (src : Source) (p : Bytes) (s : State), s.servesRdl src p = true →
     ∀ r, r = parseRequest src p → 1 ≤ r.session → r.session ≤ 0xFFEF → s.rdlStranger r = false →
     (r.body = [] → (s.nor.rdl.running = true → s.nor.rdl.eth = true) →
       exec (.rdlBegin src p) s = .next ((s.modNor fun n =>
         { n with pending := none, pendingReady := false
                  rdl := { Rdl.reset with phase := .receiving, eth := true, session := r.session, src := some src } }).sendTo src
         false none none (rdlResponse r .ok []))) ∧
     (r.body = [] → s.nor.rdl.phase = .receiving → s.nor.rdl.eth = true →
       exec (.rdlEnd src p) s = .next ((s.modNor fun n => { n with rdl := { n.rdl with phase := .verifying } }).sendTo src
         false none none (rdlResponse r .ok []))) ∧
     (r.body = [] → exec (.rdlStatus src p) s = .next (s.sendTo src false none none (rdlResponse r .ok (rdlStatusBody s.nor.rdl)))) ∧
     (s.nor.rdl.phase = .receiving → s.nor.rdl.eth = true → rdlDataOk r = true → getKey r.segment s.nor.rdl.stored = none →
       ((getKey r.segment s.nor.rdl.assembling).isSome ∨ s.nor.rdl.assembling.length < 8) →
       ∀ chunks, chunks = addChunk r.offset r.body ((getKey r.segment s.nor.rdl.assembling).getD []) →
       (wholeBlock chunks = none →
         exec (.rdlData src p) s = .next ((s.modNor fun n =>
             { n with rdl := { n.rdl with assembling := insertKey r.segment chunks n.rdl.assembling } }).sendTo src false none none
           (rdlResponse r .ok (be 1 0 ++ be 1 0 ++ be 2 s.nor.rdl.stored.length)))) ∧
       (∀ b, wholeBlock chunks = some b → blockOk r.segment s.nor.rdl.tag b = true →
         exec (.rdlData src p) s = .next ((s.modNor fun n =>
             { n with rdl := { n.rdl with assembling := dropKey r.segment n.rdl.assembling
                                          stored := insertKey r.segment (b.drop 16) n.rdl.stored } }).sendTo src false none none
           (rdlResponse r .ok (be 1 1 ++ be 1 0 ++ be 2 (insertKey r.segment (b.drop 16) s.nor.rdl.stored).length))))))

/-- R341, R342, R346 to R348: the steps of an update in Service complete. The staged stream goes to the pending region; the
running image, its loader slot and the settings version go to the archive; ARMED and REVERTING reach the boot record only once
the measure that set them is durable; R332: a NOR write while XIP is enabled is refused with ARRAY_SELF and a Coda entry; an
install that is ready, or a durable ROLLBACK with RESET, plans a reset; durable settings go to the region with the lower
SEQUENCE. R339, R402: fuses burn in Service only, once what burns them is durable, and only upward. ROLLBACK_FUSE_BURN raises
the anti-rollback value to the confirmed one, up to 64; PROVISION_FUSE_BURN sets PROVISIONED and what PROVISION asked for, once.
R343, R344, R351: an install. In Start-up the loader installs the pending stream that passes R338 again: one boot record write
names TRIAL, the image and, with a LOADER part, the other loader slot. In Recovery a downloaded stream that passes is installed
with no archive and the controller resets with code 7; one that fails is reported and nothing else changes. -/
def Obligations.UpdateStepsComplete : Prop :=
  (∀ (s : State), s.inService = true → s.nor.xip = false →
     (∀ p, s.store.package = some p → (s.store.upd = .staged ∨ s.store.upd = .armed) → s.nor.pendingReady = false →
       exec .pendingRegionWritten s = .next (s.modNor fun n => { n with pending := some p.stream, pendingReady := true })) ∧
     (s.store.upd = .armed → s.nor.archiveReady = false →
       exec .archiveDurable s = .next (s.modNor fun n => { n with archive := some (n.running, n.activeSlot, s.store.settings.version), archiveReady := true })) ∧
     (s.store.upd = .armed → s.durable.upd = .armed → s.durable.package = s.store.package →
       exec .bootRecordArmedWrite s = .next (s.modNor fun n => { n with bootState := .armed })) ∧
     (s.store.upd = .armed → s.durable.upd ≠ .armed → exec .bootRecordArmedWrite s = .next s) ∧
     (s.nor.pendingReady = true → s.nor.archiveReady = true → s.nor.bootState = .armed → s.store.upd = .armed →
       s.store.resetWhenReady = true → s.power.plan = none →
       exec .installReady s = .next (s.modPower fun p => { p with plan := some ⟨s.tb.measure + 1, false⟩ })) ∧
     (s.store.upd = .reverting → s.durable.upd = .reverting → s.nor.bootState = .trial → s.power.plan = none →
       exec .bootRecordRevertingWrite s = .next ((s.modNor fun n => { n with bootState := .reverting }).modPower fun p =>
         { p with plan := if s.store.resetOnRevert then some ⟨s.tb.measure + 1, false⟩ else none })) ∧
     (s.durable.oldSettings = none → (s.nor.newest.map (·.content)) ≠ some s.durable.settings →
       completes .settingsMirrorWrite s fun t =>
         ∃ r, t.nor.newest = some r ∧ r.content = s.durable.settings ∧ r.version = s.durable.settings.version ∧
           r.sequence = ((s.nor.newest.map (·.sequence)).getD 0) + 1 ∧
           (∀ o, s.nor.newest = some o → t.nor.regionA = some o ∨ t.nor.regionB = some o) ∧
           t = { s with nor := { s.nor with regionA := t.nor.regionA, regionB := t.nor.regionB } })) ∧
  (∀ (s : State) p, s.inService = true → s.nor.xip = true → s.store.package = some p → s.store.upd = .staged →
     s.nor.pendingReady = false → completes .pendingRegionWritten s fun t =>
       t.nor = { s.nor with lastStatus := 0x0603 } ∧ t.store = s.store ∧ t.power = s.power ∧
       ∃ r, t.coda.queue = s.coda.queue ++ [r] ∧ r.code = 0x0A01 ∧ r.source = 10) ∧
  (∀ (s : State), s.inService = true → s.nor.xip = false →
     (s.nor.bootState ≠ .trial →
       exec .rollbackFuseBurn s = .next { s with fuses := { s.fuses with rollback := max s.fuses.rollback (min 64 s.nor.confirmed) } }) ∧
     (s.nor.bootState = .trial → s.store.upd = .idle → s.durable.upd = .idle →
       completes .rollbackFuseBurn s fun t =>
         t.fuses = { s.fuses with rollback := max s.fuses.rollback (min 64 s.nor.running.rollback) } ∧
         t.nor = { s.nor with bootState := .idle, confirmed := s.nor.running.rollback, archive := none, archiveReady := false
                              pending := none, pendingReady := false } ∧
         t.store = { s.store with oldSettings := none } ∧ t.durable = { s.durable with oldSettings := none }) ∧
     (∀ oem lock hash key, s.durable.provision = some (oem, lock, hash, key) → s.fuses.provisioned = false →
       exec .provisionFuseBurn s = .next (State.placeDue { s with fuses := { s.fuses with
         provisioned := true, debugLocked := s.fuses.debugLocked || lock, oemKey := s.fuses.oemKey || oem
         oemHash := if oem && !s.fuses.oemKey then hash else s.fuses.oemHash
         oemFwKey := if oem && !s.fuses.oemKey then key else s.fuses.oemFwKey } }))) ∧
  (∀ (s : State) (stream : Bytes), s.power.inReset = false →
     (s.power.mode = .startup → s.power.held = false → s.nor.installing = true → s.nor.pending = some stream →
       checkStream s.fuses (some s.store.settings.version) stream = .ok →
       completes .loaderInstall s fun t =>
         t.nor = { s.nor with
           running := imageOf stream, bootState := .trial, installing := false, xip := false
           activeSlot := if hasLoader stream then 1 - s.nor.activeSlot else s.nor.activeSlot
           slotOk := if hasLoader stream then s.nor.slotOk.set (1 - s.nor.activeSlot) true else s.nor.slotOk
           slotRollback := if hasLoader stream then s.nor.slotRollback.set (1 - s.nor.activeSlot) (u8 stream 19)
             else s.nor.slotRollback } ∧
         t.store.upd = .trial ∧ t.durable.upd = .trial ∧ t.power = { s.power with loaded := true, starting := true } ∧
         t.fuses = s.fuses ∧ t.store.settings = s.store.settings ∧ t.store.nss = s.store.nss) ∧
     (s.power.mode = .recovery → s.nor.rdl.phase = .verifying →
       (s.nor.rdl.stored.map (·.1)) = List.range s.nor.rdl.stored.length → s.nor.rdl.stream = stream →
       fullBlocks (fun k => (getKey k s.nor.rdl.stored).map (zeros 16 ++ ·)) s.nor.rdl.stored.length = true →
       (checkStream s.fuses (s.nor.newest.map (·.version)) stream = .ok →
         completes .recoveryInstallComplete s fun t =>
           t.nor.running = imageOf stream ∧ t.nor.bootState = .trial ∧ t.nor.archive = none ∧ t.power.cause = .recoveryDone ∧
           t.power.previous = s.power.cause ∧ t.power.inReset = true ∧ t.fuses = s.fuses ∧ t.durable.upd = .trial ∧
           t.nor.rdl = .reset) ∧
       (∀ st, checkStream s.fuses (s.nor.newest.map (·.version)) stream = st → st ≠ .ok →
         exec .recoveryInstallComplete s = .next (s.modNor fun n =>
           { n with rdl := { n.rdl with phase := .failed, result := st } }))))

/-- R356, R365, R398: the CODA commands complete. READ answers entries of the ring or of a record, oldest first, from an index
on, or a record's header; LIST the summaries of the 17 slots; FREEZE writes FREEZE_BEGIN and starts or joins a freeze;
SET_TRIGGERS enters the open measure and at its place in that measure's list keeps bits 0, 1 and 3. R355 to R360: Coda's own
steps complete. Of the reports that reach the ring in one AON cycle the lowest SOURCE goes first; it becomes the newest entry
with the next SEQ, and where its trigger is in force FREEZE_BEGIN naming it follows; it waits while a held record can be copied
out and is counted in DROPPED where it cannot; after 100 ms the freeze completes with FREEZE_END; a copy ends the hold; a copied
record takes its slot in the vault. -/
def Obligations.CodaComplete : Prop :=
  (∀ (c : Cmd) (s : State),
     (∀ kind es first dropped, s.ready c .rt → c.args.length = 8 → u8 c.args 0 ≤ 17 → 1 ≤ u8 c.args 4 → u8 c.args 4 ≤ 7 →
       s.codaSource (u8 c.args 0) = some (kind, es, first, dropped) →
       (fld c.args 2 2 < es.length → (u8 c.args 0 = 0 ∨ fld c.args 2 2 ≠ 0xFFFF) →
         exec (.codaRead c) s = .next (s.answered c 0x0B01
           (codaHeader (u8 c.args 0) kind es.length first dropped (fld c.args 2 2)
               ((es.drop (fld c.args 2 2)).take (u8 c.args 4)).length ++
             ((es.drop (fld c.args 2 2)).take (u8 c.args 4)).flatMap fun e =>
               (e.shown (s.ownerOf c.mailbox == .sec)).bytes))) ∧
       (∀ r, s.coda.slot (u8 c.args 0) = some r → u8 c.args 0 ≠ 0 → fld c.args 2 2 = 0xFFFF →
         exec (.codaRead c) s = .next (s.answered c 0x0B01
           (codaHeader (u8 c.args 0) kind es.length first dropped 0xFFFF 0 ++ r.header (u8 c.args 0))))) ∧
     (s.ready c .rt → c.args = [] →
       exec (.codaList c) s = .next (s.answered c 0x0B02
         ((List.finRange 17).flatMap fun i => vaultSummary (i.val + 1) s.coda.vault[i]))) ∧
     (s.ready c .mgmt → c.args.length = 4 → (s.coda.state = .live ∨ s.coda.state = .collecting ∧ s.coda.post < 255) →
       completes (.codaFreeze c) s fun t =>
         t = { s.answered c 0x0B03 (be 4 (s.coda.headSeq + 1)) with coda := t.coda, fresh := s.fresh + 1 } ∧
         t.coda.state = .collecting ∧ t.coda.headSeq = s.coda.headSeq + 1 ∧ t.coda.queue = s.coda.queue ∧
         t.coda.vault = s.coda.vault ∧
         (∃ e, t.coda.ring.head? = some e ∧ e.seq = s.coda.headSeq + 1 ∧ e.code = 1 ∧
           e.trigger = decide (s.coda.state = .live) ∧ e.payload = freezeBegin 3 0 0 (fld c.args 0 4)) ∧
         t.coda.post = if s.coda.state = .live then 0 else s.coda.post + 1)) ∧
  entersMeasure .codaSetTriggers 0x0B04 .mgmt (fun _ a => a.length = 4) ∧
  (∀ (c : SealedCmd) (s t : State), s.reaches c 0x0B04 → t = s.atPlace c →
     (∀ i, t.coda.mask.getLsbD i =
       (decide (i = 0) || decide (i = 1) || decide (i = 3) || (decide (i < 10) && bit (fld c.cmd.args 0 4) i))) ∧
     t = { (s.sealedOk c (be 4 t.coda.mask.toNat)).modSettings fun x => { x with codaMask := t.coda.mask } with
           coda := { s.coda with mask := t.coda.mask } }) ∧
  (∀ n q r rest, takeReport n q = some (r, rest) →
     r ∈ q.take (n + 1) ∧ (∀ x ∈ q.take (n + 1), r.source ≤ x.source) ∧ q.length = rest.length + 1) ∧
  (∀ (s : State),
     (∀ r rest, takeReport s.sameCycle s.coda.queue = some (r, rest) → s.coda.state = .live →
       ((∀ b, r.trigger = some b → s.triggerOn b = false) → completes .codaEntryWrite s fun t =>
         ∃ e, t.coda.ring = (e :: s.coda.ring).take 4096 ∧ e.seq = s.coda.headSeq + 1 ∧ e.code = r.code ∧ e.source = r.source ∧
           e.secure = r.secure ∧ e.payload = r.payload ∧ t.coda.headSeq = s.coda.headSeq + 1 ∧ t.coda.state = .live ∧
           t.coda.queue = rest ∧ t.store = s.store ∧ t.seq = s.seq ∧ t.units = s.units ∧ t.mbx = s.mbx) ∧
       (∀ b, r.trigger = some b → s.triggerOn b = true → completes .codaEntryWrite s fun t =>
         t.coda.state = .collecting ∧ t.coda.headSeq = s.coda.headSeq + 2 ∧ t.coda.queue = rest ∧
         ∃ e, t.coda.ring.head? = some e ∧ e.code = 1 ∧ e.trigger = true ∧
           e.payload = freezeBegin b r.code (s.coda.headSeq + 1) 0)) ∧
     (s.coda.state = .held → s.canCopy = true → exec .codaEntryWrite s = .next s) ∧
     (∀ r rest, takeReport s.sameCycle s.coda.queue = some (r, rest) → s.coda.state = .held → s.canCopy = false →
       completes .codaEntryWrite s fun t =>
         t.coda.ring = s.coda.ring ∧ t.coda.dropped = bump s.coda.dropped ∧ t.coda.queue = rest ∧
         t = { s with coda := t.coda, fresh := s.fresh + 1 }) ∧
     (s.coda.state = .collecting → completes .freezeTimeout s fun t =>
       t.coda.state = .held ∧ t.coda.headSeq = s.coda.headSeq + 1 ∧
       (∃ e, t.coda.ring.head? = some e ∧ e.code = 2 ∧ e.payload = be 2 s.coda.post ++ be 2 s.coda.merged ++ be 1 2) ∧
       t.store = s.store ∧ t.seq = s.seq ∧ t.units = s.units ∧ t.mbx = s.mbx ∧ t.power = s.power) ∧
     (s.coda.state = .held → s.canCopy = true → s.coda.pendingFreeze = none → s.coda.holdDrops = none →
       exec .codaRecordCopy s = .next (s.modCoda fun k =>
         { k with state := .live, unflushed := k.unflushed ++ (s.frozenRecord false).toList })) ∧
     (∀ r rest i, s.power.mode = .service → s.coda.unflushed = r :: rest → s.coda.slotFor = some i →
       completes .vaultFlush s fun t =>
         t.coda.vault = s.coda.vault.set i (some r) ∧ t.coda.unflushed = rest ∧ t.coda.ring = s.coda.ring ∧
         (∃ p, t.coda.queue = s.coda.queue ++ [{ code := 3, source := 0, secure := false, payload := p, trigger := none }]) ∧
         t = { s with coda := t.coda }))

/-- R361: CODA.KEEP enters the open measure; at its place in that measure's list it sets or clears KEPT on a record slot, and no
other slot changes. Twelve slots at most are KEPT: a KEEP beyond that is answered BUSY, and the vault stays as it is. -/
def Obligations.CodaKeepHoldsTwelve : Prop :=
  entersMeasure .codaKeep 0x0B05 .mgmt (fun _ a => a.length = 4 ∧ 1 ≤ u8 a 0 ∧ u8 a 0 ≤ 16 ∧ u8 a 1 ≤ 1) ∧
  ∀ (r : VaultRecord) (c : SealedCmd) (s t : State) (a : Bytes), a = c.cmd.args → s.reaches c 0x0B05 → t = s.atPlace c →
    1 ≤ u8 a 0 → u8 a 0 ≤ 16 → s.coda.slot (u8 a 0) = some r →
    (u8 a 1 = 0 ∨ r.kept = true ∨ s.coda.keptCount < 12 →
      t.coda.slot (u8 a 0) = some { r with kept := u8 a 1 == 1 } ∧
      (∀ k, 1 ≤ k → k ≠ u8 a 0 → t.coda.slot k = s.coda.slot k) ∧
      (s.coda.keptCount ≤ 12 → t.coda.keptCount ≤ 12) ∧
      t = { s.sealedOk c [] with coda := { s.coda with vault := t.coda.vault } }) ∧
    (u8 a 1 = 1 → r.kept = false → 12 ≤ s.coda.keptCount → t = s.replying c .busy [] (c.adm + 3) c.adm)

/-- R399 to R402: the SECURITY commands complete. UNLOCK and LOCK open and close the secured blocks; LEDGER_KEY answers the
P-256 public key and its certificate; STATUS answers fuses, lock and owners. SET_MAILBOX_OWNER and PROVISION enter the open
measure; at their places in its list the first sets the owner of mailboxes 1 to 7 and answers the old one, the second creates
the ledger key (a free value) and leaves what it asks of the fuses to PROVISION_FUSE_BURN. -/
def Obligations.SecurityCommandsComplete : Prop :=
  (∀ (c : Cmd) (s : State),
    (s.ready c .sec → c.args = [] →
      exec (.securityMrsUnlock c) s = .next ((s.answered c 0x0C01 []).modSpi fun p => { p with unlocked := true })) ∧
    (s.ready c .rt → c.args = [] →
      exec (.securityMrsLock c) s = .next ((s.answered c 0x0C02 []).modSpi fun p => { p with unlocked := false }) ∧
      (∀ k, s.store.ledgerKey = some k → exec (.securityLedgerKey c) s = .next (s.answered c 0x0C04
        (ecdsaPublic (ledgerPrivate k) ++ be 2 ((Config.ledgerCertificate k).take 428).length ++ be 2 0 ++
          (Config.ledgerCertificate k).take 428))) ∧
      exec (.securityStatus c) s = .next (s.answered c 0x0C06
        (be 1 s.fuses.bits ++ be 1 (b2n (s.spi.unlocked || !s.fuses.provisioned)) ++ be 2 0 ++
          ((List.finRange 8).flatMap fun m => be 1 (s.ownerOf m).num) ++ be 1 s.fuses.rollback ++ be 3 0)))) ∧
  entersMeasure .securitySetMailboxOwner 0x0C03 .sec (fun _ a => a.length = 4 ∧ 1 ≤ u8 a 0 ∧ u8 a 0 ≤ 7 ∧ u8 a 1 ≤ 2) ∧
  entersMeasure .securityProvision 0x0C05 .sec (fun _ a => a.length = 112) ∧
  (∀ (c : SealedCmd) (s t : State) (a : Bytes), a = c.cmd.args → t = s.atPlace c →
    (∀ (m : Fin 8) (o : Owner), s.reaches c 0x0C03 → u8 a 0 = m → m ≠ 0 → Owner.ofNum (u8 a 1) = some o →
      t = (s.sealedOk c (be 1 (s.store.settings.owners[m]).num ++ be 3 0)).modSettings fun x =>
        { x with owners := x.owners.set m o }) ∧
    (s.reaches c 0x0C05 → s.fuses.provisioned = false → s.store.provision = none →
      (bit (u8 a 0) 0 = true → (Config.gcmOpen Config.fleetKey (sub a 52 12) [] (sub a 64 32) (sub a 96 16)).isSome) →
      (∃ k, t.store.ledgerKey = some k) ∧
      t.store.provision = some (bit (u8 a 0) 0, bit (u8 a 0) 1, sub a 4 48,
        padTo 32 ((Config.gcmOpen Config.fleetKey (sub a 52 12) [] (sub a 64 32) (sub a 96 16)).getD [])) ∧
      t = (s.sealedOk c []).modStore fun x =>
        { x with ledgerKey := t.store.ledgerKey, provision := t.store.provision, draws := t.store.draws }))

/-- R367: the debug port. While DEBUG_LOCKED is clear a core halts or runs, the watchdog is paused exactly while one is halted,
and DEBUG_HALT is reported; once it is blown the instruction acts as BYPASS. BYPASS and IDCODE are in force at once;
SAMPLE/PRELOAD loads the boundary register; EXTEST, CLAMP and HIGHZ are in force while a reset ball is asserted and act as
BYPASS otherwise. -/
def Obligations.DebugPortCompletes : Prop :=
  ∀ (s : State),
    (∀ core halt, s.fuses.debugLocked = false → s.power.inReset = false → s.power.mode ≠ .custody →
      completes (.debugHalt core halt) s fun t =>
        t.cluster = { s.cluster with halted := s.cluster.halted.set core halt } ∧
        t.power = { s.power with wdogPaused := t.power.wdogPaused } ∧
        (t.power.wdogPaused = true ↔ ∃ k : Fin 4, t.cluster.halted[k] = true) ∧
        t.coda.queue = s.coda.queue ++ [{ code := 0x0404, source := 3, secure := false, payload := be 1 core ++ be 1 (b2n halt)
                                          trigger := none }] ∧
        t = { s with cluster := t.cluster, power := t.power, coda := { s.coda with queue := t.coda.queue } }) ∧
    (∀ core halt, s.fuses.debugLocked = true → exec (.debugHalt core halt) s = exec .jtagBypass s) ∧
    exec .jtagBypass s = .next { s with cluster := { s.cluster with jtag := .bypass, tdo := 0 } } ∧
    exec .jtagIdcode s = .next { s with cluster := { s.cluster with jtag := .idcode, tdo := idcode } } ∧
    (∀ v, completes (.jtagSamplePreload v) s fun t =>
      t = { s with cluster := { s.cluster with jtag := .samplePreload, boundary := v, tdo := t.cluster.tdo }
                   fresh := s.fresh + 1 }) ∧
    (s.ballReset = true →
      (completes .jtagExtest s fun t =>
        t = { s with cluster := { s.cluster with jtag := .extest, tdo := t.cluster.tdo }, fresh := s.fresh + 1 }) ∧
      exec .jtagClamp s = .next { s with cluster := { s.cluster with jtag := .clamp, tdo := 0 } } ∧
      exec .jtagHighz s = .next { s with cluster := { s.cluster with jtag := .highz, tdo := 0 } }) ∧
    (s.ballReset = false →
      exec .jtagExtest s = exec .jtagBypass s ∧ exec .jtagClamp s = exec .jtagBypass s ∧ exec .jtagHighz s = exec .jtagBypass s)

/-! ## SKP -/

/-- R44, R114, R123 to R125, R127: the reading requests complete. Each row enters the open measure (R33). At its place in that
measure's list GET answers the value's bytes from OFFSET, cut into the port's pieces behind the version, in N + 1; SCAN starts
over the first K accepted keys with the prefix after AFTER, with TRUNCATED when more were accepted, and its answer leaves with
its last slice; WATCH opens a watch and keeps its credit; WATCH with STOP ends one with an END NOTIFY. The store stays as it is.
-/
def Obligations.SkpReadsComplete : Prop :=
  (∀ (r : Request) (s : State) (x : Session), s.readySkp r x →
    (r.op = 0x01 → exec (.get r) s = .next (s.entered r)) ∧
    (r.op = 0x06 → exec (.scan r) s = .next (s.entered r)) ∧
    (r.op = 0x07 → bit r.flags 4 = false → exec (.watch r) s = .next (s.entered r)) ∧
    (r.op = 0x07 → bit r.flags 4 = true → exec (.watchStop r) s = .next (s.entered r))) ∧
  (∀ (r : Request) (s : State) (m : Nat) (n : Namespace), s.reachesSkp m → s.mayAccess m r n →
    (∀ e data, r.op = 0x01 → n.find r.key = some e → r.offset ≤ e.value.length →
      (r.length = 0 ∨ r.offset + r.length ≤ e.value.length) →
      data = sub e.value r.offset (if r.length = 0 then e.value.length - r.offset else r.length) →
      (data = [] ∨ s.wordsLost e.extent (r.offset / 4096) ((r.offset + data.length + 4095) / 4096)
        (if readSliceOf s.store.length < data.length then some m else none) = false) →
      s.servesWith m r .ok (valuePieces (s.pieceSize r.src.port) e.value.length r.offset (be 8 e.version) data) (m + 1) 0 fun u =>
        u.store = s.store ∧ s.sameRest u) ∧
    (∀ walk k, r.op = 0x06 → fld r.body 2 2 = k → k ≠ 0 → s.patternCheck (fld r.body 0 2) = none →
      s.leavesLost n r.key (r.body.drop 8) = false →
      walk = (n.keys.filter fun e => isPrefix r.key e.key && ((r.body.drop 8).isEmpty || bytesLt (r.body.drop 8) e.key)) →
      ∃ (u : State) (v : ScanRun), s.serve m r = u.scanStep v ∧ u.store = s.store ∧ s.sameRest u ∧
        v.slot = fld r.body 0 2 ∧ v.behind = [] ∧ v.reply.session = r.session ∧ v.reply.seq = r.seq ∧ v.reply.src = r.src ∧
        v.reply.status = .ok ∧ v.reply.due = m + 1 ∧ v.reply.credit = true ∧
        ∀ hits, hits = walk.filter (fun e => u.accepts (fld r.body 0 2) e.key) →
          v.costs = (visited (fun e => u.accepts (fld r.body 0 2) e.key) k walk).map (fun e => u.steps (fld r.body 0 2) e.key) ∧
          v.reply.flags = r.flags % 32 + (if k < hits.length then 2 ^ 11 else 0) ∧
          v.reply.pieces = (packEntries (s.pieceSize r.src.port) [] ((hits.take k).map scanEntry)).map fun b =>
            (0, (hits.take k).length, [], b)) ∧
    (r.op = 0x07 → bit r.flags 4 = false → 1 ≤ fld r.body 4 4 → fld r.body 4 4 ≤ 4194304 →
      s.patternCheck (fld r.body 0 2) = none → s.seq.watches.length < 1024 →
      s.servesWith m r .ok [(0, 0, [], [])] (m + 1) 0 fun u =>
        u.seq.watches = s.seq.watches ++ [{ session := r.session, seq := r.seq, src := r.src, ns := r.ns, pre := r.key
                                            pattern := fld r.body 0 2, from_ := m, duration := fld r.body 4 4
                                            limit := fld r.body 8 4, cls := r.cls, count := 0 }] ∧
        u.store = s.store ∧ s.sameRest u) ∧
    (∀ w, r.op = 0x07 → bit r.flags 4 = true → s.seq.watches.find? (fun v => v.is r.session (fld r.body 4 4)) = some w → w.cls < 4 →
      s.servesWith m r .ok [(0, 0, [], [])] (m + 1) 0 fun u =>
        u.seq.watches = s.seq.watches.filter (fun v => !v.is r.session (fld r.body 4 4)) ∧
        (∃ q ∈ u.seq.replies, q.notify = true ∧ q.credit = true ∧ q.session = r.session ∧ q.seq = fld r.body 4 4 ∧ bit q.flags 13 = true) ∧
        u.store = s.store ∧ s.sameRest u))

/-- R43, R164, R115, R120 to R122, R174, R175: the writing requests complete. Each row enters the open measure N. At its place
in N's list, outside a batch, PUT, CAS and APPEND to an ordinary namespace leave the value under the key with the next version,
APPEND to a ledger leaves the next record and the chain hash over it. Every other key, namespace and counter stays; the answer
leaves in N + 3. -/
def Obligations.SkpWritesComplete : Prop :=
  (∀ (r : Request) (s : State) (x : Session), s.readySkp r x →
    (r.op = 0x02 → exec (.put r) s = .next (s.entered r)) ∧
    (r.op = 0x04 → exec (.cas r) s = .next (s.entered r)) ∧
    (r.op = 0x05 → exec (.append r) s = .next (s.entered r))) ∧
  (∀ (r : Request) (s : State) (m : Nat) (n : Namespace), s.reachesSkp m → s.mayAccess m r n → s.store.batch r.session = none →
    s.store.isHeld r.ns r.key = false →
    ∀ v, v = (getKey r.ns s.store.counters).getD 0 + 1 →
    (∀ value, (r.op = 0x02 ∧ value = r.body ∨
        r.op = 0x04 ∧ value = r.body.drop 8 ∧ fld r.body 0 8 = ((n.find r.key).map (·.version)).getD 0 ∨
        r.op = 0x05 ∧ n.typ = .ordinary ∧ r.key ≠ [] ∧ value = ((n.find r.key).map (·.value)).getD [] ++ r.body ∧
          value.length ≤ 64 * 2 ^ 20 ∧ (∀ e, n.find r.key = some e → s.valueLost e = false)) →
      opensSeg r = false →
      s.store.roomFor n r.key (charge value.length) (((n.find r.key).map fun e => charge e.value.length).getD 0)
        (b2n (n.find r.key).isNone) = true →
      s.servesWith m r .ok [(0, 0, [], be 8 v)] (m + 3) m fun u =>
        (∃ n1, u.store.ns r.ns = some n1 ∧ (∀ k, k ≠ r.key → n1.find k = n.find k) ∧ ∃ e, n1.find r.key = some e ∧ e.value = value ∧
          e.version = v ∧ e.adm = m) ∧
        getKey r.ns u.store.counters = some v ∧ s.store.sameBut u.store r.ns ∧ s.sameRest u) ∧
    (∀ value, r.op = 0x05 → n.typ = .ledger → r.key = [] → value = ledgerRecord (n.record + 1) 1 n.head r.body →
      s.store.roomFor n (be 8 (n.record + 1)) (charge (48 + r.body.length)) 0 1 = true →
      s.servesWith m r .ok [(0, 0, [], be 8 (n.record + 1) ++ sha256 value)] (m + 3) m fun u =>
        (∃ n1, u.store.ns r.ns = some n1 ∧ n1.record = n.record + 1 ∧ n1.head = sha256 value ∧
          n1.oldest = (if n.oldest = 0 then 1 else n.oldest) ∧ n1.retention = n.retention ∧
          (∀ k, k ≠ be 8 (n.record + 1) → n1.find k = n.find k) ∧
          ∃ e, n1.find (be 8 (n.record + 1)) = some e ∧ e.value = value ∧ e.version = v ∧ e.adm = m) ∧
        s.store.sameBut u.store r.ns ∧ s.sameRest u))

/-- R120: DELETE removes the key at its sealed place, wherever that is (`k`: a local list, a batch that closes, or a Chorus
set), and is answered with the version the key had; where the key is absent it answers NOT_FOUND with an empty body. Its row
enters the open measure; at its place in that measure's list, outside a batch, the key is gone, a version is consumed, and every
other key, namespace and counter stays. -/
def Obligations.DeleteRemovesTheKey : Prop :=
  (∀ (k : Ctx) (r : Request) (s s1 : State) (n : Namespace), r.op = 0x03 → s.gate k r = (s1, .ok n) →
    s.store.isHeld n.id r.key = false →
    (∀ e, n.find r.key = some e → ∃ t m, opRun k r s = (t, .ok (be 8 e.version)) ∧ t.store.ns r.ns = some m ∧
      m.find r.key = none ∧ ∀ l, l ≠ r.key → m.find l = n.find l) ∧
    (n.find r.key = none → opRun k r s = (s1, .of .notFound []) ∧ s1.store = s.store)) ∧
  (∀ (r : Request) (s : State) (x : Session), s.readySkp r x → r.op = 0x03 → exec (.delete r) s = .next (s.entered r)) ∧
  (∀ (r : Request) (s : State) (m : Nat) (n : Namespace), s.reachesSkp m → r.op = 0x03 → s.mayAccess m r n →
    s.store.batch r.session = none → s.store.isHeld r.ns r.key = false →
    (∀ e, n.find r.key = some e →
      s.servesWith m r .ok [(0, 0, [], be 8 e.version)] (m + 3) m fun u =>
        (∃ n1, u.store.ns r.ns = some n1 ∧ n1.find r.key = none ∧ ∀ k, k ≠ r.key → n1.find k = n.find k) ∧
        getKey r.ns u.store.counters = some ((getKey r.ns s.store.counters).getD 0 + 1) ∧ s.store.sameBut u.store r.ns ∧
        s.sameRest u) ∧
    (n.find r.key = none →
      s.servesWith m r .notFound [(0, 0, [], [])] (m + 3) m fun u => u.store = s.store ∧ s.sameRest u))

/-- R121: CAS writes only if the key's version at its sealed place (`k`) equals the expected version, 0 standing for an absent
key; else it answers VERSION_MISMATCH with the present version, 0 when absent, and the store stays. For a segmented value that
place is its commit (R118). Its row enters the open measure; outside a batch its place in that measure's list does so. -/
def Obligations.CasWritesOnlyTheExpected : Prop :=
  (∀ (k : Ctx) (r : Request) (s s1 : State) (n : Namespace) (now : Nat), r.op = 0x04 → s.gate k r = (s1, .ok n) →
    s.store.isHeld n.id r.key = false → opensSeg r = false → now = ((n.find r.key).map (·.version)).getD 0 →
    (fld r.body 0 8 ≠ now → opRun k r s = (s1, .of .versionMismatch (be 8 now)) ∧ s1.store = s.store) ∧
    (fld r.body 0 8 = now → (opRun k r s).2.status = .noSpace ∨ ∃ t m e, opRun k r s = (t, .ok (be 8 e.version)) ∧
      t.store.ns r.ns = some m ∧ m.find r.key = some e ∧ e.value = r.body.drop 8 ∧ ∀ l, l ≠ r.key → m.find l = n.find l)) ∧
  (∀ (k : Ctx) (r : Request) (g : OpenSeg) (s : State) (n : Namespace) (v now : Nat), s.store.ns g.ns = some n →
    s.store.holds g.ns g.key = true → s.store.isHeld g.ns g.key = false → g.expected = some v →
    now = ((n.find g.key).map (·.version)).getD 0 →
    (v ≠ now → commitSeg k r g s = (s.modStore fun t => t.dropSeg r.session, .of .versionMismatch (be 8 now))) ∧
    (v = now → ∃ t m e, commitSeg k r g s = (t, .ok (be 8 e.version)) ∧ t.store.ns g.ns = some m ∧ m.find g.key = some e ∧
      e.value = g.data ++ r.body)) ∧
  (∀ (r : Request) (s : State) (x : Session), s.readySkp r x → r.op = 0x04 → exec (.cas r) s = .next (s.entered r)) ∧
  (∀ (r : Request) (s : State) (m : Nat) (n : Namespace) (now : Nat), s.reachesSkp m → r.op = 0x04 → s.mayAccess m r n →
    s.store.batch r.session = none → s.store.isHeld r.ns r.key = false → opensSeg r = false →
    now = ((n.find r.key).map (·.version)).getD 0 →
    (fld r.body 0 8 ≠ now →
      s.servesWith m r .versionMismatch [(0, 0, [], be 8 now)] (m + 3) m fun u => u.store = s.store ∧ s.sameRest u) ∧
    (∀ v, fld r.body 0 8 = now → v = (getKey r.ns s.store.counters).getD 0 + 1 →
      s.store.roomFor n r.key (charge (r.body.drop 8).length) (((n.find r.key).map fun e => charge e.value.length).getD 0)
        (b2n (n.find r.key).isNone) = true →
      s.servesWith m r .ok [(0, 0, [], be 8 v)] (m + 3) m fun u =>
        (∃ n1, u.store.ns r.ns = some n1 ∧ (∀ k, k ≠ r.key → n1.find k = n.find k) ∧ ∃ e, n1.find r.key = some e ∧
          e.value = r.body.drop 8 ∧ e.version = v ∧ e.adm = m) ∧
        getKey r.ns u.store.counters = some v ∧ s.store.sameBut u.store r.ns ∧ s.sameRest u))

/-- R116 to R119: segmented values. The rows enter the open measure. At their places in that measure's list a PUT with LENGTH
and no body opens a value with its reservation; a SEGMENT in order adds its bytes; with LAST it commits the whole value under
the next version; with ABORT it goes with its reservation. -/
def Obligations.SkpSegmentsComplete : Prop :=
  (∀ (r : Request) (s : State) (x : Session), s.readySkp r x →
    (r.op = 0x02 → exec (.put r) s = .next (s.entered r)) ∧
    (r.op = 0x0B → bit r.flags 2 = false → bit r.flags 3 = false → exec (.segment r) s = .next (s.entered r)) ∧
    (r.op = 0x0B → bit r.flags 2 = true → bit r.flags 3 = false → exec (.segmentCommit r) s = .next (s.entered r)) ∧
    (r.op = 0x0B → bit r.flags 3 = true → exec (.segmentAbort r) s = .next (s.entered r))) ∧
  (∀ (r : Request) (s : State) (m : Nat) (n : Namespace), s.reachesSkp m → s.store.batch r.session = none →
    (r.op = 0x02 → opensSeg r = true → s.mayAccess m r n → s.store.isHeld r.ns r.key = false → s.store.seg r.session = none →
      s.store.roomFor n r.key (charge r.length) 0 1 = true →
      s.servesWith m r .ok [(0, 0, [], [])] (m + 3) m fun u =>
        u.store = { s.store with segs := s.store.segs ++ [{ session := r.session, ns := r.ns, key := r.key, total := r.length
                                                            count := 0, data := [], expected := none, adm := m }] } ∧
        s.sameRest u) ∧
    (∀ g, r.op = 0x0B → s.noRank = false → r.ns ≠ 0 → s.store.ns r.ns = some n → n.typ ≠ .ledger → s.store.seg r.session = some g →
      s.store.chorusNs g.ns = none →
      (bit r.flags 2 = false → bit r.flags 3 = false → g.takes r = true →
        s.servesWith m r .ok [(0, 0, [], [])] (m + 3) m fun u =>
          u.store.seg r.session = some { g with count := g.count + 1, data := g.data ++ r.body } ∧
          (∀ k, k ≠ r.session → u.store.seg k = s.store.seg k) ∧ u.store = { s.store with segs := u.store.segs } ∧ s.sameRest u) ∧
      (bit r.flags 3 = true →
        s.servesWith m r .ok [(0, 0, [], [])] (m + 3) m fun u =>
          u.store = { s.store with segs := s.store.segs.filter fun h => h.session != r.session } ∧ s.sameRest u) ∧
      (∀ n1 v, bit r.flags 2 = true → bit r.flags 3 = false → g.takes r = true → s.store.ns g.ns = some n1 →
        s.store.isHeld g.ns g.key = false → (g.expected = none ∨ g.expected = some (((n1.find g.key).map (·.version)).getD 0)) →
        v = (getKey g.ns s.store.counters).getD 0 + 1 →
        s.servesWith m r .ok [(0, 0, [], be 8 v)] (m + 3) m fun u =>
          (∃ n2, u.store.ns g.ns = some n2 ∧ (∀ k, k ≠ g.key → n2.find k = n1.find k) ∧ ∃ e, n2.find g.key = some e ∧
            e.value = g.data ++ r.body ∧ e.version = v) ∧
          u.store.segs = s.store.segs.filter (fun h => h.session != r.session) ∧ (∀ k, k ≠ g.ns → u.store.ns k = s.store.ns k) ∧
          s.sameRest u)))

/-- R128, R129, R41, R68: batches and CANCEL. The rows enter the open measure. At its place in that measure's list BATCH_OPEN
opens the session's batch, and a write of the session then waits in it; BATCH_CLOSE applies every member or none: when one
fails, the store is as before but for the batch, and every other member is answered with that status. As the measure closes, a
CANCEL removes its target from what is to be sealed; at its place it is answered OK where it did so, CANCEL_LATE where the
target stands in its list, and NOT_FOUND where the target was refused, removed by another CANCEL or never received. -/
def Obligations.SkpBatchesCancelComplete : Prop :=
  (∀ (r : Request) (s : State) (x : Session), s.readySkp r x →
    (r.op = 0x08 → exec (.batchOpen r) s = .next (s.entered r)) ∧
    (r.op = 0x09 → exec (.batchClose r) s = .next (s.entered r)) ∧
    (r.op = 0x0A → exec (.cancel r) s = .next (s.entered r))) ∧
  (∀ (r : Request) (s : State) (m : Nat), s.reachesSkp m →
    (r.op = 0x08 → s.store.batch r.session = none →
      s.servesWith m r .ok [(0, 0, [], [])] (m + 1) 0 fun u =>
        u.store = { s.store with batches := s.store.batches ++ [{ session := r.session, adm := m, members := [] }] } ∧
        s.sameRest u) ∧
    (∀ b, joinsBatch r = true → s.store.batch r.session = some b →
      (s.serve m r).store = { s.store with batches := s.store.batches.map fun c =>
        if c.session == r.session then { c with members := c.members ++ [(r, m)] } else c } ∧
      (s.serve m r).seq.replies = s.seq.replies ∧ s.sameRest (s.serve m r)) ∧
    (∀ b ms s0 run, r.op = 0x09 → s.store.batch r.session = some b → ms = b.members.foldr insertMember [] →
      (∀ k ∈ ms, joinsBatch k.1 = true ∧ k.1.session = r.session) →
      s0 = (s.modStore fun t => { t with batches := t.batches.filter fun y => y.session != r.session }) →
      run = ms.foldl (BatchRun.step ⟨m, m, false⟩ (ms.head?.map fun k => s.store.shardIndex k.1)) ⟨s0, [], none⟩ →
      (run.failed = none → s.servesWith m r .ok [(0, 0, [], closeBody ms.length 0)] (m + 3) m fun u => u.store = run.s.store) ∧
      (∀ q a, run.failed = some (q, a) →
        s.servesWith m r a.status [(0, 0, [], closeBody ms.length q)] (m + 3) m fun u =>
          u.store = s0.store ∧
          (∀ k ∈ ms, ∃ p ∈ u.seq.replies, p.seq = k.1.seq ∧ p.session = r.session ∧ p.status = a.status ∧
            bit p.flags 10 = decide (k.1.seq ≠ q)) ∧ s.sameRest u)) ∧
    (∀ x, r.op = 0x0A → s.session r.session = some x →
      (∀ p, fld r.body 0 4 < r.seq → x.record (fld r.body 0 4) = some p → p.removedBy = some r.seq →
        s.servesWith m r .ok [(0, 0, [], be 4 (fld r.body 0 4))] (m + 1) 0 fun u => u.store = s.store ∧ s.sameRest u) ∧
      (∀ p, fld r.body 0 4 < r.seq → x.record (fld r.body 0 4) = some p → p.removedBy = none → p.admitted = true →
        s.servesWith m r .cancelLate [(0, 0, [], be 4 (fld r.body 0 4))] (m + 1) 0 fun u => u.store = s.store ∧ s.sameRest u) ∧
      (r.seq ≤ fld r.body 0 4 ∨
          (∃ p, x.record (fld r.body 0 4) = some p ∧ p.removedBy ≠ some r.seq ∧ (p.removedBy ≠ none ∨ p.admitted = false)) ∨
          (x.record (fld r.body 0 4) = none ∧ x.received (fld r.body 0 4) = false) →
        s.servesWith m r .notFound [(0, 0, [], be 4 (fld r.body 0 4))] (m + 1) 0 fun u => u.store = s.store ∧ s.sameRest u))) ∧
  (∀ (r c : Request) (s t : State), fld r.body 0 4 < r.seq → .skp c ∈ s.seq.admitted → c.session = r.session →
    c.seq = fld r.body 0 4 → t = s.cancelOpen r →
    (∀ q, .skp q ∈ t.seq.admitted ↔ .skp q ∈ s.seq.admitted ∧ ¬ (q.session = r.session ∧ q.seq = fld r.body 0 4)) ∧
    (∀ q, .cmd q ∈ t.seq.admitted ↔ .cmd q ∈ s.seq.admitted) ∧
    (∀ x, s.session r.session = some x → ∃ y, t.session r.session = some y ∧
      (∀ p, y.record (fld r.body 0 4) = some p → p.removedBy = some r.seq) ∧
      (x.closing = [] → y.holding = x.holding.erase (fld r.body 0 4))) ∧
    t.store = s.store ∧ s.sameRest t)

/-- R69: a CANCEL changes no namespace, and its response, the target's sequence in 4 bytes, starts in the measure after its own,
whatever its status. Its row enters the open measure. -/
def Obligations.CancelChangesNoNamespace : Prop :=
  (∀ (r : Request) (s : State) (x : Session), s.readySkp r x → r.op = 0x0A → exec (.cancel r) s = .next (s.entered r)) ∧
  (∀ (r : Request) (s : State) (m : Nat), s.reachesSkp m → r.op = 0x0A →
    ∃ st ∈ [Status.ok, .notFound, .cancelLate], s.servesWith m r st [(0, 0, [], be 4 (fld r.body 0 4))] (m + 1) 0 fun u =>
      u.store = { s.store with draws := u.store.draws } ∧ u.units = s.units ∧ s.sameRest u)

/-- R48: a pinned request that is its session's next, in the open measure C. With a target below C it is refused LATE; with
target C it is admitted if it fits and refused BUSY if not; up to C + 64 it is held, with its credit; beyond that it is refused
RANGE. -/
def Obligations.PinnedRequestsFollowTheirTarget : Prop :=
  ∀ (i : Instr) (r : Request) (s : State) (x : Session), rowOf r = some i → s.readyPinned r x →
    (r.target < s.tb.measure → completes i s fun t => s.refuses t r x .late) ∧
    (r.target = s.tb.measure → s.fits (valueBytesOf r) = true → exec i s = .next ((s.arrived r).takeIn r)) ∧
    (r.target = s.tb.measure → s.fits (valueBytesOf r) = false → completes i s fun t => s.refuses t r x .busy) ∧
    (s.tb.measure < r.target → r.target ≤ s.tb.measure + 64 →
      exec i s = .next ((s.arrived r).modSeq fun q => { q with held := q.held ++ [r] })) ∧
    (s.tb.measure + 64 < r.target → completes i s fun t => s.refuses t r x .range)

/-- R63 to R65, R105 to R108: the session requests complete and are answered at once, with status OK (that the TARGET of these
responses is 0 is the model's choice, log entry 121). HELLO opens a session with 32 credits for its source, keeping its next
sequence; a HELLO from the bound source of an open session only answers; BYE closes the session, whose outstanding requests keep
its credits; CREDIT sets the window to the smaller of what is asked for and what the pool allows; HEARTBEAT answers the open
measure and the timebase. -/
def Obligations.SkpSessionsComplete : Prop :=
  ∀ (r : Request) (s : State), s.serves r.src → r.key = [] → r.target = 0 → r.offset = 0 → r.length = 0 → r.segment = 0 →
    (r.op = 0x0C → r.body = [] → r.session ≠ 0 → r.session < 0xFFF0 → s.isOpen r.session = false → 32 ≤ s.poolFree →
      s.openSessions < 1024 →
      completes (.hello r) s fun t =>
        (∃ y, t.session r.session = some y ∧ y.opened = true ∧ y.window = 32 ∧ y.boundTo r.src = true ∧ y.chorus = r.src.group ∧
          y.next = ((s.session r.session).map (·.next)).getD 1 ∧ y.replay = ((s.session r.session).map (·.replay)).getD []) ∧
        (∀ k, k ≠ r.session → t.session k = s.session k) ∧
        t.ports = (s.answerNow r .ok 0 0 (s.helloBody (((s.session r.session).map (·.next)).getD 1) 32)).ports ∧
        t = { s with sessions := t.sessions, ports := t.ports }) ∧
    (∀ x, s.session r.session = some x → x.opened = true → x.boundTo r.src = true →
      (r.op = 0x0C → r.body = [] → r.session ≠ 0 → r.session < 0xFFF0 →
        exec (.hello r) s = .next ((s.modSession r.session fun y => { y with lastSeen := s.tb.measure }).answerNow r .ok 0 0
          (s.helloBody x.next x.window))) ∧
      (r.op = 0x0F → r.body = [] →
        exec (.heartbeat r) s = .next ((s.modSession r.session fun y => { y with lastSeen := s.tb.measure }).answerNow r .ok 0 0
          (be 6 s.tb.measure ++ be 1 s.tb.state.num ++ be 1 0))) ∧
      (r.op = 0x0D → r.body = [] →
        completes (.bye r) s fun t =>
          (∃ y, t.session r.session = some y ∧ y.opened = false ∧ y.next = x.next ∧ y.replay = x.replay ∧
            y.credits = (x.closing.map (·.1)).sum + (if x.holding = [] then 0 else max x.window x.outstanding)) ∧
          (∀ k, k ≠ r.session → t.session k = s.session k) ∧ t.store = s.store ∧ t.tb = s.tb ∧ t.mbx = s.mbx ∧ t.units = s.units) ∧
      (r.op = 0x0E → r.body.length = 8 → 1 ≤ fld r.body 0 2 → fld r.body 0 2 ≤ 256 →
        completes (.credit r) s fun t =>
          (∃ y, t.session r.session = some y ∧ y.window = min (fld r.body 0 2) (x.window + s.poolFree) ∧ y.holding = x.holding ∧
            y.next = x.next ∧ y.opened = true) ∧
          (∀ k, k ≠ r.session → t.session k = s.session k) ∧ t.store = s.store ∧ t.tb = s.tb ∧ t.mbx = s.mbx ∧ t.units = s.units))

/-- R275, R276, R278, R281: the STANZA rows enter the open measure. At its place STANZA READ of the open checkpoint answers the
stanza named, in pieces; STANZA LOAD of the next stanza of the manifest takes it, and of the next stanza of a source shard, when
it passes its checks, leaves what it holds in the store and moves the shard's progress. -/
def Obligations.SkpStanzasComplete : Prop :=
  (∀ (r : Request) (s : State) (x : Session), s.readySkp r x → r.op = 0x13 →
    (u8 r.body 0 = 1 → exec (.stanzaRead r) s = .next (s.entered r)) ∧
    (u8 r.body 0 = 2 → exec (.stanzaLoad r) s = .next (s.entered r))) ∧
  (∀ (r : Request) (s s1 : State) (m : Nat) (c : Chorus), s.reachesSkp m → r.op = 0x13 → s.noRank = false →
    s.store.chorus = some c →
    (∀ l sn b, u8 r.body 0 = 1 → c.checkpoint = some sn → sn.id = fld r.body 8 8 →
      (if fld r.body 2 2 = 0xFFFF then some (c.nss.map (·.ns)) else (c.locate (fld r.body 2 2)).map fun k => [k.1.ns]) = some l →
      State.stanzaGate ⟨m, m, false⟩ r .read l s = (s1, none) →
      c.readStanza (fld r.body 2 2) (fld r.body 4 4) sn = some b → s.stanzaLost sn b = false →
      s.servesWith m r .ok (valuePieces (s.pieceSize r.src.port) b.length 0 [] b) (m + 1) 0 fun u =>
        u.store = s.store ∧ s.sameRest u) ∧
    (∀ v p, u8 r.body 0 = 2 → c.restore = some v → v.complete = false → v.checkpoint = fld r.body 8 8 → fld r.body 2 2 = 0xFFFF →
      fld r.body 4 4 = v.next → State.stanzaGate ⟨m, m, false⟩ r .write (c.nss.map (·.ns)) s = (s1, none) →
      stanzaSound (r.body.drop 16) = true → (parseStanza (r.body.drop 16)).isSome = true → p = (r.body.drop 16).drop 64 →
      u8 (r.body.drop 16) 5 = 1 → u8 (r.body.drop 16) 24 = 0 → fld (r.body.drop 16) 8 8 = v.checkpoint →
      fld (r.body.drop 16) 44 4 = v.next → (v.next = 0 ∨ fld (r.body.drop 16) 16 6 = v.cut) →
      (manifestDone (v.manifest ++ p) = true →
        manifestExact (v.manifest ++ p) = true ∧ s.store.fitsManifest (v.manifest ++ p) = true) →
      s.servesWith m r .ok [(0, 0, [], [])] (m + 3) m fun u =>
        u.store = s.store.setRestore { v with
          manifest := v.manifest ++ p, complete := manifestDone (v.manifest ++ p), next := v.next + 1
          cut := fld (r.body.drop 16) 16 6 } ∧ s.sameRest u) ∧
    (∀ v h p next known t1 l1, u8 r.body 0 = 2 → c.restore = some v → v.complete = true → v.checkpoint = fld r.body 8 8 →
      fld r.body 2 2 ≠ 0xFFFF → 80 ≤ r.body.length →
      State.stanzaGate ⟨m, m, false⟩ r .write [u8 (r.body.drop 16) 24] s = (s1, none) →
      known = v.loads.find? (fun k => k.shard == fld r.body 2 2) → next = (known.map (·.next)).getD 0 → fld r.body 4 4 = next →
      (known.map (·.ended)).getD false = false → stanzaSound (r.body.drop 16) = true → parseStanza (r.body.drop 16) = some (h, p) →
      v.names h (fld r.body 2 2) next (r.body.drop 16).length = true →
      endMismatch (known.getD (.start (fld r.body 2 2) h)) h p = false →
      loadStanza s.store (known.getD (.start (fld r.body 2 2) h)) h p = .ok (t1, l1) →
      s.servesWith m r .ok [(0, 0, [], [])] (m + 3) m fun u => u.store = t1.setRestore (v.setLoad l1) ∧ s.sameRest u))

/-- R261 to R263, R268, R270, R271: the datagrams between members complete. A peer's DIGEST is kept and its silence ends; one
that shows FENCED, or another LENGTH, lowers the peer's unit to FENCED or below. A PULL is answered from what this member holds:
LIST the entries of A(MEASURE), FETCH the requests named, SETS the sets of the log, TRANSFER the stanza of a snapshot served;
one for a new snapshot waits for the cut. R263, R270: a peer's answers to this member's PULLs. The entries of a LIST join U(T)
while round 2 has not been sent; the sets of a SETS above the last sealed measure are kept, to be applied. -/
def Obligations.ChorusDatagramsComplete : Prop :=
  (∀ (r : Request) (s : State) (c : Chorus) (k : Fin 8), s.serves r.src → s.store.chorus = some c →
     c.memberOf r.src.ip = some k.val → k.val ≠ c.self →
     (digestForm r.body k = true →
       completes (.digest r) s fun t =>
         (t.chorus.report k (fld r.body 4 6) (u8 r.body 0)).isSome ∧
         (s.chorus.report k (fld r.body 4 6) (u8 r.body 0) = none → reportOf r.body ∈ t.chorus.reports) ∧
         t.chorus.lastHeard[k] = s.tb.measure ∧
         (bit (u8 r.body 2) 0 = true ∨ u8 r.body 3 ≠ s.store.length → (t.dataView (memberId k)).num ≤ 1) ∧
         t.store = s.store ∧ t.sessions = s.sessions ∧ t.seq.replies = s.seq.replies ∧ t.tb = s.tb ∧ t.mbx = s.mbx) ∧
     (r.op = 0x12 → 16 ≤ r.body.length →
       (u8 r.body 0 = 1 → c.e ≤ fld r.body 4 6 → fld r.body 4 6 < s.tb.measure → s.tb.measure ≤ fld r.body 4 6 + 2 →
         exec (.pullList r) s = .next ((s.notePull k).pullAnswer r .ok
           ((sortRequests (s.chorus.set (fld r.body 4 6))).flatMap Request.entry))) ∧
       (∀ l : List Request, u8 r.body 0 = 2 → 1 ≤ fld r.body 2 2 → fld r.body 2 2 ≤ 64 → 16 + 8 * fld r.body 2 2 ≤ r.body.length →
         ((List.range (fld r.body 2 2)).map fun i => (s.chorus.heldFor (fld r.body 4 6)).find? fun q =>
           q.isId (fld r.body (16 + 8 * i) 2) (fld r.body (20 + 8 * i) 4)) = l.map some →
         exec (.pullFetch r) s = .next ((s.notePull k).pullAnswer r .ok (l.flatMap carried))) ∧
       (∀ l : List (List Request), u8 r.body 0 = 3 → 1 ≤ fld r.body 2 2 → fld r.body 2 2 ≤ 16 →
         ((List.range (fld r.body 2 2)).map fun i => getKey (fld r.body 4 6 + i) c.log) = l.map some →
         exec (.pullSets r) s = .next ((s.notePull k).pullAnswer r .ok
           (l.zipIdx.flatMap fun p => carriedSet (fld r.body 4 6 + p.2) p.1))) ∧
       (u8 r.body 0 = 4 → 24 ≤ r.body.length → fld r.body 4 6 = 0 → s.ownFenced c = false →
         (c.shards.any fun h => h.num == fld r.body 16 2) = true →
         completes (.pullTransfer r) s fun t =>
           t.chorus.asks = s.chorus.asks ++ [r] ∧ t.chorus.serving = s.chorus.serving ∧ t.store = s.store ∧ t.ports = s.ports) ∧
       (∀ v b, u8 r.body 0 = 4 → 24 ≤ r.body.length → fld r.body 4 6 ≠ 0 →
         s.chorus.serving.find? (fun w => w.1 == fld r.body 16 2 && w.2.cut == fld r.body 4 6) = some v →
         (s.servedStanzas c (fld r.body 16 2) v.2)[fld r.body 20 4]? = some b →
         fld r.body 20 4 + 1 ≠ (s.servedStanzas c (fld r.body 16 2) v.2).length →
         exec (.pullTransfer r) s = .next ((s.notePull k).pullAnswer r .ok b)))) ∧
  (∀ (a : PullAnswer) (s : State) (c : Chorus), s.inService = true → s.store.chorus = some c → a.member.val ≠ c.self →
     a.member.val < c.members → a.status = 0 →
     (a.mode = 1 → s.chorus.report c.self a.measure 2 = none → c.lastSealed < a.measure →
       completes (.pullResponseReceive a) s fun t =>
         (∀ e ∈ entriesOf a.body, e ∈ (getKey a.measure t.chorus.listed).getD []) ∧
         (∀ e ∈ (getKey a.measure s.chorus.listed).getD [], e ∈ (getKey a.measure t.chorus.listed).getD []) ∧
         (∀ m, m ≠ a.measure → getKey m t.chorus.listed = getKey m s.chorus.listed) ∧ t.store = s.store ∧ t.tb = s.tb) ∧
     (a.mode = 3 → ((takeSets a.body.length a.body).map (·.1)).Nodup →
       completes (.pullResponseReceive a) s fun t =>
         (∀ p ∈ takeSets a.body.length a.body, c.lastSealed < p.1 → getKey p.1 t.chorus.fetched = some (p.2.map s.pulled)) ∧
         (∀ m, (∀ p ∈ takeSets a.body.length a.body, p.1 ≠ m) → getKey m t.chorus.fetched = getKey m s.chorus.fetched) ∧
         t = { s with chorus := { s.chorus with fetched := t.chorus.fetched } }))

/-! ## Ethernet and time -/

/-- R139, R143 to R146, R426: the receive path completes. A frame with room reserves the longest frame and a descriptor, one
without is counted in RX_OVERFLOW; in RX_MODE FLOW a rise above the high mark sends XOFF; a frame that fails its FCS is counted
there alone and goes; an SKP datagram that passes every check keeps its bytes and stands with the parser, which passes its
oldest one to the admission port; PAUSE sets and ends the pause; XOFF is repeated while the buffer is above a high mark. -/
def Obligations.EthernetReceiveCompletes : Prop :=
  ∀ (p : Fin 2) (s : State), s.receives p = true →
    (s.rxRoom p = true → (s.net p).set.flow = false →
      exec (.rxFrameAdmit p) s = .next (s.modPort p fun q =>
        { q with rxBytes := q.rxBytes + (s.net p).maxFrame, rxDesc := q.rxDesc + 1, rxPending := q.rxPending ++ [⟨(s.net p).set, s.portNow p, (s.net p).maxFrame⟩] })) ∧
    (s.rxRoom p = true → (s.net p).set.flow = true → s.above p = false →
      ((s.net p).set.highWm * 1024 < (s.port p).rxBytes + (s.net p).maxFrame ∨ 48 ≤ (s.port p).rxDesc) →
      completes (.rxFrameAdmit p) s fun t =>
        (∃ f, (t.port p).urgent = (s.port p).urgent ++ [f] ∧ f.cls = .pause ∧ f.dstMac = some 0x0180C2000001 ∧
          f.payload = be 2 1 ++ be 2 0xFFFF) ∧
        (t.port p).xoff = true ∧ (t.port p).rxDesc = (s.port p).rxDesc + 1 ∧ t = { s with ports := t.ports }) ∧
    (s.rxRoom p = false → completes (.rxFrameAdmit p) s fun t =>
      (∀ c : Ctr, (t.port p).counters[c.idx] = if c = .rxOverflow then sat 64 ((s.port p).counters[c.idx] + 1) else (s.port p).counters[c.idx]) ∧
      (t.port p).rxBytes = (s.port p).rxBytes ∧ (t.port p).rxDesc = (s.port p).rxDesc ∧ t.store = s.store ∧ t.seq = s.seq) ∧
    (∀ (f : Frame) (x : RxSlot) xs, (s.port p).rxPending = x :: xs → f.fcsOk = false → completes (.rxFrameCheck p f) s fun t =>
      (∀ c : Ctr, (t.port p).counters[c.idx] = if c = .rxFcsErr then sat 64 ((s.port p).counters[c.idx] + 1) else (s.port p).counters[c.idx]) ∧
      (t.port p).parser = (s.port p).parser ∧ (t.port p).rxDesc = (s.port p).rxDesc - 1 ∧ t.store = s.store ∧ t.seq = s.seq ∧
      t.sessions = s.sessions ∧ t.mbx = s.mbx) ∧
    (∀ (f : Frame) (x : RxSlot) xs (k : Packet) sp ok zero payload src r, (s.port p).rxPending = x :: xs → x.set = (s.net p).set →
      f.fcsOk = true → 64 ≤ f.len → f.len ≤ x.bytes → s.filterPass p f = true → f.sec = none → (s.net p).policy ≠ .strict → f.content = .ip k →
      k.proto = .udp sp 47810 ok zero payload → s.ipCheck p k = none →
      src = { port := p, vid := f.vid, ip := k.srcIp, udp := sp, group := s.groupIps.contains k.dstIp, verified := false } →
      s.serves src → s.skpCheck src payload = .inr r →
      completes (.rxFrameCheck p f) s fun t =>
        (t.port p).parser = (s.port p).parser ++ [(f.len, r)] ∧
        (t.port p).rxBytes = (s.port p).rxBytes - x.bytes + f.len ∧
        (t.port p).rxPending = xs ∧ (t.port p).rxDesc = (s.port p).rxDesc ∧
        (∀ c : Ctr, (t.port p).counters[c.idx] = if c = .rxFramesOk then sat 64 ((s.port p).counters[c.idx] + 1)
          else if c = .rxBytesOk then sat 64 ((s.port p).counters[c.idx] + f.len) else (s.port p).counters[c.idx]) ∧
        t = { s with ports := t.ports }) ∧
    (∀ n r rest x, (s.port p).parser = (n, r) :: rest → 1 ≤ r.op → r.op ≤ 0x0B → s.readySkp r x →
      completes (.requestToAdmissionPort p) s fun t =>
        (t.port p).parser = rest ∧ (t.port p).rxBytes = (s.port p).rxBytes - n ∧ t.seq.admitted = s.seq.admitted ++ [.skp r] ∧
        t.seq.slots = s.seq.slots + 1 ∧ t.seq.bytes = s.seq.bytes + valueBytesOf r ∧ t.seq.replies = s.seq.replies ∧
        (∃ y, t.session r.session = some y ∧ r.seq ∈ y.holding ∧ (y.replay.head?.map (·.seq)) = some r.seq) ∧
        t = { s with ports := t.ports, seq := t.seq, sessions := t.sessions }) ∧
    ((s.net p).set.honourPause = true →
      (∀ quanta, quanta ≠ 0 → completes (.pauseReceive p quanta) s fun t =>
        (t.port p).paused = true ∧ (t.port p).pauseQuanta = quanta ∧
        (t.port p).counters[Ctr.rxPauseFrames.idx] = sat 64 ((s.port p).counters[Ctr.rxPauseFrames.idx] + 1) ∧
        t = { s with ports := t.ports }) ∧
      ((s.port p).paused = true → completes (.pauseReceive p 0) s fun t =>
        (t.port p).paused = false ∧ t = { s with ports := t.ports, fresh := t.fresh })) ∧
    (∀ us, (s.port p).paused = true → completes (.receivedPauseExpiry p us) s fun t =>
      (t.port p).paused = false ∧
      (t.port p).counters[Ctr.txPausedUs.idx] = sat 64 ((s.port p).counters[Ctr.txPausedUs.idx] + us) ∧ t = { s with ports := t.ports }) ∧
    ((s.net p).set.flow = true → (s.port p).xoff = true → (s.port p).high (s.net p).set = true →
      completes (.pauseRepeat p) s fun t =>
        (∃ f, (t.port p).urgent = (s.port p).urgent ++ [f] ∧ f.cls = .pause ∧ f.dstMac = some 0x0180C2000001 ∧
          f.payload = be 2 1 ++ be 2 0xFFFF) ∧
        (t.port p).xoff = true ∧ t = { s with ports := t.ports })

/-- R142: a port answers an ARP request for its IPv4 address, a Neighbor Solicitation for an IPv6 address of its own, and an
echo request of up to 256 bytes, each with one frame of the control class; what is not addressed to it changes nothing. R25,
R29, R151, R152: gPTP and PPS. A valid Sync makes its port a source of time, corrected by the peer delay and PTP_LATENCY_RX;
three lost intervals turn to the other port, or end synchronisation, LOCKED going to HOLDOVER; HOLDOVER ends in FREERUN after 1
s and fences the drive's member unit; the wait of Start-up ends. Pdelay is asked and answered; PPS_IN is timestamped and
counted; PPS_OUT pulses while the timebase is disciplined. -/
def Obligations.AddressesAndTimeComplete : Prop :=
  (∀ (p : Fin 2) (s : State) (vid : Nat),
     (∀ target ip mac, s.resolves p = true →
       ((s.net p).ipv4 = some target → completes (.arpRequestReceive p vid target ip mac) s fun t =>
         (∃ f, (t.port p).urgent = (s.port p).urgent ++ [f] ∧ f.cls = .control ∧ f.vid = vid ∧ sub f.payload 8 6 = be 6 (s.net p).filter0 ∧
           sub f.payload 14 4 = be 4 target) ∧ t = { s with ports := t.ports }) ∧
       ((s.net p).ipv4 ≠ some target → exec (.arpRequestReceive p vid target ip mac) s = .next s)) ∧
     (∀ target source, s.resolves p = true →
       (target ∈ s.addresses p → isV4 target = false → completes (.neighborSolicitationReceive p vid target source) s fun t =>
         (∃ f, (t.port p).urgent = (s.port p).urgent ++ [f] ∧ f.cls = .control ∧ f.vid = vid ∧ f.dstIp = source ∧
           sub f.payload 2 16 = be 16 target) ∧ t = { s with ports := t.ports }) ∧
       (target ∉ s.addresses p → exec (.neighborSolicitationReceive p vid target source) s = .next s)) ∧
     (∀ (k : Packet) payload, s.inService = true → s.portUsable p = true → k.proto = .echo payload →
       (payload.length ≤ 256 → k.dstIp ∈ s.addresses p → completes (.echoRequestReceive p vid k) s fun t =>
         (∃ f, (t.port p).urgent = (s.port p).urgent ++ [f] ∧ f.cls = .control ∧ f.vid = vid ∧ f.dstIp = k.srcIp ∧
           f.payload.drop 2 = payload) ∧ t = { s with ports := t.ports }) ∧
       (256 < payload.length → exec (.echoRequestReceive p vid k) s = .next s))) ∧
  (∀ (p : Fin 2) (s : State),
     (∀ i time, s.ptpRuns p = true → -5 ≤ i → i ≤ 0 → completes (.gptpSyncReceive p i time) s fun t =>
       (t.port p).synced = true ∧ (t.port p).syncInterval = i ∧ (s.tb.source = none → t.tb.source = some p ∧ t.tb.gptp = time + (s.port p).peerDelay + (s.net p).set.ptpRx) ∧
       (s.tb.source = some p → t.tb.gptp = time + (s.port p).peerDelay + (s.net p).set.ptpRx) ∧ t = { s with ports := t.ports, tb := { s.tb with source := t.tb.source, gptp := t.tb.gptp } }) ∧
     (∀ o : Fin 2, o ≠ p → s.tb.source = some p →
       ((s.port o).synced = true → completes (.syncLoss p) s fun t =>
         t.tb = { s.tb with source := some o } ∧ (t.port p).synced = false ∧ t = { s with ports := t.ports, tb := t.tb }) ∧
       ((s.port o).synced = false → s.tb.state = .locked → completes (.syncLoss p) s fun t =>
         t.tb.state = .holdover ∧ t.tb.source = none ∧ t.tb.measure = s.tb.measure ∧ t.tb.ppsOut = s.tb.ppsOut ∧ t.units = s.units ∧
         t.store = s.store)) ∧
     (s.tb.state = .holdover → completes .holdoverExpiry s fun t =>
       t.tb.state = .freerun ∧ t.tb.ppsOut = false ∧ t.tb.measure = s.tb.measure ∧
       (∀ c, s.store.chorus = some c → (t.dataView (0x6000 + c.self)).num ≤ 1) ∧ t.store = s.store ∧ t.seq = s.seq) ∧
     (s.power.mode = .startup → s.power.inReset = false →
       exec .startupGptpWaitExpiry s = .next { s with tb := { s.tb with waitOver := true } }) ∧
     (∀ seq t2, s.ptpRuns p = true → completes (.pdelayReqReceive p seq t2) s fun t =>
       (∃ f, (t.port p).urgent = (s.port p).urgent ++ [f] ∧ f.cls = .ptp ∧ sub f.payload 1 2 = be 2 seq ∧ sub f.payload 3 8 = be 8 (t2 - (s.net p).set.ptpRx)) ∧
       t = { s with ports := t.ports }) ∧
     (∀ t1, s.ptpRuns p = true → (s.port p).link = true → completes (.pdelayReqSend p t1) s fun t =>
       (t.port p).pdelaySent = some ((s.port p).pdelaySeq, t1 + (s.net p).set.ptpTx) ∧ (t.port p).pdelaySeq = ((s.port p).pdelaySeq + 1) % 65536 ∧
       (∃ f, (t.port p).urgent = (s.port p).urgent ++ [f] ∧ f.cls = .ptp) ∧ t = { s with ports := t.ports }) ∧
     (∀ seq t1 t2 t3 t4, s.ptpRuns p = true → (s.port p).pdelaySent = some (seq, t1) →
       exec (.pdelayRespReceive p seq t2 t3 t4) s = .next (s.modPort p fun q =>
         { q with pdelaySent := none, peerDelay := ((t4 - (s.net p).set.ptpRx - t1) - (t3 - t2)) / 2 })) ∧
     (∀ time, s.power.inReset = false → s.power.mode = .service → completes (.ppsInEdge time) s fun t =>
       (s.modTb fun x => { x with ppsTime := time, ppsCount := bump x.ppsCount }).injects t fun c =>
         (s.chan c).cfg.enable = true ∧ (s.chan c).cfg.producers.getLsbD 36 = true) ∧
     ((s.tb.state = .locked ∨ s.tb.state = .aligning ∨ s.tb.state = .holdover) →
       exec .ppsOutSecond s = .next { s with tb := { s.tb with ppsOut := true } }) ∧
     exec .ppsOutPulseEnd s = .next { s with tb := { s.tb with ppsOut := false } })

/-- R147, R153, R71: what leaves a port. A frame that starts is of the first class of Table 6.6 that waits, it is counted, and
it leaves its queue; heartbeats are queued on every usable port, and a departure heartbeat that has not started is discarded; a
descriptor that still waits is cancelled and counted, and one that has started answers CANCEL_LATE (R67, R71). R134, R138, R155,
R156: links and PHYs. A lost link takes the port OFFLINE at once and is counted; a link at a rate the port allows comes up, and
one above MAX_RATE or at half duplex is refused and counted; a PHY interrupt cause is reported; a PHY reset is released, and a
PHY that does not answer MDIO then takes its port OFFLINE with a Coda entry. -/
def Obligations.TransmissionAndLinksComplete : Prop :=
  (∀ (p : Fin 2) (s : State),
     (∀ f q, s.transmits p = true → (s.net p).policy = .disabled →
       (s.port p).choose (s.portNow p) (s.net p).keyless (s.net p).fits = some (f, q) →
       completes (.frameTransmitStart p) s fun t =>
         (∀ g ∈ (s.port p).urgent, (g.cls = .pause → f.cls = .pause) ∧ (g.cls = .ptp → f.cls = .pause ∨ f.cls = .ptp) ∧
           (g.cls = .control → f.cls = .pause ∨ f.cls = .ptp ∨ f.cls = .control ∨ ∃ d, (s.port p).hb = some (f, d))) ∧
         (∀ h d, (s.port p).hb = some (h, d) → s.portNow p ≠ .fenced → f.cls = .pause ∨ f.cls = .ptp ∨ f = h) ∧
         (t.port p).inFlight = some { f with sa := none } ∧ (t.port p).queue = q.queue ∧ (t.port p).urgent = q.urgent ∧
         (t.port p).counters[Ctr.txFrames.idx] = sat 64 (q.counters[Ctr.txFrames.idx] + 1) ∧
         (t.port p).counters[Ctr.txBytes.idx] = sat 64 (q.counters[Ctr.txBytes.idx] + frameLen (f.vid != 0) false f.inner) ∧
         ((∀ g ∈ (s.port p).queue, (s.net p).fits g = true) → q.queue.length + q.urgent.length + (if q.hb.isSome then 1 else 0) + 1 =
           (s.port p).queue.length + (s.port p).urgent.length + (if (s.port p).hb.isSome then 1 else 0)) ∧
         t = { s with ports := t.ports }) ∧
     (s.inService = true → s.tb.measure % 64 = 0 → s.portUsable p = true → completes .heartbeatQueue s fun t =>
       (t.port p).hb = some (s.heartbeatFrame p 1, false) ∧ (s.heartbeatFrame p 1).srcUdp = 47810 ∧ (t.port p).hbSeq = (s.port p).hbSeq + 1 ∧
       (t.port p).counters[Ctr.txHbReplaced.idx] =
         (if (s.port p).hb.isSome then sat 64 ((s.port p).counters[Ctr.txHbReplaced.idx] + 1) else (s.port p).counters[Ctr.txHbReplaced.idx]) ∧
       t = { s with ports := t.ports }) ∧
     (completes (.departureHeartbeatExpiry p) s fun t =>
       (∀ f, (s.port p).hb = some (f, true) → (t.port p).hb = none) ∧ (∀ f, (s.port p).hb = some (f, false) → (t.port p).hb = some (f, false)) ∧
       t = { s with ports := t.ports }) ∧
     (∀ d f, f ∈ (s.port p).queue → f.desc = d → completes (.txDescriptorCancel p d) s fun t =>
       (t.port p).queue = (s.port p).queue.filter (fun g => g.desc != d) ∧ (t.port p).urgent = (s.port p).urgent ∧
       (t.port p).counters[Ctr.txCancelled.idx] = sat 64 ((s.port p).counters[Ctr.txCancelled.idx] + 1) ∧
       (t.port p).txCancel = some (d, .ok) ∧ t = { s with ports := t.ports }) ∧
     (∀ d, d < (s.port p).nextDesc → (∀ f ∈ (s.port p).queue, f.desc ≠ d) →
       exec (.txDescriptorCancel p d) s = .next (s.modPort p fun q => { q with txCancel := some (d, .cancelLate) }))) ∧
  (∀ (p : Fin 2) (s : State),
     ((s.port p).link = true → completes (.linkDown p) s fun t =>
       t.dataView (portId p) = .offline ∧ (t.port p).link = false ∧ (t.port p).linkChange = true ∧
       (t.port p).counters[Ctr.linkDownEvents.idx] = sat 64 ((s.port p).counters[Ctr.linkDownEvents.idx] + 1) ∧
       (∀ k, k ≠ portId p → t.dataView k = s.dataView k) ∧ t.store = s.store ∧ t.seq = s.seq ∧ t.tb = s.tb) ∧
     (∀ rate, s.power.inReset = false → s.power.mode ≠ .custody → (p = 1 → s.board.port1 = true) →
       (rate ≤ (s.net p).set.maxRate → (s.port p).link = false → completes (.linkUp p rate true) s fun t =>
         (t.port p).link = true ∧ (t.port p).rate = rate ∧ (t.port p).linkChange = true ∧ t.units = s.units ∧ t.store = s.store) ∧
       (∀ full, (full = false ∨ (s.net p).set.maxRate < rate) →
         exec (.linkUp p rate full) s = .next (s.count p .linkRefused))) ∧
     (∀ register value, s.inService = true → value ≠ 0 → completes (.phyIntPoll p register value) s fun t =>
       t.coda.queue = s.coda.queue ++ [{ code := 0x0502, source := 7 + p, secure := false
                                         payload := be 1 p ++ be 1 0 ++ be 2 register ++ be 2 value, trigger := none }] ∧
       (t.port p).phyInt = true ∧ t = { s with ports := t.ports, coda := { s.coda with queue := t.coda.queue } }) ∧
     (s.power.inReset = false → s.power.mode ≠ .custody →
       exec (.phyResetRelease ⟨p, true⟩) s = .next (s.modPort p fun q => { q with phyRun := true }) ∧
       (s.power.mode ≠ .startup → completes (.phyResetRelease ⟨p, false⟩) s fun t =>
         (t.port p).phyRun = true ∧ (t.port p).phySilent = true ∧ t.dataView (portId p) = .offline ∧
         (∃ e ∈ t.coda.queue, e.code = 0x0502 ∧ e.source = 7 + p) ∧ t.store = s.store ∧ t.seq = s.seq ∧ t.tb = s.tb)))

/-! ## Power and modes -/

/-- R84, R305, R306: the controller resets complete. Each reset ball, the watchdog when it runs, an internal fatal error, and a
command that has no response after 2 s lead to the reset of their code. R319, R320, R324, Table 12.10: the stop form of Quiesce
begins at PWR_FAIL_n, 20 µs into A + 4 of a planned DEVICE.RESET, and at T_F + 5 °C; when it completes, the stop record names X
and the level HOLDUP_OK had at entry, POSTED mailboxes are IDLE, and the reset that follows is made unless it waits for
PWR_FAIL_n; that reset is then made as PWR_FAIL_n returns. -/
def Obligations.ResetsAndStopsComplete : Prop :=
  (∀ s : State,
     completes .porstNAssert s (fun t => s.resetBy t .porst) ∧ completes .sysRstNAssert s (fun t => s.resetBy t .sysRst) ∧
     (s.power.mode ≠ .custody → s.power.inReset = false → s.power.wdogPaused = false →
       completes .watchdogExpiry s (fun t => s.resetBy t .watchdog)) ∧
     (∀ reason core, completes (.internalFatalError reason core) s (fun t => s.resetBy t .fatal)) ∧
     (∀ m, (s.mb m).state = .running → s.waitsForSlot m = false →
       completes (.commandTimeout m) s (fun t => s.resetBy t .fatal))) ∧
  (∀ s : State,
     (s.inService = true →
       (∀ us, completes (.pwrFailAssert us) s fun t => s.stopsAs t none ∧ t.power.pwrFail = true) ∧
       (∀ pl, s.power.plan = some pl → pl.custody = false → pl.adm + 4 ≤ s.tb.measure →
         completes .deviceResetQuiesceStart s fun t => s.stopsAs t (some .deviceReset)) ∧
       (∀ tj, s.limitTf + 5 ≤ tj → completes (.thermalShutdown tj) s fun t => s.stopsAs t (some .thermal))) ∧
     (∀ x h q, s.power.mode = .quiesceStop → s.power.stopping = some (x, h) →
       (s.power.stopCode = none → s.power.pwrFail = true →
         completes (.stopQuiesceComplete q) s fun t =>
           t.power = { s.power with
             stopRecord := some (x, h, sat 16 q), quiesce := sat 16 q, stopped := true, stopping := none } ∧
           t.mbx = s.mbx.map Mailbox.unpost ∧ t.store = s.store ∧ t.durable = s.durable ∧ t.tb = s.tb) ∧
       (∀ c, s.power.stopCode = some c →
         completes (.stopQuiesceComplete q) s fun t =>
           s.resetBy t c ∧ t.power.stopRecord = some (x, h, sat 16 q) ∧ (t.power.thermalHold = true ↔ c = .thermal))) ∧
     (s.power.mode = .quiesceStop → s.power.stopped = true → s.power.stopCode = none →
       completes .powerReturn s fun t => s.resetBy t .powerReturn ∧ t.power.pwrFail = false) ∧
     (s.power.mode ≠ .quiesceStop →
       exec .powerReturn s = .next (s.modPower fun p => { p with pwrFail := false, held := false, holdupOk := true })))

/-- R74: an access goes ahead only if every byte of its range is permitted for its type; then nothing changes. Where some byte
is not, the access is refused whole: a load, store or fetch ends in a reset for a fatal error, with nothing read or written
before it. -/
def Obligations.AccessesAreCheckedWhole : Prop :=
  ∀ (core : Fin 4) (access : Access) (start size : Nat) (s : State), s.cantorRuns = true → access ≠ .descriptor →
    ((∃ a, start ≤ a ∧ a < start + size ∧
        ∀ r ∈ s.cluster.regions[core], ¬ (r.base ≤ a ∧ a < r.limit ∧ r.grants access false = true)) →
      completes (.protectionFault core access start size) s fun t => s.resetBy t .fatal) ∧
    ((∀ a, start ≤ a → a < start + size →
        ∃ r ∈ s.cluster.regions[core], r.base ≤ a ∧ a < r.limit ∧ r.grants access false = true) →
      exec (.protectionFault core access start size) s = .next s)

/-- R313 to R316: Custody. Its entry completes once the lists of A + 1 and before are persisted, later lists are empty and the
ports have sent all or have stopped: sessions are closed, what was executed is durable, the SPI unlock is revoked. WAKE ends it:
Start-up with the CUSTODY_EXIT flag alone, and a count of measures that has only grown; during Custody entry WAKE is kept. -/
def Obligations.CustodyCompletes : Prop :=
  ∀ s : State,
    (s.custodyPlan.isSome = true →
      exec .custodyPortStopTimeout s = .next (s.modPower fun p => { p with portsStopped := true })) ∧
    (∀ adm, s.custodyPlan = some adm → s.custodyReady adm = true → s.power.wakeKept = none →
      completes .custodyEntryComplete s fun t =>
        t.power.mode = .custody ∧ t.power.present = false ∧ t.power.alive = true ∧ t.spi.unlocked = false ∧
        (∀ x ∈ t.sessions, x.opened = false) ∧ t.durable = t.store ∧ t.tb.opened = false ∧
        t.tb.persisted = max s.tb.persisted (s.tb.measure - 1) ∧ t.tb.extrapolated = s.tb.measure ∧
        t.tb.highest = s.tb.highest ∧ (t.port 0).phyRun = false ∧ (t.port 1).phyRun = false ∧ t.fuses = s.fuses) ∧
    (s.power.mode = .custody →
      completes .wakeRise s fun t =>
        t.power.mode = .startup ∧ t.power.inReset = false ∧ t.power.flags = 0x400 ∧ s.tb.extrapolated ≤ t.tb.extrapolated ∧
        t.tb.highest = s.tb.highest ∧ t.mbx = Vector.replicate 8 .reset ∧ t.seq = .reset ∧ t.store = s.store ∧
        t.power.cause = s.power.cause ∧ (t.port 0).phyRun = true ∧ (t.port 1).phyRun = true ∧ t.fuses = s.fuses) ∧
    (s.power.mode = .quiesceCustody → s.power.wakeKept = none →
      completes .wakeRise s fun t => t.power = { s.power with wakeKept := some (0, 0) } ∧ t.store = s.store ∧ t.tb = s.tb)

/-- R307 to R309, R311, R408: the release of the reset completes. With MODE_RECOV_n sampled low three times the drive enters
Recovery for reason 1; with no such request, a loader slot and an image that pass, and no update or failure to act on, it starts
the running image in Start-up; CASC_ID takes the value of at least two of its three samples. R28, R308: the first measure opens
once the image is loaded and the gPTP wait has ended: the drive is in Service with PRESENT_n asserted, BOOT_FAILS is 0, and the
measure's number is at least 8 above the last persisted one and above every number opened before; HOLDUP_OK low on entering
Service sets HOLDUP_LOW (R304). -/
def Obligations.StartUpCompletes : Prop :=
  (∀ (v c0 c1 : Fin 8) (s : State), s.power.inReset = true → s.power.held = false → s.power.thermalHold = false →
     s.power.pwrFail = false →
     (v = 0 → completes (.controllerResetRelease v c0 c1) s fun t =>
       t.power.mode = .recovery ∧ t.power.inReset = false ∧ t.power.recoveryReason = 1 ∧ t.fuses = s.fuses ∧
       t.lks.chipId = strapBit c0 + 2 * strapBit c1) ∧
     (v ≠ 0 → s.power.recoveryRequest = false → s.slotPasses s.nor.activeSlot = true → s.nor.bootState ≠ .reverting →
       s.nor.ready = false → s.nor.installing = false → s.power.failed = false → s.imageBad = false →
       completes (.controllerResetRelease v c0 c1) s fun t =>
         t.power.mode = .startup ∧ t.power.inReset = false ∧ t.power.loaded = true ∧ t.power.starts = bump s.power.starts ∧
         t.power.mr = s.tb.persisted ∧ t.lks.chipId = strapBit c0 + 2 * strapBit c1 ∧ t.nor.running = s.nor.running ∧
         s.fuses.rollback ≤ t.fuses.rollback)) ∧
  (∀ (time : Nat) (found : Found) (s : State), s.power.mode = .startup → s.power.inReset = false → s.power.held = false → s.power.loaded = true →
     s.nor.installing = false → (s.tb.waitOver = true ∨ s.tb.source.isSome = true) →
     completes (.firstMeasureOpen ⟨time, found⟩) s fun t =>
       t.power.mode = .service ∧ t.power.present = true ∧ t.power.bootFails = 0 ∧ t.tb.opened = true ∧
       s.tb.persisted + 8 ≤ t.tb.measure ∧ s.tb.highest < t.tb.measure ∧ t.tb.highest = t.tb.measure ∧
       (s.power.holdupOk = false → t.power.holdupLow = true) ∧
       (s.tb.source = none → s.power.flags.getLsbD 10 = false →
         t.tb.measure = max (s.tb.persisted + 8) (s.tb.highest + 1) ∧ t.tb.state = .freerun))

/-- R304, R306, R322, R324, R419: what the power balls and the watchdog's warning do. HOLDUP_OK falling pulses producer 2 and,
in Service, sets HOLDUP_LOW with its entry; THERM_ALERT_n pulses producer 3; XTAL32_OK is set; the held reset of code 6 may end
below T_F − 15 °C; WDOG_WARN names the core last serving and pulses producer 46. -/
def Obligations.PowerBallsComplete : Prop :=
  ∀ s : State,
    (∃ u, (s.modPower fun p => { p with holdupOk := false }).injects u (fun c => s.takes 2 c = true) ∧
      (s.inService = true → exec .holdupOkFall s = .next ((u.modPower fun p => { p with holdupLow := true }).report 0x0103 1 [])) ∧
      (s.inService = false → exec .holdupOkFall s = .next u)) ∧
    completes .thermAlertAssert s (fun t =>
      (s.modPower fun p => { p with thermAlert := true }).injects t fun c => s.takes 3 c = true) ∧
    exec .xtal32Stable s = .next (s.modPower fun p => { p with xtal32 := true }) ∧
    (∀ tj, tj < s.limitTf - 15 →
      exec (.thermalShutdownRelease tj) s = .next (s.modPower fun p => { p with thermalHold := false })) ∧
    (∀ core, s.power.mode ≠ .custody → s.power.inReset = false → s.power.wdogPaused = false →
      completes (.wdogWarn core) s fun t =>
        ((s.modPower fun p => { p with lastServe := core }).report 0x0108 1 (be 1 core)).injects t fun c => s.takes 46 c = true)

/-- R72, R73: ownership of a line. Of the requests that arrive together one is granted, the first in the rotating order, and the
others have waited behind one grant; at the retry one that has waited behind most grants is granted, the first of those in the
rotating order. Other lines are untouched. Where no core waits twice and at most 4 − j requests have waited behind j grants or
more, for every j, this stays so, and no request has waited behind more than three. -/
def Obligations.OwnershipCompletes : Prop :=
  ∀ (line : Nat) (s : State), s.cantorRuns = true →
    (∀ cores wb, cores ≠ [] → (s.dirLine line).waiting = [] →
      completes (.ownershipRequest line cores wb) s fun t =>
        ∃ c ∈ cores, (t.dirLine line).owner = some c ∧ (t.dirLine line).waiting = (cores.filter (· != c)).map (·, 1) ∧
          (∀ b ∈ cores, turnOf s.tb.measure c ≤ turnOf s.tb.measure b) ∧ (∀ l, l ≠ line → t.dirLine l = s.dirLine l) ∧
          t = { s with cluster := { s.cluster with dir := t.cluster.dir } }) ∧
    ((s.dirLine line).waiting ≠ [] →
      completes (.ownershipRetry line) s fun t =>
        ∃ c k, (c, k) ∈ (s.dirLine line).waiting ∧ (t.dirLine line).owner = some c ∧
          (t.dirLine line).waiting = ((s.dirLine line).waiting.filter fun p => p.1 != c).map (fun p => (p.1, p.2 + 1)) ∧
          (∀ b j, (b, j) ∈ (s.dirLine line).waiting → j ≤ k ∧ (j = k → turnOf s.tb.measure c ≤ turnOf s.tb.measure b)) ∧
          (∀ l, l ≠ line → t.dirLine l = s.dirLine l) ∧ t = { s with cluster := { s.cluster with dir := t.cluster.dir } }) ∧
    ((s.dirLine line).fair → ∀ cores wb, cores.Nodup →
      completes (.ownershipRequest line cores wb) s (fun t =>
        (t.dirLine line).fair ∧ ∀ p ∈ (t.dirLine line).waiting, p.2 ≤ 3) ∧
      completes (.ownershipRetry line) s (fun t => (t.dirLine line).fair ∧ ∀ p ∈ (t.dirLine line).waiting, p.2 ≤ 3))

/-! ## Mailboxes and SPI -/

/-- R82, R70, Table 4.6: the writes to a mailbox's registers complete on a mailbox that SPI may use. The doorbell posts a
LOADING mailbox, and is answered BUSY with no effect on any other; CANCEL returns a POSTED one to IDLE with CANCELLED and its
SEQ, and on a RUNNING one is kept for its completion; RELEASE returns a LOADING or DONE one to IDLE; words written into the
request window go into the selected mailbox's buffer and claim an IDLE one. On a mailbox claimed over Ethernet every one of them
is answered BUSY with no effect. No other mailbox changes. R32, R158, R300: a read of a low word answers it after the turnaround
and the status byte, and copies its high word into the register beside it: TMB_MEASURE_HI, MAC0_PPS_HI, MACn_HOLD, EVF_CH_TS_HI.
-/
def Obligations.MailboxRegistersComplete : Prop :=
  (∀ (m : Fin 8) (s : State), s.inService = true →
     ∀ turned, (turned = fun (t : State) (f : Mailbox → Mailbox) =>
       t.mb m = f (s.mb m) ∧ (∀ k, k ≠ m → t.mb k = s.mb k) ∧ t.spi.portStat = spiDone + (if t.mirq then spiIrq else 0) ∧
       t = { s with mbx := t.mbx, spi := { s.spi with portStat := t.spi.portStat, miso := t.spi.miso } }) →
     ∀ busy, (busy = fun (t : State) =>
       t.spi.portStat = spiBusy + (if s.mirq then spiIrq else 0) ∧
       t = { s with spi := { s.spi with portStat := t.spi.portStat, miso := t.spi.miso } }) →
     ((s.mb m).taken = false →
       ((s.mb m).state = .loading → completes (.mbxDoorbell m) s fun t => turned t fun b => { b with state := .posted }) ∧
       ((s.mb m).state ≠ .loading → completes (.mbxDoorbell m) s busy) ∧
       ((s.mb m).state = .posted → completes (.mbxCtrlCancel m) s fun t => turned t fun b =>
         { b with state := .idle, eth := false, cancelled := true, seqReg := fld b.request 4 4 }) ∧
       ((s.mb m).state = .running → completes (.mbxCtrlCancel m) s fun t => turned t fun b => { b with cancelPending := true }) ∧
       ((s.mb m).state = .loading ∨ (s.mb m).state = .done →
         completes (.mbxRelease m) s fun t => turned t fun b => { b with state := .idle }) ∧
       (∀ off d, s.spi.winsel = m → (s.mb m).request.length = 512 → (s.mb m).state = .idle ∨ (s.mb m).state = .loading →
         off % 4 = 0 → d.length % 4 = 0 → 4 ≤ d.length → off + d.length ≤ 512 →
         completes (.mbxRequestWindowWrite off d) s fun t => turned t fun b =>
           { b with state := .loading, request := b.request.take off ++ d ++ b.request.drop (off + d.length) })) ∧
     ((s.mb m).taken = true →
       completes (.mbxDoorbell m) s busy ∧ completes (.mbxCtrlCancel m) s busy ∧ completes (.mbxRelease m) s busy ∧
       (∀ off d, s.spi.winsel = m → off % 4 = 0 → d.length % 4 = 0 → 4 ≤ d.length → off + d.length ≤ 512 →
         completes (.mbxRequestWindowWrite off d) s busy))) ∧
  (∀ s : State, s.inService = true → ∀ spi, (spi = fun (v : Nat) =>
       { s.spi with
         portStat := spiDone + (if s.mirq then spiIrq else 0)
         miso := 0xFF#8 :: be 1 (spiDone + (if s.mirq then spiIrq else 0)) ++ le 4 (v % 2 ^ 32) }) →
     exec .tmbMeasureLoRead s = .next { s with spi := spi s.tb.measure, tb := { s.tb with measureHi := s.tb.measure / 2 ^ 32 } } ∧
     exec .mac0PpsLoRead s = .next { s with spi := spi s.tb.ppsTime, tb := { s.tb with ppsHi := s.tb.ppsTime / 2 ^ 32 } } ∧
     (∀ p c, exec (.macCounterLowRead p c) s = .next ({ s with spi := spi (s.port p).counters[c] }.modPort p fun q =>
       { q with hold := q.counters[c] / 2 ^ 32 })) ∧
     (s.lockedOut .evf = false → exec .evfChTsLoRead s = .next { s with
       spi := spi (s.chan s.fabric.chsel).ts
       fabric := { s.fabric with tsHi := (s.chan s.fabric.chsel).ts / 2 ^ 32 } }))

/-- R79 to R81: SPI frames complete. A write frame whose words all pass their checks and are all there is applied whole; one
that fails a check in any word, or is cut short, changes nothing but the port's own record of it, and its status byte has DONE
clear. A read frame whose words all pass answers turnaround, status and the words in ascending order; any other answers zeros.
R83, R86, R87, Table 4.6: a fetch takes the lowest POSTED mailbox and runs its command: a sealed command that passes its checks
enters the open measure with the mailbox's next admission count, or waits for a slot; one that fails a check, or that no opcode
names, is answered with that check's status and no effect. 1,000 ms in LOADING release a mailbox with ABANDONED. -/
def Obligations.SpiFramesAndFetchComplete : Prop :=
  (∀ (m data : Bytes) (start n : Nat) (s : State), s.spiAlive = true → start = fld m 1 3 → n = fld m 4 2 → data = sub m 6 (4 * n) →
     (headerOk 0x02 m = true → data.length = 4 * n →
       (∀ p ∈ s.checkBurst (some data) n start, p.2 = ⟨false, false, false, false⟩) →
       completes (.spiWriteFrame m) s fun t =>
         t = { s.writeWords n start data with
           spi := { (s.writeWords n start data).spi with portStat := t.spi.portStat, miso := t.spi.miso } } ∧
         t.spi.portStat = spiDone + (if t.mirq then spiIrq else 0) ∧
         t.spi.miso = (zeros (4 * n) ++ be 1 t.spi.portStat).take (m.length - 6)) ∧
     (headerOk 0x02 m = true →
       (data.length < 4 * n ∨ ∃ p ∈ s.checkBurst (some data) n start, p.2 ≠ ⟨false, false, false, false⟩) →
       completes (.spiWriteFrame m) s fun t => t = { s with spi := t.spi } ∧ bit t.spi.portStat 0 = false ∧
         t.spi.winsel = s.spi.winsel ∧ t.spi.unlocked = s.spi.unlocked) ∧
     (headerOk 0x0B m = true → (∀ p ∈ s.checkBurst none n start, p.2 = ⟨false, false, false, false⟩) →
       completes (.spiReadFrame m) s fun t =>
         t.spi.portStat = spiDone + (if s.mirq then spiIrq else 0) ∧
         t.spi.miso = (0xFF#8 :: be 1 t.spi.portStat ++ (s.readWords n start).2).take (m.length - 6) ∧
         t.store = s.store ∧ t.mbx = s.mbx ∧ t.seq = s.seq ∧ t.power = s.power ∧ t.coda = s.coda) ∧
     (headerOk 0x0B m = true → (∃ p ∈ s.checkBurst none n start, p.2 ≠ ⟨false, false, false, false⟩) →
       completes (.spiReadFrame m) s fun t => t = { s with spi := t.spi } ∧ bit t.spi.portStat 0 = false ∧
         t.spi.miso = (0xFF#8 :: be 1 t.spi.portStat ++ zeros (4 * n)).take (m.length - 6))) ∧
  (∀ (m : Fin 8) (s : State),
     ((s.mb m).state = .loading → exec (.mailboxLoadingTimeout m) s = .next (s.modMbx m fun b =>
       { b with state := .idle, eth := false, abandoned := true })) ∧
     (s.fetches = true → s.nextPosted = some m → (s.mb m).repeats (fld (s.mb m).request 4 4) = false →
       (s.mb m).misfit m = false → ∀ c, c = (s.mb m).command m →
       (∀ d, commandOf (fld (s.mb m).request 0 2) = some d → d.check c s = none → d.kind ≠ .immediate →
         (s.slotFree = true → completes .mailboxFetch s fun t =>
           t.mb m = (s.mb m).grant c.sequence ∧ (∀ k, k ≠ m → t.mb k = s.mb k) ∧
           t.seq = { s.seq with
             slots := s.seq.slots + 1, admitted := s.seq.admitted ++ [.cmd (s.asSealed c d.opcode)] } ∧
           t.store = { s.store with admCount := s.store.admCount.set c.mailbox (s.store.admCount[c.mailbox] + 1) } ∧
           t = { s with mbx := t.mbx, seq := t.seq, store := t.store }) ∧
         (s.slotFree = false → completes .mailboxFetch s fun t =>
           t.mb m = (s.mb m).grant c.sequence ∧ (∀ k, k ≠ m → t.mb k = s.mb k) ∧
           (∃ w, t.seq = { s.seq with waiting := s.seq.waiting ++ [.cmd w] } ∧ w.cmd = c ∧ w.opcode = d.opcode) ∧
           t = { s with mbx := t.mbx, seq := t.seq })) ∧
       (∀ st, (s.mb m).eth = false →
         ((∃ d, commandOf (fld (s.mb m).request 0 2) = some d ∧ d.check c s = some st) ∨
           (commandOf (fld (s.mb m).request 0 2) = none ∧ st = .range)) →
         completes .mailboxFetch s fun t =>
           (t.mb m).state = .done ∧ (t.mb m).code = st.num ∧ (t.mb m).seqReg = c.sequence ∧
           (t.mb m).prevSeq = some c.sequence ∧ (t.mb m).stored = true ∧ (∀ k, k ≠ m → t.mb k = s.mb k) ∧
           t = { s with mbx := t.mbx })))

/-- R82, R90 to R92: a management message that the drive accepts claims an IDLE mailbox and posts its command there; a second
message of the same command is discarded while it waits or runs; a mailbox owned by SEC answers DENIED to one that MACsec has
not verified; CANCEL takes a command back while it is POSTED, and is answered CANCEL_LATE while it runs or when it is the one
that the mailbox completed last, and NOT_FOUND when it is neither. -/
def Obligations.ManagementMessagesComplete : Prop :=
  ∀ (src : Source) (p e : Bytes) (s : State), s.inService = true → s.effective (portId src.port) ≠ .offline →
    (s.mgmtAccepts src (withCancel p false) = true → e = (withCancel p false).drop 40 → bit (u8 e 3) 1 = false →
      (s.ownerOf (mailboxOf e) = .sec → src.verified = false →
        exec (.mgmtMessage src p) s = .next (s.mgmtAnswer src e .denied)) ∧
      ((s.ownerOf (mailboxOf e) = .sec → src.verified = true) →
        ((s.mb (mailboxOf e)).state = .idle →
          exec (.mgmtMessage src p) s = .next (s.modMbx (mailboxOf e) fun b =>
            { b with state := .posted, eth := true, peer := some src, request := padTo 512 e })) ∧
        ((s.mb (mailboxOf e)).state ≠ .idle → (s.mb (mailboxOf e)).eth = true →
          fld (s.mb (mailboxOf e)).request 4 4 = fld e 4 4 → exec (.mgmtMessage src p) s = .next s))) ∧
    (s.mgmtAccepts src (withCancel p true) = true → e = (withCancel p true).drop 40 → bit (u8 e 3) 1 = true →
      (s.ownerOf (mailboxOf e) = .sec → src.verified = true) → (s.mb (mailboxOf e)).eth = true →
      (fld (s.mb (mailboxOf e)).request 4 4 = fld e 4 4 →
        ((s.mb (mailboxOf e)).state = .posted →
          exec (.mgmtMessageCancel src p) s = .next ((s.modMbx (mailboxOf e) fun b =>
            { b with state := .idle, eth := false, peer := none, seqReg := fld e 4 4 }).mgmtAnswer src e .ok)) ∧
        ((s.mb (mailboxOf e)).state = .running →
          exec (.mgmtMessageCancel src p) s = .next (s.mgmtAnswer src e .cancelLate))) ∧
      (fld (s.mb (mailboxOf e)).request 4 4 ≠ fld e 4 4 →
        ((s.mb (mailboxOf e)).lastDone = some (fld e 4 4) →
          exec (.mgmtMessageCancel src p) s = .next (s.mgmtAnswer src e .cancelLate)) ∧
        ((s.mb (mailboxOf e)).lastDone ≠ some (fld e 4 4) →
          exec (.mgmtMessageCancel src p) s = .next (s.mgmtAnswer src e .notFound))))

/-! ## The measure -/

/-- R22, R26, R38, R51, R60: a tick closes the open measure and opens the next. Measure numbers only rise, by one while no gPTP
source gives another number. The measure that closed has its digest at the head of the log, and, without a Chorus and without a
CANCEL in it, its list holds every admitted item in sealed order. -/
def Obligations.MeasureTickCompletes : Prop :=
  ∀ (time : Nat) (sample : TickSample) (s : State), s.ticks = true →
    completes (.measureTick time sample) s fun t =>
      s.tb.measure < t.tb.measure ∧ t.tb.measure = (s.opening time).number ∧ t.tb.highest = max s.tb.highest t.tb.measure ∧
      (s.tb.source = none → t.tb.measure = s.tb.measure + 1) ∧ t.tb.persisted = s.tb.persisted ∧ t.tb.opened = true ∧
      (∃ d, t.tb.sealLog = ((s.tb.measure, d) :: s.tb.sealLog).take 4096) ∧
      (s.store.chorus = none → (∀ r, Item.skp r ∈ s.seq.admitted → r.op ≠ 0x0A) →
        t.seq.sealed = s.seq.sealed ++
          [{ measure := s.tb.measure, items := sortItems s.seq.admitted, chorus := 0
             digest := digestItems s.seq.admitted, refused := [] }])

/-- R42, R45, R190: the oldest sealed list executes once a staging bank is free (R192) and no Larkspur table that it searches is
being rebuilt (R239), and waits otherwise. Its bank holds the store that it leaves; without a Chorus, without commands whose E
has come and without a TRANSFER that waits, that store is what its items make of the store in sealed order, each starting from
what the one before it left, but for namespace 0's use. A list that has not executed L − 8 µs into a measure is counted and
reported. R43, R190: the oldest bank that programs becomes durable once its pages are programmed: its store is the one a restart
finds, its measure is persisted, and no reply that waited for these alone is left. -/
def Obligations.SealedListsComplete : Prop :=
  (∀ (l : SealedList) (rest : List SealedList) (s : State), s.ticks = true → s.seq.sealed = l :: rest →
     (s.bankFree = true → s.rebuildHolds l = false →
       completes .sealedListExecute s fun t =>
         t.seq.sealed = rest ∧ t.seq.executed = l.measure ∧ t.seq.overrunBy = 0 ∧ t.tb.measure = s.tb.measure ∧
         t.tb.persisted = s.tb.persisted ∧ t.durable = s.durable ∧
         (∃ j, t.snaps = s.snaps ++ [{ measure := l.measure, store := t.store, programming := false, journal := j, moves := [] }]) ∧
         (l.chorus = 0 → s.chorus.asks = [] → (∀ p ∈ s.store.effective, l.measure < p.1) →
           ∀ u, u = l.items.foldl (State.runItem l.measure false)
             ((s.placeDue.expire l.measure).modSeq fun q =>
               { q with sealed := rest, overrunBy := 0, late := s.tb.measure - (l.measure + 1) }) →
           t.store = { u.store with sysUse := t.store.sysUse, sysKeys := t.store.sysKeys } ∧ t.sessions = u.sessions)) ∧
     (s.bankFree = false ∨ s.rebuildHolds l = true → exec .sealedListExecute s = .next s) ∧
     completes .executionWindowOverrun s fun t =>
       (((s.modTb fun b => { b with overrun := true, everOverrun := true }).modSeq fun q =>
         { q with overrunBy := s.seq.overrunBy + 1 }).report 0x0203 2 (be 2 (sat 16 (s.seq.overrunBy + 1)))).injects t
         fun c => s.takes 37 c = true) ∧
  (∀ (p : Snap) (rest : List Snap) (s : State), s.snaps = p :: rest → s.flashRuns = true → p.programming = true →
     s.bankProgrammed p.measure = true → s.nor.bootState ≠ .trial →
     completes .stagingBankDurable s fun t =>
       t.durable = p.store ∧ t.snaps.map (fun q => (q.measure, q.store)) = rest.map (fun q => (q.measure, q.store)) ∧
       t.tb.persisted = max s.tb.persisted p.measure ∧ t.tb.measure = s.tb.measure ∧ t.store = s.store ∧ t.nor = s.nor ∧
       (∀ q ∈ t.seq.replies, q.set = none → q.bytes = 0 → q.sliced = false → q.reads = [] → q.awaitsFuses = false →
         s.power.mode ≠ .quiesceStop → t.tb.measure < q.due ∨ t.tb.persisted < q.durable))

/-- R112, R119, R130, R107: the deadlines of a session complete. A gap that has stood for more than 64 measures answers each
request behind it BUSY with GAP, consuming no sequence; a batch that is open once the list of B + 64 has executed is discarded
and its members read LATE with ABORTED; a segmented value goes once the list of 4,194,304 measures after its first segment's has
executed; 65,536 measures of silence close a session. R124 to R126: a WATCH ends with its END NOTIFY, of the next ordinal: with
reason 1 once the changes of W + DURATION have been observed, with reason 2 at its limit. The NOTIFY waits for its window; when
the session is closed at that time, only the credit returns. -/
def Obligations.DeadlinesComplete : Prop :=
  (∀ (id : Nat) (s : State),
     (∀ x, s.session id = some x → s.gapOver x = true →
       completes (.gapTimeout id) s (fun t =>
         t.seq = { s.seq with reorder := s.seq.reorder.filter fun p => !(s.behindGap x).contains p } ∧
         (∃ y, t.session id = some y ∧ y.next = x.next ∧ y.replay = x.replay) ∧ t.store = s.store ∧ t.tb = s.tb) ∧
       (∀ r a, s.behindGap x = [(r, a)] →
         exec (.gapTimeout id) s = .next (((s.modSeq fun q => { q with reorder := q.reorder.filter (· != (r, a)) }).modSession id
           (Session.returnCredit r.seq)).answerNow r .busy (2 ^ 12) 0 []))) ∧
     (∀ b, s.store.batch id = some b → b.adm + 64 < s.tb.measure → s.ranTo (b.adm + 64) = true →
       completes (.batchDeadline id) s fun t =>
         t.store = { s.store with batches := s.store.batches.filter fun y => y.session != b.session } ∧
         (∀ m ∈ b.members, ∀ x, t.session m.1.session = some x → ∀ p ∈ x.replay, p.seq = m.1.seq →
           p.status = some .late ∧ p.aborted = true ∧ p.body = []) ∧ t.tb = s.tb) ∧
     (∀ g, s.store.seg id = some g → g.adm + 4194304 < s.tb.measure → s.ranTo (g.adm + 4194304) = true →
       exec (.segmentedValueDeadline id) s = .next (s.modStore fun t => t.dropSeg id)) ∧
     (∀ x, s.session id = some x → x.opened = true → x.lastSeen + 65536 < s.tb.measure →
       completes (.sessionIdleClose id) s fun t =>
         (∃ y, t.session id = some y ∧ y.opened = false ∧ y.next = x.next ∧ y.replay = x.replay) ∧
         (∀ k, k ≠ id → t.session k = s.session k) ∧ t.store = s.store ∧ t.tb = s.tb)) ∧
  (∀ (id seq : Nat) (w : Watch) (s : State), s.seq.watches.find? (fun v => v.is id seq) = some w →
     s.seq.late = 0 → s.seq.behind = 0 →
     ∀ u, u = (s.modSeq fun q => { q with watches := q.watches.filter fun v => !v.is w.session w.seq }) →
     ∀ ends, (ends = fun (i : Instr) (reason last : Nat) =>
       (s.tb.measure < last + 3 →
         exec i s = .next (u.modSeq fun q =>
           { q with replies := q.replies ++ [w.notify (w.count + 1) 3 reason 0 0 [] true (last + 3, last)] })) ∧
       (s.isOpen w.session = false → last + 3 ≤ s.tb.measure → last ≤ s.tb.persisted →
         exec i s = .next (u.modSession w.session (Session.returnCredit w.seq)))) →
     (w.from_ + w.duration < s.tb.measure → (∀ l ∈ s.seq.sealed, w.from_ + w.duration < l.measure) →
       ends (.watchDurationEnd id seq) 1 (w.from_ + w.duration)) ∧
     (w.limit ≠ 0 → w.limit ≤ w.count → ends (.watchLimitReached id seq) 2 s.seq.executed))

/-! ## Flash, LPDDR5, Larkspur -/

/-- R52, R202, R203: who takes a slot of a LUN. On an idle LUN foreground work goes first, and background takes the slot that is
left, or the first one once it was refused for seven measures; a foreground read suspends a background erase or program that may
be suspended, and not a second one: the suspend goes first, the read follows. No other LUN changes, and an idle channel bus then
takes its next transfer: foreground before background, but for the first one after seven refused measures (R204). R189: what
ends with a read's transfer over its bus: replies wait for the codeword no longer, and are answered UNIT_OFFLINE where it is
unreadable. R185, R190, R205, R206, R209, Table 8.8: how NAND operations end. A passed program counts its bytes and its
codewords are on the medium, a failed program or erase is counted and retires its block, what a read has found waits for the
bus, a failed status read is counted on its channel. An operation that times out is reissued once, after the LUN reset; its LUN
falls to FENCED, to OFFLINE within 4,096 measures of another. An erase that has passed leaves its blocks FREE, one cycle older,
with a journal entry. -/
def Obligations.LunsComplete : Prop :=
  (∀ (id : Nat) (slot : Fin 16) (l : Lun) (s : State), s.lun id = some l →
     (id / 0x1000 ≠ 2 → 7 ≤ l.denied →
       completes (.backgroundDenialExpiry id) s fun t => s.turnsLun t id { l with bgFirst := true, denied := 0 }) ∧
     (s.bgMay = true → s.power.step < 2 → s.sound id = true → s.flash.buses[busOf id].moving = none →
       ∀ becomes, (becomes = fun (m : Lun) => completes (.lunSlotBoundary id slot) s fun t =>
         ∃ u, s.turnsLun u id m ∧ t = u.busNext (busOf id)) →
       (∀ o rest, l.op = none → l.bgFirst = false → l.fg = o :: rest →
         becomes { l with op := some o, fg := rest, bgRefused := l.bgRefused || l.bgWork }) ∧
       (∀ o, l.op = none → l.held = some o → (l.fg = [] ∨ l.bgFirst = true) →
         becomes { l with op := some { o with ran := 0 }, held := none, bgRan := true, bgFirst := false }) ∧
       (∀ o rest, l.op = none → l.held = none → l.bg = o :: rest → (l.fg = [] ∨ l.bgFirst = true) →
         becomes { l with op := some o, bg := rest, bgRan := true, bgFirst := false }) ∧
       (∀ o h rest, l.op = some o → l.held = none → l.fg = h :: rest → h.kind = .readFg →
         NandOp.suspendable { o with ran := o.ran + 1 } (s.lengthNs / 16) = true →
         becomes { l with
           op := some (.make .suspend o.group o.num 0), next := some h, fg := rest
           held := some { o with ran := o.ran + 1, suspends := o.suspends + 1 }, bgRefused := true }) ∧
       (∀ o, l.op = some o →
         (∀ h rest, l.fg = h :: rest → h.kind ≠ .readFg ∨
           NandOp.suspendable { o with ran := o.ran + 1 } (s.lengthNs / 16) = false ∨ l.held.isSome = true) →
         becomes { l with op := some { o with ran := o.ran + 1 } }))) ∧
  (∀ (ch : Fin 8) (s : State),
     (7 ≤ s.flash.buses[ch].denied → exec (.backgroundDenialExpiry (0x2000 + ch)) s =
       .next (s.modBus ch fun b => { b with bgFirst := true, denied := 0 })) ∧
     (s.flash.buses[ch].moving = none →
       (∀ f fs g gs, s.busWaits ch false = f :: fs → s.busWaits ch true = g :: gs →
         (s.busNext ch).flash.buses[ch].moving = some (if s.flash.buses[ch].bgFirst then g else f)) ∧
       (∀ f fs, s.busWaits ch false = f :: fs → s.busWaits ch true = [] → (s.busNext ch).flash.buses[ch].moving = some f) ∧
       (∀ g gs, s.busWaits ch false = [] → s.busWaits ch true = g :: gs → (s.busNext ch).flash.buses[ch].moving = some g))) ∧
  (∀ (id k : Nat) (slot : Fin 16) (l : Lun) (o : NandOp) (key : Nat × Nat) (b : Superblock) (w : Codeword) (s : State) hard soft others,
     s.flashRuns = true → s.sound id = true → s.flash.moves = [] → s.flash.buses[busOf id].moving = some k → s.lun k = some l →
     l.op = some o → o.phase = .dataOut (.read hard soft others) → o.word = some key → s.sb o.group o.num = some b →
     b.words.find? (·.is key) = some w →
     (o.rebuild = false → decodes hard.head? = true → completes (.lunSlotBoundary id slot) s fun t =>
       t.seq = { s.seq with replies := s.seq.replies.map fun r => { r with reads := r.reads.filter (· != key) } } ∧
       t.sb o.group o.num = some (b.modBlocks w.lun fun j => { j with reads := bump j.reads }) ∧ t.store = s.store ∧ t.tb = s.tb) ∧
     (o.rebuild = true → wordSound (xorAll others) = false → completes (.lunSlotBoundary id slot) s fun t =>
       t.seq = { s.seq with replies := s.seq.replies.map fun r => if r.reads.contains key then r.lost else r } ∧
       t.flash.unreadable = sat 64 (s.flash.unreadable + 1) ∧ t.store = s.store ∧ t.tb = s.tb)) ∧
  (∀ (id : Nat) (l : Lun) (o : NandOp) (s : State), s.flashRuns = true → s.lun id = some l → l.op = some o →
     (o.phase = .array →
       ((o.kind = .suspend ∨ o.kind = .lunReset) → completes (.nandOpComplete id .pass) s fun t =>
         (∃ m, t.lun id = some m ∧ m.op = l.next ∧ m.next = none ∧ m.held = l.held) ∧ t.store = s.store ∧ t.tb = s.tb) ∧
       (∀ hard soft others, o.kind = .readFg ∨ o.kind = .readBg →
         completes (.nandOpComplete id (.read hard soft others)) s fun t =>
           (∃ m, t.lun id = some m ∧ m.op = some { o with phase := .dataOut (.read hard soft others) } ∧ m.held = l.held) ∧
           t.store = s.store ∧ t.tb = s.tb) ∧
       completes (.nandOpComplete id .statusError) s (fun t =>
         (∃ m, t.lun id = some m ∧ m.op = some o) ∧
         (∀ u, s.unit (channelOf id) = some u → ∃ v, t.unit (channelOf id) = some v ∧
           v.events = s.tb.measure :: recent s.tb.measure u.events) ∧ t.store = s.store ∧ t.tb = s.tb) ∧
       (∀ b, s.sb o.group o.num = some b →
         (o.kind = .eraseBg → completes (.nandOpComplete id .pass) s fun t =>
           (∃ m, t.lun id = some m ∧ m.op = none) ∧
           t.sb o.group o.num = some (b.modBlocks id fun k => if k.state = .erasePending then { k with erased := true } else k) ∧
           t.store = s.store ∧ t.tb = s.tb) ∧
         (o.kind = .programFg ∨ o.kind = .programBg → completes (.nandOpComplete id .pass) s fun t =>
           (∃ m, t.lun id = some m ∧ m.op = none) ∧ t.flash.nandBytes = sat 64 (s.flash.nandBytes + 16384 * s.board.planes) ∧
           (∃ c, t.sb o.group o.num = some c ∧ ∀ w ∈ c.words, w.stripe = o.stripe → w.lun = id → w.programmed = true) ∧
           t.store = s.store ∧ t.tb = s.tb) ∧
         (∀ p, (b.blocks.any fun k => k.lun == id && k.id % s.board.planes == p) = true →
           (o.kind = .eraseBg → completes (.nandOpComplete id (.fail p)) s fun t =>
             t.flash.eraseFails = bump s.flash.eraseFails ∧ t.flash.blocksRetired = bump s.flash.blocksRetired ∧
             (∃ m, t.lun id = some m ∧ m.op = none) ∧ t.store = s.store ∧ t.tb = s.tb) ∧
           (o.kind = .programFg ∨ o.kind = .programBg → completes (.nandOpComplete id (.fail p)) s fun t =>
             t.flash.programFails = bump s.flash.programFails ∧ t.flash.blocksRetired = bump s.flash.blocksRetired ∧
             (∃ m, t.lun id = some m ∧ m.op = none) ∧ t.store = s.store ∧ t.tb = s.tb)))) ∧
     (o.kind ≠ .suspend → o.kind ≠ .lunReset → l.held = none →
       completes (.nandOpTimeout id) s fun t =>
         t.flash.timeouts = bump s.flash.timeouts ∧ (t.dataView id).num ≤ 1 ∧
         (∀ u, s.unit id = some u → recent s.tb.measure u.timeouts ≠ [] → t.dataView id = .offline) ∧
         (∃ m, t.lun id = some m ∧ m.op = some (.make .lunReset 0 0 0) ∧ m.next = if o.reissued then none else
           some { o with reissued := true, ran := 0, phase := (NandOp.make o.kind 0 0 0).phase }) ∧
         t.store = s.store ∧ t.tb = s.tb)) ∧
  (∀ (g n lun : Nat) (b : Superblock) (s : State), s.flashRuns = true → s.sb g n = some b →
     (b.blocks.any fun k => k.lun == lun && k.erased && k.state == .erasePending) = true →
     completes (.eraseDone g ⟨n, lun⟩) s fun t =>
       (∃ c, t.sb g n = some c ∧ c.words = b.words.filter (fun w => w.lun != lun) ∧
         c.blocks = b.blocks.map fun k => if k.lun = lun ∧ k.erased = true ∧ k.state = .erasePending then
           { k with state := .free, erases := k.erases + 1, erased := false, indeterminate := false, reads := 0, rebuilt := 0 } else k) ∧
       (∀ h k, (h, k) ≠ (g, n) → t.sb h k = s.sb h k) ∧
       t.flash.journal = s.flash.journal ++ [{ group := g, num := n, lun, done := true }] ∧
       t.flash.luns = s.flash.luns ∧ t.store = s.store ∧ t.tb = s.tb)

/-- R191, R195 to R198, R212: each relocation that is due reads its superblock, which takes no more data: the lowest-scoring
closed one of a group in which garbage collection runs, the oldest closed SLC one, the least-worn one with old data in an
unevenly worn group, one whose refresh is due, and those of a LUN below DEGRADED, whose evacuation is complete when they hold no
valid data. A scrub of the blocks of a superblock on a LUN reads a codeword of each of their wordlines. -/
def Obligations.RelocationsComplete : Prop :=
  ∀ (b : Superblock) (s : State), s.bgMay = true → (s.flash.sbs.map fun x => (x.group, x.num)).Nodup → b ∈ s.flash.sbs →
    (∀ m ∈ s.flash.moves, (m.group, m.num) ≠ (b.group, b.num)) →
    (∀ free all, s.nativeFree b.group = (free, all) → 0 < all →
      ((free * 100 ≤ 4 * all ∨ s.flash.collecting.contains b.group = true ∧ free * 100 < 6 * all) → s.gcVictim b.group = some b →
        completes (.garbageCollection b.group) s fun t =>
          s.movedFrom t b .gc false ∧ t.flash.collecting.contains b.group = true) ∧
      (6 * all ≤ free * 100 → exec (.garbageCollection b.group) s = .next (s.modFlash fun f =>
        { f with collecting := f.collecting.filter (· != b.group) }))) ∧
    (b.native = false → b.isClosed = true →
      (∀ x ∈ s.flash.sbs, x.group = b.group → x.native = false → x.isClosed = true → x = b ∨ b.closedAt < x.closedAt) →
      completes (.folding b.group) s fun t => s.movedFrom t b .fold false) ∧
    (s.wornUneven b.group = true → b.native = true → b.isClosed = true → s.oldData b = true →
      (∀ x ∈ s.flash.sbs, x.group = b.group → x.native = true → x.isClosed = true → s.oldData x = true →
        x = b ∨ b.erases < x.erases) →
      completes (.wearMove b.group) s fun t => s.movedFrom t b .wearMove false) ∧
    (b.refreshDue = true →
      completes (.refresh b.group b.num) s fun t => s.movedFrom t b (if b.native then .gc else .fold) false) ∧
    (∀ l id, s.lun id = some l →
      (s.sound id = false →
        ((∀ x ∈ s.flash.sbs, x.luns.contains id = true → x.any .opened = false ∧ x.any .closed = false) →
          completes (.evacuation id) s fun t =>
            (∃ m, t.lun id = some m ∧ m.evacuated = true) ∧ t.store = s.store ∧ t.tb = s.tb) ∧
        (b.luns.contains id = true → b.any .opened = true ∨ b.any .closed = true →
          (∀ x ∈ s.flash.sbs, x.luns.contains id = true → x.any .opened = true ∨ x.any .closed = true → x = b) →
          completes (.evacuation id) s fun t => s.movedFrom t b (if b.native then .gc else .fold) true)) ∧
      (s.sound id = true →
        (b.blocks.any fun k => k.lun == id && (k.state == .opened || k.state == .closed) &&
          decide (k.scrubbedAt + (if s.reach id = .degraded then 2 ^ 23 else 2 ^ 24) ≤ s.tb.measure)) = true →
        ∀ low mid high, completes (.scrub b.group ⟨b.num, id⟩ low mid high) s fun t =>
          (∃ c, t.sb b.group b.num = some c ∧ c.words = b.words ∧ ∀ k ∈ c.blocks, k.lun = id → k.scrubbedAt = s.tb.measure) ∧
          (∀ w ∈ b.scrubWords s.board id, t.anyOp (fun n o =>
            n == id && o.kind == .readBg && o.word == some (w.ext, w.idx)) = true) ∧
          t.store = s.store ∧ t.tb = s.tb))

/-- R162, R163, R213: a temperature sample keeps the highest reading, counts 4,096 measures in its band and moves the record up;
a patrol pass of an LPDDR5 rank with an uncorrectable error fences it, or is fatal where it hits a fixed region, and one with
fewer than 8 corrected errors on a rank without recent ones qualifies it. -/
def Obligations.TelemetryPatrolComplete : Prop :=
  ∀ s : State, s.inService = true →
    (∀ (temps : List (Nat × Int)) (top : Int), (∀ p ∈ temps, (s.lun p.1).isSome = true) → (∃ p ∈ temps, p.2 = top) →
      (∀ p ∈ temps, p.2 ≤ top) →
      completes (.temperatureSample temps) s fun t =>
        t.flash.temp = some top ∧
        t.flash.hist = s.flash.hist.set (tempBand top) (sat 64 (s.flash.hist[tempBand top] + 4096)) ∧
        (∀ m, s.flash.tempMax = some m →
          t.flash.tempMax = some (max m top) ∧ t.flash.tempMeasure = if m < top then s.tb.measure else s.flash.tempMeasure) ∧
        (s.flash.tempMax = none → t.flash.tempMax = some top ∧ t.flash.tempMeasure = s.tb.measure) ∧
        t.store = s.store ∧ t.tb = s.tb) ∧
    (∀ (rank : Fin 2) (n : Nat) (u : HwUnit), s.unit (0x3000 + rank) = some u → u.data ≠ .offline →
      (s.flash.fixedRank ≠ rank → completes (.lpddr5PatrolPass rank n true) s fun t =>
        (t.dataView (0x3000 + rank)).num ≤ 1 ∧ t.store = s.store ∧ t.tb = s.tb) ∧
      (s.flash.fixedRank = rank → completes (.lpddr5PatrolPass rank n true) s fun t =>
        ((t.dataView (0x3000 + rank)).num ≤ 1 ∧ t.store = s.store ∧ t.tb = s.tb) ∨
        (s.resetBy t .fatal ∧ t.flash.badRank = some rank.val)) ∧
      (n < 8 → recent s.tb.measure u.events = [] → exec (.lpddr5PatrolPass rank n false) s =
        .next (s.modUnit (0x3000 + rank) fun w =>
          { w with events := List.replicate n s.tb.measure ++ recent s.tb.measure w.events, qualified := true })))

/-- R53, R221, R232, R238, R239, R241: Larkspur's upkeep completes. The scrub of a measure, made once, rewrites each array unit
it reads that differs from its shadow word, in no OFFLINE bank, and moves 256 units on; a pair whose uncorrectable shadow word
the banks' copies cannot restore is to be rebuilt; after 64 measures without an idle cycle the scrub is forced; a one-place move
takes an entry into the free slot next to it; a rebuilt pair is searched again; a FENCED bank that passes its test is rewritten
and qualifies, and a second failure lowers it to OFFLINE. -/
def Obligations.LarkspurUpkeepCompletes : Prop :=
  ∀ s : State, s.larkspurRuns = true →
    (∀ upsets, completes (.larkspurScrub upsets) s fun t =>
      t.lks.scrubbed = true ∧ t.lks.noIdle = 0 ∧ t.lks.forced = false ∧ t.store = s.store ∧ t.tb = s.tb ∧
      (s.lks.scrubbed = true → t.lks.scrubAt = s.lks.scrubAt ∧ t.lks.repairs = s.lks.repairs) ∧
      (s.lks.scrubbed = false → s.weakBanks = [] → t.lks.scrubAt = (s.lks.scrubAt + 256) % 131072) ∧
      (s.lks.scrubbed = false → s.lks.shadow = [] → upsets = [] →
        (∀ pos ∈ s.scrubReads, s.effective (0x4000 + pos / 8192) ≠ .offline → s.lks.stuckAt pos = false → t.lks.cellFlips pos = 0) ∧
        (∀ pos, pos ∉ s.scrubReads → t.lks.cellFlips pos = s.lks.cellFlips pos)) ∧
      (∀ f v, s.lks.scrubbed = false → upsets = [] → s.lks.cells = [⟨f.pos, v, false⟩] → v ≠ 0 → s.lks.shadow = [f] →
        f.lost = true → f.pos ∈ s.scrubReads → (t.lks.rebuild.any fun r => r.1 == f.pos / 16384) = true)) ∧
    (64 ≤ s.lks.noIdle → completes .larkspurForcedScrub s fun t =>
      t.lks.forced = true ∧ t.lks.scrubbed = true ∧ t.store = s.store ∧ t.tb = s.tb ∧
      (s.lks.scrubbed = false → s.lks.shadow = [] → ∀ pos ∈ s.scrubReads, s.effective (0x4000 + pos / 8192) ≠ .offline →
        s.lks.stuckAt pos = false → t.lks.cellFlips pos = 0)) ∧
    (∀ (k : Fin 5) (tb : Table) (a b : Nat), Table.ofNum k = some tb → (s.store.tables.shape tb).ordered = true →
      (s.store.tables.shape tb).holes ≠ 0 →
      moveFor (s.store.tables.slots tb) (s.store.tables.shape tb).holes
        ((s.store.tables.entries tb).map fun e => (s.store.tables.slots tb).index e.addr) = some (a, b) →
      (a + 1 = b ∨ b + 1 = a) ∧ (∀ e ∈ s.store.tables.entries tb, (s.store.tables.slots tb).index e.addr ≠ b) ∧
      completes (.onePlaceMove k) s fun t =>
        t.store.tables.entries tb = (s.store.tables.entries tb).map (fun e =>
          if (s.store.tables.slots tb).index e.addr = a then { e with addr := (s.store.tables.slots tb).addr b } else e) ∧
        (∀ x, x ≠ tb → t.store.tables.entries x = s.store.tables.entries x) ∧ t.lks.moves = bump s.lks.moves ∧
        t.store = { s.store with tables := t.store.tables } ∧ t = { s with store := t.store, lks := t.lks }) ∧
    (∀ k : Fin 8, (s.lks.rebuild.any fun r => r.1 == k.val) = true → completes (.shadowRebuild k) s fun t =>
      (t.lks.rebuild.any fun r => r.1 == k.val) = false ∧ t.lks.rebuilds = bump s.lks.rebuilds ∧
      (∀ f ∈ t.lks.cells, f.pos / 16384 = k → f.stuck = true) ∧ (∀ f ∈ t.lks.shadow, f.pos / 16384 ≠ k) ∧
      (∃ e ∈ t.coda.queue, e.code = 0x0702 ∧ e.payload = be 1 k) ∧ t.store = s.store ∧ t.tb = s.tb) ∧
    (∀ (k : Fin 16) (u : HwUnit), s.unit (0x4000 + k) = some u → u.data = .fenced →
      ((s.lks.cells.any fun f => f.stuck && f.pos / 8192 == k.val) = false → s.store.tables.cascade = none ∨ s.lks.lost = false →
        completes (.bankRequalify k true) s fun t =>
          (∃ w, t.unit (0x4000 + k) = some w ∧ w.qualified = true ∧ w.events2 = [] ∧ w.data = .fenced) ∧
          (∀ pos, pos / 8192 = k → t.lks.cellFlips pos = s.lks.shadowOff pos) ∧ t.lks.shadow = s.lks.shadow ∧
          t.store = s.store ∧ t.tb = s.tb) ∧
      (∀ passed, passed = false ∨ (s.lks.cells.any fun f => f.stuck && f.pos / 8192 == k.val) = true →
        (u.events2 = [] → exec (.bankRequalify k passed) s = .next (s.modUnit (0x4000 + k) fun w =>
          { w with events2 := s.tb.measure :: w.events2 })) ∧
        (u.events2 ≠ [] → completes (.bankRequalify k passed) s fun t =>
          t.dataView (0x4000 + k) = .offline ∧ t.store = s.store ∧ t.tb = s.tb)))

/-- R244 to R247: the cascade. The chip whose turn it is drives the header; one that names another chip starts nothing (log
entry 141). A pass ends the turn; a search of the cascaded table drives MATCH_OUT, and the result bytes where this chip has a
match and none below it has, or is the highest chip and none matched; other bytes are another chip's, and lose the cascade
without the form of Table 9.8; other transactions only count. 1,024 well-formed turns end a loss, whose banks then qualify; a
loss lowers the banks of the cascaded table to FENCED; once every list before E has executed, the generation that was active
takes the tags of the new one, which is now active. -/
def Obligations.CascadeCompletes : Prop :=
  ∀ (c : Cascade) (s : State), s.larkspurRuns = true → s.store.tables.cascade = some c →
    (∀ (header : Byte) (word : Bytes) (inp : Bool) (res : Bytes) (h : Nat) (u : State), h = s.cascadeHeader header →
      u = (s.modLks fun a => { a with txn := (h + 1) % 16, header := h }) →
      (h / 64 ≠ s.lks.turn → exec (.cascadeTransaction header word inp res) s = .next s) ∧
      (h / 64 = s.lks.turn →
        (h / 16 % 4 = 0 → s.lks.lost = false →
          exec (.cascadeTransaction header word inp res) s = .next (u.modLks fun a =>
            { a with turn := (s.lks.turn + 1) % c.chips, turns := bump a.turns, goodTurns := a.goodTurns + 1 })) ∧
        (h / 16 % 4 = 0 → s.lks.lost = true → 1023 ≤ s.lks.goodTurns →
          completes (.cascadeTransaction header word inp res) s fun t =>
            t.lks.lost = false ∧
            (∀ b ∈ s.cascadeBanks, ∀ v, t.unit (0x4000 + b) = some v → v.data = .fenced → v.qualified = true) ∧
            t.store = s.store ∧ t.tb = s.tb) ∧
        (h / 16 % 4 ≠ 0 → h / 16 % 4 ≠ c.table.num → exec (.cascadeTransaction header word inp res) s = .next u) ∧
        (h / 16 % 4 = c.table.num → c.table ≠ .unassigned →
          ∀ own, own = (u.consult c.table (beNat word)).search c.table (beNat word) →
          ∀ low, low = decide (inp = false ∨ s.lks.chipId = 0) →
          completes (.cascadeTransaction header word inp res) s fun t =>
            t.lks.matchOut = (!low || own.isSome) ∧ t.lks.txn = (h + 1) % 16 ∧ t.store = s.store ∧ t.tb = s.tb ∧
            (∀ e, own = some e → low = true →
              t.lks.result = be 1 (0xA4 + s.lks.chipId) ++ be 3 e.tag ∧ t.lks.wins = true) ∧
            (own = none → low = true → s.lks.chipId + 1 = c.chips →
              t.lks.result = be 1 (0xA0 + s.lks.chipId) ++ zeros 3 ∧ t.lks.wins = true) ∧
            (low = false ∨ own = none ∧ s.lks.chipId + 1 ≠ c.chips →
              t.lks.result = res ∧ t.lks.wins = false ∧ (resultForm c.chips res = false → t.lks.lost = true))))) ∧
    (∀ why, completes (.cascadeLoss why) s fun t =>
      t.lks.lost = true ∧ t.lks.goodTurns = 0 ∧ (∀ b ∈ s.cascadeBanks, (t.dataView (0x4000 + b)).num ≤ 1) ∧
      t.store = s.store ∧ t.tb = s.tb) ∧
    (∀ e rest, (c.table = .peer ∨ c.table = .acl) → c.switches = e :: rest → e ≤ s.tb.measure → (∀ l ∈ s.seq.sealed, e ≤ l.measure) →
      completes .cascadeGenerationCopy s fun t =>
        t.store.tables.cascade = some { c with gen := !c.gen, switches := rest } ∧
        (∀ g tag, (∃ x ∈ t.store.tables.generation c.table g, x.tag = tag) ↔
          ∃ x ∈ s.store.tables.generation c.table (!c.gen), x.tag = tag) ∧
        (∀ tb, tb ≠ c.table → t.store.tables.entries tb = s.store.tables.entries tb) ∧
        t.store.tables.patterns = s.store.tables.patterns ∧ t.store.tables.pairs = s.store.tables.pairs ∧
        t.store = { s.store with tables := t.store.tables } ∧ t.tb = s.tb)

/-! ## Chorus -/

/-- R261, R266, R268, R270 to R274: a member's own work completes. It sends each round on every usable port and keeps its own
report; a peer silent for 64 measures goes OFFLINE; a member below DEGRADED applies fetched sets in order, asks its source for
the first one it lacks, and qualifies once it may rise; a rejoin by transfer asks for every shard anew; served snapshots go
after 65,536 measures and a checkpoint's after 2^24; a chain that no majority confirms by the close of T + 4 fences the member
and drops every response of that set and later ones. -/
def Obligations.ChorusStepsComplete : Prop :=
  ∀ (c : Chorus) (s : State), s.inService = true → s.store.chorus = some c →
    (∀ (round : Fin 2) copy n t0, n = round.val + 1 → t0 = s.tb.measure - n → s.tb.opened = true → c.e + n ≤ s.tb.measure →
      (c.resuming = none ∨ s.ownFenced c = false) → ∀ r, r = (s.chorus.report c.self t0 n).getD (s.ownReport c t0 n) →
      completes (.digestRoundSend round copy) s fun t =>
        (s.chorus.report c.self t0 n = none → r ∈ t.chorus.reports) ∧
        (∀ p, s.portUsable p = true → ∃ f ∈ (t.port p).queue, f.dstIp = c.group6 ∧ f.dstUdp = 47810 ∧
          f.payload = skpHeader 0x11 0 0 0 (0xFFF0 + c.self) 0 0 r.measure 0 0 0 0 0 ++ r.body copy s.gapRoom) ∧
        t.store = s.store ∧ t.tb = s.tb) ∧
    (∀ k : Fin 8, c.isParked = false → k.val ≠ c.self → k.val < c.members → s.chorus.lastHeard[k] + 64 ≤ s.tb.measure →
      completes (.peerSilenceTimeout k) s fun t =>
        t.dataView (memberId k) = .offline ∧ t.store = s.store ∧ t.tb = s.tb) ∧
    ((s.dataView c.ownId).num < 2 → s.chorus.transferDue = false → c.restore = none → c.isParked = false →
      (∀ f, getKey (c.lastSealed + 1) s.chorus.fetched = some f → s.seq.bytes + setBytes f ≤ writeOf s.store.length →
        completes .chorusCatchUp s fun t =>
          (∃ d, t.store.chorus = some d ∧ c.lastSealed < d.lastSealed ∧ d.members = c.members ∧ d.self = c.self) ∧
          t.tb = s.tb ∧ t.durable = s.durable) ∧
      (s.chorus.fetched = [] → s.resumes c = false →
        (∀ k, s.source c = some k → c.lastSealed + 3 < s.tb.measure →
          exec .chorusCatchUp s = .next (s.sendPull c k 3 (min 16 (s.tb.measure - 3 - c.lastSealed)) (c.lastSealed + 1) [])) ∧
        (s.tb.measure ≤ c.lastSealed + 3 → s.mayRise c = true →
          exec .chorusCatchUp s = .next (s.modUnit c.ownId fun u => { u with qualified := true })))) ∧
    ((s.dataView c.ownId).num < 2 → c.restore = none →
      (s.chorus.transferDue = true ∨ c.lastSealed + 65536 < s.tb.measure) →
      completes .chorusTransferRejoin s fun t =>
        t.chorus.transferDue = true ∧ t.chorus.receiving = [] ∧ t.chorus.fetched = [] ∧ t.store = s.store ∧ t.tb = s.tb) ∧
    completes .transferWindowExpiry s (fun t =>
      (∀ v, v ∈ t.chorus.serving ↔ v ∈ s.chorus.serving ∧ s.tb.measure < v.2.cut + 65536) ∧
      t = { s with chorus := { s.chorus with serving := t.chorus.serving } }) ∧
    (∀ sn, c.checkpoint = some sn → completes .snapshotExpiry s fun t =>
      t = { s with store := { s.store with chorus := some { c with
        checkpoint := if sn.cut + 2 ^ 24 ≤ s.tb.measure then none else some sn } } }) ∧
    (∀ m, s.chorus.unconfirmed.contains m = true →
      m + 4 ≤ s.tb.measure →
      completes (.chainConfirmDeadline m) s fun t =>
        t.chorus.transferDue = true ∧ t.chorus.unconfirmed = [] ∧ (s.ownFenced c = false → (t.dataView c.ownId).num ≤ 1) ∧
        (∀ r ∈ t.seq.replies, ∀ k, r.set = some k → k < m) ∧ t.store = s.store ∧ t.tb = s.tb)
end

