-- ==== Sys2Proof/Laws/Commands.lean ====
section
/-! SUPPORT. What a Cantor command does from its posting to its answer, said once. `run_immediate`: an immediate command's effect and
answer; `run_taken`: a sealed one enters the open measure; `atPlace_sealedNow`, `atPlace_sealedBoundary`, `atPlace_chorusEffective`,
`atPlace_refused`: what it does at its place in the sealed list, from what its own meaning answers there. -/

namespace Sys2Proof.Laws

open Sys2Proof Sys2Proof.Machine

@[simp] theorem modMbx_mb (s : State) (m : Fin 8) (f : Mailbox → Mailbox) : (s.modMbx m f).mb m = f (s.mb m) := by
  simp [State.modMbx, State.mb]

theorem modMbx_modMbx (s : State) (m : Fin 8) (f g : Mailbox → Mailbox) :
    (s.modMbx m f).modMbx m g = s.modMbx m fun b => g (f b) := by
  simp [State.modMbx]

/-- Byte `i` of a list that starts with at least `i + 1` known bytes. -/
theorem u8_get (b : Bytes) (i : Nat) (h : i < b.length) : u8 b i = (b[i]).toNat := by
  have : sub b i 1 = [b[i]] := by
    rw [sub, List.take_one, List.head?_drop, List.getElem?_eq_getElem h]; rfl
  simp [u8, fld, this, beNat]

theorem u8_request_mailbox (op : Nat) (m : Fin 8) (fl sq : Nat) (args : Bytes) :
    u8 (padTo 512 (requestEnvelope op m fl sq args)) 2 % 8 = m := by
  rw [u8_get]
  · simp [padTo, requestEnvelope, be]
  · simp [padTo, requestEnvelope, be, zeros]

theorem u8_request_flags (op m sq : Nat) (args : Bytes) :
    bit (u8 (padTo 512 (requestEnvelope op m 0 sq args)) 3) 1 = false := by
  rw [u8_get]
  · simp [padTo, requestEnvelope, be, bit]
  · simp [padTo, requestEnvelope, be, zeros]

/-- The checks of R87 look at the mode, the owners, the board and the arguments only. -/
theorem check_congr (d : CmdDef) (c : Cmd) {s t : State} (hp : t.power = s.power) (hs : t.store = s.store) (hb : t.board = s.board) :
    d.check c t = d.check c s := by
  simp [CmdDef.check, State.inService, State.ownerOf, hp, hs, hb]

/-- In a mailbox that is ready, a command of the right length and arguments passes R87. -/
theorem ready_check {d : CmdDef} {c : Cmd} {s : State} (h : s.ready c d.owner) (hs : d.inService = true)
    (hl : d.len c.args.length = true) (h496 : c.args.length ≤ 496) (hp : d.pre s.board c.args = none) :
    d.check c s = none := by
  obtain ⟨hm, hr, -, -, -, -, ho⟩ := h
  simp [CmdDef.check, State.inService, hm, hr, ho, hs, hl, hp, Nat.not_lt.mpr h496]

/-- In a mailbox that is ready, the command is granted. -/
theorem ready_run {d : CmdDef} {c : Cmd} {s : State} (h : s.ready c d.owner) :
    d.run c s = d.granted c (s.granted c d.opcode) := by
  obtain ⟨hm, hr, hi, he, hc, hn, -⟩ := h
  simp [CmdDef.run, State.fetches, hm, hr, hi, hn, State.granted, Mailbox.grant, Mailbox.load]

/-- The checks of R87 pass after the grant as before it. -/
theorem granted_check {d : CmdDef} {c : Cmd} {s : State} (h : s.ready c d.owner) (hs : d.inService = true)
    (hl : d.len c.args.length = true) (h496 : c.args.length ≤ 496) (hp : d.pre s.board c.args = none) :
    d.check c (s.granted c d.opcode) = none := by
  rw [check_congr d c (s := s) (t := s.granted c d.opcode) rfl rfl rfl]; exact ready_check h hs hl h496 hp

/-- An immediate command with status OK: its effect, and the answer in its mailbox (R84, R371). `t` is what its own effect
makes of the granted state; it leaves the mailboxes alone. -/
theorem run_immediate {d : CmdDef} {c : Cmd} {s t : State} {result : Bytes} (h : s.ready c d.owner)
    (hk : d.kind = .immediate) (hs : d.inService = true) (hl : d.len c.args.length = true) (h496 : c.args.length ≤ 496)
    (hp : d.pre s.board c.args = none)
    (ha : d.act { opcode := d.opcode, cmd := c, count := 0, adm := s.tb.measure } (s.granted c d.opcode) = (t, .ok, result))
    (hm : t.mbx = (s.granted c d.opcode).mbx) :
    d.run c s = { t with mbx := (s.answered c d.opcode result).mbx } := by
  rw [ready_run h]
  have hc := granted_check h hs hl h496 hp
  obtain ⟨-, -, -, he, hcp, -, -⟩ := h
  have hb : t.mb c.mailbox = (s.granted c d.opcode).mb c.mailbox := by simp [State.mb, hm]
  have h1 : (s.granted c d.opcode).tb = s.tb := rfl
  simp only [CmdDef.granted, hc, hk, h1, ha, if_true]
  simp only [State.answerCmd, State.completeMailbox, hb, State.granted, modMbx_mb, he]
  rw [u8_request_mailbox, u8_request_flags]
  simp only [State.modMbx, State.answered, hm, State.granted, Mailbox.complete]
  have h2 : (s.mbx[(c.mailbox : Nat)]).eth = false := he
  have h3 : (s.mbx[(c.mailbox : Nat)]).cancelPending = false := hcp
  simp [h2, h3, Status.num, Nat.mod_eq_of_lt]

/-- An immediate command that only reads: its mailbox is answered, and nothing else has changed. -/
theorem run_read {d : CmdDef} {c : Cmd} {s : State} {result : Bytes} (h : s.ready c d.owner)
    (hk : d.kind = .immediate) (hs : d.inService = true) (hl : d.len c.args.length = true) (h496 : c.args.length ≤ 496)
    (hp : d.pre s.board c.args = none)
    (ha : d.act { opcode := d.opcode, cmd := c, count := 0, adm := s.tb.measure } (s.granted c d.opcode) =
      (s.granted c d.opcode, .ok, result)) :
    d.run c s = s.answered c d.opcode result :=
  run_immediate (t := s.granted c d.opcode) h hk hs hl h496 hp ha rfl

/-- A sealed command that passes R87 and finds a slot enters the open measure, and nothing else comes of its row (R39, R86). -/
theorem run_taken {d : CmdDef} {c : Cmd} {s : State} (h : s.readySealed c d.owner) (hk : d.kind ≠ .immediate)
    (hs : d.inService = true) (hl : d.len c.args.length = true) (h496 : c.args.length ≤ 496) (hp : d.pre s.board c.args = none) :
    d.run c s = s.taken c d.opcode := by
  rw [ready_run h.1]
  have hf : (s.granted c d.opcode).slotFree = true := h.2
  simp only [CmdDef.granted, granted_check h.1 hs hl h496 hp, if_neg hk, hf, if_true, State.admitCmd]
  rfl

/-- A reply whose window lies ahead is queued. -/
theorem schedule_later {s : State} {r : Reply} (h : s.tb.measure < r.due) :
    s.schedule r = s.modSeq fun q => { q with replies := q.replies ++ [r] } := by
  simp [State.schedule, State.mayLeave, Nat.not_le.mpr h]

/-- The Sequencer as an item of a list finds it with nothing of an earlier item under way. -/
def calm (q : Sequencer) : Prop := q.late = 0 ∧ q.behind = 0 ∧ q.scans = []

theorem modSeq_behind {s : State} (h : s.seq.behind = 0) : (s.modSeq fun q => { q with behind := 0 }) = s := by
  rw [State.modSeq, ← h]

/-- With no sliced operation under way, an item runs at its place as it stands. -/
theorem placed_free {s : State} {ts : List Touch} {run : State → State} (h : s.seq.slicing = []) (hb : s.seq.behind = 0) :
    s.placed ts run = (run s).modSeq fun q => { q with behind := 0 } := by
  have hu : s.heldUntil ts = 0 := by simp [State.heldUntil, h]
  simp only [State.placed, hu, if_true, modSeq_behind hb]

/-- A local request of a sealed list that has its turn: its operation at its place. -/
theorem serve_eq {m : Nat} {r : Request} {s : State} (h : s.reachesSkp m) :
    s.serve m r = (s.runRequest ⟨m, m, false⟩ r).modSeq fun q => { q with behind := 0 } :=
  placed_free (run := fun t => t.runRequest ⟨m, m, false⟩ r) h.2.2.2 h.2.2.1

/-- A command of a sealed list that has its turn: its meaning at its place. -/
theorem atPlace_eq {d : CmdDef} {c : SealedCmd} {s : State} {op : Nat} (h : s.reaches c op) (hd : commandOf op = some d) :
    s.atPlace c = (d.atPlace c s).modSeq fun q => { q with behind := 0 } := by
  obtain ⟨ho, -, -, hb, hs, -, -⟩ := h
  subst ho
  simp only [State.atPlace, State.runItem, placed_free hs hb, hd]

/-- Without old settings of a trial, a command's answer is its effect (R349). -/
theorem answer_eq {d : CmdDef} {c : SealedCmd} {s : State} (h : s.store.oldSettings = none) : d.answer c s = d.act c s := by
  simp [CmdDef.answer, h]

theorem ackOf_calm {s : State} {c : SealedCmd} {st : Status} {result : Bytes} (hl : s.seq.late = 0) (hb : s.seq.behind = 0) :
    s.ackOf c st result = cmdReply c st result (c.adm + 3) c.adm := by
  simp [State.ackOf, Sequencer.ackAt, hl, hb]

/-- The answer of a command that has its turn is queued for N + 3, N its measure (R43). -/
theorem schedule_ack {s t : State} {c : SealedCmd} {op : Nat} {st : Status} {result : Bytes} (h : s.reaches c op) (hm : t.tb = s.tb) :
    t.schedule (s.ackOf c st result) = t.replying c st result (c.adm + 3) c.adm := by
  obtain ⟨-, hn, hl, hb, -, -, -⟩ := h
  rw [ackOf_calm hl hb, schedule_later]
  · rfl
  · show t.tb.measure < c.adm + 3
    rw [hm]; omega

/-- A command of kind SN at its place with status OK (R371). `t` is what its own effect makes of the state, in the same measure. -/
theorem atPlace_sealedNow {d : CmdDef} {c : SealedCmd} {s t : State} {op : Nat} {result : Bytes} (h : s.reaches c op)
    (hd : commandOf op = some d) (hk : d.kind = .sealedNow) (ha : d.act c s = (t, .ok, result)) (hm : t.tb = s.tb)
    (hq : calm t.seq) : s.atPlace c = t.sealedOk c result := by
  rw [atPlace_eq h hd]
  have ho := h.2.2.2.2.2.2
  simp only [CmdDef.atPlace, answer_eq ho, hk, ha, State.scheduleBehind, hq.2.2, List.find?_nil, schedule_ack h hm]
  exact modSeq_behind hq.2.1

/-- A command of kind SB at its place with status OK (R371): its effect waits for the next boundary. -/
theorem atPlace_sealedBoundary {d : CmdDef} {c : SealedCmd} {s t : State} {op : Nat} {result : Bytes} (h : s.reaches c op)
    (hd : commandOf op = some d) (hk : d.kind = .sealedBoundary) (ha : d.act c s = (t, .ok, result)) (hm : t.tb = s.tb)
    (hq : calm t.seq) :
    s.atPlace c = (t.modStore fun x => { x with boundary := x.boundary ++ [c] }).sealedOk c result := by
  rw [atPlace_eq h hd]
  have ho := h.2.2.2.2.2.2
  simp only [CmdDef.atPlace, answer_eq ho, hk, ha, if_true]
  rw [schedule_ack h (t := t.modStore fun x => { x with boundary := x.boundary ++ [c] }) hm]
  exact modSeq_behind hq.2.1

/-- A command of kind CE at its place with status OK (R250): it waits for its E, in sealed order, unanswered. -/
theorem atPlace_chorusEffective {d : CmdDef} {c : SealedCmd} {s t : State} {op : Nat} {result : Bytes} (h : s.reaches c op)
    (hd : commandOf op = some d) (hk : d.kind = .chorusEffective) (ha : d.act c s = (t, .ok, result)) (hq : calm t.seq) :
    s.atPlace c = t.modStore fun x => { x with effective := x.effective ++ [(d.effective c.cmd.args, c)] } := by
  rw [atPlace_eq h hd]
  have ho := h.2.2.2.2.2.2
  simp only [CmdDef.atPlace, answer_eq ho, hk, ha, if_true]
  exact modSeq_behind (s := t.modStore fun x => { x with effective := x.effective ++ [(d.effective c.cmd.args, c)] }) hq.2.1

/-- A command of kind SN or SB that its meaning refuses at its place: it is answered, and nothing else comes of it (R93). -/
theorem atPlace_refused {d : CmdDef} {c : SealedCmd} {s : State} {op : Nat} {st : Status} (h : s.reaches c op)
    (hd : commandOf op = some d) (hk : d.kind = .sealedNow ∨ d.kind = .sealedBoundary) (ha : d.act c s = (s, st, []))
    (hst : st ≠ .ok) : s.atPlace c = s.replying c st [] (c.adm + 3) c.adm := by
  rw [atPlace_eq h hd]
  have ho := h.2.2.2.2.2.2
  have hs := h.2.2.2.2.2.1
  have hb := h.2.2.2.1
  rcases hk with hk | hk
  · simp only [CmdDef.atPlace, answer_eq ho, hk, ha, State.scheduleBehind, hs, List.find?_nil, schedule_ack h rfl]
    exact modSeq_behind hb
  · simp only [CmdDef.atPlace, answer_eq ho, hk, ha, if_neg hst, schedule_ack h rfl]
    exact modSeq_behind hb

end Sys2Proof.Laws
end

