-- ==== Sys2Proof/Laws/Nand.lean ====
section
/-! SUPPORT. What the codewords of the medium are known to satisfy (R188). -/

namespace Sys2Proof.Laws

open Sys2Proof Sys2Proof.Machine

@[simp] theorem length_be (n v : Nat) : (be n v).length = n := by
  induction n with
  | zero => rfl
  | succ n ih => simp [be, ih]

@[simp] theorem length_zeros (n : Nat) : (zeros n).length = n := List.length_replicate

/-- Padding gives the width asked for, where the bytes are not longer. -/
theorem length_padTo (n : Nat) (b : Bytes) (h : b.length ≤ n) : (padTo n b).length = n := by
  simp [padTo]; omega

/-- A number of `n` bytes reads back. -/
theorem beNat_be (n v : Nat) : beNat (be n v) = v % 256 ^ n := by
  induction n with
  | zero => simp [be, beNat, Nat.mod_one]
  | succ n ih =>
    simp only [be, beNat, length_be, ih, BitVec.toNat_ofNat]
    have h := Nat.mod_mul (a := 256 ^ n) (b := 256) (x := v)
    rw [Nat.pow_succ 256 n, h, Nat.mul_comm (256 ^ n), Nat.add_comm]

@[simp] theorem strict_eq (n : Nat) (f : Nat → Nat) : strict n f = f n := by cases n <;> rfl

theorem crcBits_lt (k c : Nat) (h : c < 2 ^ 32) : crcBits k c < 2 ^ 32 := by
  induction k generalizing c with
  | zero => exact h
  | succ k ih =>
    rw [crcBits, strict_eq]
    exact ih _ (Nat.xor_lt_two_pow (by omega) (by omega))

/-- The CRC's register holds 32 bits. -/
theorem crcRun_lt (b : Bytes) (c : Nat) (h : c < 2 ^ 32) : crcRun b c < 2 ^ 32 := by
  induction b generalizing c with
  | nil => exact h
  | cons x rest ih =>
    rw [crcRun, strict_eq]
    exact ih _ (crcBits_lt _ _ (Nat.xor_lt_two_pow h (Nat.lt_trans x.isLt (by decide))))

theorem crc32c_lt (b : Bytes) : crc32c b < 2 ^ 32 :=
  Nat.xor_lt_two_pow (crcRun_lt b _ (by decide)) (by decide)

/-- A codeword as programmed passes the check that a decode makes (R188). -/
theorem wordSound_bytes (w : Codeword) (st : Stream) (h : w.data.length ≤ 4096) : wordSound (w.bytes st) = true := by
  have hl : ∀ x : Nat, (padTo 4096 w.data ++ be 8 w.ext ++ be 4 w.idx ++ be 4 (w.measure % 2 ^ 32) ++ be 1 w.ns ++ be 1 st.num ++
      zeros 10).length = 4124 := fun _ => by simp [length_padTo _ _ h]
  have hl := hl 0
  simp only [Codeword.bytes, wordSound]
  generalize padTo 4096 w.data ++ be 8 w.ext ++ be 4 w.idx ++ be 4 (w.measure % 2 ^ 32) ++ be 1 w.ns ++ be 1 st.num ++
      zeros 10 = b at hl ⊢
  have h2 : (b ++ be 4 (crc32c b)).take 4124 = b := by rw [← hl]; exact List.take_left' rfl
  have h3 : fld (b ++ be 4 (crc32c b)) 4124 4 = crc32c b := by
    have := crc32c_lt b
    simp only [fld, sub, ← hl, List.drop_left, List.take_of_length_le (Nat.le_of_eq (length_be 4 _)), beNat_be]
    omega
  simp [h2, h3, hl]

end Sys2Proof.Laws
end

