-- ==== Sys2Proof/Laws/State.lean ====
section
/-! SUPPORT. What each change of one part of the state does to each field: the field it changes, and every other field, which it
leaves alone. All true by unfolding. -/

namespace Sys2Proof.Laws

open Sys2Proof Sys2Proof.Machine

set_option Elab.async false

/-! ## modTb -/

@[simp] theorem modTb_pending (s : State) (f : Timebase → Timebase) : (s.modTb f).pending = s.pending := rfl
@[simp] theorem modTb_board (s : State) (f : Timebase → Timebase) : (s.modTb f).board = s.board := rfl
@[simp] theorem modTb_fuses (s : State) (f : Timebase → Timebase) : (s.modTb f).fuses = s.fuses := rfl
@[simp] theorem modTb_units (s : State) (f : Timebase → Timebase) : (s.modTb f).units = s.units := rfl
@[simp] theorem modTb_tb (s : State) (f : Timebase → Timebase) : (s.modTb f).tb = f s.tb := rfl
@[simp] theorem modTb_seq (s : State) (f : Timebase → Timebase) : (s.modTb f).seq = s.seq := rfl
@[simp] theorem modTb_sessions (s : State) (f : Timebase → Timebase) : (s.modTb f).sessions = s.sessions := rfl
@[simp] theorem modTb_mbx (s : State) (f : Timebase → Timebase) : (s.modTb f).mbx = s.mbx := rfl
@[simp] theorem modTb_spi (s : State) (f : Timebase → Timebase) : (s.modTb f).spi = s.spi := rfl
@[simp] theorem modTb_ports (s : State) (f : Timebase → Timebase) : (s.modTb f).ports = s.ports := rfl
@[simp] theorem modTb_store (s : State) (f : Timebase → Timebase) : (s.modTb f).store = s.store := rfl
@[simp] theorem modTb_snaps (s : State) (f : Timebase → Timebase) : (s.modTb f).snaps = s.snaps := rfl
@[simp] theorem modTb_durable (s : State) (f : Timebase → Timebase) : (s.modTb f).durable = s.durable := rfl
@[simp] theorem modTb_chorus (s : State) (f : Timebase → Timebase) : (s.modTb f).chorus = s.chorus := rfl
@[simp] theorem modTb_flash (s : State) (f : Timebase → Timebase) : (s.modTb f).flash = s.flash := rfl
@[simp] theorem modTb_lks (s : State) (f : Timebase → Timebase) : (s.modTb f).lks = s.lks := rfl
@[simp] theorem modTb_fabric (s : State) (f : Timebase → Timebase) : (s.modTb f).fabric = s.fabric := rfl
@[simp] theorem modTb_coda (s : State) (f : Timebase → Timebase) : (s.modTb f).coda = s.coda := rfl
@[simp] theorem modTb_power (s : State) (f : Timebase → Timebase) : (s.modTb f).power = s.power := rfl
@[simp] theorem modTb_nor (s : State) (f : Timebase → Timebase) : (s.modTb f).nor = s.nor := rfl
@[simp] theorem modTb_cluster (s : State) (f : Timebase → Timebase) : (s.modTb f).cluster = s.cluster := rfl
@[simp] theorem modTb_fresh (s : State) (f : Timebase → Timebase) : (s.modTb f).fresh = s.fresh := rfl

/-! ## modSeq -/

@[simp] theorem modSeq_pending (s : State) (f : Sequencer → Sequencer) : (s.modSeq f).pending = s.pending := rfl
@[simp] theorem modSeq_board (s : State) (f : Sequencer → Sequencer) : (s.modSeq f).board = s.board := rfl
@[simp] theorem modSeq_fuses (s : State) (f : Sequencer → Sequencer) : (s.modSeq f).fuses = s.fuses := rfl
@[simp] theorem modSeq_units (s : State) (f : Sequencer → Sequencer) : (s.modSeq f).units = s.units := rfl
@[simp] theorem modSeq_tb (s : State) (f : Sequencer → Sequencer) : (s.modSeq f).tb = s.tb := rfl
@[simp] theorem modSeq_seq (s : State) (f : Sequencer → Sequencer) : (s.modSeq f).seq = f s.seq := rfl
@[simp] theorem modSeq_sessions (s : State) (f : Sequencer → Sequencer) : (s.modSeq f).sessions = s.sessions := rfl
@[simp] theorem modSeq_mbx (s : State) (f : Sequencer → Sequencer) : (s.modSeq f).mbx = s.mbx := rfl
@[simp] theorem modSeq_spi (s : State) (f : Sequencer → Sequencer) : (s.modSeq f).spi = s.spi := rfl
@[simp] theorem modSeq_ports (s : State) (f : Sequencer → Sequencer) : (s.modSeq f).ports = s.ports := rfl
@[simp] theorem modSeq_store (s : State) (f : Sequencer → Sequencer) : (s.modSeq f).store = s.store := rfl
@[simp] theorem modSeq_snaps (s : State) (f : Sequencer → Sequencer) : (s.modSeq f).snaps = s.snaps := rfl
@[simp] theorem modSeq_durable (s : State) (f : Sequencer → Sequencer) : (s.modSeq f).durable = s.durable := rfl
@[simp] theorem modSeq_chorus (s : State) (f : Sequencer → Sequencer) : (s.modSeq f).chorus = s.chorus := rfl
@[simp] theorem modSeq_flash (s : State) (f : Sequencer → Sequencer) : (s.modSeq f).flash = s.flash := rfl
@[simp] theorem modSeq_lks (s : State) (f : Sequencer → Sequencer) : (s.modSeq f).lks = s.lks := rfl
@[simp] theorem modSeq_fabric (s : State) (f : Sequencer → Sequencer) : (s.modSeq f).fabric = s.fabric := rfl
@[simp] theorem modSeq_coda (s : State) (f : Sequencer → Sequencer) : (s.modSeq f).coda = s.coda := rfl
@[simp] theorem modSeq_power (s : State) (f : Sequencer → Sequencer) : (s.modSeq f).power = s.power := rfl
@[simp] theorem modSeq_nor (s : State) (f : Sequencer → Sequencer) : (s.modSeq f).nor = s.nor := rfl
@[simp] theorem modSeq_cluster (s : State) (f : Sequencer → Sequencer) : (s.modSeq f).cluster = s.cluster := rfl
@[simp] theorem modSeq_fresh (s : State) (f : Sequencer → Sequencer) : (s.modSeq f).fresh = s.fresh := rfl

/-! ## modStore -/

@[simp] theorem modStore_pending (s : State) (f : Store → Store) : (s.modStore f).pending = s.pending := rfl
@[simp] theorem modStore_board (s : State) (f : Store → Store) : (s.modStore f).board = s.board := rfl
@[simp] theorem modStore_fuses (s : State) (f : Store → Store) : (s.modStore f).fuses = s.fuses := rfl
@[simp] theorem modStore_units (s : State) (f : Store → Store) : (s.modStore f).units = s.units := rfl
@[simp] theorem modStore_tb (s : State) (f : Store → Store) : (s.modStore f).tb = s.tb := rfl
@[simp] theorem modStore_seq (s : State) (f : Store → Store) : (s.modStore f).seq = s.seq := rfl
@[simp] theorem modStore_sessions (s : State) (f : Store → Store) : (s.modStore f).sessions = s.sessions := rfl
@[simp] theorem modStore_mbx (s : State) (f : Store → Store) : (s.modStore f).mbx = s.mbx := rfl
@[simp] theorem modStore_spi (s : State) (f : Store → Store) : (s.modStore f).spi = s.spi := rfl
@[simp] theorem modStore_ports (s : State) (f : Store → Store) : (s.modStore f).ports = s.ports := rfl
@[simp] theorem modStore_store (s : State) (f : Store → Store) : (s.modStore f).store = f s.store := rfl
@[simp] theorem modStore_snaps (s : State) (f : Store → Store) : (s.modStore f).snaps = s.snaps := rfl
@[simp] theorem modStore_durable (s : State) (f : Store → Store) : (s.modStore f).durable = s.durable := rfl
@[simp] theorem modStore_chorus (s : State) (f : Store → Store) : (s.modStore f).chorus = s.chorus := rfl
@[simp] theorem modStore_flash (s : State) (f : Store → Store) : (s.modStore f).flash = s.flash := rfl
@[simp] theorem modStore_lks (s : State) (f : Store → Store) : (s.modStore f).lks = s.lks := rfl
@[simp] theorem modStore_fabric (s : State) (f : Store → Store) : (s.modStore f).fabric = s.fabric := rfl
@[simp] theorem modStore_coda (s : State) (f : Store → Store) : (s.modStore f).coda = s.coda := rfl
@[simp] theorem modStore_power (s : State) (f : Store → Store) : (s.modStore f).power = s.power := rfl
@[simp] theorem modStore_nor (s : State) (f : Store → Store) : (s.modStore f).nor = s.nor := rfl
@[simp] theorem modStore_cluster (s : State) (f : Store → Store) : (s.modStore f).cluster = s.cluster := rfl
@[simp] theorem modStore_fresh (s : State) (f : Store → Store) : (s.modStore f).fresh = s.fresh := rfl

/-! ## modSettings -/

@[simp] theorem modSettings_pending (s : State) (f : Settings → Settings) : (s.modSettings f).pending = s.pending := rfl
@[simp] theorem modSettings_board (s : State) (f : Settings → Settings) : (s.modSettings f).board = s.board := rfl
@[simp] theorem modSettings_fuses (s : State) (f : Settings → Settings) : (s.modSettings f).fuses = s.fuses := rfl
@[simp] theorem modSettings_units (s : State) (f : Settings → Settings) : (s.modSettings f).units = s.units := rfl
@[simp] theorem modSettings_tb (s : State) (f : Settings → Settings) : (s.modSettings f).tb = s.tb := rfl
@[simp] theorem modSettings_seq (s : State) (f : Settings → Settings) : (s.modSettings f).seq = s.seq := rfl
@[simp] theorem modSettings_sessions (s : State) (f : Settings → Settings) : (s.modSettings f).sessions = s.sessions := rfl
@[simp] theorem modSettings_mbx (s : State) (f : Settings → Settings) : (s.modSettings f).mbx = s.mbx := rfl
@[simp] theorem modSettings_spi (s : State) (f : Settings → Settings) : (s.modSettings f).spi = s.spi := rfl
@[simp] theorem modSettings_ports (s : State) (f : Settings → Settings) : (s.modSettings f).ports = s.ports := rfl
@[simp] theorem modSettings_store (s : State) (f : Settings → Settings) : (s.modSettings f).store = { s.store with settings := f s.store.settings } := rfl
@[simp] theorem modSettings_snaps (s : State) (f : Settings → Settings) : (s.modSettings f).snaps = s.snaps := rfl
@[simp] theorem modSettings_durable (s : State) (f : Settings → Settings) : (s.modSettings f).durable = s.durable := rfl
@[simp] theorem modSettings_chorus (s : State) (f : Settings → Settings) : (s.modSettings f).chorus = s.chorus := rfl
@[simp] theorem modSettings_flash (s : State) (f : Settings → Settings) : (s.modSettings f).flash = s.flash := rfl
@[simp] theorem modSettings_lks (s : State) (f : Settings → Settings) : (s.modSettings f).lks = s.lks := rfl
@[simp] theorem modSettings_fabric (s : State) (f : Settings → Settings) : (s.modSettings f).fabric = s.fabric := rfl
@[simp] theorem modSettings_coda (s : State) (f : Settings → Settings) : (s.modSettings f).coda = s.coda := rfl
@[simp] theorem modSettings_power (s : State) (f : Settings → Settings) : (s.modSettings f).power = s.power := rfl
@[simp] theorem modSettings_nor (s : State) (f : Settings → Settings) : (s.modSettings f).nor = s.nor := rfl
@[simp] theorem modSettings_cluster (s : State) (f : Settings → Settings) : (s.modSettings f).cluster = s.cluster := rfl
@[simp] theorem modSettings_fresh (s : State) (f : Settings → Settings) : (s.modSettings f).fresh = s.fresh := rfl

/-! ## modPower -/

@[simp] theorem modPower_pending (s : State) (f : Power → Power) : (s.modPower f).pending = s.pending := rfl
@[simp] theorem modPower_board (s : State) (f : Power → Power) : (s.modPower f).board = s.board := rfl
@[simp] theorem modPower_fuses (s : State) (f : Power → Power) : (s.modPower f).fuses = s.fuses := rfl
@[simp] theorem modPower_units (s : State) (f : Power → Power) : (s.modPower f).units = s.units := rfl
@[simp] theorem modPower_tb (s : State) (f : Power → Power) : (s.modPower f).tb = s.tb := rfl
@[simp] theorem modPower_seq (s : State) (f : Power → Power) : (s.modPower f).seq = s.seq := rfl
@[simp] theorem modPower_sessions (s : State) (f : Power → Power) : (s.modPower f).sessions = s.sessions := rfl
@[simp] theorem modPower_mbx (s : State) (f : Power → Power) : (s.modPower f).mbx = s.mbx := rfl
@[simp] theorem modPower_spi (s : State) (f : Power → Power) : (s.modPower f).spi = s.spi := rfl
@[simp] theorem modPower_ports (s : State) (f : Power → Power) : (s.modPower f).ports = s.ports := rfl
@[simp] theorem modPower_store (s : State) (f : Power → Power) : (s.modPower f).store = s.store := rfl
@[simp] theorem modPower_snaps (s : State) (f : Power → Power) : (s.modPower f).snaps = s.snaps := rfl
@[simp] theorem modPower_durable (s : State) (f : Power → Power) : (s.modPower f).durable = s.durable := rfl
@[simp] theorem modPower_chorus (s : State) (f : Power → Power) : (s.modPower f).chorus = s.chorus := rfl
@[simp] theorem modPower_flash (s : State) (f : Power → Power) : (s.modPower f).flash = s.flash := rfl
@[simp] theorem modPower_lks (s : State) (f : Power → Power) : (s.modPower f).lks = s.lks := rfl
@[simp] theorem modPower_fabric (s : State) (f : Power → Power) : (s.modPower f).fabric = s.fabric := rfl
@[simp] theorem modPower_coda (s : State) (f : Power → Power) : (s.modPower f).coda = s.coda := rfl
@[simp] theorem modPower_power (s : State) (f : Power → Power) : (s.modPower f).power = f s.power := rfl
@[simp] theorem modPower_nor (s : State) (f : Power → Power) : (s.modPower f).nor = s.nor := rfl
@[simp] theorem modPower_cluster (s : State) (f : Power → Power) : (s.modPower f).cluster = s.cluster := rfl
@[simp] theorem modPower_fresh (s : State) (f : Power → Power) : (s.modPower f).fresh = s.fresh := rfl

/-! ## modCoda -/

@[simp] theorem modCoda_pending (s : State) (f : Coda → Coda) : (s.modCoda f).pending = s.pending := rfl
@[simp] theorem modCoda_board (s : State) (f : Coda → Coda) : (s.modCoda f).board = s.board := rfl
@[simp] theorem modCoda_fuses (s : State) (f : Coda → Coda) : (s.modCoda f).fuses = s.fuses := rfl
@[simp] theorem modCoda_units (s : State) (f : Coda → Coda) : (s.modCoda f).units = s.units := rfl
@[simp] theorem modCoda_tb (s : State) (f : Coda → Coda) : (s.modCoda f).tb = s.tb := rfl
@[simp] theorem modCoda_seq (s : State) (f : Coda → Coda) : (s.modCoda f).seq = s.seq := rfl
@[simp] theorem modCoda_sessions (s : State) (f : Coda → Coda) : (s.modCoda f).sessions = s.sessions := rfl
@[simp] theorem modCoda_mbx (s : State) (f : Coda → Coda) : (s.modCoda f).mbx = s.mbx := rfl
@[simp] theorem modCoda_spi (s : State) (f : Coda → Coda) : (s.modCoda f).spi = s.spi := rfl
@[simp] theorem modCoda_ports (s : State) (f : Coda → Coda) : (s.modCoda f).ports = s.ports := rfl
@[simp] theorem modCoda_store (s : State) (f : Coda → Coda) : (s.modCoda f).store = s.store := rfl
@[simp] theorem modCoda_snaps (s : State) (f : Coda → Coda) : (s.modCoda f).snaps = s.snaps := rfl
@[simp] theorem modCoda_durable (s : State) (f : Coda → Coda) : (s.modCoda f).durable = s.durable := rfl
@[simp] theorem modCoda_chorus (s : State) (f : Coda → Coda) : (s.modCoda f).chorus = s.chorus := rfl
@[simp] theorem modCoda_flash (s : State) (f : Coda → Coda) : (s.modCoda f).flash = s.flash := rfl
@[simp] theorem modCoda_lks (s : State) (f : Coda → Coda) : (s.modCoda f).lks = s.lks := rfl
@[simp] theorem modCoda_fabric (s : State) (f : Coda → Coda) : (s.modCoda f).fabric = s.fabric := rfl
@[simp] theorem modCoda_coda (s : State) (f : Coda → Coda) : (s.modCoda f).coda = f s.coda := rfl
@[simp] theorem modCoda_power (s : State) (f : Coda → Coda) : (s.modCoda f).power = s.power := rfl
@[simp] theorem modCoda_nor (s : State) (f : Coda → Coda) : (s.modCoda f).nor = s.nor := rfl
@[simp] theorem modCoda_cluster (s : State) (f : Coda → Coda) : (s.modCoda f).cluster = s.cluster := rfl
@[simp] theorem modCoda_fresh (s : State) (f : Coda → Coda) : (s.modCoda f).fresh = s.fresh := rfl

/-! ## modFlash -/

@[simp] theorem modFlash_pending (s : State) (f : Flash → Flash) : (s.modFlash f).pending = s.pending := rfl
@[simp] theorem modFlash_board (s : State) (f : Flash → Flash) : (s.modFlash f).board = s.board := rfl
@[simp] theorem modFlash_fuses (s : State) (f : Flash → Flash) : (s.modFlash f).fuses = s.fuses := rfl
@[simp] theorem modFlash_units (s : State) (f : Flash → Flash) : (s.modFlash f).units = s.units := rfl
@[simp] theorem modFlash_tb (s : State) (f : Flash → Flash) : (s.modFlash f).tb = s.tb := rfl
@[simp] theorem modFlash_seq (s : State) (f : Flash → Flash) : (s.modFlash f).seq = s.seq := rfl
@[simp] theorem modFlash_sessions (s : State) (f : Flash → Flash) : (s.modFlash f).sessions = s.sessions := rfl
@[simp] theorem modFlash_mbx (s : State) (f : Flash → Flash) : (s.modFlash f).mbx = s.mbx := rfl
@[simp] theorem modFlash_spi (s : State) (f : Flash → Flash) : (s.modFlash f).spi = s.spi := rfl
@[simp] theorem modFlash_ports (s : State) (f : Flash → Flash) : (s.modFlash f).ports = s.ports := rfl
@[simp] theorem modFlash_store (s : State) (f : Flash → Flash) : (s.modFlash f).store = s.store := rfl
@[simp] theorem modFlash_snaps (s : State) (f : Flash → Flash) : (s.modFlash f).snaps = s.snaps := rfl
@[simp] theorem modFlash_durable (s : State) (f : Flash → Flash) : (s.modFlash f).durable = s.durable := rfl
@[simp] theorem modFlash_chorus (s : State) (f : Flash → Flash) : (s.modFlash f).chorus = s.chorus := rfl
@[simp] theorem modFlash_flash (s : State) (f : Flash → Flash) : (s.modFlash f).flash = f s.flash := rfl
@[simp] theorem modFlash_lks (s : State) (f : Flash → Flash) : (s.modFlash f).lks = s.lks := rfl
@[simp] theorem modFlash_fabric (s : State) (f : Flash → Flash) : (s.modFlash f).fabric = s.fabric := rfl
@[simp] theorem modFlash_coda (s : State) (f : Flash → Flash) : (s.modFlash f).coda = s.coda := rfl
@[simp] theorem modFlash_power (s : State) (f : Flash → Flash) : (s.modFlash f).power = s.power := rfl
@[simp] theorem modFlash_nor (s : State) (f : Flash → Flash) : (s.modFlash f).nor = s.nor := rfl
@[simp] theorem modFlash_cluster (s : State) (f : Flash → Flash) : (s.modFlash f).cluster = s.cluster := rfl
@[simp] theorem modFlash_fresh (s : State) (f : Flash → Flash) : (s.modFlash f).fresh = s.fresh := rfl

/-! ## modLks -/

@[simp] theorem modLks_pending (s : State) (f : LksArray → LksArray) : (s.modLks f).pending = s.pending := rfl
@[simp] theorem modLks_board (s : State) (f : LksArray → LksArray) : (s.modLks f).board = s.board := rfl
@[simp] theorem modLks_fuses (s : State) (f : LksArray → LksArray) : (s.modLks f).fuses = s.fuses := rfl
@[simp] theorem modLks_units (s : State) (f : LksArray → LksArray) : (s.modLks f).units = s.units := rfl
@[simp] theorem modLks_tb (s : State) (f : LksArray → LksArray) : (s.modLks f).tb = s.tb := rfl
@[simp] theorem modLks_seq (s : State) (f : LksArray → LksArray) : (s.modLks f).seq = s.seq := rfl
@[simp] theorem modLks_sessions (s : State) (f : LksArray → LksArray) : (s.modLks f).sessions = s.sessions := rfl
@[simp] theorem modLks_mbx (s : State) (f : LksArray → LksArray) : (s.modLks f).mbx = s.mbx := rfl
@[simp] theorem modLks_spi (s : State) (f : LksArray → LksArray) : (s.modLks f).spi = s.spi := rfl
@[simp] theorem modLks_ports (s : State) (f : LksArray → LksArray) : (s.modLks f).ports = s.ports := rfl
@[simp] theorem modLks_store (s : State) (f : LksArray → LksArray) : (s.modLks f).store = s.store := rfl
@[simp] theorem modLks_snaps (s : State) (f : LksArray → LksArray) : (s.modLks f).snaps = s.snaps := rfl
@[simp] theorem modLks_durable (s : State) (f : LksArray → LksArray) : (s.modLks f).durable = s.durable := rfl
@[simp] theorem modLks_chorus (s : State) (f : LksArray → LksArray) : (s.modLks f).chorus = s.chorus := rfl
@[simp] theorem modLks_flash (s : State) (f : LksArray → LksArray) : (s.modLks f).flash = s.flash := rfl
@[simp] theorem modLks_lks (s : State) (f : LksArray → LksArray) : (s.modLks f).lks = f s.lks := rfl
@[simp] theorem modLks_fabric (s : State) (f : LksArray → LksArray) : (s.modLks f).fabric = s.fabric := rfl
@[simp] theorem modLks_coda (s : State) (f : LksArray → LksArray) : (s.modLks f).coda = s.coda := rfl
@[simp] theorem modLks_power (s : State) (f : LksArray → LksArray) : (s.modLks f).power = s.power := rfl
@[simp] theorem modLks_nor (s : State) (f : LksArray → LksArray) : (s.modLks f).nor = s.nor := rfl
@[simp] theorem modLks_cluster (s : State) (f : LksArray → LksArray) : (s.modLks f).cluster = s.cluster := rfl
@[simp] theorem modLks_fresh (s : State) (f : LksArray → LksArray) : (s.modLks f).fresh = s.fresh := rfl

/-! ## modFabric -/

@[simp] theorem modFabric_pending (s : State) (f : Fabric → Fabric) : (s.modFabric f).pending = s.pending := rfl
@[simp] theorem modFabric_board (s : State) (f : Fabric → Fabric) : (s.modFabric f).board = s.board := rfl
@[simp] theorem modFabric_fuses (s : State) (f : Fabric → Fabric) : (s.modFabric f).fuses = s.fuses := rfl
@[simp] theorem modFabric_units (s : State) (f : Fabric → Fabric) : (s.modFabric f).units = s.units := rfl
@[simp] theorem modFabric_tb (s : State) (f : Fabric → Fabric) : (s.modFabric f).tb = s.tb := rfl
@[simp] theorem modFabric_seq (s : State) (f : Fabric → Fabric) : (s.modFabric f).seq = s.seq := rfl
@[simp] theorem modFabric_sessions (s : State) (f : Fabric → Fabric) : (s.modFabric f).sessions = s.sessions := rfl
@[simp] theorem modFabric_mbx (s : State) (f : Fabric → Fabric) : (s.modFabric f).mbx = s.mbx := rfl
@[simp] theorem modFabric_spi (s : State) (f : Fabric → Fabric) : (s.modFabric f).spi = s.spi := rfl
@[simp] theorem modFabric_ports (s : State) (f : Fabric → Fabric) : (s.modFabric f).ports = s.ports := rfl
@[simp] theorem modFabric_store (s : State) (f : Fabric → Fabric) : (s.modFabric f).store = s.store := rfl
@[simp] theorem modFabric_snaps (s : State) (f : Fabric → Fabric) : (s.modFabric f).snaps = s.snaps := rfl
@[simp] theorem modFabric_durable (s : State) (f : Fabric → Fabric) : (s.modFabric f).durable = s.durable := rfl
@[simp] theorem modFabric_chorus (s : State) (f : Fabric → Fabric) : (s.modFabric f).chorus = s.chorus := rfl
@[simp] theorem modFabric_flash (s : State) (f : Fabric → Fabric) : (s.modFabric f).flash = s.flash := rfl
@[simp] theorem modFabric_lks (s : State) (f : Fabric → Fabric) : (s.modFabric f).lks = s.lks := rfl
@[simp] theorem modFabric_fabric (s : State) (f : Fabric → Fabric) : (s.modFabric f).fabric = f s.fabric := rfl
@[simp] theorem modFabric_coda (s : State) (f : Fabric → Fabric) : (s.modFabric f).coda = s.coda := rfl
@[simp] theorem modFabric_power (s : State) (f : Fabric → Fabric) : (s.modFabric f).power = s.power := rfl
@[simp] theorem modFabric_nor (s : State) (f : Fabric → Fabric) : (s.modFabric f).nor = s.nor := rfl
@[simp] theorem modFabric_cluster (s : State) (f : Fabric → Fabric) : (s.modFabric f).cluster = s.cluster := rfl
@[simp] theorem modFabric_fresh (s : State) (f : Fabric → Fabric) : (s.modFabric f).fresh = s.fresh := rfl

/-! ## modChorus -/

@[simp] theorem modChorus_pending (s : State) (f : ChorusRun → ChorusRun) : (s.modChorus f).pending = s.pending := rfl
@[simp] theorem modChorus_board (s : State) (f : ChorusRun → ChorusRun) : (s.modChorus f).board = s.board := rfl
@[simp] theorem modChorus_fuses (s : State) (f : ChorusRun → ChorusRun) : (s.modChorus f).fuses = s.fuses := rfl
@[simp] theorem modChorus_units (s : State) (f : ChorusRun → ChorusRun) : (s.modChorus f).units = s.units := rfl
@[simp] theorem modChorus_tb (s : State) (f : ChorusRun → ChorusRun) : (s.modChorus f).tb = s.tb := rfl
@[simp] theorem modChorus_seq (s : State) (f : ChorusRun → ChorusRun) : (s.modChorus f).seq = s.seq := rfl
@[simp] theorem modChorus_sessions (s : State) (f : ChorusRun → ChorusRun) : (s.modChorus f).sessions = s.sessions := rfl
@[simp] theorem modChorus_mbx (s : State) (f : ChorusRun → ChorusRun) : (s.modChorus f).mbx = s.mbx := rfl
@[simp] theorem modChorus_spi (s : State) (f : ChorusRun → ChorusRun) : (s.modChorus f).spi = s.spi := rfl
@[simp] theorem modChorus_ports (s : State) (f : ChorusRun → ChorusRun) : (s.modChorus f).ports = s.ports := rfl
@[simp] theorem modChorus_store (s : State) (f : ChorusRun → ChorusRun) : (s.modChorus f).store = s.store := rfl
@[simp] theorem modChorus_snaps (s : State) (f : ChorusRun → ChorusRun) : (s.modChorus f).snaps = s.snaps := rfl
@[simp] theorem modChorus_durable (s : State) (f : ChorusRun → ChorusRun) : (s.modChorus f).durable = s.durable := rfl
@[simp] theorem modChorus_chorus (s : State) (f : ChorusRun → ChorusRun) : (s.modChorus f).chorus = f s.chorus := rfl
@[simp] theorem modChorus_flash (s : State) (f : ChorusRun → ChorusRun) : (s.modChorus f).flash = s.flash := rfl
@[simp] theorem modChorus_lks (s : State) (f : ChorusRun → ChorusRun) : (s.modChorus f).lks = s.lks := rfl
@[simp] theorem modChorus_fabric (s : State) (f : ChorusRun → ChorusRun) : (s.modChorus f).fabric = s.fabric := rfl
@[simp] theorem modChorus_coda (s : State) (f : ChorusRun → ChorusRun) : (s.modChorus f).coda = s.coda := rfl
@[simp] theorem modChorus_power (s : State) (f : ChorusRun → ChorusRun) : (s.modChorus f).power = s.power := rfl
@[simp] theorem modChorus_nor (s : State) (f : ChorusRun → ChorusRun) : (s.modChorus f).nor = s.nor := rfl
@[simp] theorem modChorus_cluster (s : State) (f : ChorusRun → ChorusRun) : (s.modChorus f).cluster = s.cluster := rfl
@[simp] theorem modChorus_fresh (s : State) (f : ChorusRun → ChorusRun) : (s.modChorus f).fresh = s.fresh := rfl

/-! ## modNor -/

@[simp] theorem modNor_pending (s : State) (f : Nor → Nor) : (s.modNor f).pending = s.pending := rfl
@[simp] theorem modNor_board (s : State) (f : Nor → Nor) : (s.modNor f).board = s.board := rfl
@[simp] theorem modNor_fuses (s : State) (f : Nor → Nor) : (s.modNor f).fuses = s.fuses := rfl
@[simp] theorem modNor_units (s : State) (f : Nor → Nor) : (s.modNor f).units = s.units := rfl
@[simp] theorem modNor_tb (s : State) (f : Nor → Nor) : (s.modNor f).tb = s.tb := rfl
@[simp] theorem modNor_seq (s : State) (f : Nor → Nor) : (s.modNor f).seq = s.seq := rfl
@[simp] theorem modNor_sessions (s : State) (f : Nor → Nor) : (s.modNor f).sessions = s.sessions := rfl
@[simp] theorem modNor_mbx (s : State) (f : Nor → Nor) : (s.modNor f).mbx = s.mbx := rfl
@[simp] theorem modNor_spi (s : State) (f : Nor → Nor) : (s.modNor f).spi = s.spi := rfl
@[simp] theorem modNor_ports (s : State) (f : Nor → Nor) : (s.modNor f).ports = s.ports := rfl
@[simp] theorem modNor_store (s : State) (f : Nor → Nor) : (s.modNor f).store = s.store := rfl
@[simp] theorem modNor_snaps (s : State) (f : Nor → Nor) : (s.modNor f).snaps = s.snaps := rfl
@[simp] theorem modNor_durable (s : State) (f : Nor → Nor) : (s.modNor f).durable = s.durable := rfl
@[simp] theorem modNor_chorus (s : State) (f : Nor → Nor) : (s.modNor f).chorus = s.chorus := rfl
@[simp] theorem modNor_flash (s : State) (f : Nor → Nor) : (s.modNor f).flash = s.flash := rfl
@[simp] theorem modNor_lks (s : State) (f : Nor → Nor) : (s.modNor f).lks = s.lks := rfl
@[simp] theorem modNor_fabric (s : State) (f : Nor → Nor) : (s.modNor f).fabric = s.fabric := rfl
@[simp] theorem modNor_coda (s : State) (f : Nor → Nor) : (s.modNor f).coda = s.coda := rfl
@[simp] theorem modNor_power (s : State) (f : Nor → Nor) : (s.modNor f).power = s.power := rfl
@[simp] theorem modNor_nor (s : State) (f : Nor → Nor) : (s.modNor f).nor = f s.nor := rfl
@[simp] theorem modNor_cluster (s : State) (f : Nor → Nor) : (s.modNor f).cluster = s.cluster := rfl
@[simp] theorem modNor_fresh (s : State) (f : Nor → Nor) : (s.modNor f).fresh = s.fresh := rfl

/-! ## modCluster -/

@[simp] theorem modCluster_pending (s : State) (f : Cluster → Cluster) : (s.modCluster f).pending = s.pending := rfl
@[simp] theorem modCluster_board (s : State) (f : Cluster → Cluster) : (s.modCluster f).board = s.board := rfl
@[simp] theorem modCluster_fuses (s : State) (f : Cluster → Cluster) : (s.modCluster f).fuses = s.fuses := rfl
@[simp] theorem modCluster_units (s : State) (f : Cluster → Cluster) : (s.modCluster f).units = s.units := rfl
@[simp] theorem modCluster_tb (s : State) (f : Cluster → Cluster) : (s.modCluster f).tb = s.tb := rfl
@[simp] theorem modCluster_seq (s : State) (f : Cluster → Cluster) : (s.modCluster f).seq = s.seq := rfl
@[simp] theorem modCluster_sessions (s : State) (f : Cluster → Cluster) : (s.modCluster f).sessions = s.sessions := rfl
@[simp] theorem modCluster_mbx (s : State) (f : Cluster → Cluster) : (s.modCluster f).mbx = s.mbx := rfl
@[simp] theorem modCluster_spi (s : State) (f : Cluster → Cluster) : (s.modCluster f).spi = s.spi := rfl
@[simp] theorem modCluster_ports (s : State) (f : Cluster → Cluster) : (s.modCluster f).ports = s.ports := rfl
@[simp] theorem modCluster_store (s : State) (f : Cluster → Cluster) : (s.modCluster f).store = s.store := rfl
@[simp] theorem modCluster_snaps (s : State) (f : Cluster → Cluster) : (s.modCluster f).snaps = s.snaps := rfl
@[simp] theorem modCluster_durable (s : State) (f : Cluster → Cluster) : (s.modCluster f).durable = s.durable := rfl
@[simp] theorem modCluster_chorus (s : State) (f : Cluster → Cluster) : (s.modCluster f).chorus = s.chorus := rfl
@[simp] theorem modCluster_flash (s : State) (f : Cluster → Cluster) : (s.modCluster f).flash = s.flash := rfl
@[simp] theorem modCluster_lks (s : State) (f : Cluster → Cluster) : (s.modCluster f).lks = s.lks := rfl
@[simp] theorem modCluster_fabric (s : State) (f : Cluster → Cluster) : (s.modCluster f).fabric = s.fabric := rfl
@[simp] theorem modCluster_coda (s : State) (f : Cluster → Cluster) : (s.modCluster f).coda = s.coda := rfl
@[simp] theorem modCluster_power (s : State) (f : Cluster → Cluster) : (s.modCluster f).power = s.power := rfl
@[simp] theorem modCluster_nor (s : State) (f : Cluster → Cluster) : (s.modCluster f).nor = s.nor := rfl
@[simp] theorem modCluster_cluster (s : State) (f : Cluster → Cluster) : (s.modCluster f).cluster = f s.cluster := rfl
@[simp] theorem modCluster_fresh (s : State) (f : Cluster → Cluster) : (s.modCluster f).fresh = s.fresh := rfl

/-! ## modSpi -/

@[simp] theorem modSpi_pending (s : State) (f : Spi → Spi) : (s.modSpi f).pending = s.pending := rfl
@[simp] theorem modSpi_board (s : State) (f : Spi → Spi) : (s.modSpi f).board = s.board := rfl
@[simp] theorem modSpi_fuses (s : State) (f : Spi → Spi) : (s.modSpi f).fuses = s.fuses := rfl
@[simp] theorem modSpi_units (s : State) (f : Spi → Spi) : (s.modSpi f).units = s.units := rfl
@[simp] theorem modSpi_tb (s : State) (f : Spi → Spi) : (s.modSpi f).tb = s.tb := rfl
@[simp] theorem modSpi_seq (s : State) (f : Spi → Spi) : (s.modSpi f).seq = s.seq := rfl
@[simp] theorem modSpi_sessions (s : State) (f : Spi → Spi) : (s.modSpi f).sessions = s.sessions := rfl
@[simp] theorem modSpi_mbx (s : State) (f : Spi → Spi) : (s.modSpi f).mbx = s.mbx := rfl
@[simp] theorem modSpi_spi (s : State) (f : Spi → Spi) : (s.modSpi f).spi = f s.spi := rfl
@[simp] theorem modSpi_ports (s : State) (f : Spi → Spi) : (s.modSpi f).ports = s.ports := rfl
@[simp] theorem modSpi_store (s : State) (f : Spi → Spi) : (s.modSpi f).store = s.store := rfl
@[simp] theorem modSpi_snaps (s : State) (f : Spi → Spi) : (s.modSpi f).snaps = s.snaps := rfl
@[simp] theorem modSpi_durable (s : State) (f : Spi → Spi) : (s.modSpi f).durable = s.durable := rfl
@[simp] theorem modSpi_chorus (s : State) (f : Spi → Spi) : (s.modSpi f).chorus = s.chorus := rfl
@[simp] theorem modSpi_flash (s : State) (f : Spi → Spi) : (s.modSpi f).flash = s.flash := rfl
@[simp] theorem modSpi_lks (s : State) (f : Spi → Spi) : (s.modSpi f).lks = s.lks := rfl
@[simp] theorem modSpi_fabric (s : State) (f : Spi → Spi) : (s.modSpi f).fabric = s.fabric := rfl
@[simp] theorem modSpi_coda (s : State) (f : Spi → Spi) : (s.modSpi f).coda = s.coda := rfl
@[simp] theorem modSpi_power (s : State) (f : Spi → Spi) : (s.modSpi f).power = s.power := rfl
@[simp] theorem modSpi_nor (s : State) (f : Spi → Spi) : (s.modSpi f).nor = s.nor := rfl
@[simp] theorem modSpi_cluster (s : State) (f : Spi → Spi) : (s.modSpi f).cluster = s.cluster := rfl
@[simp] theorem modSpi_fresh (s : State) (f : Spi → Spi) : (s.modSpi f).fresh = s.fresh := rfl

/-! ## modPort -/

@[simp] theorem modPort_pending (s : State) (p : Fin 2) (f : Port → Port) : (s.modPort p f).pending = s.pending := rfl
@[simp] theorem modPort_board (s : State) (p : Fin 2) (f : Port → Port) : (s.modPort p f).board = s.board := rfl
@[simp] theorem modPort_fuses (s : State) (p : Fin 2) (f : Port → Port) : (s.modPort p f).fuses = s.fuses := rfl
@[simp] theorem modPort_units (s : State) (p : Fin 2) (f : Port → Port) : (s.modPort p f).units = s.units := rfl
@[simp] theorem modPort_tb (s : State) (p : Fin 2) (f : Port → Port) : (s.modPort p f).tb = s.tb := rfl
@[simp] theorem modPort_seq (s : State) (p : Fin 2) (f : Port → Port) : (s.modPort p f).seq = s.seq := rfl
@[simp] theorem modPort_sessions (s : State) (p : Fin 2) (f : Port → Port) : (s.modPort p f).sessions = s.sessions := rfl
@[simp] theorem modPort_mbx (s : State) (p : Fin 2) (f : Port → Port) : (s.modPort p f).mbx = s.mbx := rfl
@[simp] theorem modPort_spi (s : State) (p : Fin 2) (f : Port → Port) : (s.modPort p f).spi = s.spi := rfl
@[simp] theorem modPort_ports (s : State) (p : Fin 2) (f : Port → Port) : (s.modPort p f).ports = s.ports.set p (f s.ports[p]) := rfl
@[simp] theorem modPort_store (s : State) (p : Fin 2) (f : Port → Port) : (s.modPort p f).store = s.store := rfl
@[simp] theorem modPort_snaps (s : State) (p : Fin 2) (f : Port → Port) : (s.modPort p f).snaps = s.snaps := rfl
@[simp] theorem modPort_durable (s : State) (p : Fin 2) (f : Port → Port) : (s.modPort p f).durable = s.durable := rfl
@[simp] theorem modPort_chorus (s : State) (p : Fin 2) (f : Port → Port) : (s.modPort p f).chorus = s.chorus := rfl
@[simp] theorem modPort_flash (s : State) (p : Fin 2) (f : Port → Port) : (s.modPort p f).flash = s.flash := rfl
@[simp] theorem modPort_lks (s : State) (p : Fin 2) (f : Port → Port) : (s.modPort p f).lks = s.lks := rfl
@[simp] theorem modPort_fabric (s : State) (p : Fin 2) (f : Port → Port) : (s.modPort p f).fabric = s.fabric := rfl
@[simp] theorem modPort_coda (s : State) (p : Fin 2) (f : Port → Port) : (s.modPort p f).coda = s.coda := rfl
@[simp] theorem modPort_power (s : State) (p : Fin 2) (f : Port → Port) : (s.modPort p f).power = s.power := rfl
@[simp] theorem modPort_nor (s : State) (p : Fin 2) (f : Port → Port) : (s.modPort p f).nor = s.nor := rfl
@[simp] theorem modPort_cluster (s : State) (p : Fin 2) (f : Port → Port) : (s.modPort p f).cluster = s.cluster := rfl
@[simp] theorem modPort_fresh (s : State) (p : Fin 2) (f : Port → Port) : (s.modPort p f).fresh = s.fresh := rfl

/-! ## modNet -/

@[simp] theorem modNet_pending (s : State) (p : Fin 2) (f : PortNet → PortNet) : (s.modNet p f).pending = s.pending := rfl
@[simp] theorem modNet_board (s : State) (p : Fin 2) (f : PortNet → PortNet) : (s.modNet p f).board = s.board := rfl
@[simp] theorem modNet_fuses (s : State) (p : Fin 2) (f : PortNet → PortNet) : (s.modNet p f).fuses = s.fuses := rfl
@[simp] theorem modNet_units (s : State) (p : Fin 2) (f : PortNet → PortNet) : (s.modNet p f).units = s.units := rfl
@[simp] theorem modNet_tb (s : State) (p : Fin 2) (f : PortNet → PortNet) : (s.modNet p f).tb = s.tb := rfl
@[simp] theorem modNet_seq (s : State) (p : Fin 2) (f : PortNet → PortNet) : (s.modNet p f).seq = s.seq := rfl
@[simp] theorem modNet_sessions (s : State) (p : Fin 2) (f : PortNet → PortNet) : (s.modNet p f).sessions = s.sessions := rfl
@[simp] theorem modNet_mbx (s : State) (p : Fin 2) (f : PortNet → PortNet) : (s.modNet p f).mbx = s.mbx := rfl
@[simp] theorem modNet_spi (s : State) (p : Fin 2) (f : PortNet → PortNet) : (s.modNet p f).spi = s.spi := rfl
@[simp] theorem modNet_ports (s : State) (p : Fin 2) (f : PortNet → PortNet) : (s.modNet p f).ports = s.ports := rfl
@[simp] theorem modNet_snaps (s : State) (p : Fin 2) (f : PortNet → PortNet) : (s.modNet p f).snaps = s.snaps := rfl
@[simp] theorem modNet_durable (s : State) (p : Fin 2) (f : PortNet → PortNet) : (s.modNet p f).durable = s.durable := rfl
@[simp] theorem modNet_chorus (s : State) (p : Fin 2) (f : PortNet → PortNet) : (s.modNet p f).chorus = s.chorus := rfl
@[simp] theorem modNet_flash (s : State) (p : Fin 2) (f : PortNet → PortNet) : (s.modNet p f).flash = s.flash := rfl
@[simp] theorem modNet_lks (s : State) (p : Fin 2) (f : PortNet → PortNet) : (s.modNet p f).lks = s.lks := rfl
@[simp] theorem modNet_fabric (s : State) (p : Fin 2) (f : PortNet → PortNet) : (s.modNet p f).fabric = s.fabric := rfl
@[simp] theorem modNet_coda (s : State) (p : Fin 2) (f : PortNet → PortNet) : (s.modNet p f).coda = s.coda := rfl
@[simp] theorem modNet_power (s : State) (p : Fin 2) (f : PortNet → PortNet) : (s.modNet p f).power = s.power := rfl
@[simp] theorem modNet_nor (s : State) (p : Fin 2) (f : PortNet → PortNet) : (s.modNet p f).nor = s.nor := rfl
@[simp] theorem modNet_cluster (s : State) (p : Fin 2) (f : PortNet → PortNet) : (s.modNet p f).cluster = s.cluster := rfl
@[simp] theorem modNet_fresh (s : State) (p : Fin 2) (f : PortNet → PortNet) : (s.modNet p f).fresh = s.fresh := rfl

/-! ## modMbx -/

@[simp] theorem modMbx_pending (s : State) (m : Fin 8) (f : Mailbox → Mailbox) : (s.modMbx m f).pending = s.pending := rfl
@[simp] theorem modMbx_board (s : State) (m : Fin 8) (f : Mailbox → Mailbox) : (s.modMbx m f).board = s.board := rfl
@[simp] theorem modMbx_fuses (s : State) (m : Fin 8) (f : Mailbox → Mailbox) : (s.modMbx m f).fuses = s.fuses := rfl
@[simp] theorem modMbx_units (s : State) (m : Fin 8) (f : Mailbox → Mailbox) : (s.modMbx m f).units = s.units := rfl
@[simp] theorem modMbx_tb (s : State) (m : Fin 8) (f : Mailbox → Mailbox) : (s.modMbx m f).tb = s.tb := rfl
@[simp] theorem modMbx_seq (s : State) (m : Fin 8) (f : Mailbox → Mailbox) : (s.modMbx m f).seq = s.seq := rfl
@[simp] theorem modMbx_sessions (s : State) (m : Fin 8) (f : Mailbox → Mailbox) : (s.modMbx m f).sessions = s.sessions := rfl
@[simp] theorem modMbx_mbx (s : State) (m : Fin 8) (f : Mailbox → Mailbox) : (s.modMbx m f).mbx = s.mbx.set m (f s.mbx[m]) := rfl
@[simp] theorem modMbx_spi (s : State) (m : Fin 8) (f : Mailbox → Mailbox) : (s.modMbx m f).spi = s.spi := rfl
@[simp] theorem modMbx_ports (s : State) (m : Fin 8) (f : Mailbox → Mailbox) : (s.modMbx m f).ports = s.ports := rfl
@[simp] theorem modMbx_store (s : State) (m : Fin 8) (f : Mailbox → Mailbox) : (s.modMbx m f).store = s.store := rfl
@[simp] theorem modMbx_snaps (s : State) (m : Fin 8) (f : Mailbox → Mailbox) : (s.modMbx m f).snaps = s.snaps := rfl
@[simp] theorem modMbx_durable (s : State) (m : Fin 8) (f : Mailbox → Mailbox) : (s.modMbx m f).durable = s.durable := rfl
@[simp] theorem modMbx_chorus (s : State) (m : Fin 8) (f : Mailbox → Mailbox) : (s.modMbx m f).chorus = s.chorus := rfl
@[simp] theorem modMbx_flash (s : State) (m : Fin 8) (f : Mailbox → Mailbox) : (s.modMbx m f).flash = s.flash := rfl
@[simp] theorem modMbx_lks (s : State) (m : Fin 8) (f : Mailbox → Mailbox) : (s.modMbx m f).lks = s.lks := rfl
@[simp] theorem modMbx_fabric (s : State) (m : Fin 8) (f : Mailbox → Mailbox) : (s.modMbx m f).fabric = s.fabric := rfl
@[simp] theorem modMbx_coda (s : State) (m : Fin 8) (f : Mailbox → Mailbox) : (s.modMbx m f).coda = s.coda := rfl
@[simp] theorem modMbx_power (s : State) (m : Fin 8) (f : Mailbox → Mailbox) : (s.modMbx m f).power = s.power := rfl
@[simp] theorem modMbx_nor (s : State) (m : Fin 8) (f : Mailbox → Mailbox) : (s.modMbx m f).nor = s.nor := rfl
@[simp] theorem modMbx_cluster (s : State) (m : Fin 8) (f : Mailbox → Mailbox) : (s.modMbx m f).cluster = s.cluster := rfl
@[simp] theorem modMbx_fresh (s : State) (m : Fin 8) (f : Mailbox → Mailbox) : (s.modMbx m f).fresh = s.fresh := rfl

/-! ## modChan -/

@[simp] theorem modChan_pending (s : State) (c : Fin 32) (f : Chan → Chan) : (s.modChan c f).pending = s.pending := rfl
@[simp] theorem modChan_board (s : State) (c : Fin 32) (f : Chan → Chan) : (s.modChan c f).board = s.board := rfl
@[simp] theorem modChan_fuses (s : State) (c : Fin 32) (f : Chan → Chan) : (s.modChan c f).fuses = s.fuses := rfl
@[simp] theorem modChan_units (s : State) (c : Fin 32) (f : Chan → Chan) : (s.modChan c f).units = s.units := rfl
@[simp] theorem modChan_tb (s : State) (c : Fin 32) (f : Chan → Chan) : (s.modChan c f).tb = s.tb := rfl
@[simp] theorem modChan_seq (s : State) (c : Fin 32) (f : Chan → Chan) : (s.modChan c f).seq = s.seq := rfl
@[simp] theorem modChan_sessions (s : State) (c : Fin 32) (f : Chan → Chan) : (s.modChan c f).sessions = s.sessions := rfl
@[simp] theorem modChan_mbx (s : State) (c : Fin 32) (f : Chan → Chan) : (s.modChan c f).mbx = s.mbx := rfl
@[simp] theorem modChan_spi (s : State) (c : Fin 32) (f : Chan → Chan) : (s.modChan c f).spi = s.spi := rfl
@[simp] theorem modChan_ports (s : State) (c : Fin 32) (f : Chan → Chan) : (s.modChan c f).ports = s.ports := rfl
@[simp] theorem modChan_store (s : State) (c : Fin 32) (f : Chan → Chan) : (s.modChan c f).store = s.store := rfl
@[simp] theorem modChan_snaps (s : State) (c : Fin 32) (f : Chan → Chan) : (s.modChan c f).snaps = s.snaps := rfl
@[simp] theorem modChan_durable (s : State) (c : Fin 32) (f : Chan → Chan) : (s.modChan c f).durable = s.durable := rfl
@[simp] theorem modChan_chorus (s : State) (c : Fin 32) (f : Chan → Chan) : (s.modChan c f).chorus = s.chorus := rfl
@[simp] theorem modChan_flash (s : State) (c : Fin 32) (f : Chan → Chan) : (s.modChan c f).flash = s.flash := rfl
@[simp] theorem modChan_lks (s : State) (c : Fin 32) (f : Chan → Chan) : (s.modChan c f).lks = s.lks := rfl
@[simp] theorem modChan_coda (s : State) (c : Fin 32) (f : Chan → Chan) : (s.modChan c f).coda = s.coda := rfl
@[simp] theorem modChan_power (s : State) (c : Fin 32) (f : Chan → Chan) : (s.modChan c f).power = s.power := rfl
@[simp] theorem modChan_nor (s : State) (c : Fin 32) (f : Chan → Chan) : (s.modChan c f).nor = s.nor := rfl
@[simp] theorem modChan_cluster (s : State) (c : Fin 32) (f : Chan → Chan) : (s.modChan c f).cluster = s.cluster := rfl
@[simp] theorem modChan_fresh (s : State) (c : Fin 32) (f : Chan → Chan) : (s.modChan c f).fresh = s.fresh := rfl

/-! ## count -/

@[simp] theorem count_pending (s : State) (p : Fin 2) (c : Ctr) (n : Nat) : (s.count p c n).pending = s.pending := rfl
@[simp] theorem count_board (s : State) (p : Fin 2) (c : Ctr) (n : Nat) : (s.count p c n).board = s.board := rfl
@[simp] theorem count_fuses (s : State) (p : Fin 2) (c : Ctr) (n : Nat) : (s.count p c n).fuses = s.fuses := rfl
@[simp] theorem count_units (s : State) (p : Fin 2) (c : Ctr) (n : Nat) : (s.count p c n).units = s.units := rfl
@[simp] theorem count_tb (s : State) (p : Fin 2) (c : Ctr) (n : Nat) : (s.count p c n).tb = s.tb := rfl
@[simp] theorem count_seq (s : State) (p : Fin 2) (c : Ctr) (n : Nat) : (s.count p c n).seq = s.seq := rfl
@[simp] theorem count_sessions (s : State) (p : Fin 2) (c : Ctr) (n : Nat) : (s.count p c n).sessions = s.sessions := rfl
@[simp] theorem count_mbx (s : State) (p : Fin 2) (c : Ctr) (n : Nat) : (s.count p c n).mbx = s.mbx := rfl
@[simp] theorem count_spi (s : State) (p : Fin 2) (c : Ctr) (n : Nat) : (s.count p c n).spi = s.spi := rfl
@[simp] theorem count_store (s : State) (p : Fin 2) (c : Ctr) (n : Nat) : (s.count p c n).store = s.store := rfl
@[simp] theorem count_snaps (s : State) (p : Fin 2) (c : Ctr) (n : Nat) : (s.count p c n).snaps = s.snaps := rfl
@[simp] theorem count_durable (s : State) (p : Fin 2) (c : Ctr) (n : Nat) : (s.count p c n).durable = s.durable := rfl
@[simp] theorem count_chorus (s : State) (p : Fin 2) (c : Ctr) (n : Nat) : (s.count p c n).chorus = s.chorus := rfl
@[simp] theorem count_flash (s : State) (p : Fin 2) (c : Ctr) (n : Nat) : (s.count p c n).flash = s.flash := rfl
@[simp] theorem count_lks (s : State) (p : Fin 2) (c : Ctr) (n : Nat) : (s.count p c n).lks = s.lks := rfl
@[simp] theorem count_fabric (s : State) (p : Fin 2) (c : Ctr) (n : Nat) : (s.count p c n).fabric = s.fabric := rfl
@[simp] theorem count_coda (s : State) (p : Fin 2) (c : Ctr) (n : Nat) : (s.count p c n).coda = s.coda := rfl
@[simp] theorem count_power (s : State) (p : Fin 2) (c : Ctr) (n : Nat) : (s.count p c n).power = s.power := rfl
@[simp] theorem count_nor (s : State) (p : Fin 2) (c : Ctr) (n : Nat) : (s.count p c n).nor = s.nor := rfl
@[simp] theorem count_cluster (s : State) (p : Fin 2) (c : Ctr) (n : Nat) : (s.count p c n).cluster = s.cluster := rfl
@[simp] theorem count_fresh (s : State) (p : Fin 2) (c : Ctr) (n : Nat) : (s.count p c n).fresh = s.fresh := rfl

/-! ## report -/

@[simp] theorem report_pending (s : State) (code source : Nat) (b : Bytes) (t : Option Nat) (x : Bool) : (s.report code source b t x).pending = s.pending := rfl
@[simp] theorem report_board (s : State) (code source : Nat) (b : Bytes) (t : Option Nat) (x : Bool) : (s.report code source b t x).board = s.board := rfl
@[simp] theorem report_fuses (s : State) (code source : Nat) (b : Bytes) (t : Option Nat) (x : Bool) : (s.report code source b t x).fuses = s.fuses := rfl
@[simp] theorem report_units (s : State) (code source : Nat) (b : Bytes) (t : Option Nat) (x : Bool) : (s.report code source b t x).units = s.units := rfl
@[simp] theorem report_tb (s : State) (code source : Nat) (b : Bytes) (t : Option Nat) (x : Bool) : (s.report code source b t x).tb = s.tb := rfl
@[simp] theorem report_seq (s : State) (code source : Nat) (b : Bytes) (t : Option Nat) (x : Bool) : (s.report code source b t x).seq = s.seq := rfl
@[simp] theorem report_sessions (s : State) (code source : Nat) (b : Bytes) (t : Option Nat) (x : Bool) : (s.report code source b t x).sessions = s.sessions := rfl
@[simp] theorem report_mbx (s : State) (code source : Nat) (b : Bytes) (t : Option Nat) (x : Bool) : (s.report code source b t x).mbx = s.mbx := rfl
@[simp] theorem report_spi (s : State) (code source : Nat) (b : Bytes) (t : Option Nat) (x : Bool) : (s.report code source b t x).spi = s.spi := rfl
@[simp] theorem report_ports (s : State) (code source : Nat) (b : Bytes) (t : Option Nat) (x : Bool) : (s.report code source b t x).ports = s.ports := rfl
@[simp] theorem report_store (s : State) (code source : Nat) (b : Bytes) (t : Option Nat) (x : Bool) : (s.report code source b t x).store = s.store := rfl
@[simp] theorem report_snaps (s : State) (code source : Nat) (b : Bytes) (t : Option Nat) (x : Bool) : (s.report code source b t x).snaps = s.snaps := rfl
@[simp] theorem report_durable (s : State) (code source : Nat) (b : Bytes) (t : Option Nat) (x : Bool) : (s.report code source b t x).durable = s.durable := rfl
@[simp] theorem report_chorus (s : State) (code source : Nat) (b : Bytes) (t : Option Nat) (x : Bool) : (s.report code source b t x).chorus = s.chorus := rfl
@[simp] theorem report_flash (s : State) (code source : Nat) (b : Bytes) (t : Option Nat) (x : Bool) : (s.report code source b t x).flash = s.flash := rfl
@[simp] theorem report_lks (s : State) (code source : Nat) (b : Bytes) (t : Option Nat) (x : Bool) : (s.report code source b t x).lks = s.lks := rfl
@[simp] theorem report_fabric (s : State) (code source : Nat) (b : Bytes) (t : Option Nat) (x : Bool) : (s.report code source b t x).fabric = s.fabric := rfl
@[simp] theorem report_power (s : State) (code source : Nat) (b : Bytes) (t : Option Nat) (x : Bool) : (s.report code source b t x).power = s.power := rfl
@[simp] theorem report_nor (s : State) (code source : Nat) (b : Bytes) (t : Option Nat) (x : Bool) : (s.report code source b t x).nor = s.nor := rfl
@[simp] theorem report_cluster (s : State) (code source : Nat) (b : Bytes) (t : Option Nat) (x : Bool) : (s.report code source b t x).cluster = s.cluster := rfl
@[simp] theorem report_fresh (s : State) (code source : Nat) (b : Bytes) (t : Option Nat) (x : Bool) : (s.report code source b t x).fresh = s.fresh := rfl

/-! ## modUnit -/

@[simp] theorem modUnit_pending (s : State) (id : Nat) (f : HwUnit → HwUnit) : (s.modUnit id f).pending = s.pending := rfl
@[simp] theorem modUnit_board (s : State) (id : Nat) (f : HwUnit → HwUnit) : (s.modUnit id f).board = s.board := rfl
@[simp] theorem modUnit_fuses (s : State) (id : Nat) (f : HwUnit → HwUnit) : (s.modUnit id f).fuses = s.fuses := rfl
@[simp] theorem modUnit_tb (s : State) (id : Nat) (f : HwUnit → HwUnit) : (s.modUnit id f).tb = s.tb := rfl
@[simp] theorem modUnit_seq (s : State) (id : Nat) (f : HwUnit → HwUnit) : (s.modUnit id f).seq = s.seq := rfl
@[simp] theorem modUnit_sessions (s : State) (id : Nat) (f : HwUnit → HwUnit) : (s.modUnit id f).sessions = s.sessions := rfl
@[simp] theorem modUnit_mbx (s : State) (id : Nat) (f : HwUnit → HwUnit) : (s.modUnit id f).mbx = s.mbx := rfl
@[simp] theorem modUnit_spi (s : State) (id : Nat) (f : HwUnit → HwUnit) : (s.modUnit id f).spi = s.spi := rfl
@[simp] theorem modUnit_ports (s : State) (id : Nat) (f : HwUnit → HwUnit) : (s.modUnit id f).ports = s.ports := rfl
@[simp] theorem modUnit_store (s : State) (id : Nat) (f : HwUnit → HwUnit) : (s.modUnit id f).store = s.store := rfl
@[simp] theorem modUnit_snaps (s : State) (id : Nat) (f : HwUnit → HwUnit) : (s.modUnit id f).snaps = s.snaps := rfl
@[simp] theorem modUnit_durable (s : State) (id : Nat) (f : HwUnit → HwUnit) : (s.modUnit id f).durable = s.durable := rfl
@[simp] theorem modUnit_chorus (s : State) (id : Nat) (f : HwUnit → HwUnit) : (s.modUnit id f).chorus = s.chorus := rfl
@[simp] theorem modUnit_flash (s : State) (id : Nat) (f : HwUnit → HwUnit) : (s.modUnit id f).flash = s.flash := rfl
@[simp] theorem modUnit_lks (s : State) (id : Nat) (f : HwUnit → HwUnit) : (s.modUnit id f).lks = s.lks := rfl
@[simp] theorem modUnit_fabric (s : State) (id : Nat) (f : HwUnit → HwUnit) : (s.modUnit id f).fabric = s.fabric := rfl
@[simp] theorem modUnit_coda (s : State) (id : Nat) (f : HwUnit → HwUnit) : (s.modUnit id f).coda = s.coda := rfl
@[simp] theorem modUnit_power (s : State) (id : Nat) (f : HwUnit → HwUnit) : (s.modUnit id f).power = s.power := rfl
@[simp] theorem modUnit_nor (s : State) (id : Nat) (f : HwUnit → HwUnit) : (s.modUnit id f).nor = s.nor := rfl
@[simp] theorem modUnit_cluster (s : State) (id : Nat) (f : HwUnit → HwUnit) : (s.modUnit id f).cluster = s.cluster := rfl
@[simp] theorem modUnit_fresh (s : State) (id : Nat) (f : HwUnit → HwUnit) : (s.modUnit id f).fresh = s.fresh := rfl

/-! ## modSession -/

@[simp] theorem modSession_pending (s : State) (id : Nat) (f : Session → Session) : (s.modSession id f).pending = s.pending := rfl
@[simp] theorem modSession_board (s : State) (id : Nat) (f : Session → Session) : (s.modSession id f).board = s.board := rfl
@[simp] theorem modSession_fuses (s : State) (id : Nat) (f : Session → Session) : (s.modSession id f).fuses = s.fuses := rfl
@[simp] theorem modSession_units (s : State) (id : Nat) (f : Session → Session) : (s.modSession id f).units = s.units := rfl
@[simp] theorem modSession_tb (s : State) (id : Nat) (f : Session → Session) : (s.modSession id f).tb = s.tb := rfl
@[simp] theorem modSession_seq (s : State) (id : Nat) (f : Session → Session) : (s.modSession id f).seq = s.seq := rfl
@[simp] theorem modSession_mbx (s : State) (id : Nat) (f : Session → Session) : (s.modSession id f).mbx = s.mbx := rfl
@[simp] theorem modSession_spi (s : State) (id : Nat) (f : Session → Session) : (s.modSession id f).spi = s.spi := rfl
@[simp] theorem modSession_ports (s : State) (id : Nat) (f : Session → Session) : (s.modSession id f).ports = s.ports := rfl
@[simp] theorem modSession_store (s : State) (id : Nat) (f : Session → Session) : (s.modSession id f).store = s.store := rfl
@[simp] theorem modSession_snaps (s : State) (id : Nat) (f : Session → Session) : (s.modSession id f).snaps = s.snaps := rfl
@[simp] theorem modSession_durable (s : State) (id : Nat) (f : Session → Session) : (s.modSession id f).durable = s.durable := rfl
@[simp] theorem modSession_chorus (s : State) (id : Nat) (f : Session → Session) : (s.modSession id f).chorus = s.chorus := rfl
@[simp] theorem modSession_flash (s : State) (id : Nat) (f : Session → Session) : (s.modSession id f).flash = s.flash := rfl
@[simp] theorem modSession_lks (s : State) (id : Nat) (f : Session → Session) : (s.modSession id f).lks = s.lks := rfl
@[simp] theorem modSession_fabric (s : State) (id : Nat) (f : Session → Session) : (s.modSession id f).fabric = s.fabric := rfl
@[simp] theorem modSession_coda (s : State) (id : Nat) (f : Session → Session) : (s.modSession id f).coda = s.coda := rfl
@[simp] theorem modSession_power (s : State) (id : Nat) (f : Session → Session) : (s.modSession id f).power = s.power := rfl
@[simp] theorem modSession_nor (s : State) (id : Nat) (f : Session → Session) : (s.modSession id f).nor = s.nor := rfl
@[simp] theorem modSession_cluster (s : State) (id : Nat) (f : Session → Session) : (s.modSession id f).cluster = s.cluster := rfl
@[simp] theorem modSession_fresh (s : State) (id : Nat) (f : Session → Session) : (s.modSession id f).fresh = s.fresh := rfl

/-! ## drawn -/

@[simp] theorem drawn_pending (s : State) : (s.drawn).pending = s.pending := rfl
@[simp] theorem drawn_board (s : State) : (s.drawn).board = s.board := rfl
@[simp] theorem drawn_fuses (s : State) : (s.drawn).fuses = s.fuses := rfl
@[simp] theorem drawn_units (s : State) : (s.drawn).units = s.units := rfl
@[simp] theorem drawn_tb (s : State) : (s.drawn).tb = s.tb := rfl
@[simp] theorem drawn_seq (s : State) : (s.drawn).seq = s.seq := rfl
@[simp] theorem drawn_sessions (s : State) : (s.drawn).sessions = s.sessions := rfl
@[simp] theorem drawn_mbx (s : State) : (s.drawn).mbx = s.mbx := rfl
@[simp] theorem drawn_spi (s : State) : (s.drawn).spi = s.spi := rfl
@[simp] theorem drawn_ports (s : State) : (s.drawn).ports = s.ports := rfl
@[simp] theorem drawn_snaps (s : State) : (s.drawn).snaps = s.snaps := rfl
@[simp] theorem drawn_durable (s : State) : (s.drawn).durable = s.durable := rfl
@[simp] theorem drawn_chorus (s : State) : (s.drawn).chorus = s.chorus := rfl
@[simp] theorem drawn_flash (s : State) : (s.drawn).flash = s.flash := rfl
@[simp] theorem drawn_lks (s : State) : (s.drawn).lks = s.lks := rfl
@[simp] theorem drawn_fabric (s : State) : (s.drawn).fabric = s.fabric := rfl
@[simp] theorem drawn_coda (s : State) : (s.drawn).coda = s.coda := rfl
@[simp] theorem drawn_power (s : State) : (s.drawn).power = s.power := rfl
@[simp] theorem drawn_nor (s : State) : (s.drawn).nor = s.nor := rfl
@[simp] theorem drawn_cluster (s : State) : (s.drawn).cluster = s.cluster := rfl
@[simp] theorem drawn_fresh (s : State) : (s.drawn).fresh = s.fresh := rfl

/-! ## drawnBy -/

@[simp] theorem drawnBy_pending (s : State) (n : Nat) : (s.drawnBy n).pending = s.pending := rfl
@[simp] theorem drawnBy_board (s : State) (n : Nat) : (s.drawnBy n).board = s.board := rfl
@[simp] theorem drawnBy_fuses (s : State) (n : Nat) : (s.drawnBy n).fuses = s.fuses := rfl
@[simp] theorem drawnBy_units (s : State) (n : Nat) : (s.drawnBy n).units = s.units := rfl
@[simp] theorem drawnBy_tb (s : State) (n : Nat) : (s.drawnBy n).tb = s.tb := rfl
@[simp] theorem drawnBy_seq (s : State) (n : Nat) : (s.drawnBy n).seq = s.seq := rfl
@[simp] theorem drawnBy_sessions (s : State) (n : Nat) : (s.drawnBy n).sessions = s.sessions := rfl
@[simp] theorem drawnBy_mbx (s : State) (n : Nat) : (s.drawnBy n).mbx = s.mbx := rfl
@[simp] theorem drawnBy_spi (s : State) (n : Nat) : (s.drawnBy n).spi = s.spi := rfl
@[simp] theorem drawnBy_ports (s : State) (n : Nat) : (s.drawnBy n).ports = s.ports := rfl
@[simp] theorem drawnBy_snaps (s : State) (n : Nat) : (s.drawnBy n).snaps = s.snaps := rfl
@[simp] theorem drawnBy_durable (s : State) (n : Nat) : (s.drawnBy n).durable = s.durable := rfl
@[simp] theorem drawnBy_chorus (s : State) (n : Nat) : (s.drawnBy n).chorus = s.chorus := rfl
@[simp] theorem drawnBy_flash (s : State) (n : Nat) : (s.drawnBy n).flash = s.flash := rfl
@[simp] theorem drawnBy_lks (s : State) (n : Nat) : (s.drawnBy n).lks = s.lks := rfl
@[simp] theorem drawnBy_fabric (s : State) (n : Nat) : (s.drawnBy n).fabric = s.fabric := rfl
@[simp] theorem drawnBy_coda (s : State) (n : Nat) : (s.drawnBy n).coda = s.coda := rfl
@[simp] theorem drawnBy_power (s : State) (n : Nat) : (s.drawnBy n).power = s.power := rfl
@[simp] theorem drawnBy_nor (s : State) (n : Nat) : (s.drawnBy n).nor = s.nor := rfl
@[simp] theorem drawnBy_cluster (s : State) (n : Nat) : (s.drawnBy n).cluster = s.cluster := rfl
@[simp] theorem drawnBy_fresh (s : State) (n : Nat) : (s.drawnBy n).fresh = s.fresh := rfl

/-! ## draw -/

@[simp] theorem draw_pending (s : State) (n : Nat) : ((s.draw n).2).pending = s.pending := rfl
@[simp] theorem draw_board (s : State) (n : Nat) : ((s.draw n).2).board = s.board := rfl
@[simp] theorem draw_fuses (s : State) (n : Nat) : ((s.draw n).2).fuses = s.fuses := rfl
@[simp] theorem draw_units (s : State) (n : Nat) : ((s.draw n).2).units = s.units := rfl
@[simp] theorem draw_tb (s : State) (n : Nat) : ((s.draw n).2).tb = s.tb := rfl
@[simp] theorem draw_seq (s : State) (n : Nat) : ((s.draw n).2).seq = s.seq := rfl
@[simp] theorem draw_sessions (s : State) (n : Nat) : ((s.draw n).2).sessions = s.sessions := rfl
@[simp] theorem draw_mbx (s : State) (n : Nat) : ((s.draw n).2).mbx = s.mbx := rfl
@[simp] theorem draw_spi (s : State) (n : Nat) : ((s.draw n).2).spi = s.spi := rfl
@[simp] theorem draw_ports (s : State) (n : Nat) : ((s.draw n).2).ports = s.ports := rfl
@[simp] theorem draw_store (s : State) (n : Nat) : ((s.draw n).2).store = s.store := rfl
@[simp] theorem draw_snaps (s : State) (n : Nat) : ((s.draw n).2).snaps = s.snaps := rfl
@[simp] theorem draw_durable (s : State) (n : Nat) : ((s.draw n).2).durable = s.durable := rfl
@[simp] theorem draw_chorus (s : State) (n : Nat) : ((s.draw n).2).chorus = s.chorus := rfl
@[simp] theorem draw_flash (s : State) (n : Nat) : ((s.draw n).2).flash = s.flash := rfl
@[simp] theorem draw_lks (s : State) (n : Nat) : ((s.draw n).2).lks = s.lks := rfl
@[simp] theorem draw_fabric (s : State) (n : Nat) : ((s.draw n).2).fabric = s.fabric := rfl
@[simp] theorem draw_coda (s : State) (n : Nat) : ((s.draw n).2).coda = s.coda := rfl
@[simp] theorem draw_power (s : State) (n : Nat) : ((s.draw n).2).power = s.power := rfl
@[simp] theorem draw_nor (s : State) (n : Nat) : ((s.draw n).2).nor = s.nor := rfl
@[simp] theorem draw_cluster (s : State) (n : Nat) : ((s.draw n).2).cluster = s.cluster := rfl

/-! ## drawSealed -/

@[simp] theorem drawSealed_pending (s : State) (n : Nat) : ((s.drawSealed n).2).pending = s.pending := rfl
@[simp] theorem drawSealed_board (s : State) (n : Nat) : ((s.drawSealed n).2).board = s.board := rfl
@[simp] theorem drawSealed_fuses (s : State) (n : Nat) : ((s.drawSealed n).2).fuses = s.fuses := rfl
@[simp] theorem drawSealed_units (s : State) (n : Nat) : ((s.drawSealed n).2).units = s.units := rfl
@[simp] theorem drawSealed_tb (s : State) (n : Nat) : ((s.drawSealed n).2).tb = s.tb := rfl
@[simp] theorem drawSealed_seq (s : State) (n : Nat) : ((s.drawSealed n).2).seq = s.seq := rfl
@[simp] theorem drawSealed_sessions (s : State) (n : Nat) : ((s.drawSealed n).2).sessions = s.sessions := rfl
@[simp] theorem drawSealed_mbx (s : State) (n : Nat) : ((s.drawSealed n).2).mbx = s.mbx := rfl
@[simp] theorem drawSealed_spi (s : State) (n : Nat) : ((s.drawSealed n).2).spi = s.spi := rfl
@[simp] theorem drawSealed_ports (s : State) (n : Nat) : ((s.drawSealed n).2).ports = s.ports := rfl
@[simp] theorem drawSealed_snaps (s : State) (n : Nat) : ((s.drawSealed n).2).snaps = s.snaps := rfl
@[simp] theorem drawSealed_durable (s : State) (n : Nat) : ((s.drawSealed n).2).durable = s.durable := rfl
@[simp] theorem drawSealed_chorus (s : State) (n : Nat) : ((s.drawSealed n).2).chorus = s.chorus := rfl
@[simp] theorem drawSealed_flash (s : State) (n : Nat) : ((s.drawSealed n).2).flash = s.flash := rfl
@[simp] theorem drawSealed_lks (s : State) (n : Nat) : ((s.drawSealed n).2).lks = s.lks := rfl
@[simp] theorem drawSealed_fabric (s : State) (n : Nat) : ((s.drawSealed n).2).fabric = s.fabric := rfl
@[simp] theorem drawSealed_coda (s : State) (n : Nat) : ((s.drawSealed n).2).coda = s.coda := rfl
@[simp] theorem drawSealed_power (s : State) (n : Nat) : ((s.drawSealed n).2).power = s.power := rfl
@[simp] theorem drawSealed_nor (s : State) (n : Nat) : ((s.drawSealed n).2).nor = s.nor := rfl
@[simp] theorem drawSealed_cluster (s : State) (n : Nat) : ((s.drawSealed n).2).cluster = s.cluster := rfl
@[simp] theorem drawSealed_fresh (s : State) (n : Nat) : ((s.drawSealed n).2).fresh = s.fresh := rfl

/-! ## modLun -/

@[simp] theorem modLun_pending (s : State) (id : Nat) (f : Lun → Lun) : (s.modLun id f).pending = s.pending := rfl
@[simp] theorem modLun_board (s : State) (id : Nat) (f : Lun → Lun) : (s.modLun id f).board = s.board := rfl
@[simp] theorem modLun_fuses (s : State) (id : Nat) (f : Lun → Lun) : (s.modLun id f).fuses = s.fuses := rfl
@[simp] theorem modLun_units (s : State) (id : Nat) (f : Lun → Lun) : (s.modLun id f).units = s.units := rfl
@[simp] theorem modLun_tb (s : State) (id : Nat) (f : Lun → Lun) : (s.modLun id f).tb = s.tb := rfl
@[simp] theorem modLun_seq (s : State) (id : Nat) (f : Lun → Lun) : (s.modLun id f).seq = s.seq := rfl
@[simp] theorem modLun_sessions (s : State) (id : Nat) (f : Lun → Lun) : (s.modLun id f).sessions = s.sessions := rfl
@[simp] theorem modLun_mbx (s : State) (id : Nat) (f : Lun → Lun) : (s.modLun id f).mbx = s.mbx := rfl
@[simp] theorem modLun_spi (s : State) (id : Nat) (f : Lun → Lun) : (s.modLun id f).spi = s.spi := rfl
@[simp] theorem modLun_ports (s : State) (id : Nat) (f : Lun → Lun) : (s.modLun id f).ports = s.ports := rfl
@[simp] theorem modLun_store (s : State) (id : Nat) (f : Lun → Lun) : (s.modLun id f).store = s.store := rfl
@[simp] theorem modLun_snaps (s : State) (id : Nat) (f : Lun → Lun) : (s.modLun id f).snaps = s.snaps := rfl
@[simp] theorem modLun_durable (s : State) (id : Nat) (f : Lun → Lun) : (s.modLun id f).durable = s.durable := rfl
@[simp] theorem modLun_chorus (s : State) (id : Nat) (f : Lun → Lun) : (s.modLun id f).chorus = s.chorus := rfl
@[simp] theorem modLun_lks (s : State) (id : Nat) (f : Lun → Lun) : (s.modLun id f).lks = s.lks := rfl
@[simp] theorem modLun_fabric (s : State) (id : Nat) (f : Lun → Lun) : (s.modLun id f).fabric = s.fabric := rfl
@[simp] theorem modLun_coda (s : State) (id : Nat) (f : Lun → Lun) : (s.modLun id f).coda = s.coda := rfl
@[simp] theorem modLun_power (s : State) (id : Nat) (f : Lun → Lun) : (s.modLun id f).power = s.power := rfl
@[simp] theorem modLun_nor (s : State) (id : Nat) (f : Lun → Lun) : (s.modLun id f).nor = s.nor := rfl
@[simp] theorem modLun_cluster (s : State) (id : Nat) (f : Lun → Lun) : (s.modLun id f).cluster = s.cluster := rfl
@[simp] theorem modLun_fresh (s : State) (id : Nat) (f : Lun → Lun) : (s.modLun id f).fresh = s.fresh := rfl

/-! ## modSb -/

@[simp] theorem modSb_pending (s : State) (g n : Nat) (f : Superblock → Superblock) : (s.modSb g n f).pending = s.pending := rfl
@[simp] theorem modSb_board (s : State) (g n : Nat) (f : Superblock → Superblock) : (s.modSb g n f).board = s.board := rfl
@[simp] theorem modSb_fuses (s : State) (g n : Nat) (f : Superblock → Superblock) : (s.modSb g n f).fuses = s.fuses := rfl
@[simp] theorem modSb_units (s : State) (g n : Nat) (f : Superblock → Superblock) : (s.modSb g n f).units = s.units := rfl
@[simp] theorem modSb_tb (s : State) (g n : Nat) (f : Superblock → Superblock) : (s.modSb g n f).tb = s.tb := rfl
@[simp] theorem modSb_seq (s : State) (g n : Nat) (f : Superblock → Superblock) : (s.modSb g n f).seq = s.seq := rfl
@[simp] theorem modSb_sessions (s : State) (g n : Nat) (f : Superblock → Superblock) : (s.modSb g n f).sessions = s.sessions := rfl
@[simp] theorem modSb_mbx (s : State) (g n : Nat) (f : Superblock → Superblock) : (s.modSb g n f).mbx = s.mbx := rfl
@[simp] theorem modSb_spi (s : State) (g n : Nat) (f : Superblock → Superblock) : (s.modSb g n f).spi = s.spi := rfl
@[simp] theorem modSb_ports (s : State) (g n : Nat) (f : Superblock → Superblock) : (s.modSb g n f).ports = s.ports := rfl
@[simp] theorem modSb_store (s : State) (g n : Nat) (f : Superblock → Superblock) : (s.modSb g n f).store = s.store := rfl
@[simp] theorem modSb_snaps (s : State) (g n : Nat) (f : Superblock → Superblock) : (s.modSb g n f).snaps = s.snaps := rfl
@[simp] theorem modSb_durable (s : State) (g n : Nat) (f : Superblock → Superblock) : (s.modSb g n f).durable = s.durable := rfl
@[simp] theorem modSb_chorus (s : State) (g n : Nat) (f : Superblock → Superblock) : (s.modSb g n f).chorus = s.chorus := rfl
@[simp] theorem modSb_lks (s : State) (g n : Nat) (f : Superblock → Superblock) : (s.modSb g n f).lks = s.lks := rfl
@[simp] theorem modSb_fabric (s : State) (g n : Nat) (f : Superblock → Superblock) : (s.modSb g n f).fabric = s.fabric := rfl
@[simp] theorem modSb_coda (s : State) (g n : Nat) (f : Superblock → Superblock) : (s.modSb g n f).coda = s.coda := rfl
@[simp] theorem modSb_power (s : State) (g n : Nat) (f : Superblock → Superblock) : (s.modSb g n f).power = s.power := rfl
@[simp] theorem modSb_nor (s : State) (g n : Nat) (f : Superblock → Superblock) : (s.modSb g n f).nor = s.nor := rfl
@[simp] theorem modSb_cluster (s : State) (g n : Nat) (f : Superblock → Superblock) : (s.modSb g n f).cluster = s.cluster := rfl
@[simp] theorem modSb_fresh (s : State) (g n : Nat) (f : Superblock → Superblock) : (s.modSb g n f).fresh = s.fresh := rfl

/-! ## modBus -/

@[simp] theorem modBus_pending (s : State) (c : Fin 8) (f : Bus → Bus) : (s.modBus c f).pending = s.pending := rfl
@[simp] theorem modBus_board (s : State) (c : Fin 8) (f : Bus → Bus) : (s.modBus c f).board = s.board := rfl
@[simp] theorem modBus_fuses (s : State) (c : Fin 8) (f : Bus → Bus) : (s.modBus c f).fuses = s.fuses := rfl
@[simp] theorem modBus_units (s : State) (c : Fin 8) (f : Bus → Bus) : (s.modBus c f).units = s.units := rfl
@[simp] theorem modBus_tb (s : State) (c : Fin 8) (f : Bus → Bus) : (s.modBus c f).tb = s.tb := rfl
@[simp] theorem modBus_seq (s : State) (c : Fin 8) (f : Bus → Bus) : (s.modBus c f).seq = s.seq := rfl
@[simp] theorem modBus_sessions (s : State) (c : Fin 8) (f : Bus → Bus) : (s.modBus c f).sessions = s.sessions := rfl
@[simp] theorem modBus_mbx (s : State) (c : Fin 8) (f : Bus → Bus) : (s.modBus c f).mbx = s.mbx := rfl
@[simp] theorem modBus_spi (s : State) (c : Fin 8) (f : Bus → Bus) : (s.modBus c f).spi = s.spi := rfl
@[simp] theorem modBus_ports (s : State) (c : Fin 8) (f : Bus → Bus) : (s.modBus c f).ports = s.ports := rfl
@[simp] theorem modBus_store (s : State) (c : Fin 8) (f : Bus → Bus) : (s.modBus c f).store = s.store := rfl
@[simp] theorem modBus_snaps (s : State) (c : Fin 8) (f : Bus → Bus) : (s.modBus c f).snaps = s.snaps := rfl
@[simp] theorem modBus_durable (s : State) (c : Fin 8) (f : Bus → Bus) : (s.modBus c f).durable = s.durable := rfl
@[simp] theorem modBus_chorus (s : State) (c : Fin 8) (f : Bus → Bus) : (s.modBus c f).chorus = s.chorus := rfl
@[simp] theorem modBus_lks (s : State) (c : Fin 8) (f : Bus → Bus) : (s.modBus c f).lks = s.lks := rfl
@[simp] theorem modBus_fabric (s : State) (c : Fin 8) (f : Bus → Bus) : (s.modBus c f).fabric = s.fabric := rfl
@[simp] theorem modBus_coda (s : State) (c : Fin 8) (f : Bus → Bus) : (s.modBus c f).coda = s.coda := rfl
@[simp] theorem modBus_power (s : State) (c : Fin 8) (f : Bus → Bus) : (s.modBus c f).power = s.power := rfl
@[simp] theorem modBus_nor (s : State) (c : Fin 8) (f : Bus → Bus) : (s.modBus c f).nor = s.nor := rfl
@[simp] theorem modBus_cluster (s : State) (c : Fin 8) (f : Bus → Bus) : (s.modBus c f).cluster = s.cluster := rfl
@[simp] theorem modBus_fresh (s : State) (c : Fin 8) (f : Bus → Bus) : (s.modBus c f).fresh = s.fresh := rfl

/-! ## modReplay -/

@[simp] theorem modReplay_pending (s : State) (id seq : Nat) (f : Replay → Replay) : (s.modReplay id seq f).pending = s.pending := rfl
@[simp] theorem modReplay_board (s : State) (id seq : Nat) (f : Replay → Replay) : (s.modReplay id seq f).board = s.board := rfl
@[simp] theorem modReplay_fuses (s : State) (id seq : Nat) (f : Replay → Replay) : (s.modReplay id seq f).fuses = s.fuses := rfl
@[simp] theorem modReplay_units (s : State) (id seq : Nat) (f : Replay → Replay) : (s.modReplay id seq f).units = s.units := rfl
@[simp] theorem modReplay_tb (s : State) (id seq : Nat) (f : Replay → Replay) : (s.modReplay id seq f).tb = s.tb := rfl
@[simp] theorem modReplay_seq (s : State) (id seq : Nat) (f : Replay → Replay) : (s.modReplay id seq f).seq = s.seq := rfl
@[simp] theorem modReplay_mbx (s : State) (id seq : Nat) (f : Replay → Replay) : (s.modReplay id seq f).mbx = s.mbx := rfl
@[simp] theorem modReplay_spi (s : State) (id seq : Nat) (f : Replay → Replay) : (s.modReplay id seq f).spi = s.spi := rfl
@[simp] theorem modReplay_ports (s : State) (id seq : Nat) (f : Replay → Replay) : (s.modReplay id seq f).ports = s.ports := rfl
@[simp] theorem modReplay_store (s : State) (id seq : Nat) (f : Replay → Replay) : (s.modReplay id seq f).store = s.store := rfl
@[simp] theorem modReplay_snaps (s : State) (id seq : Nat) (f : Replay → Replay) : (s.modReplay id seq f).snaps = s.snaps := rfl
@[simp] theorem modReplay_durable (s : State) (id seq : Nat) (f : Replay → Replay) : (s.modReplay id seq f).durable = s.durable := rfl
@[simp] theorem modReplay_chorus (s : State) (id seq : Nat) (f : Replay → Replay) : (s.modReplay id seq f).chorus = s.chorus := rfl
@[simp] theorem modReplay_flash (s : State) (id seq : Nat) (f : Replay → Replay) : (s.modReplay id seq f).flash = s.flash := rfl
@[simp] theorem modReplay_lks (s : State) (id seq : Nat) (f : Replay → Replay) : (s.modReplay id seq f).lks = s.lks := rfl
@[simp] theorem modReplay_fabric (s : State) (id seq : Nat) (f : Replay → Replay) : (s.modReplay id seq f).fabric = s.fabric := rfl
@[simp] theorem modReplay_coda (s : State) (id seq : Nat) (f : Replay → Replay) : (s.modReplay id seq f).coda = s.coda := rfl
@[simp] theorem modReplay_power (s : State) (id seq : Nat) (f : Replay → Replay) : (s.modReplay id seq f).power = s.power := rfl
@[simp] theorem modReplay_nor (s : State) (id seq : Nat) (f : Replay → Replay) : (s.modReplay id seq f).nor = s.nor := rfl
@[simp] theorem modReplay_cluster (s : State) (id seq : Nat) (f : Replay → Replay) : (s.modReplay id seq f).cluster = s.cluster := rfl
@[simp] theorem modReplay_fresh (s : State) (id seq : Nat) (f : Replay → Replay) : (s.modReplay id seq f).fresh = s.fresh := rfl

/-! ## Parts with a number -/

/-- The part with the number that was changed. -/
theorem find_map_same {α : Type} (key : α → Nat) (f : α → α) (hf : ∀ x, key (f x) = key x) (k : Nat) (l : List α) :
    (l.map fun x => if key x == k then f x else x).find? (fun x => key x == k) = (l.find? fun x => key x == k).map f := by
  induction l with
  | nil => rfl
  | cons x t ih =>
    cases h : key x == k <;> simp_all

/-- A part with another number stays. -/
theorem find_map_other {α : Type} (key : α → Nat) (f : α → α) (hf : ∀ x, key (f x) = key x) {j k : Nat} (h : j ≠ k) (l : List α) :
    (l.map fun x => if key x == k then f x else x).find? (fun x => key x == j) = l.find? fun x => key x == j := by
  induction l with
  | nil => rfl
  | cons x t ih =>
    by_cases hx : key x = k
    · have hj : ¬ key x = j := fun e => h (e.symm.trans hx)
      simp_all
    · simp_all [List.find?_cons]

theorem modSession_session (s : State) (id : Nat) (f : Session → Session) (hf : ∀ x, (f x).id = x.id) :
    (s.modSession id f).session id = (s.session id).map f := find_map_same Session.id f hf id s.sessions

theorem modSession_other (s : State) (id k : Nat) (f : Session → Session) (hf : ∀ x, (f x).id = x.id) (h : k ≠ id) :
    (s.modSession id f).session k = s.session k := find_map_other Session.id f hf h s.sessions

theorem modUnit_unit (s : State) (id : Nat) (f : HwUnit → HwUnit) (hf : ∀ x, (f x).id = x.id) :
    (s.modUnit id f).unit id = (s.unit id).map f := find_map_same HwUnit.id f hf id s.units

theorem modUnit_other (s : State) (id k : Nat) (f : HwUnit → HwUnit) (hf : ∀ x, (f x).id = x.id) (h : k ≠ id) :
    (s.modUnit id f).unit k = s.unit k := find_map_other HwUnit.id f hf h s.units

theorem modLun_lun (s : State) (id : Nat) (f : Lun → Lun) (hf : ∀ x, (f x).id = x.id) :
    (s.modLun id f).lun id = (s.lun id).map f := find_map_same Lun.id f hf id s.flash.luns

theorem modLun_other (s : State) (id k : Nat) (f : Lun → Lun) (hf : ∀ x, (f x).id = x.id) (h : k ≠ id) :
    (s.modLun id f).lun k = s.lun k := find_map_other Lun.id f hf h s.flash.luns

/-! ## Ports, mailboxes and channels by number -/

@[simp] theorem modPort_port (s : State) (p : Fin 2) (f : Port → Port) : (s.modPort p f).port p = f (s.port p) := by
  simp [State.modPort, State.port]

@[simp] theorem modPort_other (s : State) (p q : Fin 2) (f : Port → Port) (h : q ≠ p) : (s.modPort p f).port q = s.port q := by
  have : p.val ≠ q.val := fun e => h (Fin.ext e.symm)
  simp [State.modPort, State.port, this]

@[simp] theorem modMbx_other (s : State) (m k : Fin 8) (f : Mailbox → Mailbox) (h : k ≠ m) : (s.modMbx m f).mb k = s.mb k := by
  have : m.val ≠ k.val := fun e => h (Fin.ext e.symm)
  simp [State.modMbx, State.mb, this]

@[simp] theorem modChan_chan (s : State) (c : Fin 32) (f : Chan → Chan) : (s.modChan c f).chan c = f (s.chan c) := by
  simp [State.modChan, State.modFabric, State.chan]

@[simp] theorem modChan_other (s : State) (c d : Fin 32) (f : Chan → Chan) (h : d ≠ c) : (s.modChan c f).chan d = s.chan d := by
  have : c.val ≠ d.val := fun e => h (Fin.ext e.symm)
  simp [State.modChan, State.modFabric, State.chan, this]

end Sys2Proof.Laws
end

