-- ==== Sys2Proof/Tests/World.lean ====
section
/-! SUPPORT. Small states for the tests: a drive in Service with an open measure and a few keys, a session, a Chorus of one
member. Each is written out by hand from State.reset; no run makes them. -/

namespace Sys2Proof.Tests

open Sys2Proof Sys2Proof.Machine

/-- A command through mailbox 0, which the SEC owner holds. -/
def cmd (args : Bytes) : Cmd := ⟨0, 1, args⟩

/-- That command, of opcode `op`, in the list of measure 99. -/
def sc (op : Nat) (args : Bytes) : SealedCmd := ⟨op, cmd args, 1, 99⟩

/-- A drive in Service: measure 100 is open, every unit is ONLINE, both links are up. -/
def up : State :=
  { State.reset with
    units := State.reset.units.map fun u => { u with data := .online }
    ports := Vector.replicate 2 { Port.reset with link := true, rate := 4 }
    tb := { Timebase.reset with opened := true, measure := 100, highest := 100, sealLog := [(99, [1]), (98, [2])] }
    power := { Power.reset with mode := .service, inReset := false, loaded := true, ready := true, xtal32 := true } }

/-- An ORDINARY namespace with one key. -/
def ns1 : Namespace := ⟨1, .ordinary, 0, 0, 0, 0, [⟨[1], [10, 11], 1, 90, [], 0⟩], 0, [], 0⟩

/-- A LEDGER namespace with one record. -/
def ns2 : Namespace := ⟨2, .ledger, 0, 0, 5, 0, [⟨be 8 1, zeros 51, 1, 90, [], 1⟩], 1, [7], 1⟩

/-- A STAGING namespace with one key. -/
def ns3 : Namespace := ⟨3, .staging, 0, 0, 0, 0, [⟨[77], [1, 2], 1, 90, [], 2⟩], 0, [], 0⟩

/-- `up` with a format, the three namespaces and a ledger key. -/
def full : State :=
  { up with store := { up.store with
      format := some ⟨64, 1000, 16, 10, 10⟩
      nss := [ns1, ns2, ns3]
      counters := [(1, 1), (2, 1), (3, 1)]
      ledgerKey := some 0 } }

/-- Where SKP requests come from. -/
def src0 : Source := ⟨0, 0, 10, 1000, false, false⟩

/-- An open session, with next sequence 5 and an admitted request of sequence 3 in its replay records. -/
def sess : Session := 
  ⟨1, true, 10, 1000, false, 32, [], [], 90, 5, [], [], [⟨3, 100, 100, 1, none, false, [], false, true, none⟩], false⟩

/-- `full` with that session. -/
def talk : State := { full with sessions := [sess] }

/-- The session's next request, to namespace 1. -/
def rq (op : Nat) (key body : Bytes) (length : Nat) : Request := ⟨src0, op, 0, 1, 1, 0, 5, 0, 0, 0, length, 0, 0, key, body⟩

/-- The arguments of CHORUS.FORM for namespaces 10 (ORDINARY, two shards) and 11 (LEDGER), in force from measure `e`. -/
def formBytes (e members self rf : Nat) : Bytes :=
  let head := be 8 0xABC ++ be 6 e ++ be 1 members ++ be 1 self ++ be 1 rf ++ be 1 2 ++ be 1 1 ++ be 1 0 ++ be 4 0 ++ be 8 0 ++
    be 16 (0xFF02 * 2 ^ 112 + 1) ++ be 4 0xE0000001 ++ be 4 0
  let tab := ((List.range members).map fun k => be 8 (k + 1) ++ be 16 (0xFE80 * 2 ^ 112 + 100 + k)).flatten
  padTo 488 (padTo 248 (head ++ tab) ++ (be 1 10 ++ be 1 1 ++ be 2 0 ++ be 4 100 ++ be 8 1000000) ++
    (be 1 11 ++ be 1 0 ++ be 2 0 ++ be 4 100 ++ be 8 1000000))

/-- `talk` with the two namespaces a Chorus takes. -/
def forForm : State :=
  { talk with store := { talk.store with nss := [⟨10, .ordinary, 0, 0, 0, 0, [], 0, [], 0⟩, ⟨11, .ledger, 0, 0, 5, 0, [], 0, [], 0⟩] } }

/-- A formed Chorus of three members, each shard with two holders; this drive is member 0. -/
def ch3 : Chorus := { (formArgs (formBytes 90 3 0 2)).chorus with lastSealed := 97 }

/-- A drive in a Chorus, every member unit ONLINE. -/
def inChorusOf (c : Chorus) : State :=
  { forForm with
    units := forForm.units ++ [.fresh 0x6000 .online, .fresh 0x6001 .online, .fresh 0x6002 .online]
    store := { forForm.store with chorus := some c } }

/-- A checkpoint with what the member holds. -/
def snap10 : Snapshot := ⟨5, 95, 1024, [0, 1, 2], forForm.store.nss, ch3.shards, zeros 32, ch3.nss, 1, none⟩

/-- A restore of that checkpoint, its manifest complete and no shard begun. -/
def rest : Restore := ⟨5, ch3.manifest snap10, true, 1, 95, [], 0, none⟩

/-- Mailbox 0 of `up` takes any command; so arguments that pass a row's checks are all that `entersMeasure` still needs. -/
theorem enters_up (args : Bytes) (ok : Board → Bytes → Prop) (o : Owner) (h : ok up.board args) :
    ∃ (c : Cmd) (s : State), s.readySealed c o ∧ ok s.board c.args := by
  refine ⟨cmd args, up, ?_, h⟩
  unfold State.readySealed State.ready
  cases o <;> exact ⟨⟨rfl, rfl, rfl, rfl, rfl, rfl, rfl⟩, rfl⟩

/-- A value that is there. -/
theorem some_getD {α : Type} {o : Option α} {d : α} (h : o.isSome = true) : o = some (o.getD d) := by
  cases o with
  | none => simp at h
  | some x => rfl

end Sys2Proof.Tests
end

