-- ==== Sys2Proof/Tests/Slice0.lean ====
section
/-! SUPPORT. The smoke test of WellFormed, with an ill-formed command for each check, and small tests whose expected values are
those of the manual's worked examples and tables. -/

namespace Sys2Proof.Tests

open Sys2Proof Sys2Proof.Machine

set_option Elab.async false

/-! ## WellFormed: each check refuses -/

theorem test_wf_request : (Instr.get (rq 1 [1] [] 0)).wf = true := by decide +kernel

theorem test_wf_source_vid : (Instr.get { rq 1 [1] [] 0 with src := { src0 with vid := 4096 } }).wf = false := by decide +kernel

theorem test_wf_request_fields :
    ([{ rq 1 [1] [] 0 with flags := 2 ^ 16 }, { rq 1 [1] [] 0 with ns := 256 }, { rq 1 [1] [] 0 with session := 2 ^ 16 },
      { rq 1 [1] [] 0 with seq := 2 ^ 32 }, { rq 1 [1] [] 0 with target := 2 ^ 48 }, { rq 1 [1] [] 0 with offset := 2 ^ 64 },
      { rq 1 [1] [] 0 with length := 2 ^ 32 }, { rq 1 [1] [] 0 with segment := 2 ^ 16 }, { rq 1 [1] [] 0 with status := 2 ^ 16 },
      { rq 1 [1] [] 0 with key := zeros 256 }].any fun r => (Instr.get r).wf) = false := by decide +kernel

theorem test_wf_body : (Instr.put (rq 2 [1] (zeros 8193) 0)).wf = false := by decide +kernel

theorem test_wf_command_args : (Instr.deviceEcho (cmd (zeros 497))).wf = false := by decide +kernel

theorem test_wf_command_sequence : (Instr.deviceEcho ⟨0, 2 ^ 32, []⟩).wf = false := by decide +kernel

theorem test_wf_frames :
    ([{ len := 64, fcsOk := true, dst := 2 ^ 48, srcMac := 0, vlan := none, sec := none, content := .arpOther },
      { len := 64, fcsOk := true, dst := 0, srcMac := 0, vlan := some (1, 8), sec := none, content := .arpOther },
      { len := 64, fcsOk := true, dst := 0, srcMac := 0, vlan := none, sec := some ⟨4, 0, zeros 16⟩, content := .arpOther },
      { len := 64, fcsOk := true, dst := 0, srcMac := 0, vlan := none, sec := some ⟨1, 0, zeros 15⟩, content := .arpOther },
      { len := 64, fcsOk := true, dst := 0, srcMac := 0, vlan := none, sec := none, content := .pause (2 ^ 16) }].any fun f =>
      (Instr.rxFrameCheck 0 f).wf) = false := by decide +kernel

theorem test_wf_events :
    ([.pullResponseReceive ⟨1, 1, 2 ^ 48, 0, 0, 0, []⟩, .gptpSyncReceive 0 0 (2 ^ 64), .measureTick 0 ⟨128, false, false, false⟩,
      .chainConfirmDeadline (2 ^ 48), .linkUp 0 5 true, .phyIntPoll 0 (2 ^ 16) 0, .batchDeadline (2 ^ 16),
      .watchDurationEnd 0 (2 ^ 32), .evacuation (2 ^ 16), .nandOpComplete 0x1000 (.fail 4),
      .nandOpComplete 0x1000 (.read (List.replicate 9 none) none []), .nandOpComplete 0x1000 (.read [] none (List.replicate 16 [])),
      .eraseDone 0 ⟨0, 2 ^ 16⟩, .scrub 0 ⟨0, 2 ^ 16⟩ 0 0 0, .firstMeasureOpen ⟨0, ⟨[2 ^ 16], [], [], [], []⟩⟩,
      .temperatureSample [(0x1000, 128)], .larkspurScrub [⟨2 ^ 17, false, 1, false⟩],
      .larkspurScrub [⟨0, false, 2 ^ 256, false⟩], .larkspurScrub [⟨0, true, 2 ^ 266, false⟩],
      .cascadeTransaction 0 (zeros 65) false (zeros 4), .cascadeTransaction 0 [] false (zeros 3),
      .internalFatalError (2 ^ 16) 0, .protectionFault 0 .load (2 ^ 32) 1, .ownershipRequest 0 [1, 1] false,
      .thermalShutdown 256, .mbxRequestWindowWrite 510 (zeros 4), .mbxRequestWindowWrite 508 (zeros 8),
      .spiReadFrame (zeros 1033)].any Instr.wf) = false := by decide +kernel

/-! ## Bytes of the worked examples -/

/-- 05, a GET on member 0: the 67 bytes of the request. -/
def exampleGet : Bytes :=
  [0x53, 0x4B, 0x03, 0x01, 0x00, 0x01, 0x20, 0x1B, 0x00, 0x03, 0x00, 0x00, 0x00, 0x00, 0x00, 0x4D] ++ zeros 24 ++
  [0x64, 0x72, 0x76, 0x2F, 0x34, 0x34, 0x37, 0x31, 0x2F, 0x32, 0x30, 0x32, 0x34, 0x2D, 0x30, 0x35, 0x2D, 0x31, 0x33, 0x2F,
   0x73, 0x68, 0x69, 0x66, 0x74, 0x2D, 0x32]

theorem test_example_get_length : exampleGet.length = 67 := by decide

theorem test_example_get_fields :
    (parseRequest src0 exampleGet).op = 1 ∧ (parseRequest src0 exampleGet).flags = 1 ∧ (parseRequest src0 exampleGet).ns = 0x20 ∧
    (parseRequest src0 exampleGet).session = 3 ∧ (parseRequest src0 exampleGet).seq = 77 ∧
    (parseRequest src0 exampleGet).key.length = 27 ∧ (parseRequest src0 exampleGet).body = [] := by decide +kernel

/-- 05: the first 40 bytes of the response, with its measure and length. -/
theorem test_example_get_response :
    skpHeader 0x81 1 0x20 0 3 0 77 0x063DC2255C00 0 0 2100 0 0 =
      [0x53, 0x4B, 0x03, 0x81, 0x00, 0x01, 0x20, 0x00, 0x00, 0x03, 0x00, 0x00, 0x00, 0x00, 0x00, 0x4D,
       0x06, 0x3D, 0xC2, 0x25, 0x5C, 0x00, 0x00, 0x00, 0x00, 0x00, 0x00, 0x00, 0x00, 0x00, 0x00, 0x00,
       0x00, 0x00, 0x08, 0x34, 0x00, 0x00, 0x00, 0x00] := by decide +kernel

/-- 05, a segmented package: the header of the committing SEGMENT. -/
theorem test_example_segment :
    let r := parseRequest src0
      [0x53, 0x4B, 0x03, 0x0B, 0x00, 0x06, 0x30, 0x00, 0x01, 0x07, 0x00, 0x00, 0x00, 0x00, 0x0A, 0x33,
       0x00, 0x00, 0x00, 0x00, 0x00, 0x00, 0x00, 0x00, 0x00, 0x00, 0x00, 0x00, 0x00, 0x4C, 0x40, 0x00,
       0x00, 0x00, 0x0B, 0x40, 0x02, 0x62, 0x00, 0x00]
    r.op = 0x0B ∧ bit r.flags 2 = true ∧ r.session = 0x0107 ∧ r.seq = 2611 ∧ r.offset = 610 * 8192 ∧ r.length = 2880 ∧
    r.segment = 610 := by decide +kernel

/-- 04, fencing a LUN: the frame that loads mailbox 1. -/
def exampleFence : Bytes :=
  [0x02, 0x00, 0x18, 0x00, 0x00, 0x05, 0x03, 0x02, 0x01, 0x00, 0x00, 0x00, 0x00, 0x2A, 0x00, 0x04,
   0x00, 0x00, 0x00, 0x00, 0x00, 0x00, 0x10, 0x23, 0x01, 0x00, 0x00]

/-- A drive in Service with mailbox 1 selected and the example's LUN, DEGRADED, open in the example's measure N + 40. The
example's LUN has number 3 on its chip enable, which a board of 2 LUNs a chip enable does not have: it is added here. -/
def gateway : State :=
  { up with
    spi := { up.spi with winsel := 1 }
    units := up.units ++ [.fresh 0x1023 .degraded]
    tb := { up.tb with measure := 0x063DC2255C28, highest := 0x063DC2255C28 } }

theorem test_example_fence_loads :
    ((gateway.writeFrame exampleFence).mb 1).state = .loading ∧ (gateway.writeFrame exampleFence).spi.portStat = 0x01 ∧
    ((gateway.writeFrame exampleFence).mb 1).command 1 = ⟨1, 42, [0x10, 0x23, 0x01, 0x00]⟩ := by decide +kernel

theorem test_example_fence_answer :
    ((cmdUnitSetState.act ⟨0x0302, ⟨1, 42, [0x10, 0x23, 0x01, 0x00]⟩, 0, 0x063DC2255C28⟩ gateway).2 = (.ok, [0x10, 0x23, 0x03, 0x01])) ∧
    responseEnvelope 0x0302 1 false 42 0 (0x063DC2255C28 % 2 ^ 32) [0x10, 0x23, 0x03, 0x01] =
      [0x03, 0x02, 0x01, 0x01, 0x00, 0x00, 0x00, 0x2A, 0x00, 0x04, 0x00, 0x00, 0xC2, 0x25, 0x5C, 0x28,
       0x10, 0x23, 0x03, 0x01] := by decide +kernel

/-- 04: the fenced LUN is FENCED to management, and its effective state follows. -/
theorem test_example_fence_effect :
    let t := (cmdUnitSetState.act ⟨0x0302, ⟨1, 42, [0x10, 0x23, 0x01, 0x00]⟩, 0, 0x063DC2255C28⟩ gateway).1
    t.mgmtView 0x1023 = .fenced ∧ t.effective 0x1023 = .fenced ∧ t.dataView 0x1023 = .degraded ∧ t.mgmtView 0x1022 = .online := by
  decide +kernel

/-- 15, creating a ledger over Ethernet: the message of 92 bytes. -/
def exampleLedger : Bytes :=
  [0x53, 0x4B, 0x03, 0x20] ++ zeros 28 ++ [0x00, 0x00, 0x00, 0x34, 0x00, 0x00, 0x00, 0x00] ++
  [0x04, 0x01, 0x02, 0x00, 0x00, 0x00, 0x00, 0x11, 0x00, 0x24, 0x00, 0x00, 0x00, 0x00, 0x00, 0x00] ++
  [0x22, 0x02, 0x00, 0x00, 0x00, 0x00, 0x00, 0x08, 0x00, 0x00, 0x00, 0x00, 0x00, 0x00, 0x00, 0x02,
   0x00, 0x00, 0x00, 0x00, 0x00, 0x00, 0x00, 0x1D, 0x73, 0x5E, 0x20, 0x00, 0x00, 0x00, 0x00, 0x00, 0x20, 0x24, 0x05, 0x13]

theorem test_example_ledger_posts :
    (up.mgmtRx src0 exampleLedger).mb 2 =
      { up.mb 2 with state := .posted, eth := true, peer := some src0, request := padTo 512 (exampleLedger.drop 40) } ∧
    ((up.mgmtRx src0 exampleLedger).mb 2).command 2 = ⟨2, 17, exampleLedger.drop 56⟩ := by decide +kernel

theorem test_example_ledger_created :
    let t := (cmdNamespaceCreate.act ⟨0x0401, ⟨2, 17, exampleLedger.drop 56⟩, 0, 100⟩
      { full with store := { full.store with format := some ⟨2048, 92158179, 48, 10, 10⟩ } }).1
    ((t.store.ns 0x22).map fun n => (n.typ, n.quota, n.guarantee)) = some (NsType.ledger, 0x800000000, 0x200000000) := by
  decide +kernel

/-- 13, updating member 0: the request buffer of UPDATE.STAGE. -/
theorem test_example_stage :
    requestEnvelope 0x0A02 0 0 81 ([0x01, 0x30, 0x0F, 0x00] ++
      [0x66, 0x77, 0x2F, 0x64, 0x7A, 0x34, 0x38, 0x31, 0x30, 0x2F, 0x33, 0x2E, 0x32, 0x2E, 0x33]) =
      [0x0A, 0x02, 0x00, 0x00, 0x00, 0x00, 0x00, 0x51, 0x00, 0x13, 0x00, 0x00, 0x00, 0x00, 0x00, 0x00,
       0x01, 0x30, 0x0F, 0x00, 0x66, 0x77, 0x2F, 0x64, 0x7A, 0x34, 0x38, 0x31, 0x30, 0x2F, 0x33, 0x2E,
       0x32, 0x2E, 0x33] := by decide +kernel

/-- 11, a warning lamp: the arguments of EVENT.CONFIGURE for channel 12. -/
theorem test_example_lamp :
    let g := configureArgs [0x0C, 0x03, 0x00, 0x00, 0x00, 0x00, 0x00, 0x40, 0x00, 0x00, 0x00, 0x08, 0x00, 0x00, 0x00, 0x02,
      0x00, 0x00, 0x40, 0x02] (up.chan 12).cfg
    g.enable = true ∧ g.remember = true ∧ g.producers = 0x0000004000000008 ∧ g.consumers = 0x0000000200004002 ∧
    g.owner = .mgmt := by decide +kernel

/-! ## Numbers of the worked examples and tables -/

/-- 02: gPTP time 1,715,580,000 s opens measure 0x063D_C225_5C00 at 250 µs. -/
theorem test_numbering : Anchor.nearest (0, 0, 1) (1715580000 * 10 ^ 9) = 0x063DC2255C00 := by decide +kernel

/-- 02: the sealed order of the three requests, by class, session, sequence. -/
theorem test_sealed_order :
    let a := Item.skp { rq 0xB [] [1] 0 with flags := 2, session := 0x0107, seq := 912 }
    let b := Item.skp { rq 5 [1] [1] 0 with flags := 0, session := 0x0042, seq := 5311 }
    let c := Item.skp { rq 1 [1] [] 0 with flags := 1, session := 0x0003, seq := 77 }
    sortItems [a, b, c] = [b, c, a] := by decide +kernel

/-- 07: the ledger record of 228 bytes charges 768, a value of 5,000,000 bytes 5,000,448. -/
theorem test_charge : charge 228 = 768 ∧ charge 5000000 = 5000448 ∧ charge 65536 = 65792 := by decide +kernel

/-- 08: c_max of member 0, whose 32 LUNs keep 1,966 good blocks of 4,096 pages each beside the reserve, is 3,186; here one block
with all these pages stands for them. 8 GiB of LPDDR5 hold 92,158,179 keys (Table 7.2). -/
theorem test_format_numbers :
    { State.reset with board := { Board.reset with blocks := 1, pages := 1966 * 4096, factoryBad := [] } }.cMax 48 = 3186 ∧
    Board.reset.keyCapacity = 92158179 := by decide +kernel

/-- R193: a block with a factory mark and one on the grown-bad list are not good. -/
theorem test_good_blocks :
    { State.reset with board := { Board.reset with blocks := 6, factoryBad := [(0x1000, [5])] } }.goodBlocks
      { Lun.reset 0x1000 with retired := [2] } = [0, 1, 3, 4] := by decide +kernel

/-- 08: LUN 0x1045 lies in group 1. -/
theorem test_group : State.reset.groupOf 0x1045 = 1 := by decide +kernel

/-- 10: the holders of the shard of ledger 0x21 are members 0 and 1. -/
theorem test_holders : ch3.holders 0x21 0 = [0, 1] := by decide +kernel

/-- 14: the descriptor's range begins to be forbidden at 0x0804_0000. -/
theorem test_first_forbidden :
    firstForbidden (fun r => r.w) [⟨0x08000000, 0x08040000, true, true, false⟩] (0x0803FFC0 + 128) 1 0x0803FFC0 = some 0x08040000 := by
  decide +kernel

/-- 06: the heartbeat's frame, tagged, is 134 bytes without preamble and gap. -/
theorem test_heartbeat_length :
    frameLen true false (up.heartbeatFrame 0 1).inner = 134 := by decide +kernel

/-! ## Digests -/

/-- The check value of CRC-32C over the digits 1 to 9 (log entry 11). -/
theorem test_crc32c : crc32c [0x31, 0x32, 0x33, 0x34, 0x35, 0x36, 0x37, 0x38, 0x39] = 0xE3069283 := by decide +kernel

/-! ## Reset -/

/-- R305: after PORST_n the drive is in reset, in Start-up, and nothing waits. -/
theorem test_reset : State.reset.power.inReset = true ∧ State.reset.power.mode = .startup ∧ State.reset.pending = [] := by decide +kernel

/-- An empty queue: the block idles (log entry 17). -/
theorem test_idle : step State.reset = .next State.reset := rfl

end Sys2Proof.Tests
end

