-- ==== Sys2Proof/Tests/WitnessChorusEvent.lean ====
section
/-! SUPPORT. For each clause of the statements on CHORUS and EVENT commands and the event fabric, a state and operands that meet its hypotheses. -/

namespace Sys2Proof.Tests

open Sys2Proof Sys2Proof.Machine

set_option Elab.async false

/-- A member with a checkpoint. -/
def withSnap : Chorus := { ch3 with checkpoint := some snap10 }

/-- A restore whose source shards are all loaded. -/
def restLoaded : Restore :=
  { rest with loads := (manifestShards rest.manifest).map fun p => ⟨p.1, p.2.1, p.2.2.1, p.2.2.2, 2, [], [], none, [], 0, true, 7, 0⟩ }

/-- The arguments of EVENT.CONFIGURE. -/
def channelBytes (ch flags producers consumers : Nat) : Bytes := be 1 ch ++ be 1 flags ++ be 2 0 ++ be 8 producers ++ be 8 consumers

/-- `up` with EVIO ball 2 an input and the AON timer on. -/
def withInputs : State :=
  { up with fabric := { up.fabric with evio := up.fabric.evio.set 2 ⟨1, 3, 0, false⟩, aonTimer := 100 } }

/-- `up` with consumers 32, 33 and 40 busy, an event of channel 10 in flight to 33, and channel 12 pending for 32 and 40. -/
def withBusy : State :=
  { up with fabric := { up.fabric with
      flight := [(10, 33, true)], busy := [(33, 10, 5), (40, 11, 3), (32, 11, 3)]
      chans := up.fabric.chans.set 12 { up.fabric.chans[12] with pending := 0x10100000000 } } }

/-- NS_COMMAND with a SET_QUOTA of 5,000,000 bytes passes the checks that its arguments decide. -/
theorem ns_command_ok : 12 ≤ 32 ∧ 32 ≤ 496 ∧ ∀ need len,
    innerCommand (fld (be 6 108 ++ be 2 0 ++ be 2 0x0403 ++ be 2 0 ++ be 1 10 ++ be 3 0 ++ be 8 5000000 ++ be 8 0) 8 2) =
      some (need, len) → 32 = 12 + len ∧
    (fld (be 6 108 ++ be 2 0 ++ be 2 0x0403 ++ be 2 0 ++ be 1 10 ++ be 3 0 ++ be 8 5000000 ++ be 8 0) 8 2 = 0x0403 →
      fld (be 6 108 ++ be 2 0 ++ be 2 0x0403 ++ be 2 0 ++ be 1 10 ++ be 3 0 ++ be 8 5000000 ++ be 8 0) 16 8 ≠ 0) := by
  refine ⟨by decide, by decide, fun need len h => ?_⟩
  have e : innerCommand (fld (be 6 108 ++ be 2 0 ++ be 2 0x0403 ++ be 2 0 ++ be 1 10 ++ be 3 0 ++ be 8 5000000 ++ be 8 0) 8 2) =
    some (none, 20) := by decide +kernel
  rw [e] at h
  obtain ⟨-, rfl⟩ := Prod.mk.inj (Option.some.inj h)
  exact ⟨rfl, fun _ => by decide +kernel⟩

theorem witness_ChorusCommandsComplete_chorusForm : ∃ (c : Cmd) (s : State), s.readySealed c .sec ∧ (fun _ a => a.length = 488 ∧
    (formArgs a).formed = true) s.board c.args :=
  enters_up (formBytes 104 3 0 2) (fun _ a => a.length = 488 ∧ (formArgs a).formed = true) .sec (by decide +kernel)

theorem witness_ChorusCommandsComplete_chorusLeave : ∃ (c : Cmd) (s : State), s.readySealed c .mgmt ∧ (fun _ a => a.length = 8)
    s.board c.args :=
  enters_up (zeros 8) (fun _ a => a.length = 8) .mgmt (by decide +kernel)

theorem witness_ChorusCommandsComplete_chorusCheckpoint : ∃ (c : Cmd) (s : State), s.readySealed c .mgmt ∧ (fun _ a => a.length
    = 16 ∧ 1024 ≤ fld a 14 2 ∧ fld a 14 2 ≤ 8128 ∧ fld a 14 2 % 64 = 0) s.board c.args :=
  enters_up (be 8 5 ++ be 6 163 ++ be 2 8128) (fun _ a => a.length = 16 ∧ 1024 ≤ fld a 14 2 ∧ fld a 14 2 ≤ 8128 ∧ fld a 14 2 %
    64 = 0) .mgmt (by decide +kernel)

theorem witness_ChorusCommandsComplete_chorusCheckpointEnd : ∃ (c : Cmd) (s : State), s.readySealed c .mgmt ∧ (fun _ a =>
    a.length = 8) s.board c.args :=
  enters_up (zeros 8) (fun _ a => a.length = 8) .mgmt (by decide +kernel)

theorem witness_ChorusCommandsComplete_chorusRestoreEnd : ∃ (c : Cmd) (s : State), s.readySealed c .mgmt ∧ (fun _ a => a.length
    = 8) s.board c.args :=
  enters_up (zeros 8) (fun _ a => a.length = 8) .mgmt (by decide +kernel)

theorem witness_ChorusCommandsComplete_chorusNsCommand : ∃ (c : Cmd) (s : State), s.readySealed c .mgmt ∧ (fun _ a => 12 ≤
    a.length ∧ a.length ≤ 496 ∧ ∀ need len, innerCommand (fld a 8 2) = some (need, len) → a.length = 12 + len ∧ (fld a 8 2 =
    0x0403 → fld a 16 8 ≠ 0)) s.board c.args :=
  enters_up (be 6 108 ++ be 2 0 ++ be 2 0x0403 ++ be 2 0 ++ be 1 10 ++ be 3 0 ++ be 8 5000000 ++ be 8 0) (fun _ a => 12 ≤
    a.length ∧ a.length ≤ 496 ∧ ∀ need len, innerCommand (fld a 8 2) = some (need, len) → a.length = 12 + len ∧ (fld a 8 2 =
    0x0403 → fld a 16 8 ≠ 0)) .mgmt (ns_command_ok)

theorem witness_ChorusCommandsComplete_chorusPark : ∃ (c : Cmd) (s : State), s.readySealed c .mgmt ∧ (fun _ a => a.length = 8)
    s.board c.args :=
  enters_up (zeros 8) (fun _ a => a.length = 8) .mgmt (by decide +kernel)

theorem witness_ChorusCommandsComplete_chorusResume : ∃ (c : Cmd) (s : State), s.readySealed c .mgmt ∧ (fun _ a => a.length = 8)
    s.board c.args :=
  enters_up (zeros 8) (fun _ a => a.length = 8) .mgmt (by decide +kernel)

theorem witness_ChorusCommandsComplete_1 : ∃ (c : SealedCmd) (s : State) (a : Bytes), a = c.cmd.args ∧ s.reaches c 0x0801 ∧
    (formArgs a).ok c.adm s = true ∧ formCheck (formArgs a) s = none :=
  ⟨sc 0x0801 (formBytes 104 3 0 2), forForm, _, rfl, by unfold State.reaches; decide +kernel⟩

theorem witness_ChorusCommandsComplete_2 : ∃ (c : SealedCmd) (s : State) (a : Bytes), ∃ k op, a = c.cmd.args ∧ s.store.chorus =
    some k ∧ op ∈ [0x0802, 0x0806, 0x0808, 0x0809] ∧ s.reaches c op ∧ c.adm + 4 ≤ fld a 0 6 ∧ fld a 0 6 ≤ c.adm + 64 :=
  ⟨sc 0x0802 (be 6 103 ++ be 2 0), inChorusOf ch3, _, ch3, 0x0802, rfl, by unfold State.reaches; decide +kernel⟩

theorem witness_ChorusCommandsComplete_3 : ∃ (c : SealedCmd) (s : State) (a : Bytes), ∃ k, a = c.cmd.args ∧ s.store.chorus =
    some k ∧ s.reaches c 0x0804 ∧ c.adm + 4 ≤ fld a 8 6 ∧ fld a 8 6 ≤ c.adm + 64 ∧ k.checkpoint = none :=
  ⟨sc 0x0804 (be 8 5 ++ be 6 163 ++ be 2 8128), inChorusOf ch3, _, ch3, rfl, by unfold State.reaches; decide +kernel⟩

theorem witness_ChorusCommandsComplete_4 : ∃ (c : SealedCmd) (s : State) (a : Bytes), ∃ k need len n, a = c.cmd.args ∧
    s.store.chorus = some k ∧ s.reaches c 0x0807 ∧ c.adm + 4 ≤ fld a 0 6 ∧ fld a 0 6 ≤ c.adm + 64 ∧ innerCommand (fld a 8 2) =
    some (need, len) ∧ a.length = 12 + len ∧ u8 a 12 ≠ 0 ∧ s.store.ns (u8 a 12) = some n ∧ (need = none ∨ need = some n.typ) ∧
    (fld a 8 2 = 0x0403 → fld a 16 8 ≠ 0) :=
  ⟨sc 0x0807 (be 6 108 ++ be 2 0 ++ be 2 0x0403 ++ be 2 0 ++ be 1 10 ++ be 3 0 ++ be 8 5000000 ++ be 8 0), inChorusOf ch3, _,
    ch3, none, 20, _, rfl, (by decide +kernel), (by unfold State.reaches; decide +kernel), (by decide +kernel),
    (by decide +kernel), (by decide +kernel), (by decide +kernel), (by decide +kernel), rfl, (by decide +kernel),
    (by decide +kernel)⟩

theorem witness_ChorusCommandsComplete_5 : ∃ (c : SealedCmd) (s : State) (a : Bytes), ∃ k sn, a = c.cmd.args ∧ s.store.chorus =
    some k ∧ s.reaches c 0x0805 ∧ k.checkpoint = some sn ∧ sn.id = fld a 0 8 :=
  ⟨sc 0x0805 (be 8 5), inChorusOf withSnap, _, withSnap, snap10, rfl, by unfold State.reaches; decide +kernel⟩

theorem witness_ChorusCommandsComplete_6 : ∃ (c : Cmd) (s : State) (k : Chorus), s.store.chorus = some k ∧ s.ready c .rt ∧
    c.args.length = 4 ∧ fld c.args 0 2 % 512 = 0 :=
  ⟨cmd (be 2 512 ++ be 2 0), inChorusOf ch3, ch3, by unfold State.ready; decide +kernel⟩

theorem witness_ChorusCommandsTakeEffect_1 : ∃ (sc : SealedCmd) (s : State), formCheck (formArgs sc.cmd.args) s = none ∧
    shardTotal (formArgs sc.cmd.args).nss ≤ s.routeSlots.count ∧ (formArgs sc.cmd.args).self < (formArgs sc.cmd.args).members :=
  ⟨sc 0x0801 (formBytes 104 3 2 2), forForm, by decide +kernel⟩

theorem witness_ChorusCommandsTakeEffect_2 : ∃ (sc : SealedCmd) (s : State) (k : Chorus), s.store.chorus = some k ∧ k.checkpoint
    = none :=
  ⟨sc 0x0804 (be 8 5 ++ be 6 104 ++ be 2 8128), inChorusOf ch3, ch3, by decide +kernel⟩

theorem witness_ChorusCommandsTakeEffect_3 : ∃ (sc : SealedCmd) (s : State) (k : Chorus), ∃ v, s.store.chorus = some k ∧
    k.restore = some v ∧ k.loaded v = true :=
  ⟨sc 0x0806 (be 6 104 ++ be 2 0), inChorusOf { ch3 with restore := some restLoaded }, { ch3 with restore := some restLoaded },
    restLoaded, by decide +kernel⟩

theorem witness_EventConfigurationsComplete_eventConfigure : ∃ (c : Cmd) (s : State), s.readySealed c .rt ∧ (fun _ a => a.length
    = 20 ∧ u8 a 0 ≤ 31 ∧ maskOk producers (BitVec.ofNat 64 (fld a 4 8)) = true ∧ maskOk consumers (BitVec.ofNat 64 (fld a 12 8))
    = true ∧ (bit (fld a 12 8) 0 = true → u8 a 0 < 8) ∧ (bit (fld a 4 8) 5 && bit (fld a 12 8) 2) = false) s.board c.args :=
  enters_up (channelBytes 31 3 0x0F 2) (fun _ a => a.length = 20 ∧ u8 a 0 ≤ 31 ∧ maskOk producers (BitVec.ofNat 64 (fld a 4 8))
    = true ∧ maskOk consumers (BitVec.ofNat 64 (fld a 12 8)) = true ∧ (bit (fld a 12 8) 0 = true → u8 a 0 < 8) ∧ (bit (fld a 4
    8) 5 && bit (fld a 12 8) 2) = false) .rt (by decide +kernel)

theorem witness_EventConfigurationsComplete_eventSetOwner : ∃ (c : Cmd) (s : State), s.readySealed c .sec ∧ (fun _ a => a.length
    = 4 ∧ u8 a 0 ≤ 31 ∧ u8 a 1 ≤ 2) s.board c.args :=
  enters_up ([31, 2, 1, 0]) (fun _ a => a.length = 4 ∧ u8 a 0 ≤ 31 ∧ u8 a 1 ≤ 2) .sec (by decide +kernel)

theorem witness_EventConfigurationsComplete_eventLock : ∃ (c : Cmd) (s : State), s.readySealed c .rt ∧ (fun _ a => a.length = 4)
    s.board c.args :=
  enters_up (be 4 0xFFFFFFFF) (fun _ a => a.length = 4) .rt (by decide +kernel)

theorem witness_EventConfigurationsComplete_eventEvioConfig : ∃ (c : Cmd) (s : State), s.readySealed c .mgmt ∧ (fun _ a =>
    a.length = 4 ∧ u8 a 0 ≤ 15 ∧ u8 a 1 ≤ 2 ∧ (u8 a 1 = 1 → u8 a 2 % 4 ≠ 0)) s.board c.args :=
  enters_up ([15, 1, 3, 1]) (fun _ a => a.length = 4 ∧ u8 a 0 ≤ 15 ∧ u8 a 1 ≤ 2 ∧ (u8 a 1 = 1 → u8 a 2 % 4 ≠ 0)) .mgmt
    (by decide +kernel)

theorem witness_EventConfigurationsComplete_eventSetParams : ∃ (c : Cmd) (s : State), s.readySealed c .mgmt ∧ (fun _ a =>
    a.length = 8 ∧ fld a 0 4 ≤ 86400000 ∧ u8 a 4 ≤ 16) s.board c.args :=
  enters_up (be 4 86400000 ++ be 1 16 ++ be 3 0) (fun _ a => a.length = 8 ∧ fld a 0 4 ≤ 86400000 ∧ u8 a 4 ≤ 16) .mgmt
    (by decide +kernel)

theorem witness_EventConfigurationsComplete_1 : ∃ (c : SealedCmd) (s : State) (a : Bytes) (ch : Fin 32), a = c.cmd.args ∧
    s.reaches c 0x0901 ∧ u8 a 0 = ch ∧ maskOk producers (BitVec.ofNat 64 (fld a 4 8)) = true ∧ maskOk consumers (BitVec.ofNat 64
    (fld a 12 8)) = true ∧ (bit (fld a 12 8) 0 = true → ch.val < 8) ∧ (bit (fld a 4 8) 5 && bit (fld a 12 8) 2) = false ∧ (bit
    (fld a 12 8) 2 = true → (s.chan ch).cfg.secure = true) ∧ s.mayUseSecure c.cmd.mailbox ch = true ∧ (s.chan ch).locked = false :=
  ⟨sc 0x0901 (channelBytes 3 3 0x0F 1), up, _, 3, rfl, by unfold State.reaches; decide +kernel⟩

theorem witness_EventConfigurationsComplete_2 : ∃ (c : SealedCmd) (s : State) (a : Bytes) (ch : Fin 32), a = c.cmd.args ∧
    s.reaches c 0x0902 ∧ u8 a 0 = ch ∧ (s.chan ch).locked = false :=
  ⟨sc 0x0902 [31, 2, 1, 0], up, _, 31, rfl, by unfold State.reaches; decide +kernel⟩

theorem witness_EventConfigurationsComplete_3 : ∃ (c : SealedCmd) (s : State) (a : Bytes), a = c.cmd.args ∧ s.reaches c 0x0904 ∧
    s.ballLocked (u8 a 0) = false :=
  ⟨sc 0x0904 [15, 1, 3, 1], up, _, rfl, by unfold State.reaches; decide +kernel⟩

theorem witness_EventConfigurationsComplete_4 : ∃ (c : SealedCmd) (s : State) (a : Bytes), a = c.cmd.args ∧ s.reaches c 0x0905 :=
  ⟨sc 0x0905 (be 4 86400000 ++ be 1 16 ++ be 3 0), up, _, rfl, by unfold State.reaches; decide +kernel⟩

theorem witness_EventConfigurationsComplete_5 : ∃ (c : SealedCmd) (s : State) (a : Bytes) (t : State), a = c.cmd.args ∧ t =
    s.atPlace c ∧ s.reaches c 0x0903 :=
  ⟨sc 0x0903 (be 4 0xFFFFFFFF), up, _, _, rfl, rfl, by unfold State.reaches; decide +kernel⟩

theorem witness_EventConfigurationsComplete_6 : ∃ (c : SealedCmd) (s : State) (a : Bytes) (ch : Fin 32), a = c.cmd.args ∧ u8 a 0
    = ch :=
  ⟨sc 0x0901 (channelBytes 31 1 0 0), up, _, 31, rfl, by decide +kernel⟩

theorem witness_EventConfigurationsComplete_7 : ∃ (c : SealedCmd) (s : State) (a : Bytes) (ch : Fin 32) (o : Owner), a =
    c.cmd.args ∧ u8 a 0 = ch ∧ Owner.ofNum (u8 a 1) = some o :=
  ⟨sc 0x0902 [31, 2, 1, 0], up, _, 31, _, rfl, (by decide +kernel), rfl⟩

theorem witness_EventConfigurationsComplete_8 : ∃ (c : SealedCmd) (s : State) (a : Bytes) (b : Fin 16), a = c.cmd.args ∧ u8 a 0
    = b :=
  ⟨sc 0x0904 [15, 2, 0, 1], up, _, 15, rfl, by decide +kernel⟩

theorem witness_EventFabricCompletes_1 : ∃ (c : Cmd) (s : State), s.ready c .rt ∧ c.args.length = 4 ∧ (∀ ch : Fin 32, bit (fld
    c.args 0 4) ch = true → s.mayUseSecure c.mailbox ch = true) :=
  ⟨cmd (be 4 0xFFFFFFFF), up, by unfold State.ready; decide +kernel⟩

theorem witness_EventFabricCompletes_2 : ∃ (c : Cmd) (s : State) (ch : Fin 32), s.ready c .rt ∧ c.args.length = 4 ∧ u8 c.args 0
    = ch ∧ s.mayUseSecure c.mailbox ch = true :=
  ⟨cmd [31, 0, 0, 0], up, 31, by unfold State.ready; decide +kernel⟩

theorem witness_EventFabricCompletes_3 : ∃ (s : State) (ball : Fin 16) (rising : Bool) (time : Nat), (s.fabric.evio[(ball : Fin
    16)]).dir = 1 ∧ s.power.mode = .service ∧ s.power.inReset = false :=
  ⟨withInputs, 2, true, 0, by decide +kernel⟩

theorem witness_EventFabricCompletes_4 : ∃ (s : State), 0 < s.fabric.aonTimer :=
  ⟨withInputs, by decide +kernel⟩

theorem witness_EventFabricCompletes_5 : ∃ (s : State) (c : Fin 32) (k : Fin 64), ∃ keep c', ∃ (time time' : Nat),
    (s.fabric.flight.find? (fun f => f.1 == c.val && f.2.1 == k.val) = some (c.val, k.val, keep)) ∧ s.consumerPresent k = true ∧
    (s.fabric.busy.find? (fun p => p.1 == k.val) = some (k.val, c', time')) ∧ ((s.chan c).pending.getLsbD k = true ∨ keep =
    false) ∧ (time' ≠ time ∨ c' = c.val) :=
  ⟨{ withBusy with fabric := { withBusy.fabric with flight := [(10, 33, false)] } }, 10, 33, false, 10, 5, 5, by decide +kernel⟩

theorem witness_EventFabricCompletes_6 : ∃ (s : State) (c : Fin 32) (k : Fin 64), ∃ keep c', ∃ (time time' : Nat), keep = true ∧
    (s.fabric.flight.find? (fun f => f.1 == c.val && f.2.1 == k.val) = some (c.val, k.val, keep)) ∧ s.consumerPresent k = true ∧
    (s.fabric.busy.find? (fun p => p.1 == k.val) = some (k.val, c', time')) ∧ (s.chan c).pending.getLsbD k = false :=
  ⟨withBusy, 10, 33, _, 10, 6, 5, rfl, by decide +kernel⟩

theorem witness_EventFabricCompletes_7 : ∃ (s : State) (k : Fin 64), s.fabric.isBusy k = true ∧ k.val ≠ 2 ∧ (∀ c, (s.chan
    c).pending.getLsbD k = false) :=
  ⟨withBusy, 33, by decide +kernel⟩

theorem witness_EventFabricCompletes_8 : ∃ (s : State) (k : Fin 64) (c : Fin 32), s.fabric.isBusy k = true ∧ k.val ≠ 2 ∧ (s.chan
    c).pending.getLsbD k = true ∧ (∀ d, d < c → (s.chan d).pending.getLsbD k = false) ∧ k.val ≠ 0 ∧ k.val ≠ 32 ∧ k.val ≠ 33 :=
  ⟨withBusy, 40, 12, by decide +kernel⟩

theorem witness_EventFabricCompletes_9 : ∃ (s : State) (k : Fin 64) (c : Fin 32), s.fabric.isBusy k = true ∧ k.val ≠ 2 ∧ k.val =
    32 ∧ (s.chan c).pending.getLsbD k = true ∧ (∀ d, d < c → (s.chan d).pending.getLsbD k = false) :=
  ⟨withBusy, 32, 12, by decide +kernel⟩

end Sys2Proof.Tests
end

