-- ==== Sys2Proof/Tests/WitnessCommands.lean ====
section
/-! SUPPORT. For each clause of the statements on DEVICE, TIME, UNIT and NAMESPACE commands, a state and operands that meet its hypotheses. -/

namespace Sys2Proof.Tests

open Sys2Proof Sys2Proof.Machine

set_option Elab.async false

theorem witness_StepRunsFrontCommand_1 : ∃ (s : State), s.pending = [] :=
  ⟨State.reset, by decide +kernel⟩

theorem witness_EveryMeasureNumberIsNew_1 : ∃ (s t : State), s.countsOnce ∧ step s = .next t ∧ t.tb.opened = true :=
  ⟨up, up, (by unfold State.countsOnce; decide +kernel), rfl, (by decide +kernel)⟩

theorem witness_FusesOnlyBurn_1 : ∃ (s t : State), s.fuses.wf ∧ step s = .next t :=
  ⟨up, up, (by unfold Fuses.wf; decide +kernel), rfl⟩

theorem witness_HeadersReadBack_1 : ∃ (r : Request), r.wf = true :=
  ⟨⟨src0, 1, 0, 1, 1, 0, 1, 0, 0, 0, 0, 0, 0, [1], []⟩, by decide +kernel⟩

theorem witness_HeadersReadBack_2 : ∃ (op flags : Nat) (c : Cmd), op < 2 ^ 16 ∧ flags < 256 ∧ c.wf = true :=
  ⟨0x0102, 255, cmd (zeros 496), by decide +kernel⟩

theorem witness_DeviceTimeUnitReadsAnswer_1 : ∃ (c : Cmd) (s : State), s.ready c .rt ∧ c.args = [] :=
  ⟨cmd [], up, by unfold State.ready; decide +kernel⟩

theorem witness_DeviceTimeUnitReadsAnswer_2 : ∃ (c : Cmd) (s : State), s.ready c .rt ∧ c.args.length ≤ 496 :=
  ⟨cmd (zeros 496), up, by unfold State.ready; decide +kernel⟩

theorem witness_DeviceTimeUnitReadsAnswer_3 : ∃ (c : Cmd) (s : State), ∃ last dLast oldest dOldest, s.ready c .rt ∧
    c.args.length = 8 ∧ 1 ≤ u8 c.args 6 ∧ u8 c.args 6 ≤ 15 ∧ s.tb.sealLog.head? = some (last, dLast) ∧ s.tb.sealLog.getLast? =
    some (oldest, dOldest) ∧ oldest ≤ fld c.args 0 6 ∧ fld c.args 0 6 ≤ last :=
  ⟨cmd (be 6 98 ++ be 1 15 ++ be 1 0), up, 99, [1], 98, [2], by unfold State.ready; decide +kernel⟩

theorem witness_DeviceTimeUnitReadsAnswer_4 : ∃ (c : Cmd) (s : State), ∃ u, s.ready c .rt ∧ c.args.length = 2 ∧ s.unit (fld
    c.args 0 2) = some u :=
  ⟨cmd (be 2 0x1000), up, HwUnit.fresh 0x1000 .online, by unfold State.ready; decide +kernel⟩

theorem witness_DeviceTimeUnitReadsAnswer_5 : ∃ (c : Cmd) (s : State), s.ready c .rt ∧ c.args.length = 4 :=
  ⟨cmd (zeros 4), up, by unfold State.ready; decide +kernel⟩

theorem witness_DeviceTimeUnitChangesComplete_deviceEnterCustody : ∃ (c : Cmd) (s : State), s.readySealed c .mgmt ∧ (fun _ a =>
    a.length = 4) s.board c.args :=
  enters_up (zeros 4) (fun _ a => a.length = 4) .mgmt (by decide +kernel)

theorem witness_DeviceTimeUnitChangesComplete_deviceSetThermal : ∃ (c : Cmd) (s : State), s.readySealed c .mgmt ∧ (fun _ a =>
    a.length = 4 ∧ rising (thermalArgs a) = true) s.board c.args :=
  enters_up ([60, 65, 70, 75]) (fun _ a => a.length = 4 ∧ rising (thermalArgs a) = true) .mgmt (by decide +kernel)

theorem witness_DeviceTimeUnitChangesComplete_deviceReset : ∃ (c : Cmd) (s : State), s.readySealed c .mgmt ∧ (fun _ a =>
    a.length = 4 ∧ u8 a 0 ≤ 1) s.board c.args :=
  enters_up (be 4 0x01000000) (fun _ a => a.length = 4 ∧ u8 a 0 ≤ 1) .mgmt (by decide +kernel)

theorem witness_DeviceTimeUnitChangesComplete_timeSetLength : ∃ (c : Cmd) (s : State), s.readySealed c .mgmt ∧ (fun _ a =>
    a.length = 8 ∧ u8 a 0 ≤ 3) s.board c.args :=
  enters_up (be 1 3 ++ zeros 7) (fun _ a => a.length = 8 ∧ u8 a 0 ≤ 3) .mgmt (by decide +kernel)

theorem witness_DeviceTimeUnitChangesComplete_unitSetState : ∃ (c : Cmd) (s : State), s.readySealed c .mgmt ∧ (fun _ a =>
    a.length = 4 ∧ u8 a 2 ≤ 3) s.board c.args :=
  enters_up (be 2 0x1000 ++ be 1 3 ++ be 1 0) (fun _ a => a.length = 4 ∧ u8 a 2 ≤ 3) .mgmt (by decide +kernel)

theorem witness_DeviceTimeUnitChangesComplete_1 : ∃ (c : SealedCmd) (s : State) (a : Bytes), a = c.cmd.args ∧ s.reaches c 0x0104
    ∧ s.power.xtal32 = true ∧ (bit (u8 a 0) 0 = false ∨ s.store.chorus = none) ∧ s.power.plan = none :=
  ⟨sc 0x0104 (be 4 0x01000000), up, _, rfl, by unfold State.reaches; decide +kernel⟩

theorem witness_DeviceTimeUnitChangesComplete_2 : ∃ (c : SealedCmd) (s : State) (a : Bytes), a = c.cmd.args ∧ s.reaches c 0x0105
    ∧ thermalOk s.thermalDefaults (thermalArgs a) = true :=
  ⟨sc 0x0105 [60, 65, 70, 75], up, _, rfl, by unfold State.reaches; decide +kernel⟩

theorem witness_DeviceTimeUnitChangesComplete_3 : ∃ (c : SealedCmd) (s : State) (a : Bytes), a = c.cmd.args ∧ s.reaches c 0x0106
    ∧ s.power.plan = none :=
  ⟨sc 0x0106 (be 4 0x01000000), up, _, rfl, by unfold State.reaches; decide +kernel⟩

theorem witness_DeviceTimeUnitChangesComplete_4 : ∃ (c : SealedCmd) (s : State) (a : Bytes), a = c.cmd.args ∧ s.reaches c 0x0202
    ∧ u8 a 0 ≤ 3 ∧ u8 a 0 ≠ s.store.length ∧ c.adm + 2 ≤ fld a 2 6 ∧ fld a 2 6 ≤ c.adm + 65536 ∧ s.store.pendingAnchor = none ∧
    s.store.startOf (fld a 2 6) % (lengthUs (u8 a 0) * 1000) = 0 :=
  ⟨sc 0x0202 (be 1 3 ++ be 1 0 ++ be 6 104), up, _, rfl, by unfold State.reaches; decide +kernel⟩

theorem witness_DeviceTimeUnitChangesComplete_5 : ∃ (c : SealedCmd) (s : State) (a : Bytes), ∃ u, a = c.cmd.args ∧ s.reaches c
    0x0302 ∧ u8 a 2 ≤ 3 ∧ s.unit (fld a 0 2) = some u ∧ (s.mgmtView (fld a 0 2)).num < u8 a 2 :=
  ⟨sc 0x0302 (be 2 0x1000 ++ be 1 3 ++ be 1 0), { up with store := { up.store with mgmt := [(0x1000, .offline)] } }, _,
    HwUnit.fresh 0x1000 .online, rfl, by unfold State.reaches; decide +kernel⟩

theorem witness_DeviceTimeUnitChangesComplete_6 : ∃ (c : SealedCmd) (s : State) (a : Bytes), ∃ u t, a = c.cmd.args ∧ t =
    s.atPlace c ∧ s.reaches c 0x0302 ∧ u8 a 2 ≤ 3 ∧ s.unit (fld a 0 2) = some u ∧ u8 a 2 < (s.mgmtView (fld a 0 2)).num :=
  ⟨sc 0x0302 (be 2 0x1000 ++ be 1 0 ++ be 1 0), up, _, HwUnit.fresh 0x1000 .online, _, rfl, rfl,
    by unfold State.reaches; decide +kernel⟩

theorem witness_NamespaceChangesComplete_namespaceCreate : ∃ (c : Cmd) (s : State), s.readySealed c .mgmt ∧ (fun _ a => a.length
    = 36 ∧ u8 a 0 ≠ 0 ∧ u8 a 1 ∈ [1, 2, 3] ∧ (fld a 4 8 = 0 ∨ fld a 12 8 ≤ fld a 4 8) ∧ (NsType.ofNum (u8 a 1) = some .ledger →
    1 ≤ fld a 20 8 ∧ fld a 20 8 ≤ 2 ^ 47)) s.board c.args :=
  enters_up (be 1 9 ++ be 1 2 ++ be 2 0 ++ be 8 4096 ++ be 8 4096 ++ be 8 (2 ^ 47) ++ be 8 0) (fun _ a => a.length = 36 ∧ u8 a 0
    ≠ 0 ∧ u8 a 1 ∈ [1, 2, 3] ∧ (fld a 4 8 = 0 ∨ fld a 12 8 ≤ fld a 4 8) ∧ (NsType.ofNum (u8 a 1) = some .ledger → 1 ≤ fld a 20 8
    ∧ fld a 20 8 ≤ 2 ^ 47)) .mgmt (by decide +kernel)

theorem witness_NamespaceChangesComplete_namespaceDelete : ∃ (c : Cmd) (s : State), s.readySealed c .mgmt ∧ (fun _ a => a.length
    = 4 ∧ u8 a 0 ≠ 0) s.board c.args :=
  enters_up (be 4 0xFF000000) (fun _ a => a.length = 4 ∧ u8 a 0 ≠ 0) .mgmt (by decide +kernel)

theorem witness_NamespaceChangesComplete_namespaceSetQuota : ∃ (c : Cmd) (s : State), s.readySealed c .mgmt ∧ (fun _ a =>
    a.length = 20 ∧ u8 a 0 ≠ 0) s.board c.args :=
  enters_up (be 1 1 ++ zeros 19) (fun _ a => a.length = 20 ∧ u8 a 0 ≠ 0) .mgmt (by decide +kernel)

theorem witness_NamespaceChangesComplete_namespaceLedgerTrim : ∃ (c : Cmd) (s : State), s.readySealed c .mgmt ∧ (fun _ a =>
    a.length = 12 ∧ u8 a 0 ≠ 0) s.board c.args :=
  enters_up (be 1 2 ++ zeros 11) (fun _ a => a.length = 12 ∧ u8 a 0 ≠ 0) .mgmt (by decide +kernel)

theorem witness_NamespaceChangesComplete_namespaceSetRetention : ∃ (c : Cmd) (s : State), s.readySealed c .mgmt ∧ (fun _ a =>
    a.length = 12 ∧ u8 a 0 ≠ 0) s.board c.args :=
  enters_up (be 1 2 ++ zeros 11) (fun _ a => a.length = 12 ∧ u8 a 0 ≠ 0) .mgmt (by decide +kernel)

theorem witness_NamespaceChangesComplete_1 : ∃ (c : SealedCmd) (s : State) (a : Bytes), ∃ typ t, a = c.cmd.args ∧ t = s.atPlace
    c ∧ u8 a 0 ≠ 0 ∧ s.reaches c 0x0401 ∧ NsType.ofNum (u8 a 1) = some typ ∧ s.store.ns (u8 a 0) = none ∧ (fld a 12 8 = 0 ∨
    s.store.committed + fld a 12 8 ≤ s.store.limit typ) :=
  ⟨sc 0x0401 (be 1 9 ++ be 1 2 ++ be 2 0 ++ be 8 0 ++ be 8 4096 ++ be 8 (2 ^ 47) ++ be 8 0), full, _, .ledger, _, rfl, rfl,
    by unfold State.reaches; decide +kernel⟩

theorem witness_NamespaceChangesComplete_2 : ∃ (c : SealedCmd) (s : State) (a : Bytes) (n : Namespace), ∃ t, a = c.cmd.args ∧ t
    = s.atPlace c ∧ u8 a 0 ≠ 0 ∧ s.store.ns (u8 a 0) = some n ∧ s.store.chorusNs (u8 a 0) = none ∧ s.reaches c 0x0402 ∧
    n.unexpired c.adm = false ∧ s.store.anyHeld n.id = false :=
  ⟨sc 0x0402 (be 4 0x03000000), { full with store := { full.store with nss := [{ ns3 with keys := [] }] } }, _,
    { ns3 with keys := [] }, _, rfl, rfl, by unfold State.reaches; decide +kernel⟩

theorem witness_NamespaceChangesComplete_3 : ∃ (c : SealedCmd) (s : State) (a : Bytes) (n : Namespace), ∃ t, a = c.cmd.args ∧ t
    = s.atPlace c ∧ u8 a 0 ≠ 0 ∧ s.store.ns (u8 a 0) = some n ∧ s.store.chorusNs (u8 a 0) = none ∧ s.reaches c 0x0403 ∧ (fld a 4
    8 = 0 ∨ fld a 12 8 ≤ fld a 4 8) ∧ (max (s.store.use n) (fld a 12 8) ≤ max (s.store.use n) n.guarantee ∨ s.store.committed -
    max (s.store.use n) n.guarantee + max (s.store.use n) (fld a 12 8) ≤ s.store.limit n.typ) :=
  ⟨sc 0x0403 (be 1 1 ++ zeros 3 ++ be 8 10000 ++ be 8 10000), full, _, ns1, _, rfl, rfl,
    by unfold State.reaches; decide +kernel⟩

theorem witness_NamespaceChangesComplete_4 : ∃ (c : SealedCmd) (s : State) (a : Bytes) (n : Namespace), a = c.cmd.args ∧ u8 a 0
    ≠ 0 ∧ s.store.ns (u8 a 0) = some n ∧ s.store.chorusNs (u8 a 0) = none ∧ s.reaches c 0x0409 ∧ n.typ = .ledger ∧ 1 ≤ fld a 4 8
    ∧ fld a 4 8 ≤ 2 ^ 47 ∧ n.retention ≤ fld a 4 8 :=
  ⟨sc 0x0409 (be 1 2 ++ zeros 3 ++ be 8 5), full, _, ns2, rfl, by unfold State.reaches; decide +kernel⟩

theorem witness_NamespaceChangesComplete_5 : ∃ (c : SealedCmd) (s : State) (a : Bytes) (n : Namespace), a = c.cmd.args ∧ u8 a 0
    ≠ 0 ∧ s.store.ns (u8 a 0) = some n ∧ s.store.chorusNs (u8 a 0) = none ∧ s.reaches c 0x0408 ∧ n.typ = .ledger ∧ fld a 4 8 ≤
    n.record ∧ (∀ e ∈ n.keys, fld e.key 0 8 ≤ fld a 4 8 → e.adm + n.retention ≤ c.adm) :=
  ⟨sc 0x0408 (be 1 2 ++ zeros 3 ++ be 8 1), full, _, ns2, rfl, by unfold State.reaches; decide +kernel⟩

theorem witness_NamespaceReadsComplete_namespaceDigest : ∃ (c : Cmd) (s : State), s.readySealed c .rt ∧ (fun _ a => 8 ≤ a.length
    ∧ a.length ≤ 248 ∧ u8 a 0 ≠ 0) s.board c.args :=
  enters_up (be 1 1 ++ zeros 247) (fun _ a => 8 ≤ a.length ∧ a.length ≤ 248 ∧ u8 a 0 ≠ 0) .rt (by decide +kernel)

theorem witness_NamespaceReadsComplete_namespaceLedgerHead : ∃ (c : Cmd) (s : State), s.readySealed c .rt ∧ (fun _ a => a.length
    = 4 ∧ u8 a 0 ≠ 0) s.board c.args :=
  enters_up (be 4 0x02000000) (fun _ a => a.length = 4 ∧ u8 a 0 ≠ 0) .rt (by decide +kernel)

theorem witness_NamespaceReadsComplete_namespaceLedgerExport : ∃ (c : Cmd) (s : State), s.readySealed c .mgmt ∧ (fun _ a => 21 ≤
    a.length ∧ a.length ≤ 260 ∧ u8 a 0 ≠ 0) s.board c.args :=
  enters_up (be 1 2 ++ zeros 259) (fun _ a => 21 ≤ a.length ∧ a.length ≤ 260 ∧ u8 a 0 ≠ 0) .mgmt (by decide +kernel)

theorem witness_NamespaceReadsComplete_namespaceValueDigest : ∃ (c : Cmd) (s : State), s.readySealed c .rt ∧ (fun _ a => 5 ≤
    a.length ∧ a.length ≤ 244 ∧ u8 a 0 ≠ 0) s.board c.args :=
  enters_up (be 1 3 ++ zeros 243) (fun _ a => 5 ≤ a.length ∧ a.length ≤ 244 ∧ u8 a 0 ≠ 0) .rt (by decide +kernel)

theorem witness_NamespaceReadsComplete_1 : ∃ (c : Cmd) (s : State), s.ready c .rt ∧ c.args = [] :=
  ⟨cmd [], full, by unfold State.ready; decide +kernel⟩

theorem witness_NamespaceReadsComplete_2 : ∃ (c : Cmd) (s : State) (n : Namespace), u8 c.args 0 ≠ 0 ∧ s.store.ns (u8 c.args 0) =
    some n ∧ s.ready c .rt ∧ c.args.length = 4 :=
  ⟨cmd (be 4 0x01000000), full, ns1, by unfold State.ready; decide +kernel⟩

theorem witness_NamespaceReadsComplete_3 : ∃ (c : SealedCmd) (s : State) (a : Bytes) (n : Namespace), a = c.cmd.args ∧ u8 a 0 ≠
    0 ∧ s.store.ns (u8 a 0) = some n ∧ s.noRank = false ∧ s.reaches c 0x0406 ∧ a.length = 8 ∧ u8 a 1 = 0 ∧ fld a 4 4 = 0 ∧
    n.keys.length ≤ 262144 ∧ valueBytes n.keys ≤ 256 * 2 ^ 20 ∧ s.pageLost 2 n.id = false ∧ (∀ e ∈ n.keys, s.valueLost e =
    false) :=
  ⟨sc 0x0406 (be 1 1 ++ zeros 7), full, _, ns1, rfl, by unfold State.reaches; decide +kernel⟩

theorem witness_NamespaceReadsComplete_4 : ∃ (c : SealedCmd) (s : State) (a : Bytes) (n : Namespace), ∃ k, a = c.cmd.args ∧ u8 a
    0 ≠ 0 ∧ s.store.ns (u8 a 0) = some n ∧ s.noRank = false ∧ s.reaches c 0x0407 ∧ n.typ = .ledger ∧ s.store.ledgerKey = some k :=
  ⟨sc 0x0407 (be 4 0x02000000), full, _, ns2, 0, rfl, by unfold State.reaches; decide +kernel⟩

theorem witness_NamespaceReadsComplete_5 : ∃ (c : SealedCmd) (s : State) (a : Bytes) (n : Namespace), ∃ e, a = c.cmd.args ∧ u8 a
    0 ≠ 0 ∧ s.store.ns (u8 a 0) = some n ∧ s.noRank = false ∧ s.reaches c 0x040B ∧ 1 ≤ u8 a 1 ∧ u8 a 1 ≤ 240 ∧ a.length = 4 + u8
    a 1 ∧ n.typ = .staging ∧ (s.checkKey none c.adm .read n.id (a.drop 4)).2 = .permitted ∧ n.find (a.drop 4) = some e ∧
    s.pageLost 3 e.extent = false :=
  ⟨sc 0x040B (be 1 3 ++ be 1 1 ++ be 2 0 ++ [77]), full, _, ns3, ⟨[77], [1, 2], 1, 90, [], 2⟩, rfl,
    by unfold State.reaches; decide +kernel⟩

theorem witness_NamespaceReadsComplete_6 : ∃ (c : SealedCmd) (s : State) (a : Bytes) (n target : Namespace), ∃ recs t, a =
    c.cmd.args ∧ recs = n.recordsIn (fld a 4 8) (fld a 12 8) ∧ t = s.atPlace c ∧ u8 a 0 ≠ 0 ∧ s.store.ns (u8 a 0) = some n ∧
    s.noRank = false ∧ s.reaches c 0x040A ∧ n.typ = .ledger ∧ u8 a 1 ≠ 0 ∧ s.store.ns (u8 a 1) = some target ∧ target.typ =
    .ordinary ∧ s.store.chorus = none ∧ s.store.ledgerKey.isSome ∧ 1 ≤ u8 a 2 ∧ u8 a 2 ≤ 240 ∧ a.length = 20 + u8 a 2 ∧ 1 ≤ fld
    a 4 8 ∧ fld a 4 8 ≤ fld a 12 8 ∧ n.oldest ≠ 0 ∧ n.oldest ≤ fld a 4 8 ∧ fld a 12 8 ≤ n.record ∧ (s.checkAll none c.adm .read
    n.id []).2 = .permitted ∧ ((s.checkAll none c.adm .read n.id []).1.checkKey none c.adm .write target.id (a.drop 20)).2 =
    .permitted ∧ imageLength recs ≤ 64 * 2 ^ 20 ∧ (s.store.roomFor target (a.drop 20) (charge (imageLength recs)) (((target.find
    (a.drop 20)).map fun e => charge e.value.length).getD 0) (b2n (target.find (a.drop 20)).isNone) = true) ∧ (∀ e ∈ recs,
    s.valueLost e = false) :=
  ⟨sc 0x040A (be 1 2 ++ be 1 1 ++ be 1 1 ++ be 1 0 ++ be 8 1 ++ be 8 1 ++ [33]), full, _, ns2, ns1, _, _, rfl, rfl, rfl,
    by unfold State.reaches; decide +kernel⟩

end Sys2Proof.Tests
end

