-- ==== Sys2Proof/Tests/WitnessMeasure.lean ====
section
/-! SUPPORT. For each clause of the statements on the measure, deadlines, the flash layer, Larkspur and Chorus steps, a state and operands that meet its hypotheses. -/

namespace Sys2Proof.Tests

open Sys2Proof Sys2Proof.Machine

set_option Elab.async false

/-- `talk` much later. -/
def late : State := talk.modTb fun t => { t with measure := 17000000, highest := 17000000 }

/-- A watch that began in measure 20. -/
def oldWatch (limit : Nat) : Watch := ⟨1, 3, src0, 1, [], 0, 20, 30, limit, 0, 2⟩

/-- `talk` with it. -/
def watched (limit : Nat) : State := { talk with seq := { talk.seq with watches := [oldWatch limit] } }

/-- A list of measure 97 with one request, a bank of it, and `talk` with the list and some banks. -/
def list97 : SealedList := ⟨97, [.skp (rq 1 [1] [] 0)], 0, [1], []⟩
def bank97 : Snap := ⟨97, talk.store, true, [], []⟩
def withList (banks : List Snap) : State := { talk.modSeq (fun q => { q with sealed := [list97] }) with snaps := banks }

/-- `talk` with a request of sequence 7 in the reorder window; with a batch and a segmented value of session 1. -/
def reordered : State := talk.modSeq fun q => { q with reorder := [({ rq 1 [1] [] 0 with seq := 7 }, 20)] }
def batch1 : Batch := ⟨1, 20, [(rq 3 [1] [] 0, 20)]⟩
def seg1 : OpenSeg := ⟨1, 1, [7], 4, 0, [], some 0, 90⟩

/-- LUN 0x1000 as `f` makes it. -/
def lunOf (f : Lun → Lun) : Lun := f (.reset 0x1000)

/-- `full` with that LUN. -/
def withLun (f : Lun → Lun) : State := full.modLun 0x1000 f

/-- An operation of superblock 1 of group 0, and one whose data is in. -/
def opOf (k : NandKind) : NandOp := .make k 0 1 0
def atArray (k : NandKind) : NandOp := { opOf k with phase := .array }

/-- A codeword of extent 0, its block in a state, and the superblock of one LUN that holds it. -/
def word0 : Codeword := ⟨0, 0, 1, 80, [10, 11], 0, 0x1000, true, true, true, none, false⟩
def nandBlock (v : BlockState) : NandBlock := ⟨0x1000, 1, v, false, true, false, 5, 0, 80, 80, 0⟩
def block (num : Nat) (native : Bool) (v : BlockState) : Superblock :=
  { group := 0, num, native, stream := .slcHost, blocks := [nandBlock v], luns := [0x1000], words := [word0], used := 1
    closedAt := 90, refs := [], hard := false, draining := false }

/-- A superblock that is free. -/
def freeBlock : Superblock := { block 0 true .free with words := [], used := 0 }

/-- `late` with superblocks. -/
def withBlocks (l : List Superblock) : State := late.modFlash fun f => { f with sbs := l }

/-- The same, with LUN 0x1000 lost. -/
def withLost (l : List Superblock) : State := (withBlocks l).modUnit 0x1000 fun u => { u with data := .offline }

/-- A read of the codeword whose result goes over the bus. -/
def reading (rebuild : Bool) (r : NandResult) : NandOp := { opOf .readFg with phase := .dataOut r, word := some (0, 0), rebuild }
def delivering (o : NandOp) : State :=
  ((withBlocks [block 1 true .closed]).modLun 0x1000 fun l => { l with op := some o }).modBus 0 fun b => { b with moving := some 0x1000 }

/-- LUN 0x1000 with an operation, over the closed superblock 1. -/
def running (o : NandOp) : State := (withBlocks [block 1 true .closed]).modLun 0x1000 fun l => { l with op := some o }

/-- `full` with operations on two LUNs of channel 0. -/
def twoLuns (a b : Option NandOp) : State :=
  (full.modLun 0x1000 fun l => { l with op := a }).modLun 0x1001 fun l => { l with op := b }

/-- An ACL whose first interval has no hole. -/
def aclEntry (i : Nat) : Entry := ⟨(up.store.tables.slots .acl).addr i, 0, 0, 0, 0⟩
def fullAcl : State :=
  up.modStore fun t => { t with tables := { t.tables with acl := (List.range 16).map aclEntry } }

/-- `up` with bank 3 fenced, and a failed test of it in `failed`. -/
def fencedBank (failed : List Nat) : State := up.modUnit 0x4003 fun u => { u with data := .fenced, events2 := failed }

/-- A cascade of two chips for the peer table. -/
def twoChips : Cascade := ⟨2, .peer, false, [100]⟩

/-- `up` with it. -/
def cascaded (f : LksArray → LksArray) : State :=
  (up.modStore fun t => { t with tables := { t.tables with cascade := some twoChips } }).modLks f

/-- A member of a Chorus whose own unit is FENCED. -/
def behind (c : Chorus) : State := (inChorusOf c).modUnit 0x6000 fun u => { u with data := .fenced }

/-- Round 1 of member 1 for measure 99, with this member's chain. -/
def sameChain : Report := ⟨1, 99, 1, false, false, false, 1, 0, zeros 32, ch3.chainAt 97, []⟩

/-- A member that has fallen behind, and one with a checkpoint. -/
def ch3Behind : Chorus := { ch3 with lastSealed := 95 }
def ch3Snap : Chorus := { ch3 with checkpoint := some snap10 }

theorem witness_MeasureTickCompletes_1 : ∃ (time : Nat) (sample : TickSample) (s : State), s.ticks = true :=
  ⟨5, ⟨40, true, true, false⟩, up, by decide +kernel⟩

theorem witness_SealedListsComplete_1 : ∃ (l : SealedList) (rest : List SealedList) (s : State), s.ticks = true ∧ s.seq.sealed =
    l :: rest ∧ s.bankFree = true ∧ s.rebuildHolds l = false :=
  ⟨list97, [], withList [bank97], by decide +kernel⟩

theorem witness_SealedListsComplete_2 : ∃ (l : SealedList) (rest : List SealedList) (s : State), s.ticks = true ∧ s.seq.sealed =
    l :: rest ∧ (s.bankFree = false ∨ s.rebuildHolds l = true) :=
  ⟨list97, [], withList [bank97, bank97], by decide +kernel⟩

theorem witness_SealedListsComplete_3 : ∃ (p : Snap) (rest : List Snap) (s : State), s.snaps = p :: rest ∧ s.flashRuns = true ∧
    p.programming = true ∧ s.bankProgrammed p.measure = true ∧ s.nor.bootState ≠ .trial :=
  ⟨bank97, [], { talk with snaps := [bank97] }, by decide +kernel⟩

theorem witness_DeadlinesComplete_1 : ∃ (id : Nat) (s : State), ∃ x r a, s.session id = some x ∧ s.gapOver x = true ∧
    s.behindGap x = [(r, a)] :=
  ⟨1, reordered, sess, { rq 1 [1] [] 0 with seq := 7 }, 20, by decide +kernel⟩

theorem witness_DeadlinesComplete_2 : ∃ (id : Nat) (s : State), ∃ b, s.store.batch id = some b ∧ b.adm + 64 < s.tb.measure ∧
    s.ranTo (b.adm + 64) = true :=
  ⟨1, talk.modStore (fun t => { t with batches := [batch1] }), batch1, by decide +kernel⟩

theorem witness_DeadlinesComplete_3 : ∃ (id : Nat) (s : State), ∃ g, s.store.seg id = some g ∧ g.adm + 4194304 < s.tb.measure ∧
    s.ranTo (g.adm + 4194304) = true :=
  ⟨1, late.modStore (fun t => { t with segs := [seg1] }), seg1, by decide +kernel⟩

theorem witness_DeadlinesComplete_4 : ∃ (id : Nat) (s : State), ∃ x, s.session id = some x ∧ x.opened = true ∧ x.lastSeen +
    65536 < s.tb.measure :=
  ⟨1, late, sess, by decide +kernel⟩

theorem witness_DeadlinesComplete_5 : ∃ (id seq : Nat) (w : Watch) (s : State), ∃ u, ∃ (ends : Instr → Nat → Nat → Prop), (u =
    (s.modSeq fun q => { q with watches := q.watches.filter fun v => !v.is w.session w.seq })) ∧ (ends = fun (i : Instr) (reason
    last : Nat) => (s.tb.measure < last + 3 → exec i s = .next (u.modSeq fun q =>
    { q with replies := q.replies ++ [w.notify (w.count + 1) 3 reason 0 0 [] true (last + 3, last)] })) ∧ (s.isOpen w.session =
    false → last + 3 ≤ s.tb.measure → last ≤ s.tb.persisted → exec i s = .next (u.modSession w.session (Session.returnCredit
    w.seq)))) ∧ (s.seq.watches.find? (fun v => v.is id seq) = some w) ∧ s.seq.late = 0 ∧ s.seq.behind = 0 ∧ w.from_ + w.duration
    < s.tb.measure ∧ (∀ l ∈ s.seq.sealed, w.from_ + w.duration < l.measure) :=
  ⟨1, 3, oldWatch 0, watched 0, _, _, rfl, rfl, by decide +kernel⟩

theorem witness_DeadlinesComplete_6 : ∃ (id seq : Nat) (w : Watch) (s : State), ∃ u, ∃ (ends : Instr → Nat → Nat → Prop), (u =
    (s.modSeq fun q => { q with watches := q.watches.filter fun v => !v.is w.session w.seq })) ∧ (ends = fun (i : Instr) (reason
    last : Nat) => (s.tb.measure < last + 3 → exec i s = .next (u.modSeq fun q =>
    { q with replies := q.replies ++ [w.notify (w.count + 1) 3 reason 0 0 [] true (last + 3, last)] })) ∧ (s.isOpen w.session =
    false → last + 3 ≤ s.tb.measure → last ≤ s.tb.persisted → exec i s = .next (u.modSession w.session (Session.returnCredit
    w.seq)))) ∧ (s.seq.watches.find? (fun v => v.is id seq) = some w) ∧ s.seq.late = 0 ∧ s.seq.behind = 0 ∧ w.limit ≠ 0 ∧
    w.limit ≤ w.count :=
  ⟨1, 3, oldWatch 2, watched 2, _, _, rfl, rfl, by decide +kernel⟩

theorem witness_LunsComplete_1 : ∃ (id : Nat) (slot : Fin 16) (l : Lun) (s : State), s.lun id = some l ∧ id / 0x1000 ≠ 2 ∧ 7 ≤
    l.denied :=
  ⟨0x1000, 3, lunOf fun l => { l with denied := 7 }, withLun fun l => { l with denied := 7 }, by decide +kernel⟩

theorem witness_LunsComplete_2 : ∃ (id : Nat) (slot : Fin 16) (l : Lun) (s : State), ∃ becomes o rest, (becomes = fun (m : Lun)
    => completes (.lunSlotBoundary id slot) s fun t => ∃ u, s.turnsLun u id m ∧ t = u.busNext (busOf id)) ∧ s.lun id = some l ∧
    s.bgMay = true ∧ s.power.step < 2 ∧ s.sound id = true ∧ s.flash.buses[busOf id].moving = none ∧ l.op = none ∧ l.bgFirst =
    false ∧ l.fg = o :: rest :=
  ⟨0x1000, 3, lunOf fun l => { l with fg := [opOf .readFg] }, withLun fun l => { l with fg := [opOf .readFg] }, _, opOf .readFg,
    [], rfl, by decide +kernel⟩

theorem witness_LunsComplete_3 : ∃ (id : Nat) (slot : Fin 16) (l : Lun) (s : State), ∃ becomes o, (becomes = fun (m : Lun) =>
    completes (.lunSlotBoundary id slot) s fun t => ∃ u, s.turnsLun u id m ∧ t = u.busNext (busOf id)) ∧ s.lun id = some l ∧
    s.bgMay = true ∧ s.power.step < 2 ∧ s.sound id = true ∧ s.flash.buses[busOf id].moving = none ∧ l.op = none ∧ l.held = some
    o ∧ (l.fg = [] ∨ l.bgFirst = true) :=
  ⟨0x1000, 3, lunOf fun l => { l with held := some (opOf .eraseBg) }, withLun fun l => { l with held := some (opOf .eraseBg) },
    _, opOf .eraseBg, rfl, by decide +kernel⟩

theorem witness_LunsComplete_4 : ∃ (id : Nat) (slot : Fin 16) (l : Lun) (s : State), ∃ becomes o rest, (becomes = fun (m : Lun)
    => completes (.lunSlotBoundary id slot) s fun t => ∃ u, s.turnsLun u id m ∧ t = u.busNext (busOf id)) ∧ s.lun id = some l ∧
    s.bgMay = true ∧ s.power.step < 2 ∧ s.sound id = true ∧ s.flash.buses[busOf id].moving = none ∧ l.op = none ∧ l.held = none
    ∧ l.bg = o :: rest ∧ (l.fg = [] ∨ l.bgFirst = true) :=
  ⟨0x1000, 3, lunOf fun l => { l with bg := [opOf .readBg] }, withLun fun l => { l with bg := [opOf .readBg] }, _, opOf .readBg,
    [], rfl, by decide +kernel⟩

theorem witness_LunsComplete_5 : ∃ (id : Nat) (slot : Fin 16) (l : Lun) (s : State), ∃ becomes o h rest, (becomes = fun (m :
    Lun) => completes (.lunSlotBoundary id slot) s fun t => ∃ u, s.turnsLun u id m ∧ t = u.busNext (busOf id)) ∧ s.lun id = some
    l ∧ s.bgMay = true ∧ s.power.step < 2 ∧ s.sound id = true ∧ s.flash.buses[busOf id].moving = none ∧ l.op = some o ∧ l.held =
    none ∧ l.fg = h :: rest ∧ h.kind = .readFg ∧ NandOp.suspendable { o with ran := o.ran + 1 } (s.lengthNs / 16) = true :=
  ⟨0x1000, 3, lunOf fun l => { l with op := some (atArray .programBg), fg := [opOf .readFg] }, withLun fun l =>
    { l with op := some (atArray .programBg), fg := [opOf .readFg] }, _, atArray .programBg, opOf .readFg, [], rfl,
    by decide +kernel⟩

theorem witness_LunsComplete_6 : ∃ (id : Nat) (slot : Fin 16) (l : Lun) (s : State), ∃ becomes o, (becomes = fun (m : Lun) =>
    completes (.lunSlotBoundary id slot) s fun t => ∃ u, s.turnsLun u id m ∧ t = u.busNext (busOf id)) ∧ s.lun id = some l ∧
    s.bgMay = true ∧ s.power.step < 2 ∧ s.sound id = true ∧ s.flash.buses[busOf id].moving = none ∧ l.op = some o ∧ (∀ h rest,
    l.fg = h :: rest → h.kind ≠ .readFg ∨ NandOp.suspendable { o with ran := o.ran + 1 } (s.lengthNs / 16) = false ∨
    l.held.isSome = true) :=
  ⟨0x1000, 3, lunOf fun l => { l with op := some (atArray .programBg), fg := [opOf .programFg] }, withLun fun l =>
    { l with op := some (atArray .programBg), fg := [opOf .programFg] }, _, atArray .programBg, rfl, (by decide +kernel),
    (by decide +kernel), (by decide +kernel), (by decide +kernel), (by decide +kernel), (by decide +kernel), fun _ _ e => .inl
    (by have h : [opOf .programFg] = _ :: _ := e; cases h; decide +kernel)⟩

theorem witness_LunsComplete_7 : ∃ (ch : Fin 8) (s : State), 7 ≤ s.flash.buses[ch].denied :=
  ⟨0, full.modBus 0 fun b => { b with denied := 7 }, by decide +kernel⟩

theorem witness_LunsComplete_8 : ∃ (ch : Fin 8) (s : State), ∃ f fs g gs, s.flash.buses[ch].moving = none ∧ s.busWaits ch false
    = f :: fs ∧ s.busWaits ch true = g :: gs :=
  ⟨0, twoLuns (some (opOf .programFg)) (some (opOf .programBg)), 0x1000, [], 0x1001, [], by decide +kernel⟩

theorem witness_LunsComplete_9 : ∃ (ch : Fin 8) (s : State), ∃ f fs, s.flash.buses[ch].moving = none ∧ s.busWaits ch false = f
    :: fs ∧ s.busWaits ch true = [] :=
  ⟨0, twoLuns (some (opOf .programFg)) none, 0x1000, [], by decide +kernel⟩

theorem witness_LunsComplete_10 : ∃ (ch : Fin 8) (s : State), ∃ g gs, s.flash.buses[ch].moving = none ∧ s.busWaits ch false = []
    ∧ s.busWaits ch true = g :: gs :=
  ⟨0, twoLuns none (some (opOf .programBg)), 0x1001, [], by decide +kernel⟩

theorem witness_LunsComplete_11 : ∃ (id k : Nat) (slot : Fin 16) (l : Lun) (o : NandOp) (key : Nat × Nat) (b : Superblock) (w :
    Codeword) (s : State), ∃ hard soft others, s.flashRuns = true ∧ s.sound id = true ∧ s.flash.moves = [] ∧ s.flash.buses[busOf
    id].moving = some k ∧ s.lun k = some l ∧ l.op = some o ∧ o.phase = .dataOut (.read hard soft others) ∧ o.word = some key ∧
    s.sb o.group o.num = some b ∧ b.words.find? (·.is key) = some w ∧ o.rebuild = false ∧ decodes hard.head? = true :=
  ⟨0x1000, 0x1000, 3, lunOf fun l => { l with op := some (reading false (.read [some (word0.bytes .slcHost)] none [])) },
    reading false (.read [some (word0.bytes .slcHost)] none []), (0, 0), block 1 true .closed, word0, delivering (reading false
    (.read [some (word0.bytes .slcHost)] none [])), [some (word0.bytes .slcHost)], none, [], (by decide +kernel),
    (by decide +kernel), (by decide +kernel), (by decide +kernel), rfl, rfl, rfl, (by decide +kernel), (by decide +kernel),
    (by decide +kernel), (by decide +kernel), Sys2Proof.Laws.wordSound_bytes _ _ (by decide)⟩

theorem witness_LunsComplete_12 : ∃ (id k : Nat) (slot : Fin 16) (l : Lun) (o : NandOp) (key : Nat × Nat) (b : Superblock) (w :
    Codeword) (s : State), ∃ hard soft others, s.flashRuns = true ∧ s.sound id = true ∧ s.flash.moves = [] ∧ s.flash.buses[busOf
    id].moving = some k ∧ s.lun k = some l ∧ l.op = some o ∧ o.phase = .dataOut (.read hard soft others) ∧ o.word = some key ∧
    s.sb o.group o.num = some b ∧ b.words.find? (·.is key) = some w ∧ o.rebuild = true ∧ wordSound (xorAll others) = false :=
  ⟨0x1000, 0x1000, 3, lunOf fun l => { l with op := some (reading true (.read [] none [])) }, reading true (.read [] none []),
    (0, 0), block 1 true .closed, word0, delivering (reading true (.read [] none [])), [], none, [], by decide +kernel⟩

theorem witness_LunsComplete_13 : ∃ (id : Nat) (l : Lun) (o : NandOp) (s : State), s.flashRuns = true ∧ s.lun id = some l ∧ l.op
    = some o ∧ o.phase = .array ∧ (o.kind = .suspend ∨ o.kind = .lunReset) :=
  ⟨0x1000, lunOf fun l => { l with op := some (atArray .suspend) }, atArray .suspend, running (atArray .suspend),
    by decide +kernel⟩

theorem witness_LunsComplete_14 : ∃ (id : Nat) (l : Lun) (o : NandOp) (s : State), s.flashRuns = true ∧ s.lun id = some l ∧ l.op
    = some o ∧ o.phase = .array ∧ (o.kind = .readFg ∨ o.kind = .readBg) :=
  ⟨0x1000, lunOf fun l => { l with op := some (atArray .readFg) }, atArray .readFg, running (atArray .readFg),
    by decide +kernel⟩

theorem witness_LunsComplete_15 : ∃ (id : Nat) (l : Lun) (o : NandOp) (s : State), ∃ b, s.flashRuns = true ∧ s.lun id = some l ∧
    l.op = some o ∧ o.phase = .array ∧ s.sb o.group o.num = some b ∧ o.kind = .eraseBg :=
  ⟨0x1000, lunOf fun l => { l with op := some (atArray .eraseBg) }, atArray .eraseBg, running (atArray .eraseBg), block 1 true
    .closed, by decide +kernel⟩

theorem witness_LunsComplete_16 : ∃ (id : Nat) (l : Lun) (o : NandOp) (s : State), ∃ b, s.flashRuns = true ∧ s.lun id = some l ∧
    l.op = some o ∧ o.phase = .array ∧ s.sb o.group o.num = some b ∧ (o.kind = .programFg ∨ o.kind = .programBg) :=
  ⟨0x1000, lunOf fun l => { l with op := some (atArray .programBg) }, atArray .programBg, running (atArray .programBg), block 1
    true .closed, by decide +kernel⟩

theorem witness_LunsComplete_17 : ∃ (id : Nat) (l : Lun) (o : NandOp) (s : State), ∃ b p, s.flashRuns = true ∧ s.lun id = some l
    ∧ l.op = some o ∧ o.phase = .array ∧ s.sb o.group o.num = some b ∧ ((b.blocks.any fun k => k.lun == id && k.id %
    s.board.planes == p) = true) ∧ o.kind = .eraseBg :=
  ⟨0x1000, lunOf fun l => { l with op := some (atArray .eraseBg) }, atArray .eraseBg, running (atArray .eraseBg), block 1 true
    .closed, 1, by decide +kernel⟩

theorem witness_LunsComplete_18 : ∃ (id : Nat) (l : Lun) (o : NandOp) (s : State), ∃ b p, s.flashRuns = true ∧ s.lun id = some l
    ∧ l.op = some o ∧ o.phase = .array ∧ s.sb o.group o.num = some b ∧ ((b.blocks.any fun k => k.lun == id && k.id %
    s.board.planes == p) = true) ∧ (o.kind = .programFg ∨ o.kind = .programBg) :=
  ⟨0x1000, lunOf fun l => { l with op := some (atArray .programFg) }, atArray .programFg, running (atArray .programFg), block 1
    true .closed, 1, by decide +kernel⟩

theorem witness_LunsComplete_19 : ∃ (id : Nat) (l : Lun) (o : NandOp) (s : State), s.flashRuns = true ∧ s.lun id = some l ∧ l.op
    = some o ∧ o.kind ≠ .suspend ∧ o.kind ≠ .lunReset ∧ l.held = none :=
  ⟨0x1000, lunOf fun l => { l with op := some (atArray .programFg) }, atArray .programFg, running (atArray .programFg),
    by decide +kernel⟩

theorem witness_LunsComplete_20 : ∃ (g n lun : Nat) (b : Superblock) (s : State), s.flashRuns = true ∧ s.sb g n = some b ∧
    ((b.blocks.any fun k => k.lun == lun && k.erased && k.state == .erasePending) = true) :=
  ⟨0, 1, 0x1000, block 1 true .erasePending, withBlocks [block 1 true .erasePending], by decide +kernel⟩

theorem witness_RelocationsComplete_1 : ∃ (b : Superblock) (s : State), ∃ free all, s.bgMay = true ∧ ((s.flash.sbs.map fun x =>
    (x.group, x.num)).Nodup) ∧ b ∈ s.flash.sbs ∧ (∀ m ∈ s.flash.moves, (m.group, m.num) ≠ (b.group, b.num)) ∧ s.nativeFree
    b.group = (free, all) ∧ 0 < all ∧ (free * 100 ≤ 4 * all ∨ s.flash.collecting.contains b.group = true ∧ free * 100 < 6 * all)
    ∧ s.gcVictim b.group = some b :=
  ⟨block 1 true .closed, (withBlocks (freeBlock :: (List.range 19).map fun k => block (k + 1) true .closed)).modFlash (fun f =>
    { f with collecting := [0] }), 1, 20, by decide +kernel⟩

theorem witness_RelocationsComplete_2 : ∃ (b : Superblock) (s : State), ∃ free all, s.bgMay = true ∧ ((s.flash.sbs.map fun x =>
    (x.group, x.num)).Nodup) ∧ b ∈ s.flash.sbs ∧ (∀ m ∈ s.flash.moves, (m.group, m.num) ≠ (b.group, b.num)) ∧ s.nativeFree
    b.group = (free, all) ∧ 0 < all ∧ 6 * all ≤ free * 100 :=
  ⟨block 1 true .closed, withBlocks [freeBlock, block 1 true .closed], 1, 2, by decide +kernel⟩

theorem witness_RelocationsComplete_3 : ∃ (b : Superblock) (s : State), s.bgMay = true ∧ ((s.flash.sbs.map fun x => (x.group,
    x.num)).Nodup) ∧ b ∈ s.flash.sbs ∧ (∀ m ∈ s.flash.moves, (m.group, m.num) ≠ (b.group, b.num)) ∧ b.native = false ∧
    b.isClosed = true ∧ (∀ x ∈ s.flash.sbs, x.group = b.group → x.native = false → x.isClosed = true → x = b ∨ b.closedAt <
    x.closedAt) :=
  ⟨block 1 false .closed, withBlocks [freeBlock, block 1 false .closed], by decide +kernel⟩

theorem witness_RelocationsComplete_4 : ∃ (b : Superblock) (s : State), s.bgMay = true ∧ ((s.flash.sbs.map fun x => (x.group,
    x.num)).Nodup) ∧ b ∈ s.flash.sbs ∧ (∀ m ∈ s.flash.moves, (m.group, m.num) ≠ (b.group, b.num)) ∧ s.wornUneven b.group = true
    ∧ b.native = true ∧ b.isClosed = true ∧ s.oldData b = true ∧ (∀ x ∈ s.flash.sbs, x.group = b.group → x.native = true →
    x.isClosed = true → s.oldData x = true → x = b ∨ b.erases < x.erases) :=
  ⟨block 1 true .closed, withBlocks [freeBlock, block 1 true .closed,
    { block 2 true .closed with blocks := [{ nandBlock .closed with erases := 200 }] }], by decide +kernel⟩

theorem witness_RelocationsComplete_5 : ∃ (b : Superblock) (s : State), s.bgMay = true ∧ ((s.flash.sbs.map fun x => (x.group,
    x.num)).Nodup) ∧ b ∈ s.flash.sbs ∧ (∀ m ∈ s.flash.moves, (m.group, m.num) ≠ (b.group, b.num)) ∧ b.refreshDue = true :=
  ⟨{ block 1 true .opened with hard := true }, withBlocks [freeBlock, { block 1 true .opened with hard := true }],
    by decide +kernel⟩

theorem witness_RelocationsComplete_6 : ∃ (b : Superblock) (s : State), ∃ l id, s.bgMay = true ∧ ((s.flash.sbs.map fun x =>
    (x.group, x.num)).Nodup) ∧ b ∈ s.flash.sbs ∧ (∀ m ∈ s.flash.moves, (m.group, m.num) ≠ (b.group, b.num)) ∧ s.lun id = some l
    ∧ s.sound id = false ∧ (∀ x ∈ s.flash.sbs, x.luns.contains id = true → x.any .opened = false ∧ x.any .closed = false) :=
  ⟨block 1 true .free, withLost [block 1 true .free], lunOf id, 0x1000, by decide +kernel⟩

theorem witness_RelocationsComplete_7 : ∃ (b : Superblock) (s : State), ∃ l id, s.bgMay = true ∧ ((s.flash.sbs.map fun x =>
    (x.group, x.num)).Nodup) ∧ b ∈ s.flash.sbs ∧ (∀ m ∈ s.flash.moves, (m.group, m.num) ≠ (b.group, b.num)) ∧ s.lun id = some l
    ∧ s.sound id = false ∧ b.luns.contains id = true ∧ (b.any .opened = true ∨ b.any .closed = true) ∧ (∀ x ∈ s.flash.sbs,
    x.luns.contains id = true → x.any .opened = true ∨ x.any .closed = true → x = b) :=
  ⟨block 1 true .closed, withLost [freeBlock, block 1 true .closed], lunOf id, 0x1000, by decide +kernel⟩

theorem witness_RelocationsComplete_8 : ∃ (b : Superblock) (s : State), ∃ l id, s.bgMay = true ∧ ((s.flash.sbs.map fun x =>
    (x.group, x.num)).Nodup) ∧ b ∈ s.flash.sbs ∧ (∀ m ∈ s.flash.moves, (m.group, m.num) ≠ (b.group, b.num)) ∧ s.lun id = some l
    ∧ s.sound id = true ∧ ((b.blocks.any fun k => k.lun == id && (k.state == .opened || k.state == .closed) && decide
    (k.scrubbedAt + (if s.reach id = .degraded then 2 ^ 23 else 2 ^ 24) ≤ s.tb.measure)) = true) :=
  ⟨block 1 true .opened, withBlocks [block 1 true .opened], lunOf id, 0x1000, by decide +kernel⟩

theorem witness_TelemetryPatrolComplete_1 : ∃ (s : State) (temps : List (Nat × Int)) (top : Int), s.inService = true ∧ (∀ p ∈
    temps, (s.lun p.1).isSome = true) ∧ (∃ p ∈ temps, p.2 = top) ∧ (∀ p ∈ temps, p.2 ≤ top) :=
  ⟨up, [(0x1000, 45), (0x1001, -5)], 45, by decide +kernel⟩

theorem witness_TelemetryPatrolComplete_2 : ∃ (s : State) (rank : Fin 2) (n : Nat) (u : HwUnit), s.inService = true ∧ s.unit
    (0x3000 + rank) = some u ∧ u.data ≠ .offline ∧ s.flash.fixedRank ≠ rank :=
  ⟨up.modFlash (fun f => { f with fixedRank := 1 }), 0, 3, .fresh 0x3000 .online, by decide +kernel⟩

theorem witness_TelemetryPatrolComplete_3 : ∃ (s : State) (rank : Fin 2) (n : Nat) (u : HwUnit), s.inService = true ∧ s.unit
    (0x3000 + rank) = some u ∧ u.data ≠ .offline ∧ s.flash.fixedRank = rank :=
  ⟨up, 0, 3, .fresh 0x3000 .online, by decide +kernel⟩

theorem witness_TelemetryPatrolComplete_4 : ∃ (s : State) (rank : Fin 2) (n : Nat) (u : HwUnit), s.inService = true ∧ s.unit
    (0x3000 + rank) = some u ∧ u.data ≠ .offline ∧ n < 8 ∧ recent s.tb.measure u.events = [] :=
  ⟨up, 0, 7, .fresh 0x3000 .online, by decide +kernel⟩

theorem witness_LarkspurUpkeepCompletes_1 : ∃ (s : State), s.larkspurRuns = true :=
  ⟨up, by decide +kernel⟩

theorem witness_LarkspurUpkeepCompletes_2 : ∃ (s : State), s.larkspurRuns = true ∧ 64 ≤ s.lks.noIdle :=
  ⟨up.modLks fun a => { a with noIdle := 64 }, by decide +kernel⟩

theorem witness_LarkspurUpkeepCompletes_3 : ∃ (s : State) (k : Fin 5) (tb : Table) (a b : Nat), ∃ e, s.larkspurRuns = true ∧
    Table.ofNum k = some tb ∧ (s.store.tables.shape tb).ordered = true ∧ (s.store.tables.shape tb).holes ≠ 0 ∧ (moveFor
    (s.store.tables.slots tb) (s.store.tables.shape tb).holes ((s.store.tables.entries tb).map fun e => (s.store.tables.slots
    tb).index e.addr) = some (a, b)) ∧ e ∈ s.store.tables.entries tb :=
  ⟨fullAcl, 2, .acl, 15, 16, aclEntry 0, by decide +kernel⟩

theorem witness_LarkspurUpkeepCompletes_4 : ∃ (s : State) (k : Fin 8), s.larkspurRuns = true ∧ ((s.lks.rebuild.any fun r => r.1
    == k.val) = true) :=
  ⟨up.modLks (fun a => { a with rebuild := [(3, 90)] }), 3, by decide +kernel⟩

theorem witness_LarkspurUpkeepCompletes_5 : ∃ (s : State) (k : Fin 16) (u : HwUnit), s.larkspurRuns = true ∧ s.unit (0x4000 + k)
    = some u ∧ u.data = .fenced ∧ ((s.lks.cells.any fun f => f.stuck && f.pos / 8192 == k.val) = false) ∧
    (s.store.tables.cascade = none ∨ s.lks.lost = false) :=
  ⟨fencedBank [], 3, .fresh 0x4003 .fenced, by decide +kernel⟩

theorem witness_LarkspurUpkeepCompletes_6 : ∃ (s : State) (k : Fin 16) (u : HwUnit), ∃ passed, s.larkspurRuns = true ∧ s.unit
    (0x4000 + k) = some u ∧ u.data = .fenced ∧ (passed = false ∨ (s.lks.cells.any fun f => f.stuck && f.pos / 8192 == k.val) =
    true) ∧ u.events2 = [] :=
  ⟨fencedBank [], 3, .fresh 0x4003 .fenced, false, by decide +kernel⟩

theorem witness_LarkspurUpkeepCompletes_7 : ∃ (s : State) (k : Fin 16) (u : HwUnit), ∃ passed, s.larkspurRuns = true ∧ s.unit
    (0x4000 + k) = some u ∧ u.data = .fenced ∧ (passed = false ∨ (s.lks.cells.any fun f => f.stuck && f.pos / 8192 == k.val) =
    true) ∧ u.events2 ≠ [] :=
  ⟨fencedBank [50], 3, { HwUnit.fresh 0x4003 .fenced with events2 := [50] }, false, by decide +kernel⟩

theorem witness_CascadeCompletes_1 : ∃ (c : Cascade) (s : State) (header : Byte) (word : Bytes) (inp : Bool) (res : Bytes) (h :
    Nat) (u : State), h = s.cascadeHeader header ∧ (u = (s.modLks fun a => { a with txn := (h + 1) % 16, header := h })) ∧
    s.larkspurRuns = true ∧ s.store.tables.cascade = some c ∧ h / 64 ≠ s.lks.turn :=
  ⟨twoChips, cascaded fun a => { a with turn := 1 }, 0x80, [], false, [], _, _, rfl, rfl, by decide +kernel⟩

theorem witness_CascadeCompletes_2 : ∃ (c : Cascade) (s : State) (header : Byte) (word : Bytes) (inp : Bool) (res : Bytes) (h :
    Nat) (u : State), h = s.cascadeHeader header ∧ (u = (s.modLks fun a => { a with txn := (h + 1) % 16, header := h })) ∧
    s.larkspurRuns = true ∧ s.store.tables.cascade = some c ∧ h / 64 = s.lks.turn ∧ h / 16 % 4 = 0 ∧ s.lks.lost = false :=
  ⟨twoChips, cascaded id, 0x40, [], false, [], _, _, rfl, rfl, by decide +kernel⟩

theorem witness_CascadeCompletes_3 : ∃ (c : Cascade) (s : State) (header : Byte) (word : Bytes) (inp : Bool) (res : Bytes) (h :
    Nat) (u : State), h = s.cascadeHeader header ∧ (u = (s.modLks fun a => { a with txn := (h + 1) % 16, header := h })) ∧
    s.larkspurRuns = true ∧ s.store.tables.cascade = some c ∧ h / 64 = s.lks.turn ∧ h / 16 % 4 = 0 ∧ s.lks.lost = true ∧ 1023 ≤
    s.lks.goodTurns :=
  ⟨twoChips, cascaded fun a => { a with lost := true, goodTurns := 1023 }, 0x40, [], false, [], _, _, rfl, rfl,
    by decide +kernel⟩

theorem witness_CascadeCompletes_4 : ∃ (c : Cascade) (s : State) (header : Byte) (word : Bytes) (inp : Bool) (res : Bytes) (h :
    Nat) (u : State), h = s.cascadeHeader header ∧ (u = (s.modLks fun a => { a with txn := (h + 1) % 16, header := h })) ∧
    s.larkspurRuns = true ∧ s.store.tables.cascade = some c ∧ h / 64 = s.lks.turn ∧ h / 16 % 4 ≠ 0 ∧ h / 16 % 4 ≠ c.table.num :=
  ⟨twoChips, cascaded id, 0x20, [], false, [], _, _, rfl, rfl, by decide +kernel⟩

theorem witness_CascadeCompletes_5 : ∃ (c : Cascade) (s : State) (header : Byte) (word : Bytes) (inp : Bool) (res : Bytes) (h :
    Nat) (u : State), ∃ own low, h = s.cascadeHeader header ∧ (u = (s.modLks fun a =>
    { a with txn := (h + 1) % 16, header := h })) ∧ own = (u.consult c.table (beNat word)).search c.table (beNat word) ∧ low =
    decide (inp = false ∨ s.lks.chipId = 0) ∧ s.larkspurRuns = true ∧ s.store.tables.cascade = some c ∧ h / 64 = s.lks.turn ∧ h
    / 16 % 4 = c.table.num ∧ c.table ≠ .unassigned :=
  ⟨twoChips, cascaded id, 0x10, [1, 2], false, [], _, _, _, _, rfl, rfl, rfl, rfl, by decide +kernel⟩

theorem witness_CascadeCompletes_6 : ∃ (c : Cascade) (s : State), s.larkspurRuns = true ∧ s.store.tables.cascade = some c :=
  ⟨twoChips, cascaded id, by decide +kernel⟩

theorem witness_CascadeCompletes_7 : ∃ (c : Cascade) (s : State), ∃ e rest, s.larkspurRuns = true ∧ s.store.tables.cascade =
    some c ∧ (c.table = .peer ∨ c.table = .acl) ∧ c.switches = e :: rest ∧ e ≤ s.tb.measure ∧ (∀ l ∈ s.seq.sealed, e ≤
    l.measure) :=
  ⟨twoChips, cascaded id, 100, [], by decide +kernel⟩

theorem witness_ChorusStepsComplete_1 : ∃ (c : Chorus) (s : State) (round : Fin 2), ∃ n t0 r, n = round.val + 1 ∧ t0 =
    s.tb.measure - n ∧ r = (s.chorus.report c.self t0 n).getD (s.ownReport c t0 n) ∧ s.inService = true ∧ s.store.chorus = some
    c ∧ s.tb.opened = true ∧ c.e + n ≤ s.tb.measure ∧ (c.resuming = none ∨ s.ownFenced c = false) :=
  ⟨ch3, inChorusOf ch3, 0, _, _, _, rfl, rfl, rfl, by decide +kernel⟩

theorem witness_ChorusStepsComplete_2 : ∃ (c : Chorus) (s : State) (k : Fin 8), s.inService = true ∧ s.store.chorus = some c ∧
    c.isParked = false ∧ k.val ≠ c.self ∧ k.val < c.members ∧ s.chorus.lastHeard[k] + 64 ≤ s.tb.measure :=
  ⟨ch3, inChorusOf ch3, 1, by decide +kernel⟩

theorem witness_ChorusStepsComplete_3 : ∃ (c : Chorus) (s : State), ∃ f, s.inService = true ∧ s.store.chorus = some c ∧
    (s.dataView c.ownId).num < 2 ∧ s.chorus.transferDue = false ∧ c.restore = none ∧ c.isParked = false ∧ getKey (c.lastSealed +
    1) s.chorus.fetched = some f ∧ s.seq.bytes + setBytes f ≤ writeOf s.store.length :=
  ⟨ch3, (behind ch3).modChorus (fun k => { k with fetched := [(98, [rq 2 [1] [9] 1])] }), [rq 2 [1] [9] 1], by decide +kernel⟩

theorem witness_ChorusStepsComplete_4 : ∃ (c : Chorus) (s : State), ∃ k, s.inService = true ∧ s.store.chorus = some c ∧
    (s.dataView c.ownId).num < 2 ∧ s.chorus.transferDue = false ∧ c.restore = none ∧ c.isParked = false ∧ s.chorus.fetched = []
    ∧ s.resumes c = false ∧ s.source c = some k ∧ c.lastSealed + 3 < s.tb.measure :=
  ⟨ch3Behind, behind ch3Behind, 1, by decide +kernel⟩

theorem witness_ChorusStepsComplete_5 : ∃ (c : Chorus) (s : State), s.inService = true ∧ s.store.chorus = some c ∧ (s.dataView
    c.ownId).num < 2 ∧ s.chorus.transferDue = false ∧ c.restore = none ∧ c.isParked = false ∧ s.chorus.fetched = [] ∧ s.resumes
    c = false ∧ s.tb.measure ≤ c.lastSealed + 3 ∧ s.mayRise c = true :=
  ⟨ch3, (behind ch3).modChorus fun k => { k with reports := [sameChain] }, by decide +kernel⟩

theorem witness_ChorusStepsComplete_6 : ∃ (c : Chorus) (s : State), s.inService = true ∧ s.store.chorus = some c ∧ (s.dataView
    c.ownId).num < 2 ∧ c.restore = none ∧ (s.chorus.transferDue = true ∨ c.lastSealed + 65536 < s.tb.measure) :=
  ⟨ch3, (behind ch3).modChorus fun k => { k with transferDue := true }, by decide +kernel⟩

theorem witness_ChorusStepsComplete_7 : ∃ (c : Chorus) (s : State), ∃ sn, s.inService = true ∧ s.store.chorus = some c ∧
    c.checkpoint = some sn :=
  ⟨ch3Snap, inChorusOf ch3Snap, snap10, by decide +kernel⟩

theorem witness_ChorusStepsComplete_8 : ∃ (c : Chorus) (s : State) (m : Nat), s.inService = true ∧ s.store.chorus = some c ∧
    s.chorus.unconfirmed.contains m = true ∧ m + 4 ≤ s.tb.measure :=
  ⟨ch3, (inChorusOf ch3).modChorus fun k => { k with unconfirmed := [96] }, 96, by decide +kernel⟩

end Sys2Proof.Tests
end

