-- ==== Sys2Proof/Tests/WitnessNet.lean ====
section
/-! SUPPORT. For each clause of the statements on frames, addresses, gPTP and transmission, a state and operands that meet its hypotheses. -/

namespace Sys2Proof.Tests

open Sys2Proof Sys2Proof.Machine

set_option Elab.async false

/-- `talk` with port 0 changed. -/
def onPort (f : Port → Port) : State := talk.modPort 0 f

/-- A GET of key 1 of namespace 1 on the wire. -/
def getBytes : Bytes := encodeRequest (rq 1 [1] [] 0)

/-- The IP packet that carries it, to the port's own address. -/
def getPacket : Packet := ⟨false, 10, linkLocal 0, true, false, false, .udp 1000 47810 true false getBytes⟩

/-- Its frame. -/
def getFrame : Frame := ⟨120, true, 0, 1, none, none, .ip getPacket⟩

/-- A frame that waits for the MAC. -/
def frameOf (c : TxClass) (desc : Nat) : TxFrame := { TxFrame.make c 0 0 10 1000 [1, 2] with desc }

/-- A port with a frame of the control class and one of the queue. -/
def toSend : State := onPort fun q => { q with urgent := [frameOf .control 3], queue := [frameOf .queue 4] }

/-- `toSend` with a PAUSE frame, and paused. -/
def pausing : State := onPort fun q => { q with paused := true, urgent := [frameOf .control 3, frameOf .pause 5] }

/-- The descriptor of a frame that arrived under the settings in force, and `talk` with it waiting for its check. -/
def slot0 : RxSlot := ⟨(talk.net 0).set, .online, 1522⟩
def arriving : State := onPort fun q => { q with rxPending := [slot0], rxDesc := 1, rxBytes := 1522 }

theorem witness_EthernetReceiveCompletes_1 : ∃ (p : Fin 2) (s : State), s.receives p = true ∧ s.rxRoom p = true ∧ (s.net
    p).set.flow = false :=
  ⟨0, talk.modNet 0 fun n => { n with set := { n.set with flow := false } }, by decide +kernel⟩

theorem witness_EthernetReceiveCompletes_2 : ∃ (p : Fin 2) (s : State), s.receives p = true ∧ s.rxRoom p = true ∧ (s.net
    p).set.flow = true ∧ s.above p = false ∧ ((s.net p).set.highWm * 1024 < (s.port p).rxBytes + (s.net p).maxFrame ∨ 48 ≤
    (s.port p).rxDesc) :=
  ⟨0, onPort fun q => { q with rxBytes := 384 * 1024 - 100 }, by decide +kernel⟩

theorem witness_EthernetReceiveCompletes_3 : ∃ (p : Fin 2) (s : State), s.receives p = true ∧ s.rxRoom p = false :=
  ⟨0, onPort fun q => { q with rxDesc := 64 }, by decide +kernel⟩

theorem witness_EthernetReceiveCompletes_4 : ∃ (p : Fin 2) (s : State) (f : Frame) (x : RxSlot), ∃ xs, s.receives p = true ∧
    (s.port p).rxPending = x :: xs ∧ f.fcsOk = false :=
  ⟨0, arriving, { getFrame with fcsOk := false }, slot0, [], by decide +kernel⟩

theorem witness_EthernetReceiveCompletes_5 : ∃ (p : Fin 2) (s : State) (f : Frame) (x : RxSlot), ∃ xs, ∃ (k : Packet), ∃ sp ok
    zero payload src r, src =
    { port := p, vid := f.vid, ip := k.srcIp, udp := sp, group := s.groupIps.contains k.dstIp, verified := false } ∧ s.receives
    p = true ∧ (s.port p).rxPending = x :: xs ∧ x.set = (s.net p).set ∧ f.fcsOk = true ∧ 64 ≤ f.len ∧ f.len ≤ x.bytes ∧
    s.filterPass p f = true ∧ f.sec = none ∧ (s.net p).policy ≠ .strict ∧ f.content = .ip k ∧ k.proto = .udp sp 47810 ok zero
    payload ∧ s.ipCheck p k = none ∧ s.serves src ∧ s.skpCheck src payload = .inr r :=
  ⟨0, arriving, getFrame, slot0, [], getPacket, 1000, true, false, getBytes, _, parseRequest src0 getBytes, rfl,
    by unfold State.serves; decide +kernel⟩

theorem witness_EthernetReceiveCompletes_6 : ∃ (p : Fin 2) (s : State), ∃ n r rest x, s.receives p = true ∧ (s.port p).parser =
    (n, r) :: rest ∧ 1 ≤ r.op ∧ r.op ≤ 0x0B ∧ s.readySkp r x :=
  ⟨0, onPort fun q => { q with parser := [(120, rq 1 [1] [] 0)], rxDesc := 1, rxBytes := 120 }, 120, rq 1 [1] [] 0, [], sess,
    by unfold State.readySkp State.serves; decide +kernel⟩

theorem witness_EthernetReceiveCompletes_7 : ∃ (p : Fin 2) (s : State), ∃ quanta, s.receives p = true ∧ (s.net
    p).set.honourPause = true ∧ quanta ≠ 0 :=
  ⟨0, talk, 5, by decide +kernel⟩

theorem witness_EthernetReceiveCompletes_8 : ∃ (p : Fin 2) (s : State), s.receives p = true ∧ (s.net p).set.honourPause = true ∧
    (s.port p).paused = true :=
  ⟨0, onPort fun q => { q with paused := true }, by decide +kernel⟩

theorem witness_EthernetReceiveCompletes_9 : ∃ (p : Fin 2) (s : State), s.receives p = true ∧ (s.port p).paused = true :=
  ⟨0, onPort fun q => { q with paused := true }, by decide +kernel⟩

theorem witness_EthernetReceiveCompletes_10 : ∃ (p : Fin 2) (s : State), s.receives p = true ∧ (s.net p).set.flow = true ∧
    (s.port p).xoff = true ∧ (s.port p).high (s.net p).set = true :=
  ⟨0, onPort fun q => { q with xoff := true, rxBytes := 384 * 1024 + 1 }, by decide +kernel⟩

theorem witness_AddressesAndTimeComplete_1 : ∃ (p : Fin 2) (s : State), ∃ target, s.resolves p = true ∧ (s.net p).ipv4 = some
    target :=
  ⟨0, talk.modNet 0 fun n => { n with ipv4 := some 5 }, 5, by decide +kernel⟩

theorem witness_AddressesAndTimeComplete_2 : ∃ (p : Fin 2) (s : State), ∃ target, s.resolves p = true ∧ (s.net p).ipv4 ≠ some
    target :=
  ⟨0, talk.modNet 0 fun n => { n with ipv4 := some 5 }, 6, by decide +kernel⟩

theorem witness_AddressesAndTimeComplete_3 : ∃ (p : Fin 2) (s : State), ∃ target, s.resolves p = true ∧ target ∈ s.addresses p ∧
    isV4 target = false :=
  ⟨1, talk, linkLocal 1, by decide +kernel⟩

theorem witness_AddressesAndTimeComplete_4 : ∃ (p : Fin 2) (s : State), ∃ target, s.resolves p = true ∧ target ∉ s.addresses p :=
  ⟨1, talk, linkLocal 0, by decide +kernel⟩

theorem witness_AddressesAndTimeComplete_5 : ∃ (p : Fin 2) (s : State) (k : Packet), ∃ payload, s.inService = true ∧
    s.portUsable p = true ∧ k.proto = .echo payload ∧ payload.length ≤ 256 ∧ k.dstIp ∈ s.addresses p :=
  ⟨0, talk, { getPacket with proto := .echo (zeros 256) }, zeros 256, by decide +kernel⟩

theorem witness_AddressesAndTimeComplete_6 : ∃ (p : Fin 2) (s : State) (k : Packet), ∃ payload, s.inService = true ∧
    s.portUsable p = true ∧ k.proto = .echo payload ∧ 256 < payload.length :=
  ⟨0, talk, { getPacket with proto := .echo (zeros 257) }, zeros 257, by decide +kernel⟩

theorem witness_AddressesAndTimeComplete_7 : ∃ (p : Fin 2) (s : State) (i : Int), s.ptpRuns p = true ∧ -5 ≤ i ∧ i ≤ 0 :=
  ⟨1, talk, -5, by decide +kernel⟩

theorem witness_AddressesAndTimeComplete_8 : ∃ (p : Fin 2) (s : State) (o : Fin 2), o ≠ p ∧ s.tb.source = some p ∧ (s.port
    o).synced = true :=
  ⟨0, (talk.modTb fun t => { t with source := some 0 }).modPort 1 fun q => { q with synced := true }, 1, by decide +kernel⟩

theorem witness_AddressesAndTimeComplete_9 : ∃ (p : Fin 2) (s : State) (o : Fin 2), o ≠ p ∧ s.tb.source = some p ∧ (s.port
    o).synced = false ∧ s.tb.state = .locked :=
  ⟨0, talk.modTb fun t => { t with source := some 0, state := .locked }, 1, by decide +kernel⟩

theorem witness_AddressesAndTimeComplete_10 : ∃ (p : Fin 2) (s : State), s.tb.state = .holdover :=
  ⟨0, talk.modTb fun t => { t with state := .holdover }, by decide +kernel⟩

theorem witness_AddressesAndTimeComplete_11 : ∃ (p : Fin 2) (s : State), s.power.mode = .startup ∧ s.power.inReset = false :=
  ⟨0, { talk with power := { talk.power with mode := .startup } }, by decide +kernel⟩

theorem witness_AddressesAndTimeComplete_12 : ∃ (p : Fin 2) (s : State), s.ptpRuns p = true :=
  ⟨0, talk, by decide +kernel⟩

theorem witness_AddressesAndTimeComplete_13 : ∃ (p : Fin 2) (s : State), s.ptpRuns p = true ∧ (s.port p).link = true :=
  ⟨0, talk, by decide +kernel⟩

theorem witness_AddressesAndTimeComplete_14 : ∃ (p : Fin 2) (s : State), ∃ seq t1, s.ptpRuns p = true ∧ (s.port p).pdelaySent =
    some (seq, t1) :=
  ⟨0, onPort fun q => { q with pdelaySent := some (9, 100) }, 9, 100, by decide +kernel⟩

theorem witness_AddressesAndTimeComplete_15 : ∃ (p : Fin 2) (s : State), s.power.inReset = false ∧ s.power.mode = .service :=
  ⟨0, talk, by decide +kernel⟩

theorem witness_AddressesAndTimeComplete_16 : ∃ (p : Fin 2) (s : State), (s.tb.state = .locked ∨ s.tb.state = .aligning ∨
    s.tb.state = .holdover) :=
  ⟨0, talk.modTb fun t => { t with state := .holdover }, by decide +kernel⟩

theorem witness_TransmissionAndLinksComplete_1 : ∃ (p : Fin 2) (s : State), ∃ f q, s.transmits p = true ∧ (s.net p).policy =
    .disabled ∧ (s.port p).choose (s.portNow p) (s.net p).keyless (s.net p).fits = some (f, q) :=
  ⟨0, pausing, frameOf .pause 5, { pausing.port 0 with urgent := [frameOf .control 3] }, by decide +kernel⟩

theorem witness_TransmissionAndLinksComplete_2 : ∃ (p : Fin 2) (s : State), s.inService = true ∧ s.tb.measure % 64 = 0 ∧
    s.portUsable p = true :=
  ⟨0, talk.modTb fun t => { t with measure := 128 }, by decide +kernel⟩

theorem witness_TransmissionAndLinksComplete_3 : ∃ (p : Fin 2) (s : State), ∃ d f, f ∈ (s.port p).queue ∧ f.desc = d :=
  ⟨0, toSend, 4, frameOf .queue 4, by decide +kernel⟩

theorem witness_TransmissionAndLinksComplete_4 : ∃ (p : Fin 2) (s : State), ∃ d, d < (s.port p).nextDesc ∧ (∀ f ∈ (s.port
    p).queue, f.desc ≠ d) :=
  ⟨0, onPort fun q => { q with nextDesc := 5, queue := [frameOf .queue 3] }, 4, by decide +kernel⟩

theorem witness_TransmissionAndLinksComplete_5 : ∃ (p : Fin 2) (s : State), (s.port p).link = true :=
  ⟨0, talk, by decide +kernel⟩

theorem witness_TransmissionAndLinksComplete_6 : ∃ (p : Fin 2) (s : State), ∃ rate, s.power.inReset = false ∧ s.power.mode ≠
    .custody ∧ (p = 1 → s.board.port1 = true) ∧ rate ≤ (s.net p).set.maxRate ∧ (s.port p).link = false :=
  ⟨1, talk.modPort 1 fun q => { q with link := false }, 4, by decide +kernel⟩

theorem witness_TransmissionAndLinksComplete_7 : ∃ (p : Fin 2) (s : State), ∃ rate full, s.power.inReset = false ∧ s.power.mode
    ≠ .custody ∧ (p = 1 → s.board.port1 = true) ∧ (full = false ∨ (s.net p).set.maxRate < rate) :=
  ⟨1, talk, 5, true, by decide +kernel⟩

theorem witness_TransmissionAndLinksComplete_8 : ∃ (p : Fin 2) (s : State) (value : Nat), s.inService = true ∧ value ≠ 0 :=
  ⟨0, talk, 5, by decide +kernel⟩

theorem witness_TransmissionAndLinksComplete_9 : ∃ (p : Fin 2) (s : State), s.power.inReset = false ∧ s.power.mode ≠ .custody ∧
    s.power.mode ≠ .startup :=
  ⟨0, talk, by decide +kernel⟩

end Sys2Proof.Tests
end

