-- ==== Sys2Proof/Tests/WitnessPower.lean ====
section
/-! SUPPORT. For each clause of the statements on resets, stops, start-up, Custody, the Cantor cluster, mailbox registers and SPI frames, a state and operands that meet its hypotheses. -/

namespace Sys2Proof.Tests

open Sys2Proof Sys2Proof.Machine

set_option Elab.async false

/-- `up` with the power controller changed. -/
def withPower (f : Power → Power) : State := up.modPower f

/-- `up` in Custody entry, planned in measure 96. -/
def entering : State :=
  (withPower fun p => { p with mode := .quiesceCustody, plan := some ⟨96, true⟩ }).modTb fun t => { t with persisted := 97 }

/-- `up` with one region that lets cores load the bytes below 3. -/
def guarded : State := up.modCluster fun c => { c with regions := Vector.replicate 4 [⟨0, 3, true, false, false⟩] }

/-- `up` with a line that two cores wait for; core 2 has waited behind one grant. -/
def contended : State := up.modCluster fun c => { c with dir := [⟨5, some 1, [(0, 0), (2, 1)]⟩] }

/-- The requests of that line wait as the round robin lets them. -/
theorem contended_fair : (contended.dirLine 5).fair := by
  have h : contended.dirLine 5 = ⟨5, some 1, [(0, 0), (2, 1)]⟩ := by decide +kernel
  rw [h]
  refine ⟨by decide, fun j => ?_⟩
  match j with
  | 0 => exact .inr (by decide)
  | 1 => exact .inr (by decide)
  | j + 2 => exact .inl (by simp)

/-- `up` with mailbox 1 in a state, by SPI or over Ethernet. -/
def withMbx (v : MbxState) (eth : Bool) : State :=
  (up.modMbx 1 fun b => { b with state := v, eth, request := padTo 512 (requestEnvelope 0x0105 1 0 7 [110, 115, 120, 125]) }).modSpi
    fun p => { p with winsel := 1 }

/-- `up` with DEVICE.SET_THERMAL posted in mailbox 1. -/
def posting (args : Bytes) : State :=
  up.modMbx 1 fun b => { b with state := .posted, request := padTo 512 (requestEnvelope 0x0105 1 0 7 args) }

/-- What 0x0105 is. -/
theorem op_thermal {n : Nat} (h : n = 0x0105) : commandOf n = some cmdDeviceSetThermal := by subst h; rfl

/-- A management message: DEVICE.ECHO for mailbox `m` with a sequence. -/
def message (m flags seq : Nat) : Bytes := skpHeader 0x20 0 0 0 0 0 0 0 0 0 16 0 0 ++ requestEnvelope 0x0102 m flags seq []

theorem witness_ResetsAndStopsComplete_1 : ∃ (s : State), s.power.mode ≠ .custody ∧ s.power.inReset = false ∧ s.power.wdogPaused
    = false :=
  ⟨up, by decide +kernel⟩

theorem witness_ResetsAndStopsComplete_2 : ∃ (s : State), ∃ m, (s.mb m).state = .running ∧ s.waitsForSlot m = false :=
  ⟨withMbx .running false, 1, by decide +kernel⟩

theorem witness_ResetsAndStopsComplete_3 : ∃ (s : State), s.inService = true :=
  ⟨up, by decide +kernel⟩

theorem witness_ResetsAndStopsComplete_4 : ∃ (s : State), ∃ pl, s.inService = true ∧ s.power.plan = some pl ∧ pl.custody = false
    ∧ pl.adm + 4 ≤ s.tb.measure :=
  ⟨withPower fun p => { p with plan := some ⟨96, false⟩ }, ⟨96, false⟩, by decide +kernel⟩

theorem witness_ResetsAndStopsComplete_5 : ∃ (s : State), ∃ tj, s.inService = true ∧ s.limitTf + 5 ≤ tj :=
  ⟨up, 130, by decide +kernel⟩

theorem witness_ResetsAndStopsComplete_6 : ∃ (s : State), ∃ x h, s.power.mode = .quiesceStop ∧ s.power.stopping = some (x, h) ∧
    s.power.stopCode = none ∧ s.power.pwrFail = true :=
  ⟨withPower fun p => { p with mode := .quiesceStop, stopping := some (100, true), pwrFail := true }, 100, true,
    by decide +kernel⟩

theorem witness_ResetsAndStopsComplete_7 : ∃ (s : State), ∃ x h c, s.power.mode = .quiesceStop ∧ s.power.stopping = some (x, h)
    ∧ s.power.stopCode = some c :=
  ⟨withPower fun p => { p with mode := .quiesceStop, stopping := some (100, true), stopCode := some .thermal }, 100, true,
    .thermal, by decide +kernel⟩

theorem witness_ResetsAndStopsComplete_8 : ∃ (s : State), s.power.mode = .quiesceStop ∧ s.power.stopped = true ∧
    s.power.stopCode = none :=
  ⟨withPower fun p => { p with mode := .quiesceStop, stopped := true }, by decide +kernel⟩

theorem witness_ResetsAndStopsComplete_9 : ∃ (s : State), s.power.mode ≠ .quiesceStop :=
  ⟨up, by decide +kernel⟩

theorem witness_AccessesAreCheckedWhole_1 : ∃ (core : Fin 4) (access : Access) (start size : Nat) (s : State), s.cantorRuns =
    true ∧ access ≠ .descriptor ∧ (∃ a, start ≤ a ∧ a < start + size ∧ ∀ r ∈ s.cluster.regions[core], ¬ (r.base ≤ a ∧ a <
    r.limit ∧ r.grants access false = true)) :=
  ⟨0, .load, 0, 4, guarded, (by decide +kernel), (by decide +kernel), ⟨3, by decide, by decide, by decide +kernel⟩⟩

theorem witness_AccessesAreCheckedWhole_2 : ∃ (core : Fin 4) (access : Access) (start size : Nat) (s : State), s.cantorRuns =
    true ∧ access ≠ .descriptor ∧ (∀ a, start ≤ a → a < start + size → ∃ r ∈ s.cluster.regions[core], r.base ≤ a ∧ a < r.limit ∧
    r.grants access false = true) :=
  ⟨0, .load, 0, 3, guarded, (by decide +kernel), (by decide +kernel), fun a _ h => ⟨⟨0, 3, true, false, false⟩,
    by decide +kernel, Nat.zero_le a, h, rfl⟩⟩

theorem witness_CustodyCompletes_1 : ∃ (s : State), s.custodyPlan.isSome = true :=
  ⟨entering, by decide +kernel⟩

theorem witness_CustodyCompletes_2 : ∃ (s : State), ∃ adm, s.custodyPlan = some adm ∧ s.custodyReady adm = true ∧
    s.power.wakeKept = none :=
  ⟨entering, 96, by decide +kernel⟩

theorem witness_CustodyCompletes_3 : ∃ (s : State), s.power.mode = .custody :=
  ⟨withPower fun p => { p with mode := .custody }, by decide +kernel⟩

theorem witness_CustodyCompletes_4 : ∃ (s : State), s.power.mode = .quiesceCustody ∧ s.power.wakeKept = none :=
  ⟨entering, by decide +kernel⟩

theorem witness_StartUpCompletes_1 : ∃ (v c0 c1 : Fin 8) (s : State), v = 0 ∧ s.power.inReset = true ∧ s.power.held = false ∧
    s.power.thermalHold = false ∧ s.power.pwrFail = false :=
  ⟨_, 1, 2, State.reset, rfl, by decide +kernel⟩

theorem witness_StartUpCompletes_2 : ∃ (v c0 c1 : Fin 8) (s : State), s.power.inReset = true ∧ s.power.held = false ∧
    s.power.thermalHold = false ∧ s.power.pwrFail = false ∧ v ≠ 0 ∧ s.power.recoveryRequest = false ∧ s.slotPasses
    s.nor.activeSlot = true ∧ s.nor.bootState ≠ .reverting ∧ s.nor.ready = false ∧ s.nor.installing = false ∧ s.power.failed =
    false ∧ s.imageBad = false :=
  ⟨1, 1, 2, State.reset, by decide +kernel⟩

theorem witness_StartUpCompletes_3 : ∃ (time : Nat) (found : Found) (s : State), s.power.mode = .startup ∧ s.power.inReset =
    false ∧ s.power.held = false ∧ s.power.loaded = true ∧ s.nor.installing = false ∧ (s.tb.waitOver = true ∨ s.tb.source.isSome
    = true) :=
  ⟨5, ⟨[], [], [], [], []⟩, (withPower fun p => { p with mode := .startup }).modTb fun t => { t with waitOver := true },
    by decide +kernel⟩

theorem witness_PowerBallsComplete_1 : ∃ (s : State), ∃ tj, tj < s.limitTf - 15 :=
  ⟨up, 109, by decide +kernel⟩

theorem witness_PowerBallsComplete_2 : ∃ (s : State), s.power.mode ≠ .custody ∧ s.power.inReset = false ∧ s.power.wdogPaused =
    false :=
  ⟨up, by decide +kernel⟩

theorem witness_OwnershipCompletes_1 : ∃ (line : Nat) (s : State) (cores : List (Fin 4)), s.cantorRuns = true ∧ cores ≠ [] ∧
    (s.dirLine line).waiting = [] :=
  ⟨5, up, [1, 3], by decide +kernel⟩

theorem witness_OwnershipCompletes_2 : ∃ (line : Nat) (s : State), s.cantorRuns = true ∧ (s.dirLine line).waiting ≠ [] :=
  ⟨5, contended, by decide +kernel⟩

theorem witness_OwnershipCompletes_3 : ∃ (line : Nat) (s : State) (cores : List (Fin 4)), s.cantorRuns = true ∧ (s.dirLine
    line).fair ∧ cores.Nodup :=
  ⟨5, contended, [1, 3], (by decide +kernel), contended_fair, (by decide +kernel)⟩

theorem witness_MailboxRegistersComplete_1 : ∃ (m : Fin 8) (s : State), ∃ turned busy, (turned = fun (t : State) (f : Mailbox →
    Mailbox) => t.mb m = f (s.mb m) ∧ (∀ k, k ≠ m → t.mb k = s.mb k) ∧ t.spi.portStat = spiDone + (if t.mirq then spiIrq else 0)
    ∧ t = { s with mbx := t.mbx, spi := { s.spi with portStat := t.spi.portStat, miso := t.spi.miso } }) ∧ (busy = fun (t :
    State) => t.spi.portStat = spiBusy + (if s.mirq then spiIrq else 0) ∧ t =
    { s with spi := { s.spi with portStat := t.spi.portStat, miso := t.spi.miso } }) ∧ s.inService = true ∧ (s.mb m).taken =
    false ∧ (s.mb m).state = .loading :=
  ⟨1, withMbx .loading false, _, _, rfl, rfl, by decide +kernel⟩

theorem witness_MailboxRegistersComplete_2 : ∃ (m : Fin 8) (s : State), ∃ turned busy, (turned = fun (t : State) (f : Mailbox →
    Mailbox) => t.mb m = f (s.mb m) ∧ (∀ k, k ≠ m → t.mb k = s.mb k) ∧ t.spi.portStat = spiDone + (if t.mirq then spiIrq else 0)
    ∧ t = { s with mbx := t.mbx, spi := { s.spi with portStat := t.spi.portStat, miso := t.spi.miso } }) ∧ (busy = fun (t :
    State) => t.spi.portStat = spiBusy + (if s.mirq then spiIrq else 0) ∧ t =
    { s with spi := { s.spi with portStat := t.spi.portStat, miso := t.spi.miso } }) ∧ s.inService = true ∧ (s.mb m).taken =
    false ∧ (s.mb m).state ≠ .loading :=
  ⟨1, withMbx .idle false, _, _, rfl, rfl, by decide +kernel⟩

theorem witness_MailboxRegistersComplete_3 : ∃ (m : Fin 8) (s : State), ∃ turned busy, (turned = fun (t : State) (f : Mailbox →
    Mailbox) => t.mb m = f (s.mb m) ∧ (∀ k, k ≠ m → t.mb k = s.mb k) ∧ t.spi.portStat = spiDone + (if t.mirq then spiIrq else 0)
    ∧ t = { s with mbx := t.mbx, spi := { s.spi with portStat := t.spi.portStat, miso := t.spi.miso } }) ∧ (busy = fun (t :
    State) => t.spi.portStat = spiBusy + (if s.mirq then spiIrq else 0) ∧ t =
    { s with spi := { s.spi with portStat := t.spi.portStat, miso := t.spi.miso } }) ∧ s.inService = true ∧ (s.mb m).taken =
    false ∧ (s.mb m).state = .posted :=
  ⟨1, withMbx .posted false, _, _, rfl, rfl, by decide +kernel⟩

theorem witness_MailboxRegistersComplete_4 : ∃ (m : Fin 8) (s : State), ∃ turned busy, (turned = fun (t : State) (f : Mailbox →
    Mailbox) => t.mb m = f (s.mb m) ∧ (∀ k, k ≠ m → t.mb k = s.mb k) ∧ t.spi.portStat = spiDone + (if t.mirq then spiIrq else 0)
    ∧ t = { s with mbx := t.mbx, spi := { s.spi with portStat := t.spi.portStat, miso := t.spi.miso } }) ∧ (busy = fun (t :
    State) => t.spi.portStat = spiBusy + (if s.mirq then spiIrq else 0) ∧ t =
    { s with spi := { s.spi with portStat := t.spi.portStat, miso := t.spi.miso } }) ∧ s.inService = true ∧ (s.mb m).taken =
    false ∧ (s.mb m).state = .running :=
  ⟨1, withMbx .running false, _, _, rfl, rfl, by decide +kernel⟩

theorem witness_MailboxRegistersComplete_5 : ∃ (m : Fin 8) (s : State), ∃ turned busy, (turned = fun (t : State) (f : Mailbox →
    Mailbox) => t.mb m = f (s.mb m) ∧ (∀ k, k ≠ m → t.mb k = s.mb k) ∧ t.spi.portStat = spiDone + (if t.mirq then spiIrq else 0)
    ∧ t = { s with mbx := t.mbx, spi := { s.spi with portStat := t.spi.portStat, miso := t.spi.miso } }) ∧ (busy = fun (t :
    State) => t.spi.portStat = spiBusy + (if s.mirq then spiIrq else 0) ∧ t =
    { s with spi := { s.spi with portStat := t.spi.portStat, miso := t.spi.miso } }) ∧ s.inService = true ∧ (s.mb m).taken =
    false ∧ ((s.mb m).state = .loading ∨ (s.mb m).state = .done) :=
  ⟨1, withMbx .done false, _, _, rfl, rfl, by decide +kernel⟩

theorem witness_MailboxRegistersComplete_6 : ∃ (m : Fin 8) (s : State), ∃ turned busy, ∃ (off : Nat) (d : Bytes), (turned = fun
    (t : State) (f : Mailbox → Mailbox) => t.mb m = f (s.mb m) ∧ (∀ k, k ≠ m → t.mb k = s.mb k) ∧ t.spi.portStat = spiDone + (if
    t.mirq then spiIrq else 0) ∧ t =
    { s with mbx := t.mbx, spi := { s.spi with portStat := t.spi.portStat, miso := t.spi.miso } }) ∧ (busy = fun (t : State) =>
    t.spi.portStat = spiBusy + (if s.mirq then spiIrq else 0) ∧ t =
    { s with spi := { s.spi with portStat := t.spi.portStat, miso := t.spi.miso } }) ∧ s.inService = true ∧ (s.mb m).taken =
    false ∧ s.spi.winsel = m ∧ (s.mb m).request.length = 512 ∧ ((s.mb m).state = .idle ∨ (s.mb m).state = .loading) ∧ off % 4 =
    0 ∧ d.length % 4 = 0 ∧ 4 ≤ d.length ∧ off + d.length ≤ 512 :=
  ⟨1, withMbx .idle false, _, _, 508, le 4 9, rfl, rfl, by decide +kernel⟩

theorem witness_MailboxRegistersComplete_7 : ∃ (m : Fin 8) (s : State), ∃ turned busy, ∃ (off : Nat) (d : Bytes), (turned = fun
    (t : State) (f : Mailbox → Mailbox) => t.mb m = f (s.mb m) ∧ (∀ k, k ≠ m → t.mb k = s.mb k) ∧ t.spi.portStat = spiDone + (if
    t.mirq then spiIrq else 0) ∧ t =
    { s with mbx := t.mbx, spi := { s.spi with portStat := t.spi.portStat, miso := t.spi.miso } }) ∧ (busy = fun (t : State) =>
    t.spi.portStat = spiBusy + (if s.mirq then spiIrq else 0) ∧ t =
    { s with spi := { s.spi with portStat := t.spi.portStat, miso := t.spi.miso } }) ∧ s.inService = true ∧ (s.mb m).taken =
    true ∧ s.spi.winsel = m ∧ off % 4 = 0 ∧ d.length % 4 = 0 ∧ 4 ≤ d.length ∧ off + d.length ≤ 512 :=
  ⟨1, withMbx .posted true, _, _, 508, le 4 9, rfl, rfl, by decide +kernel⟩

theorem witness_MailboxRegistersComplete_8 : ∃ (s : State) (spi : Nat → Spi), (spi = fun (v : Nat) =>
    { s.spi with
      portStat := spiDone + (if s.mirq then spiIrq else 0)
      miso := 0xFF#8 :: be 1 (spiDone + (if s.mirq then spiIrq else 0)) ++ le 4 (v % 2 ^ 32) })
    ∧ s.inService = true :=
  ⟨up, _, rfl, by decide +kernel⟩

theorem witness_MailboxRegistersComplete_9 : ∃ (s : State) (spi : Nat → Spi), (spi = fun (v : Nat) =>
    { s.spi with
      portStat := spiDone + (if s.mirq then spiIrq else 0)
      miso := 0xFF#8 :: be 1 (spiDone + (if s.mirq then spiIrq else 0)) ++ le 4 (v % 2 ^ 32) })
    ∧ s.inService = true ∧ s.lockedOut .evf = false :=
  ⟨up, _, rfl, by decide +kernel⟩

theorem witness_SpiFramesAndFetchComplete_1 : ∃ (m data : Bytes) (start n : Nat) (s : State), start = fld m 1 3 ∧ n = fld m 4 2
    ∧ data = sub m 6 (4 * n) ∧ s.spiAlive = true ∧ headerOk 0x02 m = true ∧ data.length = 4 * n ∧ (∀ p ∈ s.checkBurst (some
    data) n start, p.2 = ⟨false, false, false, false⟩) :=
  ⟨writeMosi 0x1200 (le 4 3), _, _, _, up, rfl, rfl, rfl, by decide +kernel⟩

theorem witness_SpiFramesAndFetchComplete_2 : ∃ (m data : Bytes) (start n : Nat) (s : State), start = fld m 1 3 ∧ n = fld m 4 2
    ∧ data = sub m 6 (4 * n) ∧ s.spiAlive = true ∧ headerOk 0x02 m = true ∧ (data.length < 4 * n ∨ ∃ p ∈ s.checkBurst (some
    data) n start, p.2 ≠ ⟨false, false, false, false⟩) :=
  ⟨(writeMosi 0x1200 (le 4 3)).take 8, _, _, _, up, rfl, rfl, rfl, (by decide +kernel), (by decide +kernel), .inl
    (by decide +kernel)⟩

theorem witness_SpiFramesAndFetchComplete_3 : ∃ (m data : Bytes) (start n : Nat) (s : State), start = fld m 1 3 ∧ n = fld m 4 2
    ∧ data = sub m 6 (4 * n) ∧ s.spiAlive = true ∧ headerOk 0x0B m = true ∧ (∀ p ∈ s.checkBurst none n start, p.2 = ⟨false,
    false, false, false⟩) :=
  ⟨readMosi 0x3004 2, _, _, _, up, rfl, rfl, rfl, by decide +kernel⟩

theorem witness_SpiFramesAndFetchComplete_4 : ∃ (m data : Bytes) (start n : Nat) (s : State), start = fld m 1 3 ∧ n = fld m 4 2
    ∧ data = sub m 6 (4 * n) ∧ s.spiAlive = true ∧ headerOk 0x0B m = true ∧ (∃ p ∈ s.checkBurst none n start, p.2 ≠ ⟨false,
    false, false, false⟩) :=
  ⟨readMosi 0xF00000 1, _, _, _, up, rfl, rfl, rfl, by decide +kernel⟩

theorem witness_SpiFramesAndFetchComplete_5 : ∃ (m : Fin 8) (s : State), (s.mb m).state = .loading :=
  ⟨1, withMbx .loading true, by decide +kernel⟩

theorem witness_SpiFramesAndFetchComplete_6 : ∃ (m : Fin 8) (s : State), ∃ c d, c = (s.mb m).command m ∧ s.fetches = true ∧
    s.nextPosted = some m ∧ (s.mb m).repeats (fld (s.mb m).request 4 4) = false ∧ (s.mb m).misfit m = false ∧ commandOf (fld
    (s.mb m).request 0 2) = some d ∧ d.check c s = none ∧ d.kind ≠ .immediate ∧ s.slotFree = true :=
  ⟨1, posting [100, 105, 110, 115], _, cmdDeviceSetThermal, rfl, (by decide +kernel), (by decide +kernel), (by decide +kernel),
    (by decide +kernel), op_thermal (by decide +kernel), (by decide +kernel), (by decide +kernel), (by decide +kernel)⟩

theorem witness_SpiFramesAndFetchComplete_7 : ∃ (m : Fin 8) (s : State), ∃ c d, c = (s.mb m).command m ∧ s.fetches = true ∧
    s.nextPosted = some m ∧ (s.mb m).repeats (fld (s.mb m).request 4 4) = false ∧ (s.mb m).misfit m = false ∧ commandOf (fld
    (s.mb m).request 0 2) = some d ∧ d.check c s = none ∧ d.kind ≠ .immediate ∧ s.slotFree = false :=
  ⟨1, (posting [100, 105, 110, 115]).modSeq (fun q => { q with slots := 100000 }), _, cmdDeviceSetThermal, rfl,
    (by decide +kernel), (by decide +kernel), (by decide +kernel), (by decide +kernel), op_thermal (by decide +kernel),
    (by decide +kernel), (by decide +kernel), (by decide +kernel)⟩

theorem witness_SpiFramesAndFetchComplete_8 : ∃ (m : Fin 8) (s : State), ∃ c st, c = (s.mb m).command m ∧ s.fetches = true ∧
    s.nextPosted = some m ∧ (s.mb m).repeats (fld (s.mb m).request 4 4) = false ∧ (s.mb m).misfit m = false ∧ (s.mb m).eth =
    false ∧ ((∃ d, commandOf (fld (s.mb m).request 0 2) = some d ∧ d.check c s = some st) ∨ (commandOf (fld (s.mb m).request 0
    2) = none ∧ st = .range)) :=
  ⟨1, posting [100, 105, 110], _, .range, rfl, (by decide +kernel), (by decide +kernel), (by decide +kernel),
    (by decide +kernel), (by decide +kernel), .inl ⟨cmdDeviceSetThermal, op_thermal (by decide +kernel), by decide +kernel⟩⟩

theorem witness_ManagementMessagesComplete_1 : ∃ (src : Source) (p e : Bytes) (s : State), e = (withCancel p false).drop 40 ∧
    s.inService = true ∧ s.effective (portId src.port) ≠ .offline ∧ s.mgmtAccepts src (withCancel p false) = true ∧ bit (u8 e 3)
    1 = false ∧ s.ownerOf (mailboxOf e) = .sec ∧ src.verified = false :=
  ⟨src0, message 0 0 7, _, up, rfl, by decide +kernel⟩

theorem witness_ManagementMessagesComplete_2 : ∃ (src : Source) (p e : Bytes) (s : State), e = (withCancel p false).drop 40 ∧
    s.inService = true ∧ s.effective (portId src.port) ≠ .offline ∧ s.mgmtAccepts src (withCancel p false) = true ∧ bit (u8 e 3)
    1 = false ∧ (s.ownerOf (mailboxOf e) = .sec → src.verified = true) ∧ (s.mb (mailboxOf e)).state = .idle :=
  ⟨src0, message 1 0 7, _, up, rfl, by decide +kernel⟩

theorem witness_ManagementMessagesComplete_3 : ∃ (src : Source) (p e : Bytes) (s : State), e = (withCancel p false).drop 40 ∧
    s.inService = true ∧ s.effective (portId src.port) ≠ .offline ∧ s.mgmtAccepts src (withCancel p false) = true ∧ bit (u8 e 3)
    1 = false ∧ (s.ownerOf (mailboxOf e) = .sec → src.verified = true) ∧ (s.mb (mailboxOf e)).state ≠ .idle ∧ (s.mb (mailboxOf
    e)).eth = true ∧ fld (s.mb (mailboxOf e)).request 4 4 = fld e 4 4 :=
  ⟨src0, message 1 0 7, _, withMbx .posted true, rfl, by decide +kernel⟩

theorem witness_ManagementMessagesComplete_4 : ∃ (src : Source) (p e : Bytes) (s : State), e = (withCancel p true).drop 40 ∧
    s.inService = true ∧ s.effective (portId src.port) ≠ .offline ∧ s.mgmtAccepts src (withCancel p true) = true ∧ bit (u8 e 3)
    1 = true ∧ (s.ownerOf (mailboxOf e) = .sec → src.verified = true) ∧ (s.mb (mailboxOf e)).eth = true ∧ fld (s.mb (mailboxOf
    e)).request 4 4 = fld e 4 4 ∧ (s.mb (mailboxOf e)).state = .posted :=
  ⟨src0, message 1 2 7, _, withMbx .posted true, rfl, by decide +kernel⟩

theorem witness_ManagementMessagesComplete_5 : ∃ (src : Source) (p e : Bytes) (s : State), e = (withCancel p true).drop 40 ∧
    s.inService = true ∧ s.effective (portId src.port) ≠ .offline ∧ s.mgmtAccepts src (withCancel p true) = true ∧ bit (u8 e 3)
    1 = true ∧ (s.ownerOf (mailboxOf e) = .sec → src.verified = true) ∧ (s.mb (mailboxOf e)).eth = true ∧ fld (s.mb (mailboxOf
    e)).request 4 4 = fld e 4 4 ∧ (s.mb (mailboxOf e)).state = .running :=
  ⟨src0, message 1 2 7, _, withMbx .running true, rfl, by decide +kernel⟩

theorem witness_ManagementMessagesComplete_6 : ∃ (src : Source) (p e : Bytes) (s : State), e = (withCancel p true).drop 40 ∧
    s.inService = true ∧ s.effective (portId src.port) ≠ .offline ∧ s.mgmtAccepts src (withCancel p true) = true ∧ bit (u8 e 3)
    1 = true ∧ (s.ownerOf (mailboxOf e) = .sec → src.verified = true) ∧ (s.mb (mailboxOf e)).eth = true ∧ fld (s.mb (mailboxOf
    e)).request 4 4 ≠ fld e 4 4 ∧ (s.mb (mailboxOf e)).lastDone = some (fld e 4 4) :=
  ⟨src0, message 1 2 9, _, (withMbx .running true).modMbx 1 fun b => { b with lastDone := some 9 }, rfl, by decide +kernel⟩

theorem witness_ManagementMessagesComplete_7 : ∃ (src : Source) (p e : Bytes) (s : State), e = (withCancel p true).drop 40 ∧
    s.inService = true ∧ s.effective (portId src.port) ≠ .offline ∧ s.mgmtAccepts src (withCancel p true) = true ∧ bit (u8 e 3)
    1 = true ∧ (s.ownerOf (mailboxOf e) = .sec → src.verified = true) ∧ (s.mb (mailboxOf e)).eth = true ∧ fld (s.mb (mailboxOf
    e)).request 4 4 ≠ fld e 4 4 ∧ (s.mb (mailboxOf e)).lastDone ≠ some (fld e 4 4) :=
  ⟨src0, message 1 2 9, _, withMbx .running true, rfl, by decide +kernel⟩

end Sys2Proof.Tests
end

