-- ==== Sys2Proof/Tests/WitnessSearchNet.lean ====
section
/-! SUPPORT. For each clause of the statements on SEARCH, NET and MEDIA commands, a state and operands that meet its hypotheses. -/

namespace Sys2Proof.Tests

open Sys2Proof Sys2Proof.Machine

set_option Elab.async false

/-- One record of SEARCH.ENTRY_WRITE for a table of width 2: tag, flags, place, value, care mask. -/
def entryBytes (tag flags place value care : Nat) : Bytes := be 3 tag ++ be 1 flags ++ be 4 place ++ be 32 value ++ be 32 care

/-- A pattern that accepts nothing: one state, one transition. -/
def patternValue : Bytes :=
  let body := zeros 32 ++ be 8 1024
  be 4 0x444B5041 ++ be 1 1 ++ be 1 1 ++ be 2 1 ++ be 4 1 ++ be 2 0 ++ zeros 18 ++ sha256 body ++ body

/-- `full` with that pattern stored under key 9 of namespace 1. -/
def withPattern : State :=
  { full with store := { full.store with nss := [{ ns1 with keys := [⟨[9], patternValue, 1, 90, [], 0⟩] }] } }

/-- The pattern as its image gives it, and as it is loaded. -/
def parsed : Pattern := ⟨1, 1, 1, 0, [⟨0, 0, 0, 0, 0, 0, 1, 0⟩]⟩
def loaded : Pattern := ⟨1, 1, 1, 0, [⟨4 * 8192, 7, 0, 0, 0, 0, 1, 0⟩]⟩

/-- Port settings of NET.SET_PORT. -/
def portBytes (p : Nat) : Bytes :=
  [.ofNat 8 p, 0, 3, 1, 1, 1, 1, 0] ++ be 2 384 ++ be 2 256 ++ be 2 5 ++ be 2 6 ++ [1, 2, 0, 0, 0, 0, 0, 0]

/-- A security association of NET.MACSEC_INSTALL_SA. -/
def saBytes (p direction an : Nat) : Bytes :=
  be 1 p ++ be 1 direction ++ be 1 an ++ be 1 1 ++ be 4 0 ++ be 8 77 ++ be 8 1 ++ zeros 56

/-- A security association that is installed. -/
def sa (an : Nat) : Sa := ⟨an, 1, false, 77, 1, 1, false, 0, zeros 12, zeros 32⟩

/-- `up` with two transmit and one receive association at port 1. -/
def secured : State :=
  { up with store := { up.store with settings := { up.store.settings with
      ports := up.store.settings.ports.set 1 { up.store.settings.ports[1] with txSa := [sa 0, sa 3], rxSa := [sa 2] } } } }

/-- `up` with a cascade of two chips over a table. -/
def cascadedOver (tb : Table) : State :=
  { up with store := { up.store with tables := { up.store.tables with cascade := some ⟨2, tb, false, []⟩ } } }

/-- Wherever the drive places the pattern, its entry lies in pair 4, which is usable. -/
theorem placed_usable (a b : Nat) : ∀ x ∈ (withPattern.store.tables.placePattern a b parsed).1.entries .automaton,
    x ∉ withPattern.store.tables.entries .automaton →
    (withPattern.checkKey none 99 .read 1 [9]).1.pairLost (x.addr / 8192) = false := by
  have h : (withPattern.store.tables.placePattern a b parsed).1.patterns =
      [parsed.at (withPattern.store.tables.slots .automaton) (([0][a % 1]?).getD 0) [b % 2 ^ 15]] := rfl
  intro x hx _
  have hs : x.addr = 4 * 8192 := by
    simp only [Tables.entries, h, Nat.mod_one] at hx
    simp [Pattern.at, parsed] at hx
    rw [hx]; rfl
  rw [hs]; decide +kernel

/-- What a cascade of four chips over the ACL copies lies in usable pairs. -/
theorem cascade_usable (n : Nat) : ∀ tb e, (tb = .peer ∨ tb = .acl) →
    e ∈ (up.store.tables.setCascade [4, 0, 2, 0] 101 n).entries tb → e ∉ up.store.tables.entries tb →
    up.pairLost (e.addr / 8192) = false := by
  have h : ∀ tb ∈ [Table.peer, .acl], ∀ e ∈ (up.store.tables.setCascade [4, 0, 2, 0] 101 n).entries tb,
      e ∉ up.store.tables.entries tb → up.pairLost (e.addr / 8192) = false := by
    intro tb htb
    have hn : up.store.tables.setCascade [4, 0, 2, 0] 101 n = up.store.tables.setCascade [4, 0, 2, 0] 101 0 := by
      have h1 : (u8 [4, 0, 2, 0] 0 = 1) = False := by decide
      have h2 : (Table.ofNum (u8 [4, 0, 2, 0] 2)).getD .acl = .acl := by decide
      have h3 : ((up.store.tables.endCascade 101).shape .acl).ordered = true := by decide +kernel
      simp only [Tables.setCascade, Tables.beginCascade, Tables.copyInto, h1, h2, h3, if_true, if_false]
    have hb : ∀ x ∈ [Table.peer, .acl], ∀ e ∈ (up.store.tables.setCascade [4, 0, 2, 0] 101 0).entries x,
        e ∉ up.store.tables.entries x → up.pairLost (e.addr / 8192) = false := by decide +kernel
    rw [hn]; exact hb tb htb
  exact fun tb e htb => h tb (by simpa using htb) e

theorem witness_SearchChangesComplete_searchSetTables : ∃ (c : Cmd) (s : State), s.readySealed c .sec ∧ (fun _ a => a.length =
    32 ∧ ∃ ps, (List.range 8).mapM (pairRec a) = some ps ∧ pairsOk ps = true) s.board c.args :=
  enters_up ([3, 1, 0, 0, 1, 2, 0, 0, 2, 2, 1, 16, 2, 2, 1, 16, 4, 1, 1, 0, 4, 1, 1, 0, 4, 1, 1, 0, 0, 1, 0, 0]) (fun _ a =>
    a.length = 32 ∧ ∃ ps, (List.range 8).mapM (pairRec a) = some ps ∧ pairsOk ps = true) .sec (⟨rfl, _, rfl, by decide +kernel⟩)

theorem witness_SearchChangesComplete_searchEntryWrite : ∃ (c : Cmd) (s : State), s.readySealed c .mgmt ∧ (fun _ a => 4 ≤
    a.length ∧ a.length ≤ 496 ∧ (Table.ofNum (u8 a 0) = some .peer ∨ Table.ofNum (u8 a 0) = some .acl) ∧ 1 ≤ u8 a 1 ∧ u8 a 1 ≤
    12) s.board c.args :=
  enters_up (be 1 2 ++ be 1 1 ++ be 2 0 ++ entryBytes 7 0 0 5 (2 ^ 256 - 1)) (fun _ a => 4 ≤ a.length ∧ a.length ≤ 496 ∧
    (Table.ofNum (u8 a 0) = some .peer ∨ Table.ofNum (u8 a 0) = some .acl) ∧ 1 ≤ u8 a 1 ∧ u8 a 1 ≤ 12) .mgmt (by decide +kernel)

theorem witness_SearchChangesComplete_searchEntryDelete : ∃ (c : Cmd) (s : State), s.readySealed c .mgmt ∧ (fun _ a =>
    (Table.ofNum (u8 a 0) = some .peer ∨ Table.ofNum (u8 a 0) = some .acl) ∧ 1 ≤ u8 a 1 ∧ u8 a 1 ≤ 64 ∧ a.length = 4 + 4 * u8 a
    1 ∧ 0xFFFFF ∉ (List.range (u8 a 1)).map (fun i => fld a (4 + 4 * i) 4 % 2 ^ 20) ∧ ((List.range (u8 a 1)).map fun i => fld a
    (4 + 4 * i) 4 % 2 ^ 20).Nodup) s.board c.args :=
  enters_up (be 1 2 ++ be 1 1 ++ be 2 0 ++ be 4 0) (fun _ a => (Table.ofNum (u8 a 0) = some .peer ∨ Table.ofNum (u8 a 0) = some
    .acl) ∧ 1 ≤ u8 a 1 ∧ u8 a 1 ≤ 64 ∧ a.length = 4 + 4 * u8 a 1 ∧ 0xFFFFF ∉ (List.range (u8 a 1)).map (fun i => fld a (4 + 4 *
    i) 4 % 2 ^ 20) ∧ ((List.range (u8 a 1)).map fun i => fld a (4 + 4 * i) 4 % 2 ^ 20).Nodup) .mgmt (by decide +kernel)

theorem witness_SearchChangesComplete_searchCascadeSet : ∃ (c : Cmd) (s : State), s.readySealed c .sec ∧ (fun _ a => a.length =
    4 ∧ 1 ≤ u8 a 0 ∧ u8 a 0 ≤ 4 ∧ (u8 a 2 = 1 ∨ u8 a 2 = 2)) s.board c.args :=
  enters_up ([4, 0, 2, 0]) (fun _ a => a.length = 4 ∧ 1 ≤ u8 a 0 ∧ u8 a 0 ≤ 4 ∧ (u8 a 2 = 1 ∨ u8 a 2 = 2)) .sec
    (by decide +kernel)

theorem witness_SearchChangesComplete_searchCascadeSwitch : ∃ (c : Cmd) (s : State), s.readySealed c .mgmt ∧ (fun _ a =>
    a.length = 8) s.board c.args :=
  enters_up (be 6 104 ++ be 2 0) (fun _ a => a.length = 8) .mgmt (by decide +kernel)

theorem witness_SearchChangesComplete_1 : ∃ (c : SealedCmd) (s : State) (a : Bytes) (t : Tables) (tb : Table) (recs : List
    EntryRec) (r : Trial), a = c.cmd.args ∧ t = s.store.tables.settled c.adm ∧ recs = (List.range (u8 a 1)).map (entryRec a
    (t.shape tb).width) ∧ (r = ((List.range (u8 a 1)).zip recs).foldl (fun (x : Trial) ir => x.apply (t.slots tb) (t.shape
    tb).ordered (t.capacity tb) (Config.placement (s.store.draws + ir.1)) (t.mine tb c.adm) (t.stampFor tb c.adm) ir.2)
    ⟨t.entries tb, false, false, false, false⟩) ∧ Table.ofNum (u8 a 0) = some tb ∧ (tb = .peer ∨ tb = .acl) ∧ s.reaches c 0x0502
    ∧ 1 ≤ u8 a 1 ∧ u8 a 1 ≤ entryMax (t.shape tb).width ∧ a.length = 4 + u8 a 1 * (8 + 32 * (t.shape tb).width) ∧ (∀ x ∈ recs,
    x.stage = t.cascaded tb ∧ x.tag ≠ 0xFFFFF) ∧ (recs.map (·.tag)).Nodup ∧ r.exists_ = false ∧ r.absent = false ∧ r.clash =
    false ∧ r.tooMany = false ∧ (∀ e ∈ r.es, e ∉ t.entries tb → s.pairLost (e.addr / 8192) = false) :=
  ⟨sc 0x0502 (be 1 2 ++ be 1 1 ++ be 2 0 ++ entryBytes 7 0 0 5 (2 ^ 256 - 1)), up, _, _, .acl, _, _, rfl, rfl, rfl, rfl,
    by unfold State.reaches; decide +kernel⟩

theorem witness_SearchChangesComplete_2 : ∃ (c : SealedCmd) (s : State) (a : Bytes) (t : Tables) (tb : Table) (tags : List Nat),
    a = c.cmd.args ∧ t = s.store.tables.settled c.adm ∧ (tags = (List.range (u8 a 1)).map (fun i => fld a (4 + 4 * i) 4 % 2 ^
    20)) ∧ Table.ofNum (u8 a 0) = some tb ∧ (tb = .peer ∨ tb = .acl) ∧ s.reaches c 0x0503 ∧ 1 ≤ u8 a 1 ∧ u8 a 1 ≤ 64 ∧ a.length
    = 4 + 4 * u8 a 1 ∧ bit (u8 a 2) 0 = t.cascaded tb ∧ 0xFFFFF ∉ tags ∧ tags.Nodup ∧ (∀ g ∈ tags, ∃ e ∈ t.entries tb, e.tag = g
    ∧ t.mine tb c.adm e = true) :=
  ⟨sc 0x0503 (be 1 2 ++ be 1 1 ++ be 2 0 ++ be 4 0), up, _, _, .acl, _, rfl, rfl, rfl, by unfold State.reaches; decide +kernel⟩

theorem witness_SearchChangesComplete_3 : ∃ (c : SealedCmd) (s : State) (a : Bytes), ∃ ps, ∃ (new : Tables), a = c.cmd.args ∧
    s.reaches c 0x0501 ∧ (List.range 8).mapM (pairRec a) = some ps ∧ a.length = 32 ∧ pairsOk ps = true ∧ (∀ k : Fin 8,
    new.pairs[k] = (ps[k.val]?).getD (.make .unassigned 1 false 0)) ∧ new = { s.store.tables with pairs := new.pairs } ∧ (∀ k :
    Fin 8, s.store.tables.pairs[k] ≠ new.pairs[k] → s.store.tables.pairUsed k = false ∧ s.store.tables.cascaded
    s.store.tables.pairs[k].table = false ∧ s.store.tables.cascaded new.pairs[k].table = false) :=
  ⟨sc 0x0501 [3, 1, 0, 0, 1, 2, 0, 0, 2, 2, 1, 16, 2, 2, 1, 16, 4, 1, 1, 0, 4, 1, 1, 0, 4, 1, 1, 0, 0, 1, 0, 0], up, _,
    ((List.range 8).mapM (pairRec [3, 1, 0, 0, 1, 2, 0, 0, 2, 2, 1, 16, 2, 2, 1, 16, 4, 1, 1, 0, 4, 1, 1, 0, 4, 1, 1, 0, 0, 1,
    0, 0])).getD [], { up.store.tables with pairs := Vector.ofFn fun k : Fin 8 => ((((List.range 8).mapM (pairRec [3, 1, 0, 0,
    1, 2, 0, 0, 2, 2, 1, 16, 2, 2, 1, 16, 4, 1, 1, 0, 4, 1, 1, 0, 4, 1, 1, 0, 0, 1, 0, 0])).getD [])[k.val]?).getD (.make
    .unassigned 1 false 0) }, rfl, by unfold State.reaches; decide +kernel⟩

theorem witness_SearchChangesComplete_4 : ∃ (c : SealedCmd) (s : State) (a : Bytes), ∃ t1, a = c.cmd.args ∧ t1 =
    s.store.tables.setCascade a (c.adm + 2) (Config.placement s.store.draws) ∧ s.reaches c 0x0506 ∧ u8 a 1 < u8 a 0 ∧ u8 a 1 =
    s.lks.chipId ∧ (u8 a 0 = 1 ∨ t1.valid .peer ≤ t1.capacity .peer ∧ t1.valid .acl ≤ t1.capacity .acl) ∧ (∀ tb e, (tb = .peer ∨
    tb = .acl) → e ∈ t1.entries tb → e ∉ s.store.tables.entries tb → s.pairLost (e.addr / 8192) = false) :=
  ⟨sc 0x0506 [4, 0, 2, 0], up, _, _, rfl, rfl, (by unfold State.reaches; decide +kernel), (by decide +kernel),
    (by decide +kernel), (by decide +kernel), cascade_usable _⟩

theorem witness_SearchChangesComplete_5 : ∃ (c : SealedCmd) (s : State) (a : Bytes), ∃ t k, a = c.cmd.args ∧ t =
    s.store.tables.settled c.adm ∧ s.reaches c 0x0507 ∧ t.cascade = some k ∧ c.adm + 4 ≤ fld a 0 6 ∧ fld a 0 6 ≤ c.adm + 64 :=
  ⟨sc 0x0507 (be 6 104 ++ be 2 0), cascadedOver .acl, _, _, ⟨2, .acl, false, []⟩, rfl, rfl,
    by unfold State.reaches; decide +kernel⟩

theorem witness_SearchPatternsComplete_searchPatternLoad : ∃ (c : Cmd) (s : State), s.readySealed c .mgmt ∧ (fun _ a => 1 ≤ u8 a
    0 ∧ u8 a 0 ≤ 64 ∧ u8 a 1 ≠ 0 ∧ 1 ≤ u8 a 2 ∧ u8 a 2 ≤ 240 ∧ a.length = 4 + u8 a 2) s.board c.args :=
  enters_up ([1, 1, 1, 0, 9]) (fun _ a => 1 ≤ u8 a 0 ∧ u8 a 0 ≤ 64 ∧ u8 a 1 ≠ 0 ∧ 1 ≤ u8 a 2 ∧ u8 a 2 ≤ 240 ∧ a.length = 4 + u8
    a 2) .mgmt (by decide +kernel)

theorem witness_SearchPatternsComplete_searchPatternUnload : ∃ (c : Cmd) (s : State), s.readySealed c .mgmt ∧ (fun _ a =>
    a.length = 4 ∧ 1 ≤ u8 a 0 ∧ u8 a 0 ≤ 64) s.board c.args :=
  enters_up ([64, 0, 0, 0]) (fun _ a => a.length = 4 ∧ 1 ≤ u8 a 0 ∧ u8 a 0 ≤ 64) .mgmt (by decide +kernel)

theorem witness_SearchPatternsComplete_1 : ∃ (c : SealedCmd) (s : State) (a : Bytes), ∃ n e p t1 moves slices u, a = c.cmd.args
    ∧ slices = 1 + Config.placement (s.store.draws + 2) ∧ (u = ((((s.checkKey none c.adm .read n.id (a.drop 4)).1.drawnBy
    2).setTables t1).modLks fun k => { k with moves := bump k.moves moves })) ∧ s.reaches c 0x0504 ∧ s.store.ns (u8 a 1) = some
    n ∧ (s.checkKey none c.adm .read n.id (a.drop 4)).2 = .permitted ∧ s.store.holds n.id (a.drop 4) = true ∧ n.find (a.drop 4)
    = some e ∧ s.noRank = false ∧ s.valueLost e = false ∧ parsePattern (u8 a 0) e.value = .ok p ∧ s.store.tables.pattern (u8 a
    0) = none ∧ p.recs.length ≤ s.store.tables.autoFree ∧ (t1, moves) = s.store.tables.placePattern (Config.placement
    s.store.draws) (Config.placement (s.store.draws + 1)) p ∧ (∀ x ∈ t1.entries .automaton, x ∉ s.store.tables.entries
    .automaton → (s.checkKey none c.adm .read n.id (a.drop 4)).1.pairLost (x.addr / 8192) = false) ∧ s.store.tables.autoUsed +
    p.recs.length ≤ 2 ^ 15 :=
  ⟨sc 0x0504 [1, 1, 1, 0, 9], withPattern, _, { ns1 with keys := [⟨[9], patternValue, 1, 90, [], 0⟩] }, ⟨[9], patternValue, 1,
    90, [], 0⟩, parsed, _, _, _, _, rfl, rfl, rfl, (by unfold State.reaches; decide +kernel), (by decide +kernel),
    (by decide +kernel), (by decide +kernel), (by decide +kernel), (by decide +kernel), (by decide +kernel),
    (by decide +kernel), (by decide +kernel), (by decide +kernel), rfl, placed_usable _ _, (by decide +kernel)⟩

theorem witness_SearchPatternsComplete_2 : ∃ (c : SealedCmd) (s : State) (a : Bytes), ∃ p t1, a = c.cmd.args ∧ (t1 =
    { s.store.tables with patterns := s.store.tables.patterns.filter fun q => q.slot != u8 a 0 }) ∧ s.reaches c 0x0505 ∧
    s.store.tables.pattern (u8 a 0) = some p ∧ (∀ w ∈ s.seq.watches, w.pattern ≠ u8 a 0) :=
  ⟨sc 0x0505 [1, 0, 0, 0], { up with store := { up.store with tables := { up.store.tables with patterns := [loaded] } } }, _,
    loaded, _, rfl, rfl, by unfold State.reaches; decide +kernel⟩

theorem witness_SearchReadsComplete_1 : ∃ (c : Cmd) (s : State), s.ready c .rt ∧ c.args = [] :=
  ⟨cmd [], up, by unfold State.ready; decide +kernel⟩

theorem witness_SearchReadsComplete_2 : ∃ (c : Cmd) (s : State), ∃ tb word s1 s2, word = fld c.args 4 (16 *
    (s.store.tables.shape tb).width) ∧ s1 = s.consult tb word ∧ s2 = { s1 with fresh := s1.fresh + 2 } ∧ s.ready c .rt ∧
    Table.ofNum (u8 c.args 0) = some tb ∧ tb ≠ .unassigned ∧ c.args.length = 4 + 16 * (s.store.tables.shape tb).width ∧ 20 ≤
    c.args.length ∧ c.args.length ≤ 68 ∧ s.tableLost tb = false ∧ s.store.tables.cascaded tb = false :=
  ⟨cmd (be 4 0x04000000 ++ zeros 16), up, .automaton, _, _, _, rfl, rfl, rfl, by unfold State.ready; decide +kernel⟩

theorem witness_SearchReadsComplete_3 : ∃ (c : Cmd) (s : State), ∃ tb word s1 s2, word = fld c.args 4 (16 *
    (s.store.tables.shape tb).width) ∧ s1 = s.consult tb word ∧ s2 = { s1 with fresh := s1.fresh + 2 } ∧ s.ready c .rt ∧
    Table.ofNum (u8 c.args 0) = some tb ∧ tb ≠ .unassigned ∧ c.args.length = 4 + 16 * (s.store.tables.shape tb).width ∧ 20 ≤
    c.args.length ∧ c.args.length ≤ 68 ∧ s.tableLost tb = false ∧ s.store.tables.cascaded tb = true :=
  ⟨cmd (be 4 0x02000000 ++ zeros 32), cascadedOver .acl, .acl, _, _, _, rfl, rfl, rfl, by unfold State.ready; decide +kernel⟩

theorem witness_NetChangesComplete_netSetPort : ∃ (c : Cmd) (s : State), s.readySealed c .mgmt ∧ (fun _ a => a.length = 24 ∧ u8
    a 0 ≤ 1 ∧ setPortOk a = true) s.board c.args :=
  enters_up (portBytes 1) (fun _ a => a.length = 24 ∧ u8 a 0 ≤ 1 ∧ setPortOk a = true) .mgmt (by decide +kernel)

theorem witness_NetChangesComplete_netSetFilter : ∃ (c : Cmd) (s : State), s.readySealed c .mgmt ∧ (fun _ a => a.length = 12 ∧
    u8 a 0 ≤ 1 ∧ u8 a 2 ≤ 1 ∧ (u8 a 1 = 0 ∧ (fld a 4 6).testBit 40 = false ∨ 4 ≤ u8 a 1 ∧ u8 a 1 ≤ 7)) s.board c.args :=
  enters_up ([1, 7, 0, 0, 0, 0, 0, 0, 0, 2, 0, 0]) (fun _ a => a.length = 12 ∧ u8 a 0 ≤ 1 ∧ u8 a 2 ≤ 1 ∧ (u8 a 1 = 0 ∧ (fld a 4
    6).testBit 40 = false ∨ 4 ≤ u8 a 1 ∧ u8 a 1 ≤ 7)) .mgmt (by decide +kernel)

theorem witness_NetChangesComplete_netSetAddress : ∃ (c : Cmd) (s : State), s.readySealed c .mgmt ∧ (fun _ a => a.length = 24 ∧
    u8 a 0 ≤ 1 ∧ (bit (u8 a 1) 0 = true → ipv6Ok (fld a 4 16) = true) ∧ (bit (u8 a 1) 1 = true → ipv4Ok (fld a 20 4) = true))
    s.board c.args :=
  enters_up (be 4 0x00030000 ++ be 16 (0xFD00 * 2 ^ 112 + 5) ++ be 4 0x0A000001) (fun _ a => a.length = 24 ∧ u8 a 0 ≤ 1 ∧ (bit
    (u8 a 1) 0 = true → ipv6Ok (fld a 4 16) = true) ∧ (bit (u8 a 1) 1 = true → ipv4Ok (fld a 20 4) = true)) .mgmt
    (by decide +kernel)

theorem witness_NetChangesComplete_netSetMgmtPeers : ∃ (c : Cmd) (s : State), s.readySealed c .sec ∧ (fun _ a => u8 a 0 ≤ 8 ∧
    a.length = 4 + 16 * u8 a 0) s.board c.args :=
  enters_up (be 4 0x08000000 ++ zeros 128) (fun _ a => u8 a 0 ≤ 8 ∧ a.length = 4 + 16 * u8 a 0) .sec (by decide +kernel)

theorem witness_NetChangesComplete_netSetHeartbeat : ∃ (c : Cmd) (s : State), s.readySealed c .mgmt ∧ (fun _ a => a.length = 24
    ∧ u8 a 0 ≤ 1 ∧ (u8 a 1 = 0 ∨ u8 a 1 = 6 ∨ (u8 a 1 = 4 ∧ isV4 (fld a 4 16) = true))) s.board c.args :=
  enters_up (be 4 0x01040000 ++ be 16 (0xFFFF * 2 ^ 32 + 0x0A000001) ++ be 4 0) (fun _ a => a.length = 24 ∧ u8 a 0 ≤ 1 ∧ (u8 a 1
    = 0 ∨ u8 a 1 = 6 ∨ (u8 a 1 = 4 ∧ isV4 (fld a 4 16) = true))) .mgmt (by decide +kernel)

theorem witness_NetChangesComplete_netMacsecPolicy : ∃ (c : Cmd) (s : State), s.readySealed c .sec ∧ (fun _ a => a.length = 4 ∧
    u8 a 0 ≤ 1 ∧ u8 a 1 ≤ 2) s.board c.args :=
  enters_up ([1, 2, 0, 0]) (fun _ a => a.length = 4 ∧ u8 a 0 ≤ 1 ∧ u8 a 1 ≤ 2) .sec (by decide +kernel)

theorem witness_NetChangesComplete_netMacsecInstallSa : ∃ (c : Cmd) (s : State), s.readySealed c .sec ∧ (fun _ a => a.length =
    80 ∧ installOk a = true) s.board c.args :=
  enters_up (saBytes 1 0 3) (fun _ a => a.length = 80 ∧ installOk a = true) .sec (by decide +kernel)

theorem witness_NetChangesComplete_netMacsecRemoveSa : ∃ (c : Cmd) (s : State), s.readySealed c .sec ∧ (fun _ a => a.length = 4
    ∧ u8 a 0 ≤ 1 ∧ u8 a 1 ≤ 1 ∧ u8 a 2 ≤ 3) s.board c.args :=
  enters_up ([1, 1, 3, 0]) (fun _ a => a.length = 4 ∧ u8 a 0 ≤ 1 ∧ u8 a 1 ≤ 1 ∧ u8 a 2 ≤ 3) .sec (by decide +kernel)

theorem witness_NetChangesComplete_netPhyReset : ∃ (c : Cmd) (s : State), s.readySealed c .mgmt ∧ (fun _ a => a.length = 4 ∧ u8
    a 0 ≤ 1) s.board c.args :=
  enters_up ([1, 0, 0, 0]) (fun _ a => a.length = 4 ∧ u8 a 0 ≤ 1) .mgmt (by decide +kernel)

theorem witness_NetChangesComplete_netMdioWrite : ∃ (c : Cmd) (s : State), s.readySealed c .mgmt ∧ (fun _ a => a.length = 8 ∧
    (u8 a 0 = 22 ∨ u8 a 0 = 45) ∧ u8 a 1 ≤ 31) s.board c.args :=
  enters_up ([45, 31, 7, 0, 0, 3, 0, 4]) (fun _ a => a.length = 8 ∧ (u8 a 0 = 22 ∨ u8 a 0 = 45) ∧ u8 a 1 ≤ 31) .mgmt
    (by decide +kernel)

theorem witness_NetChangesComplete_1 : ∃ (c : SealedCmd) (s : State) (p : Fin 2) (a : Bytes), a = c.cmd.args ∧ u8 a 0 = p ∧ (p =
    1 → s.board.port1 = true) ∧ s.reaches c 0x0601 :=
  ⟨sc 0x0601 (portBytes 1), up, 1, _, rfl, by unfold State.reaches; decide +kernel⟩

theorem witness_NetChangesComplete_2 : ∃ (c : SealedCmd) (s : State) (p : Fin 2) (a : Bytes), a = c.cmd.args ∧ u8 a 0 = p ∧ (p =
    1 → s.board.port1 = true) ∧ s.reaches c 0x0602 ∧ u8 a 1 = 0 :=
  ⟨sc 0x0602 [0, 0, 1, 0, 0, 0, 0, 0, 0, 2, 0, 0], up, 0, _, rfl, by unfold State.reaches; decide +kernel⟩

theorem witness_NetChangesComplete_3 : ∃ (c : SealedCmd) (s : State) (p : Fin 2) (a : Bytes) (e : Fin 4) (t : State), a =
    c.cmd.args ∧ t = s.atPlace c ∧ u8 a 0 = p ∧ (p = 1 → s.board.port1 = true) ∧ s.reaches c 0x0602 ∧ u8 a 1 = e + 4 :=
  ⟨sc 0x0602 [1, 7, 0, 0, 0, 0, 0, 0, 0, 2, 0, 0], up, 1, _, 3, _, rfl, rfl, by unfold State.reaches; decide +kernel⟩

theorem witness_NetChangesComplete_4 : ∃ (c : SealedCmd) (s : State) (p : Fin 2) (a : Bytes), a = c.cmd.args ∧ u8 a 0 = p ∧ (p =
    1 → s.board.port1 = true) ∧ s.reaches c 0x0603 :=
  ⟨sc 0x0603 (be 4 0x00030000 ++ be 16 (0xFD00 * 2 ^ 112 + 5) ++ be 4 0x0A000001), up, 0, _, rfl,
    by unfold State.reaches; decide +kernel⟩

theorem witness_NetChangesComplete_5 : ∃ (c : SealedCmd) (s : State) (p : Fin 2) (a : Bytes), a = c.cmd.args ∧ u8 a 0 = p ∧ (p =
    1 → s.board.port1 = true) ∧ s.reaches c 0x0605 :=
  ⟨sc 0x0605 (be 4 0x01040000 ++ be 16 (0xFFFF * 2 ^ 32 + 0x0A000001) ++ be 4 0), up, 1, _, rfl,
    by unfold State.reaches; decide +kernel⟩

theorem witness_NetChangesComplete_6 : ∃ (c : SealedCmd) (s : State) (p : Fin 2) (a : Bytes), ∃ t, a = c.cmd.args ∧ t =
    s.atPlace c ∧ u8 a 0 = p ∧ (p = 1 → s.board.port1 = true) ∧ s.reaches c 0x0606 ∧ u8 a 1 ≤ 2 :=
  ⟨sc 0x0606 [1, 2, 0, 0], up, 1, _, _, rfl, rfl, by unfold State.reaches; decide +kernel⟩

theorem witness_NetChangesComplete_7 : ∃ (c : SealedCmd) (s : State) (p : Fin 2) (a : Bytes), a = c.cmd.args ∧ u8 a 0 = p ∧ (p =
    1 → s.board.port1 = true) ∧ s.reaches c 0x0607 ∧ u8 a 1 ≤ 1 ∧ (u8 a 1 = 0 → ((s.net p).txSa.filter fun b => b.an != u8 a
    2).length < 2) ∧ (u8 a 1 = 1 → ((s.net p).rxSa.filter fun b => b.an != u8 a 2).length < 2) :=
  ⟨sc 0x0607 (saBytes 1 0 3), secured, 1, _, rfl, by unfold State.reaches; decide +kernel⟩

theorem witness_NetChangesComplete_8 : ∃ (c : SealedCmd) (s : State) (p : Fin 2) (a : Bytes), a = c.cmd.args ∧ u8 a 0 = p ∧ (p =
    1 → s.board.port1 = true) ∧ s.reaches c 0x0608 ∧ u8 a 1 = 0 ∧ (∃ k ∈ (s.net p).txSa, k.an = u8 a 2) ∧ (s.net
    p).txSa.head?.map (·.an) ≠ some (u8 a 2) :=
  ⟨sc 0x0608 [1, 0, 3, 0], secured, 1, _, rfl, by unfold State.reaches; decide +kernel⟩

theorem witness_NetChangesComplete_9 : ∃ (c : SealedCmd) (s : State) (p : Fin 2) (a : Bytes), a = c.cmd.args ∧ u8 a 0 = p ∧ (p =
    1 → s.board.port1 = true) ∧ s.reaches c 0x0608 ∧ u8 a 1 = 1 ∧ (∃ k ∈ (s.net p).rxSa, k.an = u8 a 2) :=
  ⟨sc 0x0608 [1, 1, 2, 0], secured, 1, _, rfl, by unfold State.reaches; decide +kernel⟩

theorem witness_NetChangesComplete_10 : ∃ (c : SealedCmd) (s : State) (p : Fin 2) (a : Bytes), ∃ t, a = c.cmd.args ∧ t =
    s.atPlace c ∧ u8 a 0 = p ∧ (p = 1 → s.board.port1 = true) ∧ s.reaches c 0x0609 :=
  ⟨sc 0x0609 [1, 0, 0, 0], up, 1, _, _, rfl, rfl, by unfold State.reaches; decide +kernel⟩

theorem witness_NetChangesComplete_11 : ∃ (c : SealedCmd) (s : State) (a : Bytes), a = c.cmd.args ∧ s.reaches c 0x0604 :=
  ⟨sc 0x0604 (be 4 0x08000000 ++ zeros 128), up, _, rfl, by unfold State.reaches; decide +kernel⟩

theorem witness_NetChangesComplete_12 : ∃ (c : SealedCmd) (s : State) (a : Bytes), a = c.cmd.args ∧ s.reaches c 0x060A :=
  ⟨sc 0x060A [45, 31, 7, 0, 0, 3, 0, 4], up, _, rfl, by unfold State.reaches; decide +kernel⟩

theorem witness_NetQueriesComplete_1 : ∃ (c : Cmd) (s : State) (p : Fin 2), (p = 1 → s.board.port1 = true) ∧ s.ready c .rt ∧
    c.args.length = 4 ∧ u8 c.args 0 = p :=
  ⟨cmd [1, 0, 0, 0], up, 1, by unfold State.ready; decide +kernel⟩

theorem witness_NetQueriesComplete_2 : ∃ (c : Cmd) (s : State) (p : Fin 2), ∃ drives, drives = Config.mdioRead s.fresh (u8
    c.args 0) (u8 c.args 1) (if u8 c.args 0 = 45 then u8 c.args 2 else 0) (fld c.args 4 2) ∧ (p = 1 → s.board.port1 = true) ∧
    s.ready c .rt ∧ c.args.length = 8 ∧ (u8 c.args 0 = 22 ∨ u8 c.args 0 = 45) ∧ u8 c.args 1 ≤ 31 :=
  ⟨cmd [22, 31, 0, 0, 0, 3, 0, 0], up, 0, _, rfl, by unfold State.ready; decide +kernel⟩

theorem witness_NetQueriesComplete_3 : ∃ (c : Cmd) (s : State) (p : Fin 2), (p = 1 → s.board.port1 = true) ∧ s.ready c .mgmt ∧
    c.args.length = 4 ∧ u8 c.args 0 = p :=
  ⟨cmd [1, 0, 0, 0], up, 1, by unfold State.ready; decide +kernel⟩

theorem witness_MediaChangesComplete_mediaFormat : ∃ (c : Cmd) (s : State), s.readySealed c .sec ∧ (fun b a => a.length = 16 ∧
    b.nandOk = true ∧ 16 ≤ fld a 4 2 ∧ fld a 4 2 ≤ 256 ∧ 64 ≤ fld a 0 4 ∧ fld a 8 4 ≠ 0 ∧ fld a 12 4 ≠ 0) s.board c.args :=
  enters_up (be 4 64 ++ be 2 256 ++ be 2 0 ++ be 4 1 ++ be 4 1) (fun b a => a.length = 16 ∧ b.nandOk = true ∧ 16 ≤ fld a 4 2 ∧
    fld a 4 2 ≤ 256 ∧ 64 ≤ fld a 0 4 ∧ fld a 8 4 ≠ 0 ∧ fld a 12 4 ≠ 0) .sec (by decide +kernel)

theorem witness_MediaChangesComplete_mediaSetReadPolicy : ∃ (c : Cmd) (s : State), s.readySealed c .mgmt ∧ (fun _ a => a.length
    = 4 ∧ u8 a 0 ≤ 1 ∧ 1 ≤ u8 a 1 ∧ u8 a 1 ≤ 15 ∧ (u8 a 0 = 0 → u8 a 1 = 1) ∧ signed 8 (u8 a 2) ≤ signed 8 (u8 a 3) ∧ -64 ≤
    signed 8 (u8 a 2) ∧ signed 8 (u8 a 3) ≤ 63) s.board c.args :=
  enters_up ([1, 15, 0xC0, 63]) (fun _ a => a.length = 4 ∧ u8 a 0 ≤ 1 ∧ 1 ≤ u8 a 1 ∧ u8 a 1 ≤ 15 ∧ (u8 a 0 = 0 → u8 a 1 = 1) ∧
    signed 8 (u8 a 2) ≤ signed 8 (u8 a 3) ∧ -64 ≤ signed 8 (u8 a 2) ∧ signed 8 (u8 a 3) ≤ 63) .mgmt (by decide +kernel)

theorem witness_MediaChangesComplete_mediaSetWarn : ∃ (c : Cmd) (s : State), s.readySealed c .mgmt ∧ (fun _ a => a.length = 4 ∧
    100 ≤ fld a 0 2 ∧ fld a 0 2 ≤ 500 ∧ 50 ≤ u8 a 2 ∧ u8 a 2 ≤ 95 ∧ 60 ≤ signed 8 (u8 a 3) ∧ signed 8 (u8 a 3) ≤ 95) s.board
    c.args :=
  enters_up ([0, 100, 50, 60]) (fun _ a => a.length = 4 ∧ 100 ≤ fld a 0 2 ∧ fld a 0 2 ≤ 500 ∧ 50 ≤ u8 a 2 ∧ u8 a 2 ≤ 95 ∧ 60 ≤
    signed 8 (u8 a 3) ∧ signed 8 (u8 a 3) ≤ 95) .mgmt (by decide +kernel)

theorem witness_MediaChangesComplete_mediaAckWarnings : ∃ (c : Cmd) (s : State), s.readySealed c .mgmt ∧ (fun _ a => a.length =
    4) s.board c.args :=
  enters_up (zeros 4) (fun _ a => a.length = 4) .mgmt (by decide +kernel)

theorem witness_MediaChangesComplete_1 : ∃ (c : SealedCmd) (s t : State) (a : Bytes), ∃ n, a = c.cmd.args ∧ t = s.atPlace c ∧ n
    = 1 + Config.sealedValue s.store.draws ∧ s.reaches c 0x0701 ∧ s.board.nandOk = true ∧ 16 ≤ fld a 4 2 ∧ fld a 4 2 ≤ 256 ∧ 64
    ≤ fld a 0 4 ∧ fld a 0 4 ≤ s.cMax (fld a 4 2) ∧ fld a 8 4 ≠ 0 ∧ fld a 12 4 ≠ 0 ∧ s.store.chorus = none ∧ (∀ n ∈ s.store.nss,
    n.unexpired c.adm = false) :=
  ⟨sc 0x0701 (be 4 64 ++ be 2 16 ++ be 2 0 ++ be 4 10 ++ be 4 10),
    { up with board := { up.board with factoryBad := [] }, flash := { up.flash with luns := up.flash.luns.take 2 } }, _, _, _,
    rfl, rfl, rfl, by unfold State.reaches; decide +kernel⟩

theorem witness_MediaChangesComplete_2 : ∃ (c : SealedCmd) (s t : State) (a : Bytes), a = c.cmd.args ∧ t = s.atPlace c ∧
    s.reaches c 0x0702 ∧ u8 a 0 ≤ 1 ∧ 1 ≤ u8 a 1 ∧ u8 a 1 ≤ s.board.levels (u8 a 0 == 1) :=
  ⟨sc 0x0702 [1, 1, 0xC0, 63], up, _, _, rfl, rfl, by unfold State.reaches; decide +kernel⟩

theorem witness_MediaChangesComplete_3 : ∃ (c : SealedCmd) (s t : State) (a : Bytes), a = c.cmd.args ∧ t = s.atPlace c ∧
    s.reaches c 0x0703 :=
  ⟨sc 0x0703 [0, 100, 50, 60], up, _, _, rfl, rfl, by unfold State.reaches; decide +kernel⟩

theorem witness_MediaChangesComplete_4 : ∃ (c : SealedCmd) (s t : State) (a : Bytes), a = c.cmd.args ∧ t = s.atPlace c ∧
    s.reaches c 0x0704 :=
  ⟨sc 0x0704 [0, 0, 0, 1], up, _, _, rfl, rfl, by unfold State.reaches; decide +kernel⟩

theorem witness_MediaReadsComplete_1 : ∃ (c : Cmd) (s : State), s.ready c .rt ∧ c.args = [] :=
  ⟨cmd [], up, by unfold State.ready; decide +kernel⟩

theorem witness_MediaReadsComplete_2 : ∃ (c : Cmd) (s : State), ∃ l, s.ready c .rt ∧ c.args.length = 2 ∧ (s.flash.luns.find?
    (fun l => l.id == fld c.args 0 2) = some l) :=
  ⟨cmd (be 2 0x1000), up, _, (by unfold State.ready; decide +kernel), (by decide +kernel), rfl⟩

end Sys2Proof.Tests
end

