-- ==== Sys2Proof/Tests/WitnessSkp.lean ====
section
/-! SUPPORT. For each clause of the statements on SKP requests and Chorus datagrams, a state and operands that meet its hypotheses. -/

namespace Sys2Proof.Tests

open Sys2Proof Sys2Proof.Machine

set_option Elab.async false

/-- The context of a request of the list of measure 99. -/
def now : Ctx := ⟨99, 99, false⟩

/-- A watch on namespace 1, and `talk` with it. -/
def watch1 : Watch := ⟨1, 3, src0, 1, [], 0, 0, 0, 0, 0, 90⟩
def watching : State := { talk with seq := { talk.seq with watches := [watch1] } }

/-- A segmented value that is open on the session, and `talk` with it. -/
def seg : OpenSeg := ⟨1, 1, [7], 4, 0, [], some 0, 90⟩
def segmented : State := { talk with store := { talk.store with segs := [seg] } }

/-- `talk` with an open batch of one member. -/
def batched (q : Request) : State := { talk with store := { talk.store with batches := [⟨1, 90, [(q, 90)]⟩] } }

/-- A Chorus with a checkpoint, one that restores it, and one whose restore has no manifest yet. -/
def chSnap : Chorus := { ch3 with checkpoint := some snap10 }
def chRestore : Chorus := { ch3 with restore := some rest }
def chBegun : Chorus := { ch3 with restore := some { rest with manifest := [], complete := false, next := 0 } }

/-- The head of the first stanza of source shard 0. -/
def head0 : StanzaHead :=
  { kind := 2, checkpoint := 5, cut := 95, ns := 10, typ := 1, gen := 0
    lo := ((manifestShards rest.manifest).headD (0, 0, 0, 0)).2.2.1, hi := ((manifestShards rest.manifest).headD (0, 0, 0, 0)).2.2.2
    index := 0 }

/-- The body of a STANZA LOAD of that stanza, which holds no record; and of the manifest's one stanza. -/
def loadBody : Bytes := be 1 2 ++ be 1 0 ++ be 2 0 ++ be 4 0 ++ be 8 5 ++ head0.stanza []
def manifestBody : Bytes := be 1 2 ++ be 1 0 ++ be 2 0xFFFF ++ be 4 0 ++ be 8 5 ++ ((ch3.manifestStanzas snap10)[0]?).getD []

/-- The stanza as it is read back. -/
def loaded0 : StanzaHead × Bytes := (parseStanza (loadBody.drop 16)).getD (head0, [])

/-- Requests of the Chorus's session that carry these bodies. -/
def stanzaRq (body : Bytes) : Request := { rq 0x13 [] body 0 with ns := 0 }

/-- Where member 1 sends from. -/
def src1 : Source := ⟨0, 0, 0xFE80 * 2 ^ 112 + 101, 47810, true, false⟩

/-- A Chorus datagram from member 1. -/
def fromPeer (op : Nat) (body : Bytes) : Request := ⟨src1, op, 0, 0, 0xFFF1, 0, 0, 0, 0, 0, body.length, 0, 0, [], body⟩

/-- A request in a Chorus set. -/
def groupReq : Request := ⟨⟨0, 0, 10, 1000, true, false⟩, 2, 0, 10, 1, 0, 5, 98, 0, 0, 1, 0, 0, [1], [2]⟩

/-- The Chorus of `serving`. -/
def chServing : Chorus := { ch3 with log := [(95, [groupReq])] }

/-- A member with that request on time for measure 98, a set in its log and a transfer it serves. -/
def serving : State :=
  let s := inChorusOf chServing
  { s with chorus := { s.chorus with onTime := [(98, [groupReq])], serving := [(2, snap10)] } }

/-- A pair with its second part named. -/
theorem pair_eq {α β : Type} {x : α × β} {b : β} (h : x.2 = b) : x = (x.1, b) := Prod.ext rfl h

/-- The record of an admitted request, and of one that the CANCEL of sequence 5 has removed. -/
def rec3 : Replay := ⟨3, 100, 100, 1, none, false, [], false, true, none⟩
def removed3 : Replay := { rec3 with removedBy := some 5 }

/-- A CANCEL of sequence 3. -/
def cancel3 : Request := { rq 0xA [] (be 4 3) 0 with ns := 0 }

/-- `talk` with a GET of sequence 3 in the open measure. -/
def admitted3 : State := { talk with seq := { talk.seq with admitted := [.skp { rq 1 [1] [] 0 with seq := 3 }] } }

theorem witness_SkpReadsComplete_1 : ∃ (r : Request) (s : State) (x : Session), s.readySkp r x ∧ r.op = 0x01 :=
  ⟨rq 1 [1] [] 0, talk, sess, by unfold State.readySkp State.serves; decide +kernel⟩

theorem witness_SkpReadsComplete_2 : ∃ (r : Request) (s : State) (x : Session), s.readySkp r x ∧ r.op = 0x06 :=
  ⟨rq 6 [] (be 2 0 ++ be 2 10 ++ zeros 4) 0, talk, sess, by unfold State.readySkp State.serves; decide +kernel⟩

theorem witness_SkpReadsComplete_3 : ∃ (r : Request) (s : State) (x : Session), s.readySkp r x ∧ r.op = 0x07 ∧ bit r.flags 4 =
    false :=
  ⟨rq 7 [] (be 4 0 ++ be 4 4194304 ++ be 4 0) 0, talk, sess, by unfold State.readySkp State.serves; decide +kernel⟩

theorem witness_SkpReadsComplete_4 : ∃ (r : Request) (s : State) (x : Session), s.readySkp r x ∧ r.op = 0x07 ∧ bit r.flags 4 =
    true :=
  ⟨{ rq 7 [] (be 4 0 ++ be 4 3 ++ be 4 0) 0 with flags := 16 }, watching, sess,
    by unfold State.readySkp State.serves; decide +kernel⟩

theorem witness_SkpReadsComplete_5 : ∃ (r : Request) (s : State) (m : Nat) (n : Namespace), ∃ e data, data = sub e.value
    r.offset (if r.length = 0 then e.value.length - r.offset else r.length) ∧ s.reachesSkp m ∧ s.mayAccess m r n ∧ r.op = 0x01 ∧
    n.find r.key = some e ∧ r.offset ≤ e.value.length ∧ (r.length = 0 ∨ r.offset + r.length ≤ e.value.length) ∧ (data = [] ∨
    s.wordsLost e.extent (r.offset / 4096) ((r.offset + data.length + 4095) / 4096) (if readSliceOf s.store.length < data.length
    then some m else none) = false) :=
  ⟨rq 1 [1] [] 0, talk, 99, ns1, ⟨[1], [10, 11], 1, 90, [], 0⟩, _, rfl,
    by unfold State.reachesSkp State.mayAccess; decide +kernel⟩

theorem witness_SkpReadsComplete_6 : ∃ (r : Request) (s : State) (m : Nat) (n : Namespace), ∃ walk k, (walk = (n.keys.filter fun
    e => isPrefix r.key e.key && ((r.body.drop 8).isEmpty || bytesLt (r.body.drop 8) e.key))) ∧ s.reachesSkp m ∧ s.mayAccess m r
    n ∧ r.op = 0x06 ∧ fld r.body 2 2 = k ∧ k ≠ 0 ∧ s.patternCheck (fld r.body 0 2) = none ∧ s.leavesLost n r.key (r.body.drop 8)
    = false :=
  ⟨rq 6 [] (be 2 0 ++ be 2 10 ++ zeros 4) 0, talk, 99, ns1, _, 10, rfl,
    by unfold State.reachesSkp State.mayAccess; decide +kernel⟩

theorem witness_SkpReadsComplete_7 : ∃ (r : Request) (s : State) (m : Nat) (n : Namespace), s.reachesSkp m ∧ s.mayAccess m r n ∧
    r.op = 0x07 ∧ bit r.flags 4 = false ∧ 1 ≤ fld r.body 4 4 ∧ fld r.body 4 4 ≤ 4194304 ∧ s.patternCheck (fld r.body 0 2) = none
    ∧ s.seq.watches.length < 1024 :=
  ⟨rq 7 [] (be 4 0 ++ be 4 4194304 ++ be 4 0) 0, talk, 99, ns1, by unfold State.reachesSkp State.mayAccess; decide +kernel⟩

theorem witness_SkpReadsComplete_8 : ∃ (r : Request) (s : State) (m : Nat) (n : Namespace), ∃ w, s.reachesSkp m ∧ s.mayAccess m
    r n ∧ r.op = 0x07 ∧ bit r.flags 4 = true ∧ (s.seq.watches.find? (fun v => v.is r.session (fld r.body 4 4)) = some w) ∧ w.cls
    < 4 :=
  ⟨{ rq 7 [] (be 4 0 ++ be 4 3 ++ be 4 0) 0 with flags := 16 }, watching, 99, ns1, watch1,
    by unfold State.reachesSkp State.mayAccess; decide +kernel⟩

theorem witness_SkpWritesComplete_1 : ∃ (r : Request) (s : State) (x : Session), s.readySkp r x ∧ r.op = 0x02 :=
  ⟨rq 2 [1] [9] 1, talk, sess, by unfold State.readySkp State.serves; decide +kernel⟩

theorem witness_SkpWritesComplete_2 : ∃ (r : Request) (s : State) (x : Session), s.readySkp r x ∧ r.op = 0x04 :=
  ⟨rq 4 [1] (be 8 0 ++ [5]) 1, talk, sess, by unfold State.readySkp State.serves; decide +kernel⟩

theorem witness_SkpWritesComplete_3 : ∃ (r : Request) (s : State) (x : Session), s.readySkp r x ∧ r.op = 0x05 :=
  ⟨{ rq 5 [] [1, 2, 3] 3 with ns := 2 }, talk, sess, by unfold State.readySkp State.serves; decide +kernel⟩

theorem witness_SkpWritesComplete_4 : ∃ (r : Request) (s : State) (m : Nat) (n : Namespace), ∃ v value, v = (getKey r.ns
    s.store.counters).getD 0 + 1 ∧ s.reachesSkp m ∧ s.mayAccess m r n ∧ s.store.batch r.session = none ∧ s.store.isHeld r.ns
    r.key = false ∧ (r.op = 0x02 ∧ value = r.body ∨ r.op = 0x04 ∧ value = r.body.drop 8 ∧ fld r.body 0 8 = ((n.find r.key).map
    (·.version)).getD 0 ∨ r.op = 0x05 ∧ n.typ = .ordinary ∧ r.key ≠ [] ∧ value = ((n.find r.key).map (·.value)).getD [] ++
    r.body ∧ value.length ≤ 64 * 2 ^ 20 ∧ (∀ e, n.find r.key = some e → s.valueLost e = false)) ∧ opensSeg r = false ∧
    (s.store.roomFor n r.key (charge value.length) (((n.find r.key).map fun e => charge e.value.length).getD 0) (b2n (n.find
    r.key).isNone) = true) :=
  ⟨rq 2 [1] [9] 1, talk, 99, ns1, _, [9], rfl, (by unfold State.reachesSkp; decide +kernel),
    (by unfold State.mayAccess; decide +kernel), (by decide +kernel), (by decide +kernel), .inl ⟨by decide +kernel,
    by decide +kernel⟩, (by decide +kernel), (by decide +kernel)⟩

theorem witness_SkpWritesComplete_5 : ∃ (r : Request) (s : State) (m : Nat) (n : Namespace), ∃ v value, v = (getKey r.ns
    s.store.counters).getD 0 + 1 ∧ value = ledgerRecord (n.record + 1) 1 n.head r.body ∧ s.reachesSkp m ∧ s.mayAccess m r n ∧
    s.store.batch r.session = none ∧ s.store.isHeld r.ns r.key = false ∧ r.op = 0x05 ∧ n.typ = .ledger ∧ r.key = [] ∧
    s.store.roomFor n (be 8 (n.record + 1)) (charge (48 + r.body.length)) 0 1 = true :=
  ⟨{ rq 5 [] [1, 2, 3] 3 with ns := 2 }, talk, 99, ns2, _, _, rfl, rfl,
    by unfold State.reachesSkp State.mayAccess; decide +kernel⟩

theorem witness_DeleteRemovesTheKey_1 : ∃ (k : Ctx) (r : Request) (s s1 : State) (n : Namespace), ∃ e, r.op = 0x03 ∧ s.gate k r
    = (s1, .ok n) ∧ s.store.isHeld n.id r.key = false ∧ n.find r.key = some e :=
  ⟨now, rq 3 [1] [] 0, talk, _, ns1, ⟨[1], [10, 11], 1, 90, [], 0⟩, (by decide +kernel), pair_eq (by decide +kernel),
    (by decide +kernel), (by decide +kernel)⟩

theorem witness_DeleteRemovesTheKey_2 : ∃ (k : Ctx) (r : Request) (s s1 : State) (n : Namespace), r.op = 0x03 ∧ s.gate k r =
    (s1, .ok n) ∧ s.store.isHeld n.id r.key = false ∧ n.find r.key = none :=
  ⟨now, rq 3 [2] [] 0, talk, _, ns1, (by decide +kernel), pair_eq (by decide +kernel), (by decide +kernel), (by decide +kernel)⟩

theorem witness_DeleteRemovesTheKey_3 : ∃ (r : Request) (s : State) (x : Session), s.readySkp r x ∧ r.op = 0x03 :=
  ⟨rq 3 [1] [] 0, talk, sess, by unfold State.readySkp State.serves; decide +kernel⟩

theorem witness_DeleteRemovesTheKey_4 : ∃ (r : Request) (s : State) (m : Nat) (n : Namespace), ∃ e, s.reachesSkp m ∧ r.op = 0x03
    ∧ s.mayAccess m r n ∧ s.store.batch r.session = none ∧ s.store.isHeld r.ns r.key = false ∧ n.find r.key = some e :=
  ⟨rq 3 [1] [] 0, talk, 99, ns1, ⟨[1], [10, 11], 1, 90, [], 0⟩, by unfold State.reachesSkp State.mayAccess; decide +kernel⟩

theorem witness_DeleteRemovesTheKey_5 : ∃ (r : Request) (s : State) (m : Nat) (n : Namespace), s.reachesSkp m ∧ r.op = 0x03 ∧
    s.mayAccess m r n ∧ s.store.batch r.session = none ∧ s.store.isHeld r.ns r.key = false ∧ n.find r.key = none :=
  ⟨rq 3 [2] [] 0, talk, 99, ns1, by unfold State.reachesSkp State.mayAccess; decide +kernel⟩

theorem witness_CasWritesOnlyTheExpected_1 : ∃ (k : Ctx) (r : Request) (s s1 : State) (n : Namespace) (now : Nat), now =
    ((n.find r.key).map (·.version)).getD 0 ∧ r.op = 0x04 ∧ s.gate k r = (s1, .ok n) ∧ s.store.isHeld n.id r.key = false ∧
    opensSeg r = false ∧ fld r.body 0 8 ≠ now :=
  ⟨now, rq 4 [1] (be 8 0 ++ [5]) 1, talk, _, ns1, _, rfl, (by decide +kernel), pair_eq (by decide +kernel), (by decide +kernel),
    (by decide +kernel), (by decide +kernel)⟩

theorem witness_CasWritesOnlyTheExpected_2 : ∃ (k : Ctx) (r : Request) (s s1 : State) (n : Namespace) (now : Nat), now =
    ((n.find r.key).map (·.version)).getD 0 ∧ r.op = 0x04 ∧ s.gate k r = (s1, .ok n) ∧ s.store.isHeld n.id r.key = false ∧
    opensSeg r = false ∧ fld r.body 0 8 = now :=
  ⟨now, rq 4 [2] (be 8 0 ++ [5]) 1, talk, _, ns1, _, rfl, (by decide +kernel), pair_eq (by decide +kernel), (by decide +kernel),
    (by decide +kernel), (by decide +kernel)⟩

theorem witness_CasWritesOnlyTheExpected_3 : ∃ (k : Ctx) (r : Request) (g : OpenSeg) (s : State) (n : Namespace) (v now : Nat),
    now = ((n.find g.key).map (·.version)).getD 0 ∧ s.store.ns g.ns = some n ∧ s.store.holds g.ns g.key = true ∧ s.store.isHeld
    g.ns g.key = false ∧ g.expected = some v ∧ v ≠ now :=
  ⟨now, rq 0xB [] [1, 2, 3, 4] 4, { seg with expected := some 9 }, segmented, ns1, 9, _, rfl, by decide +kernel⟩

theorem witness_CasWritesOnlyTheExpected_4 : ∃ (k : Ctx) (r : Request) (g : OpenSeg) (s : State) (n : Namespace) (v now : Nat),
    now = ((n.find g.key).map (·.version)).getD 0 ∧ s.store.ns g.ns = some n ∧ s.store.holds g.ns g.key = true ∧ s.store.isHeld
    g.ns g.key = false ∧ g.expected = some v ∧ v = now :=
  ⟨now, rq 0xB [] [1, 2, 3, 4] 4, seg, segmented, ns1, 0, _, rfl, by decide +kernel⟩

theorem witness_CasWritesOnlyTheExpected_5 : ∃ (r : Request) (s : State) (x : Session), s.readySkp r x ∧ r.op = 0x04 :=
  ⟨rq 4 [1] (be 8 0 ++ [5]) 1, talk, sess, by unfold State.readySkp State.serves; decide +kernel⟩

theorem witness_CasWritesOnlyTheExpected_6 : ∃ (r : Request) (s : State) (m : Nat) (n : Namespace) (now : Nat), now = ((n.find
    r.key).map (·.version)).getD 0 ∧ s.reachesSkp m ∧ r.op = 0x04 ∧ s.mayAccess m r n ∧ s.store.batch r.session = none ∧
    s.store.isHeld r.ns r.key = false ∧ opensSeg r = false ∧ fld r.body 0 8 ≠ now :=
  ⟨rq 4 [1] (be 8 0 ++ [5]) 1, talk, 99, ns1, _, rfl, by unfold State.reachesSkp State.mayAccess; decide +kernel⟩

theorem witness_CasWritesOnlyTheExpected_7 : ∃ (r : Request) (s : State) (m : Nat) (n : Namespace) (now : Nat), ∃ v, now =
    ((n.find r.key).map (·.version)).getD 0 ∧ v = (getKey r.ns s.store.counters).getD 0 + 1 ∧ s.reachesSkp m ∧ r.op = 0x04 ∧
    s.mayAccess m r n ∧ s.store.batch r.session = none ∧ s.store.isHeld r.ns r.key = false ∧ opensSeg r = false ∧ fld r.body 0 8
    = now ∧ (s.store.roomFor n r.key (charge (r.body.drop 8).length) (((n.find r.key).map fun e => charge e.value.length).getD
    0) (b2n (n.find r.key).isNone) = true) :=
  ⟨rq 4 [1] (be 8 1 ++ [5]) 1, talk, 99, ns1, _, _, rfl, rfl, by unfold State.reachesSkp State.mayAccess; decide +kernel⟩

theorem witness_SkpSegmentsComplete_1 : ∃ (r : Request) (s : State) (x : Session), s.readySkp r x ∧ r.op = 0x02 :=
  ⟨rq 2 [7] [] 4, talk, sess, by unfold State.readySkp State.serves; decide +kernel⟩

theorem witness_SkpSegmentsComplete_2 : ∃ (r : Request) (s : State) (x : Session), s.readySkp r x ∧ r.op = 0x0B ∧ bit r.flags 2
    = false ∧ bit r.flags 3 = false :=
  ⟨rq 0xB [] [1, 2] 2, segmented, sess, by unfold State.readySkp State.serves; decide +kernel⟩

theorem witness_SkpSegmentsComplete_3 : ∃ (r : Request) (s : State) (x : Session), s.readySkp r x ∧ r.op = 0x0B ∧ bit r.flags 2
    = true ∧ bit r.flags 3 = false :=
  ⟨{ rq 0xB [] [1, 2, 3, 4] 4 with flags := 4 }, segmented, sess, by unfold State.readySkp State.serves; decide +kernel⟩

theorem witness_SkpSegmentsComplete_4 : ∃ (r : Request) (s : State) (x : Session), s.readySkp r x ∧ r.op = 0x0B ∧ bit r.flags 3
    = true :=
  ⟨{ rq 0xB [] [] 0 with flags := 8 }, segmented, sess, by unfold State.readySkp State.serves; decide +kernel⟩

theorem witness_SkpSegmentsComplete_5 : ∃ (r : Request) (s : State) (m : Nat) (n : Namespace), s.reachesSkp m ∧ s.store.batch
    r.session = none ∧ r.op = 0x02 ∧ opensSeg r = true ∧ s.mayAccess m r n ∧ s.store.isHeld r.ns r.key = false ∧ s.store.seg
    r.session = none ∧ s.store.roomFor n r.key (charge r.length) 0 1 = true :=
  ⟨rq 2 [7] [] 4, talk, 99, ns1, by unfold State.reachesSkp State.mayAccess; decide +kernel⟩

theorem witness_SkpSegmentsComplete_6 : ∃ (r : Request) (s : State) (m : Nat) (n : Namespace), ∃ g, s.reachesSkp m ∧
    s.store.batch r.session = none ∧ r.op = 0x0B ∧ s.noRank = false ∧ r.ns ≠ 0 ∧ s.store.ns r.ns = some n ∧ n.typ ≠ .ledger ∧
    s.store.seg r.session = some g ∧ s.store.chorusNs g.ns = none ∧ bit r.flags 2 = false ∧ bit r.flags 3 = false ∧ g.takes r =
    true :=
  ⟨rq 0xB [] [1, 2] 2, segmented, 99, ns1, seg, by unfold State.reachesSkp; decide +kernel⟩

theorem witness_SkpSegmentsComplete_7 : ∃ (r : Request) (s : State) (m : Nat) (n : Namespace), ∃ g, s.reachesSkp m ∧
    s.store.batch r.session = none ∧ r.op = 0x0B ∧ s.noRank = false ∧ r.ns ≠ 0 ∧ s.store.ns r.ns = some n ∧ n.typ ≠ .ledger ∧
    s.store.seg r.session = some g ∧ s.store.chorusNs g.ns = none ∧ bit r.flags 3 = true :=
  ⟨{ rq 0xB [] [] 0 with flags := 8 }, segmented, 99, ns1, seg, by unfold State.reachesSkp; decide +kernel⟩

theorem witness_SkpSegmentsComplete_8 : ∃ (r : Request) (s : State) (m : Nat) (n : Namespace), ∃ g n1 v, v = (getKey g.ns
    s.store.counters).getD 0 + 1 ∧ s.reachesSkp m ∧ s.store.batch r.session = none ∧ r.op = 0x0B ∧ s.noRank = false ∧ r.ns ≠ 0 ∧
    s.store.ns r.ns = some n ∧ n.typ ≠ .ledger ∧ s.store.seg r.session = some g ∧ s.store.chorusNs g.ns = none ∧ bit r.flags 2 =
    true ∧ bit r.flags 3 = false ∧ g.takes r = true ∧ s.store.ns g.ns = some n1 ∧ s.store.isHeld g.ns g.key = false ∧
    (g.expected = none ∨ g.expected = some (((n1.find g.key).map (·.version)).getD 0)) :=
  ⟨{ rq 0xB [] [1, 2, 3, 4] 4 with flags := 4 }, segmented, 99, ns1, seg, ns1, _, rfl,
    by unfold State.reachesSkp; decide +kernel⟩

theorem witness_SkpBatchesCancelComplete_1 : ∃ (r : Request) (s : State) (x : Session), s.readySkp r x ∧ r.op = 0x08 :=
  ⟨{ rq 8 [] [] 0 with ns := 0 }, talk, sess, by unfold State.readySkp State.serves; decide +kernel⟩

theorem witness_SkpBatchesCancelComplete_2 : ∃ (r : Request) (s : State) (x : Session), s.readySkp r x ∧ r.op = 0x09 :=
  ⟨{ rq 9 [] [] 0 with ns := 0 }, talk, sess, by unfold State.readySkp State.serves; decide +kernel⟩

theorem witness_SkpBatchesCancelComplete_3 : ∃ (r : Request) (s : State) (x : Session), s.readySkp r x ∧ r.op = 0x0A :=
  ⟨cancel3, talk, sess, by unfold State.readySkp State.serves; decide +kernel⟩

theorem witness_SkpBatchesCancelComplete_4 : ∃ (r : Request) (s : State) (m : Nat), s.reachesSkp m ∧ r.op = 0x08 ∧ s.store.batch
    r.session = none :=
  ⟨{ rq 8 [] [] 0 with ns := 0 }, talk, 99, by unfold State.reachesSkp; decide +kernel⟩

theorem witness_SkpBatchesCancelComplete_5 : ∃ (r : Request) (s : State) (m : Nat), ∃ b, s.reachesSkp m ∧ joinsBatch r = true ∧
    s.store.batch r.session = some b :=
  ⟨rq 2 [1] [9] 1, batched (rq 3 [1] [] 0), 99, ⟨1, 90, [(rq 3 [1] [] 0, 90)]⟩, by unfold State.reachesSkp; decide +kernel⟩

theorem witness_SkpBatchesCancelComplete_6 : ∃ (r : Request) (s : State) (m : Nat), ∃ b ms s0 run, ms = b.members.foldr
    insertMember [] ∧ (s0 = (s.modStore fun t => { t with batches := t.batches.filter fun y => y.session != r.session })) ∧ (run
    = ms.foldl (BatchRun.step ⟨m, m, false⟩ (ms.head?.map fun k => s.store.shardIndex k.1)) ⟨s0, [], none⟩) ∧ s.reachesSkp m ∧
    r.op = 0x09 ∧ s.store.batch r.session = some b ∧ (∀ k ∈ ms, joinsBatch k.1 = true ∧ k.1.session = r.session) ∧ run.failed =
    none :=
  ⟨{ rq 9 [] [] 0 with ns := 0 }, batched (rq 3 [1] [] 0), 99, ⟨1, 90, [(rq 3 [1] [] 0, 90)]⟩, _, _, _, rfl, rfl, rfl,
    by unfold State.reachesSkp; decide +kernel⟩

theorem witness_SkpBatchesCancelComplete_7 : ∃ (r : Request) (s : State) (m : Nat), ∃ b ms s0 run q a, ms = b.members.foldr
    insertMember [] ∧ (s0 = (s.modStore fun t => { t with batches := t.batches.filter fun y => y.session != r.session })) ∧ (run
    = ms.foldl (BatchRun.step ⟨m, m, false⟩ (ms.head?.map fun k => s.store.shardIndex k.1)) ⟨s0, [], none⟩) ∧ s.reachesSkp m ∧
    r.op = 0x09 ∧ s.store.batch r.session = some b ∧ (∀ k ∈ ms, joinsBatch k.1 = true ∧ k.1.session = r.session) ∧ run.failed =
    some (q, a) :=
  ⟨{ rq 9 [] [] 0 with ns := 0 }, batched (rq 4 [1] (be 8 0 ++ [5]) 1), 99, ⟨1, 90, [(rq 4 [1] (be 8 0 ++ [5]) 1, 90)]⟩, _, _,
    _, _, _, rfl, rfl, rfl, (by unfold State.reachesSkp; decide +kernel), (by decide +kernel), (by decide +kernel),
    (by decide +kernel), some_getD (d := (0, Ans.none)) (by decide +kernel)⟩

theorem witness_SkpBatchesCancelComplete_8 : ∃ (r : Request) (s : State) (m : Nat), ∃ x p, s.reachesSkp m ∧ r.op = 0x0A ∧
    s.session r.session = some x ∧ fld r.body 0 4 < r.seq ∧ x.record (fld r.body 0 4) = some p ∧ p.removedBy = some r.seq :=
  ⟨cancel3, { talk with sessions := [{ sess with replay := [removed3] }] }, 99, { sess with replay := [removed3] }, removed3,
    by unfold State.reachesSkp; decide +kernel⟩

theorem witness_SkpBatchesCancelComplete_9 : ∃ (r : Request) (s : State) (m : Nat), ∃ x p, s.reachesSkp m ∧ r.op = 0x0A ∧
    s.session r.session = some x ∧ fld r.body 0 4 < r.seq ∧ x.record (fld r.body 0 4) = some p ∧ p.removedBy = none ∧ p.admitted
    = true :=
  ⟨cancel3, talk, 99, sess, rec3, by unfold State.reachesSkp; decide +kernel⟩

theorem witness_SkpBatchesCancelComplete_10 : ∃ (r : Request) (s : State) (m : Nat), ∃ x, s.reachesSkp m ∧ r.op = 0x0A ∧
    s.session r.session = some x ∧ (r.seq ≤ fld r.body 0 4 ∨ (∃ p, x.record (fld r.body 0 4) = some p ∧ p.removedBy ≠ some r.seq
    ∧ (p.removedBy ≠ none ∨ p.admitted = false)) ∨ (x.record (fld r.body 0 4) = none ∧ x.received (fld r.body 0 4) = false)) :=
  ⟨{ rq 0xA [] (be 4 5) 0 with ns := 0 }, talk, 99, sess, (by unfold State.reachesSkp; decide +kernel), (by decide +kernel),
    (by decide +kernel), .inl (by decide +kernel)⟩

theorem witness_SkpBatchesCancelComplete_11 : ∃ (r c : Request) (s t : State), t = s.cancelOpen r ∧ fld r.body 0 4 < r.seq ∧
    .skp c ∈ s.seq.admitted ∧ c.session = r.session ∧ c.seq = fld r.body 0 4 :=
  ⟨cancel3, { rq 1 [1] [] 0 with seq := 3 }, admitted3, _, rfl, by decide +kernel⟩

theorem witness_SkpBatchesCancelComplete_12 : ∃ (r c : Request) (s t : State), ∃ x, t = s.cancelOpen r ∧ fld r.body 0 4 < r.seq
    ∧ .skp c ∈ s.seq.admitted ∧ c.session = r.session ∧ c.seq = fld r.body 0 4 ∧ s.session r.session = some x :=
  ⟨cancel3, { rq 1 [1] [] 0 with seq := 3 }, admitted3, _, sess, rfl, by decide +kernel⟩

theorem witness_CancelChangesNoNamespace_1 : ∃ (r : Request) (s : State) (x : Session), s.readySkp r x ∧ r.op = 0x0A :=
  ⟨cancel3, talk, sess, by unfold State.readySkp State.serves; decide +kernel⟩

theorem witness_CancelChangesNoNamespace_2 : ∃ (r : Request) (s : State) (m : Nat), s.reachesSkp m ∧ r.op = 0x0A :=
  ⟨cancel3, talk, 99, by unfold State.reachesSkp; decide +kernel⟩

theorem witness_PinnedRequestsFollowTheirTarget_1 : ∃ (i : Instr) (r : Request) (s : State) (x : Session), rowOf r = some i ∧
    s.readyPinned r x ∧ r.target < s.tb.measure :=
  ⟨.get { rq 1 [1] [] 0 with target := 99 }, { rq 1 [1] [] 0 with target := 99 }, talk, sess,
    by unfold State.readyPinned State.serves; decide +kernel⟩

theorem witness_PinnedRequestsFollowTheirTarget_2 : ∃ (i : Instr) (r : Request) (s : State) (x : Session), rowOf r = some i ∧
    s.readyPinned r x ∧ r.target = s.tb.measure ∧ s.fits (valueBytesOf r) = true :=
  ⟨.get { rq 1 [1] [] 0 with target := 100 }, { rq 1 [1] [] 0 with target := 100 }, talk, sess,
    by unfold State.readyPinned State.serves; decide +kernel⟩

theorem witness_PinnedRequestsFollowTheirTarget_3 : ∃ (i : Instr) (r : Request) (s : State) (x : Session), rowOf r = some i ∧
    s.readyPinned r x ∧ r.target = s.tb.measure ∧ s.fits (valueBytesOf r) = false :=
  ⟨.get { rq 1 [1] [] 0 with target := 100 }, { rq 1 [1] [] 0 with target := 100 },
    { talk with seq := { talk.seq with slots := 100000 } }, sess, by unfold State.readyPinned State.serves; decide +kernel⟩

theorem witness_PinnedRequestsFollowTheirTarget_4 : ∃ (i : Instr) (r : Request) (s : State) (x : Session), rowOf r = some i ∧
    s.readyPinned r x ∧ s.tb.measure < r.target ∧ r.target ≤ s.tb.measure + 64 :=
  ⟨.get { rq 1 [1] [] 0 with target := 164 }, { rq 1 [1] [] 0 with target := 164 }, talk, sess,
    by unfold State.readyPinned State.serves; decide +kernel⟩

theorem witness_PinnedRequestsFollowTheirTarget_5 : ∃ (i : Instr) (r : Request) (s : State) (x : Session), rowOf r = some i ∧
    s.readyPinned r x ∧ s.tb.measure + 64 < r.target :=
  ⟨.get { rq 1 [1] [] 0 with target := 165 }, { rq 1 [1] [] 0 with target := 165 }, talk, sess,
    by unfold State.readyPinned State.serves; decide +kernel⟩

theorem witness_SkpSessionsComplete_1 : ∃ (r : Request) (s : State), s.serves r.src ∧ r.key = [] ∧ r.target = 0 ∧ r.offset = 0 ∧
    r.length = 0 ∧ r.segment = 0 ∧ r.op = 0x0C ∧ r.body = [] ∧ r.session ≠ 0 ∧ r.session < 0xFFF0 ∧ s.isOpen r.session = false ∧
    32 ≤ s.poolFree ∧ s.openSessions < 1024 :=
  ⟨{ rq 12 [] [] 0 with ns := 0, session := 0xFFEF }, talk, by unfold State.serves; decide +kernel⟩

theorem witness_SkpSessionsComplete_2 : ∃ (r : Request) (s : State), ∃ x, s.serves r.src ∧ r.key = [] ∧ r.target = 0 ∧ r.offset
    = 0 ∧ r.length = 0 ∧ r.segment = 0 ∧ s.session r.session = some x ∧ x.opened = true ∧ x.boundTo r.src = true ∧ r.op = 0x0C ∧
    r.body = [] ∧ r.session ≠ 0 ∧ r.session < 0xFFF0 :=
  ⟨{ rq 12 [] [] 0 with ns := 0 }, talk, sess, by unfold State.serves; decide +kernel⟩

theorem witness_SkpSessionsComplete_3 : ∃ (r : Request) (s : State), ∃ x, s.serves r.src ∧ r.key = [] ∧ r.target = 0 ∧ r.offset
    = 0 ∧ r.length = 0 ∧ r.segment = 0 ∧ s.session r.session = some x ∧ x.opened = true ∧ x.boundTo r.src = true ∧ r.op = 0x0F ∧
    r.body = [] :=
  ⟨{ rq 15 [] [] 0 with ns := 0 }, talk, sess, by unfold State.serves; decide +kernel⟩

theorem witness_SkpSessionsComplete_4 : ∃ (r : Request) (s : State), ∃ x, s.serves r.src ∧ r.key = [] ∧ r.target = 0 ∧ r.offset
    = 0 ∧ r.length = 0 ∧ r.segment = 0 ∧ s.session r.session = some x ∧ x.opened = true ∧ x.boundTo r.src = true ∧ r.op = 0x0D ∧
    r.body = [] :=
  ⟨{ rq 13 [] [] 0 with ns := 0 }, talk, sess, by unfold State.serves; decide +kernel⟩

theorem witness_SkpSessionsComplete_5 : ∃ (r : Request) (s : State), ∃ x, s.serves r.src ∧ r.key = [] ∧ r.target = 0 ∧ r.offset
    = 0 ∧ r.length = 0 ∧ r.segment = 0 ∧ s.session r.session = some x ∧ x.opened = true ∧ x.boundTo r.src = true ∧ r.op = 0x0E ∧
    r.body.length = 8 ∧ 1 ≤ fld r.body 0 2 ∧ fld r.body 0 2 ≤ 256 :=
  ⟨{ rq 14 [] (be 2 256 ++ zeros 6) 0 with ns := 0 }, talk, sess, by unfold State.serves; decide +kernel⟩

theorem witness_SkpStanzasComplete_1 : ∃ (r : Request) (s : State) (x : Session), s.readySkp r x ∧ r.op = 0x13 ∧ u8 r.body 0 = 1 :=
  ⟨stanzaRq (be 1 1 ++ be 1 0 ++ be 2 0xFFFF ++ be 4 0 ++ be 8 5), inChorusOf chSnap, sess,
    by unfold State.readySkp State.serves; decide +kernel⟩

theorem witness_SkpStanzasComplete_2 : ∃ (r : Request) (s : State) (x : Session), s.readySkp r x ∧ r.op = 0x13 ∧ u8 r.body 0 = 2 :=
  ⟨stanzaRq loadBody, inChorusOf chRestore, sess, by unfold State.readySkp State.serves; decide +kernel⟩

theorem witness_SkpStanzasComplete_3 : ∃ (r : Request) (s s1 : State) (m : Nat) (c : Chorus), ∃ l sn b, s.reachesSkp m ∧ r.op =
    0x13 ∧ s.noRank = false ∧ s.store.chorus = some c ∧ u8 r.body 0 = 1 ∧ c.checkpoint = some sn ∧ sn.id = fld r.body 8 8 ∧ ((if
    fld r.body 2 2 = 0xFFFF then some (c.nss.map (·.ns)) else (c.locate (fld r.body 2 2)).map fun k => [k.1.ns]) = some l) ∧
    State.stanzaGate ⟨m, m, false⟩ r .read l s = (s1, none) ∧ c.readStanza (fld r.body 2 2) (fld r.body 4 4) sn = some b ∧
    s.stanzaLost sn b = false :=
  ⟨stanzaRq (be 1 1 ++ be 1 0 ++ be 2 0xFFFF ++ be 4 0 ++ be 8 5), inChorusOf chSnap, _, 99, chSnap, [10, 11], snap10,
    (chSnap.readStanza 0xFFFF 0 snap10).getD [], (by unfold State.reachesSkp; decide +kernel), (by decide +kernel),
    (by decide +kernel), (by decide +kernel), (by decide +kernel), (by decide +kernel), (by decide +kernel),
    (by decide +kernel), pair_eq (by decide +kernel), some_getD (by decide +kernel), (by decide +kernel)⟩

theorem witness_SkpStanzasComplete_4 : ∃ (r : Request) (s s1 : State) (m : Nat) (c : Chorus), ∃ v p, p = (r.body.drop 16).drop
    64 ∧ s.reachesSkp m ∧ r.op = 0x13 ∧ s.noRank = false ∧ s.store.chorus = some c ∧ u8 r.body 0 = 2 ∧ c.restore = some v ∧
    v.complete = false ∧ v.checkpoint = fld r.body 8 8 ∧ fld r.body 2 2 = 0xFFFF ∧ fld r.body 4 4 = v.next ∧ State.stanzaGate
    ⟨m, m, false⟩ r .write (c.nss.map (·.ns)) s = (s1, none) ∧ stanzaSound (r.body.drop 16) = true ∧ (parseStanza (r.body.drop
    16)).isSome = true ∧ u8 (r.body.drop 16) 5 = 1 ∧ u8 (r.body.drop 16) 24 = 0 ∧ fld (r.body.drop 16) 8 8 = v.checkpoint ∧ fld
    (r.body.drop 16) 44 4 = v.next ∧ (v.next = 0 ∨ fld (r.body.drop 16) 16 6 = v.cut) ∧ (manifestDone (v.manifest ++ p) = true →
    manifestExact (v.manifest ++ p) = true ∧ s.store.fitsManifest (v.manifest ++ p) = true) :=
  ⟨stanzaRq manifestBody, inChorusOf chBegun, _, 99, chBegun, { rest with manifest := [], complete := false, next := 0 }, _,
    rfl, (by unfold State.reachesSkp; decide +kernel), (by decide +kernel), (by decide +kernel), (by decide +kernel),
    (by decide +kernel), (by decide +kernel), (by decide +kernel), (by decide +kernel), (by decide +kernel),
    (by decide +kernel), pair_eq (by decide +kernel), (by decide +kernel), (by decide +kernel), (by decide +kernel),
    (by decide +kernel), (by decide +kernel), (by decide +kernel), (by decide +kernel), (by decide +kernel)⟩

theorem witness_SkpStanzasComplete_5 : ∃ (r : Request) (s s1 : State) (m : Nat) (c : Chorus), ∃ v h p next known t1 l1, (known =
    v.loads.find? (fun k => k.shard == fld r.body 2 2)) ∧ next = (known.map (·.next)).getD 0 ∧ s.reachesSkp m ∧ r.op = 0x13 ∧
    s.noRank = false ∧ s.store.chorus = some c ∧ u8 r.body 0 = 2 ∧ c.restore = some v ∧ v.complete = true ∧ v.checkpoint = fld
    r.body 8 8 ∧ fld r.body 2 2 ≠ 0xFFFF ∧ 80 ≤ r.body.length ∧ State.stanzaGate ⟨m, m, false⟩ r .write [u8 (r.body.drop 16) 24]
    s = (s1, none) ∧ fld r.body 4 4 = next ∧ (known.map (·.ended)).getD false = false ∧ stanzaSound (r.body.drop 16) = true ∧
    parseStanza (r.body.drop 16) = some (h, p) ∧ v.names h (fld r.body 2 2) next (r.body.drop 16).length = true ∧ endMismatch
    (known.getD (.start (fld r.body 2 2) h)) h p = false ∧ loadStanza s.store (known.getD (.start (fld r.body 2 2) h)) h p = .ok
    (t1, l1) :=
  ⟨stanzaRq loadBody, inChorusOf chRestore, _, 99, chRestore, rest, loaded0.1, loaded0.2, _, _, (inChorusOf chRestore).store,
    { LoadShard.start 0 loaded0.1 with next := 1 }, rfl, rfl, (by unfold State.reachesSkp; decide +kernel), (by decide +kernel),
    (by decide +kernel), (by decide +kernel), (by decide +kernel), (by decide +kernel), (by decide +kernel),
    (by decide +kernel), (by decide +kernel), (by decide +kernel), pair_eq (by decide +kernel), (by decide +kernel),
    (by decide +kernel), (by decide +kernel), some_getD (d := (head0, [])) (by decide +kernel), (by decide +kernel),
    (by decide +kernel), (by decide +kernel)⟩

theorem witness_ChorusDatagramsComplete_1 : ∃ (r : Request) (s : State) (c : Chorus) (k : Fin 8), s.serves r.src ∧
    s.store.chorus = some c ∧ c.memberOf r.src.ip = some k.val ∧ k.val ≠ c.self ∧ digestForm r.body k = true :=
  ⟨fromPeer 0x11 (be 1 1 ++ be 1 1 ++ zeros 86), inChorusOf ch3, ch3, 1, by unfold State.serves; decide +kernel⟩

theorem witness_ChorusDatagramsComplete_2 : ∃ (r : Request) (s : State) (c : Chorus) (k : Fin 8), s.serves r.src ∧
    s.store.chorus = some c ∧ c.memberOf r.src.ip = some k.val ∧ k.val ≠ c.self ∧ r.op = 0x12 ∧ 16 ≤ r.body.length ∧ u8 r.body 0
    = 1 ∧ c.e ≤ fld r.body 4 6 ∧ fld r.body 4 6 < s.tb.measure ∧ s.tb.measure ≤ fld r.body 4 6 + 2 :=
  ⟨fromPeer 0x12 (be 1 1 ++ be 1 0 ++ be 2 0 ++ be 6 99 ++ zeros 6), inChorusOf ch3, ch3, 1,
    by unfold State.serves; decide +kernel⟩

theorem witness_ChorusDatagramsComplete_3 : ∃ (r : Request) (s : State) (c : Chorus) (k : Fin 8) (l : List Request), s.serves
    r.src ∧ s.store.chorus = some c ∧ c.memberOf r.src.ip = some k.val ∧ k.val ≠ c.self ∧ r.op = 0x12 ∧ 16 ≤ r.body.length ∧ u8
    r.body 0 = 2 ∧ 1 ≤ fld r.body 2 2 ∧ fld r.body 2 2 ≤ 64 ∧ 16 + 8 * fld r.body 2 2 ≤ r.body.length ∧ (((List.range (fld
    r.body 2 2)).map fun i => (s.chorus.heldFor (fld r.body 4 6)).find? fun q => q.isId (fld r.body (16 + 8 * i) 2) (fld r.body
    (20 + 8 * i) 4)) = l.map some) :=
  ⟨fromPeer 0x12 (be 1 2 ++ be 1 0 ++ be 2 1 ++ be 6 98 ++ zeros 6 ++ be 2 1 ++ be 2 0 ++ be 4 5), serving, chServing, 1,
    [groupReq], by unfold State.serves; decide +kernel⟩

theorem witness_ChorusDatagramsComplete_4 : ∃ (r : Request) (s : State) (c : Chorus) (k : Fin 8) (l : List (List Request)),
    s.serves r.src ∧ s.store.chorus = some c ∧ c.memberOf r.src.ip = some k.val ∧ k.val ≠ c.self ∧ r.op = 0x12 ∧ 16 ≤
    r.body.length ∧ u8 r.body 0 = 3 ∧ 1 ≤ fld r.body 2 2 ∧ fld r.body 2 2 ≤ 16 ∧ (((List.range (fld r.body 2 2)).map fun i =>
    getKey (fld r.body 4 6 + i) c.log) = l.map some) :=
  ⟨fromPeer 0x12 (be 1 3 ++ be 1 0 ++ be 2 1 ++ be 6 95 ++ zeros 6), serving, chServing, 1, [[groupReq]],
    by unfold State.serves; decide +kernel⟩

theorem witness_ChorusDatagramsComplete_5 : ∃ (r : Request) (s : State) (c : Chorus) (k : Fin 8), s.serves r.src ∧
    s.store.chorus = some c ∧ c.memberOf r.src.ip = some k.val ∧ k.val ≠ c.self ∧ r.op = 0x12 ∧ 16 ≤ r.body.length ∧ u8 r.body 0
    = 4 ∧ 24 ≤ r.body.length ∧ fld r.body 4 6 = 0 ∧ s.ownFenced c = false ∧ ((c.shards.any fun h => h.num == fld r.body 16 2) =
    true) :=
  ⟨fromPeer 0x12 (be 1 4 ++ be 1 0 ++ be 2 0 ++ be 6 0 ++ zeros 6 ++ be 2 1 ++ zeros 6), inChorusOf ch3, ch3, 1,
    by unfold State.serves; decide +kernel⟩

theorem witness_ChorusDatagramsComplete_6 : ∃ (r : Request) (s : State) (c : Chorus) (k : Fin 8), ∃ v b, s.serves r.src ∧
    s.store.chorus = some c ∧ c.memberOf r.src.ip = some k.val ∧ k.val ≠ c.self ∧ r.op = 0x12 ∧ 16 ≤ r.body.length ∧ u8 r.body 0
    = 4 ∧ 24 ≤ r.body.length ∧ fld r.body 4 6 ≠ 0 ∧ (s.chorus.serving.find? (fun w => w.1 == fld r.body 16 2 && w.2.cut == fld
    r.body 4 6) = some v) ∧ (s.servedStanzas c (fld r.body 16 2) v.2)[fld r.body 20 4]? = some b ∧ fld r.body 20 4 + 1 ≠
    (s.servedStanzas c (fld r.body 16 2) v.2).length :=
  ⟨fromPeer 0x12 (be 1 4 ++ be 1 0 ++ be 2 0 ++ be 6 95 ++ zeros 6 ++ be 2 2 ++ be 2 0 ++ be 4 0), serving, chServing, 1, (2,
    snap10), _, (by unfold State.serves; decide +kernel), (by decide +kernel), (by decide +kernel), (by decide +kernel),
    (by decide +kernel), (by decide +kernel), (by decide +kernel), (by decide +kernel), (by decide +kernel),
    (by decide +kernel), some_getD (d := []) (by decide +kernel), (by decide +kernel)⟩

theorem witness_ChorusDatagramsComplete_7 : ∃ (a : PullAnswer) (s : State) (c : Chorus), s.inService = true ∧ s.store.chorus =
    some c ∧ a.member.val ≠ c.self ∧ a.member.val < c.members ∧ a.status = 0 ∧ a.mode = 1 ∧ s.chorus.report c.self a.measure 2 =
    none ∧ c.lastSealed < a.measure :=
  ⟨⟨1, 1, 99, 0, 0, 0, []⟩, inChorusOf ch3, ch3, by decide +kernel⟩

theorem witness_ChorusDatagramsComplete_8 : ∃ (a : PullAnswer) (s : State) (c : Chorus), s.inService = true ∧ s.store.chorus =
    some c ∧ a.member.val ≠ c.self ∧ a.member.val < c.members ∧ a.status = 0 ∧ a.mode = 3 ∧ ((takeSets a.body.length a.body).map
    (·.1)).Nodup :=
  ⟨⟨1, 3, 98, 0, 0, 0, be 6 98 ++ be 2 0⟩, inChorusOf ch3, ch3, by decide +kernel⟩

end Sys2Proof.Tests
end

