-- ==== Sys2Proof/Tests/WitnessUpdateCoda.lean ====
section
/-! SUPPORT. For each clause of the statements on UPDATE, CODA and SECURITY commands, the Recovery download, the steps of an update and the debug port, a state and operands that meet its hypotheses. -/

namespace Sys2Proof.Tests

open Sys2Proof Sys2Proof.Machine

set_option Elab.async false

/-- The one part of a package, which is not encrypted in the tests: the cipher is a hypothesis. -/
def partData : Bytes := List.replicate 64 7

/-- A package of release 3.3.0 with one part (Tables 13.3, 13.4), unsigned: the signature is a hypothesis. -/
def pkg : Bytes :=
  padTo 512 (be 4 0x42524C4D ++ [1, 0, 1, 0xB1] ++ be 8 0x1122334455667788 ++ [3, 3, 0, 1] ++ be 2 7 ++ be 2 6 ++ be 4 704) ++
  padTo 128 (be 1 2 ++ be 3 0 ++ be 4 640 ++ be 4 64 ++ zeros 36 ++ sha384 partData) ++ partData

/-- Block `i` of that package with `d` (Table 13.5). -/
def pkgBlock (i : Nat) (d : Bytes) : Bytes :=
  let head := be 2 0x4252 ++ be 2 i ++ sub pkg 8 4 ++ be 4 d.length
  head ++ be 4 (crc32c (head ++ d)) ++ d

/-- Where the root key is the package's, every signature verifies and every decryption gives the part, the package is good. -/
theorem pkg_ok (hr : Config.rootHash = sha384 (sub pkg 128 96)) (he : ∀ k d g, Config.ecdsaP384 k d g = true)
    (hg : ∀ k n x c t, Config.gcmOpen k n x c t = some partData) (v : Option Nat) (hv : v = none ∨ v = some 7) :
    checkStream .reset v pkg = .ok := by
  have h1 : formatOk .reset pkg = true := by decide +kernel
  have h2 : kararnOk pkg = true := by simp only [kararnOk, hr, he, beq_self_eq_true, Bool.and_self]
  have h3 : oemOk .reset pkg = true := rfl
  have h4 : contentOk .reset pkg = true := by simp only [contentOk, hg]; decide +kernel
  have h5 : ¬ u8 pkg 19 < Fuses.reset.rollback := Nat.not_lt_zero _
  rcases hv with rfl | rfl
  · simp only [checkStream, h1, h2, h3, h4, h5, Bool.not_true, Bool.false_eq_true, if_false]
  · have h6 : (decide (7 < fld pkg 22 2) || decide (fld pkg 20 2 < 7)) = false := by decide +kernel
    simp only [checkStream, h1, h2, h3, h4, h5, h6, Bool.not_true, Bool.false_eq_true, if_false]

/-- `full` with the package's one block stored in the STAGING namespace. -/
def withPackage : State :=
  { full with store := { full.store with nss := [{ ns3 with keys := [⟨[66], pkgBlock 0 pkg, 1, 90, [], 2⟩] }] } }

/-- `up` in a state of the update. -/
def updating (u : UpdState) : State := { up with store := { up.store with upd := u }, durable := { up.durable with upd := u } }

/-- `updating` with boot record and archive. -/
def booting (u b : UpdState) : State :=
  { updating u with nor := { Nor.reset with bootState := b, archive := some (.reset, 1, 7), pendingReady := true, archiveReady := true } }

/-- A drive in Recovery with a download in a phase. -/
def recovering (ph : RdlPhase) (eth : Bool) : State :=
  { State.reset with
    power := { Power.reset with mode := .recovery, inReset := false }
    nor := { Nor.reset with rdl := { Rdl.reset with
      phase := ph, eth, session := if eth then 77 else 0, src := if eth then some src0 else none } } }

/-- `recovering` with the first part of block 0 received. -/
def recoveringPart : State :=
  let s := recovering .receiving false
  { s with nor := { s.nor with rdl := { s.nor.rdl with assembling := [(0, [(0, (pkgBlock 0 pkg).take 512)])] } } }

/-- `recovering` with the package stored. -/
def verifying (blocks : List (Nat × Bytes)) : State :=
  let s := recovering .verifying false
  { s with nor := { s.nor with rdl := { s.nor.rdl with stored := blocks } } }

/-- A drive in Start-up that installs the package. -/
def installing : State :=
  { State.reset with
    power := { Power.reset with inReset := false }
    nor := { Nor.reset with installing := true, pending := some pkg } }

/-- The arguments of UPDATE.RDL_DATA. -/
def chunk (i off : Nat) (d : Bytes) : Bytes := be 2 i ++ be 2 0 ++ be 4 off ++ be 2 d.length ++ be 2 0 ++ d

/-- A download datagram. -/
def rdl (op seg off : Nat) (d : Bytes) : Bytes := skpHeader op 0 0 0 77 0 0 0 0 off d.length seg 0 ++ d

/-- A Coda entry. -/
def entry (n : Nat) : CodaEntry := ⟨n, 0x0101, 1, false, false, false, false, 90, 0, []⟩

/-- A record of the vault. -/
def record (kept : Bool) : VaultRecord := ⟨1, false, false, kept, 1, 2, 0, 0x0101, 0, 0, 1, 90, 1, 3, 2, 0, [entry 1, entry 2]⟩

/-- `up` with two entries in the ring, one waiting, and a record in slots 1 to 12, kept or not, and in slot 13, not kept. -/
def coda (kept : Bool) (st : RingState) (trigger : Option Nat) : State :=
  { up with coda := { up.coda with
      ring := [entry 2, entry 1], headSeq := 2, headSlot := 2, state := st
      queue := [⟨0x0101, 1, false, [1], trigger⟩], unflushed := [record false]
      vault := Vector.ofFn fun i : Fin 17 => if i.val < 12 then some (record kept) else if i.val = 12 then some (record false) else none } }

/-- A queue of one report yields that report. -/
theorem takeReport_one (n : Nat) (r : Report14) : takeReport n [r] = some (r, []) := by
  cases n with
  | zero => rfl
  | succ n => cases n <;> rfl

theorem witness_UpdateCommandsComplete_updateStage : ∃ (c : Cmd) (s : State), s.readySealed c .sec ∧ (fun _ a => (u8 a 0 = 1 ∨
    u8 a 0 = 2) ∧ 1 ≤ u8 a 2 ∧ u8 a 2 ≤ (if u8 a 0 = 2 then 238 else 240) ∧ a.length = 4 + u8 a 2) s.board c.args :=
  enters_up ([1, 3, 1, 0, 66]) (fun _ a => (u8 a 0 = 1 ∨ u8 a 0 = 2) ∧ 1 ≤ u8 a 2 ∧ u8 a 2 ≤ (if u8 a 0 = 2 then 238 else 240) ∧
    a.length = 4 + u8 a 2) .sec (by decide +kernel)

theorem witness_UpdateCommandsComplete_updateActivate : ∃ (c : Cmd) (s : State), s.readySealed c .sec ∧ (fun _ a => a.length =
    4) s.board c.args :=
  enters_up (zeros 4) (fun _ a => a.length = 4) .sec (by decide +kernel)

theorem witness_UpdateCommandsComplete_updateConfirm : ∃ (c : Cmd) (s : State), s.readySealed c .sec ∧ (fun _ a => a = [])
    s.board c.args :=
  enters_up ([]) (fun _ a => a = []) .sec (by decide +kernel)

theorem witness_UpdateCommandsComplete_updateRollback : ∃ (c : Cmd) (s : State), s.readySealed c .sec ∧ (fun _ a => a.length =
    4) s.board c.args :=
  enters_up (zeros 4) (fun _ a => a.length = 4) .sec (by decide +kernel)

theorem witness_UpdateCommandsComplete_updateDiscard : ∃ (c : Cmd) (s : State), s.readySealed c .mgmt ∧ (fun _ a => a = [])
    s.board c.args :=
  enters_up ([]) (fun _ a => a = []) .mgmt (by decide +kernel)

theorem witness_UpdateCommandsComplete_1 : ∃ (c : Cmd) (s : State), s.ready c .rt ∧ c.args = [] :=
  ⟨cmd [], up, by unfold State.ready; decide +kernel⟩

theorem witness_UpdateCommandsComplete_2 : ∃ (c : SealedCmd) (s : State) (a : Bytes), a = c.cmd.args ∧ s.reaches c 0x0A03 ∧
    s.store.upd = .staged :=
  ⟨sc 0x0A03 [1, 0, 0, 0], updating .staged, _, rfl, by unfold State.reaches; decide +kernel⟩

theorem witness_UpdateCommandsComplete_3 : ∃ (c : SealedCmd) (s : State) (a : Bytes), a = c.cmd.args ∧ s.reaches c 0x0A04 ∧
    s.store.upd = .trial :=
  ⟨sc 0x0A04 [], updating .trial, _, rfl, by unfold State.reaches; decide +kernel⟩

theorem witness_UpdateCommandsComplete_4 : ∃ (c : SealedCmd) (s : State) (a : Bytes), a = c.cmd.args ∧ s.reaches c 0x0A05 ∧
    s.store.upd = .trial ∧ s.nor.archive.isSome :=
  ⟨sc 0x0A05 [1, 0, 0, 0], booting .trial .trial, _, rfl, by unfold State.reaches; decide +kernel⟩

theorem witness_UpdateCommandsComplete_5 : ∃ (c : SealedCmd) (s : State) (a : Bytes), a = c.cmd.args ∧ s.reaches c 0x0A06 ∧
    s.nor.xip = false ∧ (s.store.upd = .staged ∨ s.store.upd = .armed) :=
  ⟨sc 0x0A06 [], updating .armed, _, rfl, by unfold State.reaches; decide +kernel⟩

theorem witness_UpdateCommandsComplete_6 (hr : Config.rootHash = sha384 (sub pkg 128 96)) (he : ∀ k d g, Config.ecdsaP384 k d g
    = true) (hg : ∀ k n x c t, Config.gcmOpen k n x c t = some partData) : ∃ (c : SealedCmd) (s s1 : State) (a : Bytes) (n :
    Namespace) (stream : Bytes) (keys : List KeyEnt) (k : Nat), a = c.cmd.args ∧ keys = stageKeys n (u8 a 0) (a.drop 4) ∧ k =
    s.readSlices (valueBytes keys) ∧ s.reaches c 0x0A02 ∧ s.store.upd = .idle ∧ s.store.ns (u8 a 1) = some n ∧ n.typ = .staging
    ∧ (if u8 a 0 = 1 then s.checkKey none c.adm .read n.id (a.drop 4) else s.checkAll none c.adm .read n.id (a.drop 4)) = (s1,
    .permitted) ∧ s.noRank = false ∧ (∀ e ∈ keys, s.valueLost e = false) ∧ readPackage (stageBlocks n (u8 a 0) (a.drop 4)) = .ok
    stream ∧ fullBlocks (stageBlocks n (u8 a 0) (a.drop 4)) (blocksFor (pkgTotal stream)) = true ∧ (u8 a 0 = 1 → ∀ e ∈ keys,
    e.value.length = stream.length + 16 * blocksFor (pkgTotal stream)) ∧ checkStream s.fuses (some s.store.settings.version)
    stream = .ok :=
  ⟨sc 0x0A02 [1, 3, 1, 0, 66], withPackage, _, _, { ns3 with keys := [⟨[66], pkgBlock 0 pkg, 1, 90, [], 2⟩] }, pkg, _, _, rfl,
    rfl, rfl, (by unfold State.reaches; decide +kernel), (by decide +kernel), (by decide +kernel), (by decide +kernel), rfl,
    (by decide +kernel), (by decide +kernel), (by decide +kernel), (by decide +kernel), (by decide +kernel), pkg_ok hr he hg _
    (.inr rfl)⟩

theorem witness_RecoveryDownloadCompletes_1 : ∃ (c : Cmd) (s : State), s.readyRecovery c ∧ c.args = [] ∧ (s.nor.rdl.running =
    true → s.nor.rdl.eth = false) :=
  ⟨cmd [], recovering .idle false, by unfold State.readyRecovery; decide +kernel⟩

theorem witness_RecoveryDownloadCompletes_2 : ∃ (c : Cmd) (s : State), s.readyRecovery c ∧ c.args = [] ∧ s.nor.rdl.phase =
    .receiving ∧ s.nor.rdl.eth = false :=
  ⟨cmd [], recovering .receiving false, by unfold State.readyRecovery; decide +kernel⟩

theorem witness_RecoveryDownloadCompletes_3 : ∃ (c : Cmd) (s : State), ∃ chunks, chunks = addChunk (fld c.args 4 4) (c.args.drop
    12) ((getKey (fld c.args 0 2) s.nor.rdl.assembling).getD []) ∧ s.readyRecovery c ∧ s.nor.rdl.phase = .receiving ∧
    s.nor.rdl.eth = false ∧ fld c.args 4 4 % 256 = 0 ∧ 1 ≤ fld c.args 8 2 ∧ fld c.args 8 2 ≤ 256 ∧ c.args.length = 12 + fld
    c.args 8 2 ∧ fld c.args 4 4 + fld c.args 8 2 ≤ 65536 ∧ getKey (fld c.args 0 2) s.nor.rdl.stored = none ∧ ((getKey (fld
    c.args 0 2) s.nor.rdl.assembling).isSome ∨ s.nor.rdl.assembling.length < 8) ∧ wholeBlock chunks = none :=
  ⟨cmd (chunk 0 0 ((pkgBlock 0 pkg).take 256)), recovering .receiving false, _, rfl,
    by unfold State.readyRecovery; decide +kernel⟩

theorem witness_RecoveryDownloadCompletes_4 : ∃ (c : Cmd) (s : State), ∃ chunks b, chunks = addChunk (fld c.args 4 4)
    (c.args.drop 12) ((getKey (fld c.args 0 2) s.nor.rdl.assembling).getD []) ∧ s.readyRecovery c ∧ s.nor.rdl.phase = .receiving
    ∧ s.nor.rdl.eth = false ∧ fld c.args 4 4 % 256 = 0 ∧ 1 ≤ fld c.args 8 2 ∧ fld c.args 8 2 ≤ 256 ∧ c.args.length = 12 + fld
    c.args 8 2 ∧ fld c.args 4 4 + fld c.args 8 2 ≤ 65536 ∧ getKey (fld c.args 0 2) s.nor.rdl.stored = none ∧ ((getKey (fld
    c.args 0 2) s.nor.rdl.assembling).isSome ∨ s.nor.rdl.assembling.length < 8) ∧ wholeBlock chunks = some b ∧ blockOk (fld
    c.args 0 2) s.nor.rdl.tag b = true :=
  ⟨cmd (chunk 0 512 ((pkgBlock 0 pkg).drop 512)), recoveringPart, _, pkgBlock 0 pkg, rfl,
    by unfold State.readyRecovery; decide +kernel⟩

theorem witness_RecoveryDownloadCompletes_5 : ∃ (c : Cmd) (s : State), ∃ chunks b, chunks = addChunk (fld c.args 4 4)
    (c.args.drop 12) ((getKey (fld c.args 0 2) s.nor.rdl.assembling).getD []) ∧ s.readyRecovery c ∧ s.nor.rdl.phase = .receiving
    ∧ s.nor.rdl.eth = false ∧ fld c.args 4 4 % 256 = 0 ∧ 1 ≤ fld c.args 8 2 ∧ fld c.args 8 2 ≤ 256 ∧ c.args.length = 12 + fld
    c.args 8 2 ∧ fld c.args 4 4 + fld c.args 8 2 ≤ 65536 ∧ getKey (fld c.args 0 2) s.nor.rdl.stored = none ∧ ((getKey (fld
    c.args 0 2) s.nor.rdl.assembling).isSome ∨ s.nor.rdl.assembling.length < 8) ∧ wholeBlock chunks = some b ∧ blockOk (fld
    c.args 0 2) s.nor.rdl.tag b = false :=
  ⟨cmd (chunk 0 512 ((pkgBlock 0 pkg).drop 513 ++ [1])), recoveringPart, _, (pkgBlock 0 pkg).take 512 ++ (pkgBlock 0 pkg).drop
    513 ++ [1], rfl, by unfold State.readyRecovery; decide +kernel⟩

theorem witness_RecoveryDownloadCompletes_6 : ∃ (src : Source) (p : Bytes) (s : State), ∃ r, r = parseRequest src p ∧
    s.servesRdl src p = true ∧ 1 ≤ r.session ∧ r.session ≤ 0xFFEF ∧ s.rdlStranger r = false ∧ r.body = [] ∧ (s.nor.rdl.running =
    true → s.nor.rdl.eth = true) :=
  ⟨src0, rdl 0x31 0 0 [], recovering .idle false, _, rfl, by decide +kernel⟩

theorem witness_RecoveryDownloadCompletes_7 : ∃ (src : Source) (p : Bytes) (s : State), ∃ r, r = parseRequest src p ∧
    s.servesRdl src p = true ∧ 1 ≤ r.session ∧ r.session ≤ 0xFFEF ∧ s.rdlStranger r = false ∧ r.body = [] ∧ s.nor.rdl.phase =
    .receiving ∧ s.nor.rdl.eth = true :=
  ⟨src0, rdl 0x33 0 0 [], recovering .receiving true, _, rfl, by decide +kernel⟩

theorem witness_RecoveryDownloadCompletes_8 : ∃ (src : Source) (p : Bytes) (s : State), ∃ r chunks, r = parseRequest src p ∧
    chunks = addChunk r.offset r.body ((getKey r.segment s.nor.rdl.assembling).getD []) ∧ s.servesRdl src p = true ∧ 1 ≤
    r.session ∧ r.session ≤ 0xFFEF ∧ s.rdlStranger r = false ∧ s.nor.rdl.phase = .receiving ∧ s.nor.rdl.eth = true ∧ rdlDataOk r
    = true ∧ getKey r.segment s.nor.rdl.stored = none ∧ ((getKey r.segment s.nor.rdl.assembling).isSome ∨
    s.nor.rdl.assembling.length < 8) ∧ wholeBlock chunks = none :=
  ⟨src0, rdl 0x32 0 0 ((pkgBlock 0 pkg).take 512), recovering .receiving true, _, _, rfl, rfl, by decide +kernel⟩

theorem witness_RecoveryDownloadCompletes_9 : ∃ (src : Source) (p : Bytes) (s : State), ∃ r chunks b, r = parseRequest src p ∧
    chunks = addChunk r.offset r.body ((getKey r.segment s.nor.rdl.assembling).getD []) ∧ s.servesRdl src p = true ∧ 1 ≤
    r.session ∧ r.session ≤ 0xFFEF ∧ s.rdlStranger r = false ∧ s.nor.rdl.phase = .receiving ∧ s.nor.rdl.eth = true ∧ rdlDataOk r
    = true ∧ getKey r.segment s.nor.rdl.stored = none ∧ ((getKey r.segment s.nor.rdl.assembling).isSome ∨
    s.nor.rdl.assembling.length < 8) ∧ wholeBlock chunks = some b ∧ blockOk r.segment s.nor.rdl.tag b = true :=
  ⟨src0, rdl 0x32 0 0 (pkgBlock 0 pkg), recovering .receiving true, _, _, pkgBlock 0 pkg, rfl, rfl, by decide +kernel⟩

theorem witness_UpdateStepsComplete_1 : ∃ (s : State), ∃ p, s.inService = true ∧ s.nor.xip = false ∧ s.store.package = some p ∧
    (s.store.upd = .staged ∨ s.store.upd = .armed) ∧ s.nor.pendingReady = false :=
  ⟨{ updating .staged with store := { up.store with upd := .staged, package := some ⟨1, 3, 3, 0, 1, 7, pkg⟩ } }, ⟨1, 3, 3, 0, 1,
    7, pkg⟩, by decide +kernel⟩

theorem witness_UpdateStepsComplete_2 : ∃ (s : State), s.inService = true ∧ s.nor.xip = false ∧ s.store.upd = .armed ∧
    s.nor.archiveReady = false :=
  ⟨updating .armed, by decide +kernel⟩

theorem witness_UpdateStepsComplete_3 : ∃ (s : State), s.inService = true ∧ s.nor.xip = false ∧ s.store.upd = .armed ∧
    s.durable.upd = .armed ∧ s.durable.package = s.store.package :=
  ⟨updating .armed, by decide +kernel⟩

theorem witness_UpdateStepsComplete_4 : ∃ (s : State), s.inService = true ∧ s.nor.xip = false ∧ s.store.upd = .armed ∧
    s.durable.upd ≠ .armed :=
  ⟨{ updating .armed with durable := up.durable }, by decide +kernel⟩

theorem witness_UpdateStepsComplete_5 : ∃ (s : State), s.inService = true ∧ s.nor.xip = false ∧ s.nor.pendingReady = true ∧
    s.nor.archiveReady = true ∧ s.nor.bootState = .armed ∧ s.store.upd = .armed ∧ s.store.resetWhenReady = true ∧ s.power.plan =
    none :=
  ⟨{ booting .armed .armed with store := { up.store with upd := .armed, resetWhenReady := true } }, by decide +kernel⟩

theorem witness_UpdateStepsComplete_6 : ∃ (s : State), s.inService = true ∧ s.nor.xip = false ∧ s.store.upd = .reverting ∧
    s.durable.upd = .reverting ∧ s.nor.bootState = .trial ∧ s.power.plan = none :=
  ⟨booting .reverting .trial, by decide +kernel⟩

theorem witness_UpdateStepsComplete_7 : ∃ (s : State), s.inService = true ∧ s.nor.xip = false ∧ s.durable.oldSettings = none ∧
    (s.nor.newest.map (·.content)) ≠ some s.durable.settings :=
  ⟨up, by decide +kernel⟩

theorem witness_UpdateStepsComplete_8 : ∃ (s : State), ∃ p, s.inService = true ∧ s.nor.xip = true ∧ s.store.package = some p ∧
    s.store.upd = .staged ∧ s.nor.pendingReady = false :=
  ⟨(let s := updating .staged;
    { s with nor := { s.nor with xip := true }, store := { s.store with package := some ⟨1, 3, 3, 0, 1, 7, pkg⟩ } }), ⟨1, 3, 3,
    0, 1, 7, pkg⟩, by decide +kernel⟩

theorem witness_UpdateStepsComplete_9 : ∃ (s : State), s.inService = true ∧ s.nor.xip = false ∧ s.nor.bootState ≠ .trial :=
  ⟨up, by decide +kernel⟩

theorem witness_UpdateStepsComplete_10 : ∃ (s : State), s.inService = true ∧ s.nor.xip = false ∧ s.nor.bootState = .trial ∧
    s.store.upd = .idle ∧ s.durable.upd = .idle :=
  ⟨booting .idle .trial, by decide +kernel⟩

theorem witness_UpdateStepsComplete_11 : ∃ (s : State), ∃ oem lock hash key, s.inService = true ∧ s.nor.xip = false ∧
    s.durable.provision = some (oem, lock, hash, key) ∧ s.fuses.provisioned = false :=
  ⟨{ up with durable := { up.durable with provision := some (true, true, zeros 48, zeros 32) } }, true, true, zeros 48, zeros
    32, by decide +kernel⟩

theorem witness_UpdateStepsComplete_12 (hr : Config.rootHash = sha384 (sub pkg 128 96)) (he : ∀ k d g, Config.ecdsaP384 k d g =
    true) (hg : ∀ k n x c t, Config.gcmOpen k n x c t = some partData) : ∃ (s : State) (stream : Bytes), s.power.inReset = false
    ∧ s.power.mode = .startup ∧ s.power.held = false ∧ s.nor.installing = true ∧ s.nor.pending = some stream ∧ checkStream
    s.fuses (some s.store.settings.version) stream = .ok :=
  ⟨installing, pkg, (by decide +kernel), (by decide +kernel), (by decide +kernel), (by decide +kernel), (by decide +kernel),
    pkg_ok hr he hg _ (.inr rfl)⟩

theorem witness_UpdateStepsComplete_13 (hr : Config.rootHash = sha384 (sub pkg 128 96)) (he : ∀ k d g, Config.ecdsaP384 k d g =
    true) (hg : ∀ k n x c t, Config.gcmOpen k n x c t = some partData) : ∃ (s : State) (stream : Bytes), s.power.inReset = false
    ∧ s.power.mode = .recovery ∧ s.nor.rdl.phase = .verifying ∧ (s.nor.rdl.stored.map (·.1)) = List.range
    s.nor.rdl.stored.length ∧ s.nor.rdl.stream = stream ∧ (fullBlocks (fun k => (getKey k s.nor.rdl.stored).map (zeros 16 ++ ·))
    s.nor.rdl.stored.length = true) ∧ checkStream s.fuses (s.nor.newest.map (·.version)) stream = .ok :=
  ⟨verifying [(0, pkg)], pkg, (by decide +kernel), (by decide +kernel), (by decide +kernel), (by decide +kernel),
    (by decide +kernel), (by decide +kernel), pkg_ok hr he hg _ (.inl rfl)⟩

theorem witness_UpdateStepsComplete_14 : ∃ (s : State) (stream : Bytes), ∃ st, s.power.inReset = false ∧ s.power.mode =
    .recovery ∧ s.nor.rdl.phase = .verifying ∧ (s.nor.rdl.stored.map (·.1)) = List.range s.nor.rdl.stored.length ∧
    s.nor.rdl.stream = stream ∧ (fullBlocks (fun k => (getKey k s.nor.rdl.stored).map (zeros 16 ++ ·)) s.nor.rdl.stored.length =
    true) ∧ checkStream s.fuses (s.nor.newest.map (·.version)) stream = st ∧ st ≠ .ok :=
  ⟨verifying [(0, [])], [], .range, by decide +kernel⟩

theorem witness_CodaComplete_codaSetTriggers : ∃ (c : Cmd) (s : State), s.readySealed c .mgmt ∧ (fun _ a => a.length = 4)
    s.board c.args :=
  enters_up (be 4 0xFFFFFFFF) (fun _ a => a.length = 4) .mgmt (by decide +kernel)

theorem witness_CodaComplete_1 : ∃ (c : Cmd) (s : State), ∃ kind es first dropped, s.ready c .rt ∧ c.args.length = 8 ∧ u8 c.args
    0 ≤ 17 ∧ 1 ≤ u8 c.args 4 ∧ u8 c.args 4 ≤ 7 ∧ s.codaSource (u8 c.args 0) = some (kind, es, first, dropped) ∧ fld c.args 2 2 <
    es.length ∧ (u8 c.args 0 = 0 ∨ fld c.args 2 2 ≠ 0xFFFF) :=
  ⟨cmd [0, 0, 0, 1, 7, 0, 0, 0], coda false .live none, 0, [entry 1, entry 2], 1, 0, by unfold State.ready; decide +kernel⟩

theorem witness_CodaComplete_2 : ∃ (c : Cmd) (s : State), ∃ kind es first dropped r, s.ready c .rt ∧ c.args.length = 8 ∧ u8
    c.args 0 ≤ 17 ∧ 1 ≤ u8 c.args 4 ∧ u8 c.args 4 ≤ 7 ∧ s.codaSource (u8 c.args 0) = some (kind, es, first, dropped) ∧
    s.coda.slot (u8 c.args 0) = some r ∧ u8 c.args 0 ≠ 0 ∧ fld c.args 2 2 = 0xFFFF :=
  ⟨cmd [13, 0, 0xFF, 0xFF, 7, 0, 0, 0], coda true .live none, 1, [entry 1, entry 2], 1, 0, record false,
    by unfold State.ready; decide +kernel⟩

theorem witness_CodaComplete_3 : ∃ (c : Cmd) (s : State), s.ready c .rt ∧ c.args = [] :=
  ⟨cmd [], coda true .live none, by unfold State.ready; decide +kernel⟩

theorem witness_CodaComplete_4 : ∃ (c : Cmd) (s : State), s.ready c .mgmt ∧ c.args.length = 4 ∧ (s.coda.state = .live ∨
    s.coda.state = .collecting ∧ s.coda.post < 255) :=
  ⟨cmd [0, 0, 0, 77], { up with coda := { up.coda with state := .collecting, post := 254 } },
    by unfold State.ready; decide +kernel⟩

theorem witness_CodaComplete_5 : ∃ (c : SealedCmd) (s t : State), t = s.atPlace c ∧ s.reaches c 0x0B04 :=
  ⟨sc 0x0B04 (be 4 0xFFFFFFFF), up, _, rfl, by unfold State.reaches; decide +kernel⟩

theorem witness_CodaComplete_6 : ∃ n q r rest x, takeReport n q = some (r, rest) ∧ x ∈ q.take (n + 1) :=
  ⟨1, [⟨0x0101, 5, false, [1], none⟩, ⟨0x0102, 2, false, [2], none⟩], ⟨0x0102, 2, false, [2], none⟩, [⟨0x0101, 5, false, [1],
    none⟩], ⟨0x0101, 5, false, [1], none⟩, by decide +kernel⟩

theorem witness_CodaComplete_7 : ∃ (s : State), ∃ r rest, takeReport s.sameCycle s.coda.queue = some (r, rest) ∧ s.coda.state =
    .live ∧ (∀ b, r.trigger = some b → s.triggerOn b = false) :=
  ⟨coda true .live none, ⟨0x0101, 1, false, [1], none⟩, [], takeReport_one _ _, (by decide +kernel), (by decide +kernel)⟩

theorem witness_CodaComplete_8 : ∃ (s : State), ∃ r rest b, takeReport s.sameCycle s.coda.queue = some (r, rest) ∧ s.coda.state
    = .live ∧ r.trigger = some b ∧ s.triggerOn b = true :=
  ⟨coda true .live (some 0), ⟨0x0101, 1, false, [1], some 0⟩, [], 0, takeReport_one _ _, (by decide +kernel),
    (by decide +kernel), (by decide +kernel)⟩

theorem witness_CodaComplete_9 : ∃ (s : State), ∃ r rest, takeReport s.sameCycle s.coda.queue = some (r, rest) ∧ s.coda.state =
    .held ∧ s.canCopy = false :=
  ⟨{ coda true .held none with power := { up.power with mode := .custody } }, ⟨0x0101, 1, false, [1], none⟩, [], takeReport_one
    _ _, (by decide +kernel), (by decide +kernel)⟩

theorem witness_CodaComplete_10 : ∃ (s : State), s.coda.state = .collecting :=
  ⟨{ up with coda := { up.coda with state := .collecting } }, by decide +kernel⟩

theorem witness_CodaComplete_11 : ∃ (s : State), s.coda.state = .held ∧ s.canCopy = true ∧ s.coda.pendingFreeze = none ∧
    s.coda.holdDrops = none :=
  ⟨coda true .held none, by decide +kernel⟩

theorem witness_CodaComplete_12 : ∃ (s : State), ∃ r rest i, s.power.mode = .service ∧ s.coda.unflushed = r :: rest ∧
    s.coda.slotFor = some i :=
  ⟨coda true .live none, record false, [], 13, by decide +kernel⟩

theorem witness_CodaKeepHoldsTwelve_codaKeep : ∃ (c : Cmd) (s : State), s.readySealed c .mgmt ∧ (fun _ a => a.length = 4 ∧ 1 ≤
    u8 a 0 ∧ u8 a 0 ≤ 16 ∧ u8 a 1 ≤ 1) s.board c.args :=
  enters_up ([13, 1, 0, 0]) (fun _ a => a.length = 4 ∧ 1 ≤ u8 a 0 ∧ u8 a 0 ≤ 16 ∧ u8 a 1 ≤ 1) .mgmt (by decide +kernel)

theorem witness_CodaKeepHoldsTwelve_1 : ∃ (r : VaultRecord) (c : SealedCmd) (s t : State) (a : Bytes), ∃ k, a = c.cmd.args ∧ t =
    s.atPlace c ∧ s.reaches c 0x0B05 ∧ 1 ≤ u8 a 0 ∧ u8 a 0 ≤ 16 ∧ s.coda.slot (u8 a 0) = some r ∧ (u8 a 1 = 0 ∨ r.kept = true ∨
    s.coda.keptCount < 12) ∧ 1 ≤ k ∧ k ≠ u8 a 0 :=
  ⟨record false, sc 0x0B05 [13, 1, 0, 0], coda false .live none, _, _, 12, rfl, rfl, by unfold State.reaches; decide +kernel⟩

theorem witness_CodaKeepHoldsTwelve_2 : ∃ (r : VaultRecord) (c : SealedCmd) (s t : State) (a : Bytes), a = c.cmd.args ∧ t =
    s.atPlace c ∧ s.reaches c 0x0B05 ∧ 1 ≤ u8 a 0 ∧ u8 a 0 ≤ 16 ∧ s.coda.slot (u8 a 0) = some r ∧ (u8 a 1 = 0 ∨ r.kept = true ∨
    s.coda.keptCount < 12) ∧ s.coda.keptCount ≤ 12 :=
  ⟨record false, sc 0x0B05 [13, 1, 0, 0], coda false .live none, _, _, rfl, rfl, by unfold State.reaches; decide +kernel⟩

theorem witness_CodaKeepHoldsTwelve_3 : ∃ (r : VaultRecord) (c : SealedCmd) (s t : State) (a : Bytes), a = c.cmd.args ∧ t =
    s.atPlace c ∧ s.reaches c 0x0B05 ∧ 1 ≤ u8 a 0 ∧ u8 a 0 ≤ 16 ∧ s.coda.slot (u8 a 0) = some r ∧ u8 a 1 = 1 ∧ r.kept = false ∧
    12 ≤ s.coda.keptCount :=
  ⟨record false, sc 0x0B05 [13, 1, 0, 0], coda true .live none, _, _, rfl, rfl, by unfold State.reaches; decide +kernel⟩

theorem witness_SecurityCommandsComplete_securitySetMailboxOwner : ∃ (c : Cmd) (s : State), s.readySealed c .sec ∧ (fun _ a =>
    a.length = 4 ∧ 1 ≤ u8 a 0 ∧ u8 a 0 ≤ 7 ∧ u8 a 1 ≤ 2) s.board c.args :=
  enters_up ([7, 2, 0, 0]) (fun _ a => a.length = 4 ∧ 1 ≤ u8 a 0 ∧ u8 a 0 ≤ 7 ∧ u8 a 1 ≤ 2) .sec (by decide +kernel)

theorem witness_SecurityCommandsComplete_securityProvision : ∃ (c : Cmd) (s : State), s.readySealed c .sec ∧ (fun _ a =>
    a.length = 112) s.board c.args :=
  enters_up (be 1 2 ++ zeros 111) (fun _ a => a.length = 112) .sec (by decide +kernel)

theorem witness_SecurityCommandsComplete_1 : ∃ (c : Cmd) (s : State), s.ready c .sec ∧ c.args = [] :=
  ⟨cmd [], up, by unfold State.ready; decide +kernel⟩

theorem witness_SecurityCommandsComplete_2 : ∃ (c : Cmd) (s : State), ∃ k, s.ready c .rt ∧ c.args = [] ∧ s.store.ledgerKey =
    some k :=
  ⟨cmd [], full, 0, by unfold State.ready; decide +kernel⟩

theorem witness_SecurityCommandsComplete_3 : ∃ (c : SealedCmd) (s t : State) (a : Bytes) (m : Fin 8) (o : Owner), a = c.cmd.args
    ∧ t = s.atPlace c ∧ s.reaches c 0x0C03 ∧ u8 a 0 = m ∧ m ≠ 0 ∧ Owner.ofNum (u8 a 1) = some o :=
  ⟨sc 0x0C03 [7, 2, 0, 0], up, _, _, 7, _, rfl, rfl, (by unfold State.reaches; decide +kernel), (by decide +kernel),
    (by decide +kernel), rfl⟩

theorem witness_SecurityCommandsComplete_4 : ∃ (c : SealedCmd) (s t : State) (a : Bytes), a = c.cmd.args ∧ t = s.atPlace c ∧
    s.reaches c 0x0C05 ∧ s.fuses.provisioned = false ∧ s.store.provision = none ∧ (bit (u8 a 0) 0 = true → (Config.gcmOpen
    Config.fleetKey (sub a 52 12) [] (sub a 64 32) (sub a 96 16)).isSome) :=
  ⟨sc 0x0C05 (be 1 2 ++ zeros 111), up, _, _, rfl, rfl, by unfold State.reaches; decide +kernel⟩

theorem witness_DebugPortCompletes_1 : ∃ (s : State), s.fuses.debugLocked = false ∧ s.power.inReset = false ∧ s.power.mode ≠
    .custody :=
  ⟨up, by decide +kernel⟩

theorem witness_DebugPortCompletes_2 : ∃ (s : State), s.fuses.debugLocked = true :=
  ⟨{ up with fuses := { up.fuses with debugLocked := true } }, by decide +kernel⟩

theorem witness_DebugPortCompletes_3 : ∃ (s : State), s.ballReset = true :=
  ⟨State.reset, by decide +kernel⟩

theorem witness_DebugPortCompletes_4 : ∃ (s : State), s.ballReset = false :=
  ⟨up, by decide +kernel⟩

end Sys2Proof.Tests
end

section
namespace Sys2Proof.Laws
open Sys2Proof Sys2Proof.Machine

/-! # What the model's functions keep of the measures

The numbers of measures, the sealed lists, the staging banks and the durable store change in a few functions of the model: the ones
that open and close measures, run lists, program banks and reset the block. Every other function keeps them. `steady` is what they
keep, with one lemma per function of the model, in the model's order. -/

/-- The numbers of measures, the sealed lists that wait, the staging banks and the durable store. -/
def steady (s : State) : Nat × Nat × Bool × Nat × List (Nat × Bytes) × List SealedList × Nat × List Snap × Store :=
  (s.tb.measure, s.tb.highest, s.tb.opened, s.tb.persisted, s.tb.sealLog, s.seq.sealed, s.seq.overrunBy, s.snaps, s.durable)

theorem foldl_keeps {α β γ : Type} {p : β → γ} {f : β → α → β} (h : ∀ t a, p (f t a) = p t) (l : List α) (s : β) :
    p (l.foldl f s) = p s := by
  induction l generalizing s with
  | nil => rfl
  | cons a l ih => rw [List.foldl_cons, ih, h]

@[simp] theorem foldl_steady {α : Type} {f : State → α → State} (h : ∀ t a, steady (f t a) = steady t) (l : List α) (s : State) :
    steady (l.foldl f s) = steady s := foldl_keeps h l s
@[simp] theorem ite_steady {c : Prop} [Decidable c] {a b : State} : steady (if c then a else b) = if c then steady a else steady b :=
  apply_ite ..
@[simp] theorem modTb_steady (s : State) (f) (h : ∀ t, ((f t).measure, (f t).highest, (f t).opened, (f t).persisted, (f t).sealLog) =
    (t.measure, t.highest, t.opened, t.persisted, t.sealLog)) : steady (s.modTb f) = steady s := by
  have := h s.tb
  simp only [Prod.mk.injEq] at this
  simp [steady, this]
@[simp] theorem modSeq_steady (s : State) (f) (h : ∀ t, ((f t).sealed, (f t).overrunBy) = (t.sealed, t.overrunBy)) :
    steady (s.modSeq f) = steady s := by
  have := h s.seq
  simp only [Prod.mk.injEq] at this
  simp [steady, this]
@[simp] theorem withStore_steady (s : State) (t : Store) : steady { s with store := t } = steady s := by rfl
theorem fst_steady {α : Type} {s t : State} {p : State × α} {v : α} (h : p = (t, v))
    (hp : steady p.1 = steady s) : steady t = steady s := by
  rw [h] at hp; exact hp
@[simp] theorem refuse_fst (s : State) (e : Status) : (refuse s e).1 = s := by rfl
@[simp] theorem okay_fst (s : State) (b : Bytes) : (okay s b).1 = s := by rfl
@[simp] theorem no_fst (s : State) (e : Status) : (no s e).1 = s := by rfl
@[simp] theorem ite_fst_steady {α : Type} {c : Prop} [Decidable c] {a b : State × α} :
    steady (if c then a else b).1 = if c then steady a.1 else steady b.1 := by split <;> rfl
@[simp] theorem withFresh_steady (s : State) (n : Nat) : steady { s with fresh := n } = steady s := by rfl

/-! ## One lemma per function -/

@[simp] theorem modStore_steady (s : State) (f : Store → Store) : steady (s.modStore f) = steady s := by rfl
@[simp] theorem modSettings_steady (s : State) (f : Settings → Settings) : steady (s.modSettings f) = steady s := by rfl
@[simp] theorem modPower_steady (s : State) (f : Power → Power) : steady (s.modPower f) = steady s := by rfl
@[simp] theorem modCoda_steady (s : State) (f : Coda → Coda) : steady (s.modCoda f) = steady s := by rfl
@[simp] theorem modFlash_steady (s : State) (f : Flash → Flash) : steady (s.modFlash f) = steady s := by rfl
@[simp] theorem modLks_steady (s : State) (f : LksArray → LksArray) : steady (s.modLks f) = steady s := by rfl
@[simp] theorem modFabric_steady (s : State) (f : Fabric → Fabric) : steady (s.modFabric f) = steady s := by rfl
@[simp] theorem modChorus_steady (s : State) (f : ChorusRun → ChorusRun) : steady (s.modChorus f) = steady s := by rfl
@[simp] theorem modNor_steady (s : State) (f : Nor → Nor) : steady (s.modNor f) = steady s := by rfl
@[simp] theorem modCluster_steady (s : State) (f : Cluster → Cluster) : steady (s.modCluster f) = steady s := by rfl
@[simp] theorem modSpi_steady (s : State) (f : Spi → Spi) : steady (s.modSpi f) = steady s := by rfl
@[simp] theorem modPort_steady (s : State) (p : Fin 2) (f : Port → Port) : steady (s.modPort p f) = steady s := by rfl
@[simp] theorem modNet_steady (s : State) (p : Fin 2) (f : PortNet → PortNet) : steady (s.modNet p f) = steady s := by rfl
@[simp] theorem modMbx_steady (s : State) (m : Fin 8) (f : Mailbox → Mailbox) : steady (s.modMbx m f) = steady s := by rfl
@[simp] theorem modChan_steady (s : State) (c : Fin 32) (f : Chan → Chan) : steady (s.modChan c f) = steady s := by rfl
@[simp] theorem count_steady (s : State) (p : Fin 2) (c : Ctr) (n : Nat) : steady (s.count p c n) = steady s := by rfl
@[simp] theorem draw_steady (s : State) (bits : Nat) : steady (s.draw bits).2 = steady s := by rfl
@[simp] theorem drawn_steady (s : State) : steady (s.drawn) = steady s := by rfl
@[simp] theorem drawnBy_steady (s : State) (n : Nat) : steady (s.drawnBy n) = steady s := by rfl
@[simp] theorem drawSealed_steady (s : State) (bits : Nat) : steady (s.drawSealed bits).2 = steady s := by rfl
@[simp] theorem report_steady (s : State) (code : Nat) (source : Nat) (payload : Bytes) (trigger : Option Nat) (secure : Bool) :
    steady (s.report code source payload trigger secure) = steady s := by
  rfl
@[simp] theorem inject_steady (s : State) (c : Fin 32) : steady (s.inject c) = steady s := by rfl
@[simp] theorem injectAll_steady (s : State) (cs : List (Fin 32)) : steady (s.injectAll cs) = steady s := by simp [State.injectAll]
@[simp] theorem pulseAll_steady (s : State) (ps : List Nat) : steady (s.pulseAll ps) = steady s := by simp [State.pulseAll]
@[simp] theorem pulse_steady (s : State) (p : Nat) : steady (s.pulse p) = steady s := by simp [State.pulse]
@[simp] theorem modUnit_steady (s : State) (id : Nat) (f : HwUnit → HwUnit) : steady (s.modUnit id f) = steady s := by rfl
@[simp] theorem noteViews_steady (s : State) (id : Nat) (age : Nat) : steady (s.noteViews id age) = steady s := by
  unfold State.noteViews
  split <;> simp
@[simp] theorem viewsMoved_steady (s : State) (id : Nat) (age : Nat) : steady (s.viewsMoved id age) = steady s := by
  simp [State.viewsMoved]
@[simp] theorem lowerData_steady (s : State) (id : Nat) (v : UnitState) : steady (s.lowerData id v) = steady s := by
  unfold State.lowerData
  split <;> simp
@[simp] theorem raiseData_steady (s : State) (id : Nat) (v : UnitState) : steady (s.raiseData id v) = steady s := by
  unfold State.raiseData
  split <;> simp
@[simp] theorem degrade_steady (s : State) (id : Nat) : steady (s.degrade id) = steady s := by simp [State.degrade]
@[simp] theorem extrapolate_steady (s : State) : steady (s.extrapolate) = steady s := by simp [State.extrapolate]
@[simp] theorem writeEntry_steady (s : State) (code : Nat) (source : Nat) (secure : Bool) (trigger : Bool) (post : Bool)
    (payload : Bytes) :
    steady (s.writeEntry code source secure trigger post payload) = steady s := by
  simp [State.writeEntry]
@[simp] theorem trigger_steady (s : State) (b : Nat) (code : Nat) (seq : Nat) (note : Nat) :
    steady (s.trigger b code seq note) = steady s := by
  unfold State.trigger
  split <;> simp
@[simp] theorem endHold_steady (s : State) : steady (s.endHold) = steady s := by
  simp only [State.endHold]
  split <;> split <;> simp
@[simp] theorem copyRecord_steady (s : State) : steady (s.copyRecord) = steady s := by simp [State.copyRecord]
@[simp] theorem flushVault_steady (s : State) : steady (s.flushVault) = steady s := by
  unfold State.flushVault
  split <;> rfl
@[simp] theorem codaStop_steady (s : State) : steady (s.codaStop) = steady s := by
  simp only [State.codaStop]
  split <;> rfl
@[simp] theorem codaCustody_steady (s : State) : steady (s.codaCustody) = steady s := by simp [State.codaCustody]
@[simp] theorem enqueue_steady (s : State) (p : Fin 2) (f : TxFrame) : steady (s.enqueue p f) = steady s := by rfl
@[simp] theorem sendUrgent_steady (s : State) (p : Fin 2) (f : TxFrame) : steady (s.sendUrgent p f) = steady s := by rfl
@[simp] theorem sendTo_steady (s : State) (src : Source) (data : Bool) (session : Option Nat) (notify : Option Nat) (payload : Bytes) :
    steady (s.sendTo src data session notify payload) = steady s := by
  rfl
@[simp] theorem sendPause_steady (s : State) (p : Fin 2) (quanta : Nat) : steady (s.sendPause p quanta) = steady s := by rfl
@[simp] theorem flowCheck_steady (s old : State) (p : Fin 2) : steady (s.flowCheck old p) = steady s := by simp [State.flowCheck]
@[simp] theorem sendPtp_steady (s : State) (p : Fin 2) (payload : Bytes) : steady (s.sendPtp p payload) = steady s := by rfl
@[simp] theorem queueHeartbeat_steady (s : State) (p : Fin 2) (mode : Nat) (departure : Bool) :
    steady (s.queueHeartbeat p mode departure) = steady s := by
  simp [State.queueHeartbeat]
@[simp] theorem queueHeartbeats_steady (s : State) (mode : Nat) (departure : Bool) :
    steady (s.queueHeartbeats mode departure) = steady s := by
  simp [State.queueHeartbeats]
@[simp] theorem releaseSession_steady (s : State) (session : Nat) : steady (s.releaseSession session) = steady s := by
  simp [State.releaseSession]
@[simp] theorem releaseSpill_steady (s : State) : steady (s.releaseSpill) = steady s := by simp [State.releaseSpill]
@[simp] theorem noteHoldup_steady (s : State) : steady (s.noteHoldup) = steady s := by simp [State.noteHoldup]
@[simp] theorem modSession_steady (s : State) (id : Nat) (f : Session → Session) : steady (s.modSession id f) = steady s := by rfl
@[simp] theorem modReplay_steady (s : State) (id : Nat) (seq : Nat) (f : Replay → Replay) :
    steady (s.modReplay id seq f) = steady s := by
  rfl
@[simp] theorem completeMailbox_steady (s : State) (m : Fin 8) (opcode : Nat) (sequence : Nat) (status : Status) (measure : Nat)
    (result : Bytes) :
    steady (s.completeMailbox m opcode sequence status measure result) = steady s := by
  unfold State.completeMailbox
  split <;> simp
@[simp] theorem sendPieces_steady (s : State) (r : Reply) (more : Bool) (k : Nat) (l : List (Nat × Nat × Bytes × Bytes)) :
    steady (s.sendPieces r more k l) = steady s := by
  induction l generalizing s k with
  | nil => rfl
  | cons pc l ih => simp [State.sendPieces, ih]
@[simp] theorem replyDone_steady (s : State) (r : Reply) : steady (s.replyDone r) = steady s := by simp [State.replyDone]
@[simp] theorem placeReply_steady (s : State) (r : Reply) : steady (s.placeReply r) = steady s := by
  unfold State.placeReply
  split <;> simp
@[simp] theorem dropReplies_steady (s : State) (p : Reply → Bool) : steady (s.dropReplies p) = steady s := by simp [State.dropReplies]
@[simp] theorem placeDue_steady (s : State) : steady (s.placeDue) = steady s := by simp [State.placeDue]
@[simp] theorem schedule_steady (s : State) (r : Reply) : steady (s.schedule r) = steady s := by simp [State.schedule]
@[simp] theorem hold_steady (s : State) (ts : List Touch) (f : Nat) : steady (s.hold ts f) = steady s := by rfl
@[simp] theorem refuse_steady (s : State) (st : Status) : steady (refuse s st).1 = steady s := by rfl
@[simp] theorem okay_steady (s : State) (result : Bytes) : steady (okay s result).1 = steady s := by rfl
@[simp] theorem redeliver_steady (s : State) (m : Fin 8) : steady (s.redeliver m) = steady s := by
  simp only [State.redeliver]
  split <;> simp
@[simp] theorem scheduleBehind_steady (s : State) (ts : List Touch) (r : Reply) : steady (s.scheduleBehind ts r) = steady s := by
  unfold State.scheduleBehind
  split <;> simp
@[simp] theorem admitCmd_steady (s : State) (c : SealedCmd) : steady (s.admitCmd c).1 = steady s := by rfl
@[simp] theorem answerCmd_steady (s : State) (c : Cmd) (opcode : Nat) (st : Status) (result : Bytes) :
    steady (s.answerCmd c opcode st result) = steady s := by
  simp [State.answerCmd]
@[simp] theorem portRefuses_steady (s : State) (bits : Nat) : steady (s.portRefuses bits) = steady s := by rfl
@[simp] theorem windowRefuses_steady (s : State) : steady (s.windowRefuses) = steady s := by rfl
@[simp] theorem enterCustody_steady (c : SealedCmd) (s : State) : steady (enterCustody c s).1 = steady s := by simp [enterCustody]
@[simp] theorem deviceReset_steady (c : SealedCmd) (s : State) : steady (deviceReset c s).1 = steady s := by simp [deviceReset]
@[simp] theorem setLength_steady (c : SealedCmd) (s : State) : steady (setLength c s).1 = steady s := by simp [setLength]
@[simp] theorem sealLog_steady (c : SealedCmd) (s : State) : steady (sealLog c s).1 = steady s := by
  unfold sealLog
  split <;> simp
@[simp] theorem setState_steady (c : SealedCmd) (s : State) : steady (setState c s).1 = steady s := by
  simp only [setState]
  split <;> simp
@[simp] theorem fenceOwn_steady (s : State) (rule : Nat) : steady (s.fenceOwn rule) = steady s := by
  unfold State.fenceOwn
  split <;> simp
@[simp] theorem setTb_steady (s : State) (v : TbState) : steady (s.setTb v) = steady s := by simp [State.setTb]
@[simp] theorem rxAdmit_steady (s : State) (p : Fin 2) : steady (s.rxAdmit p) = steady s := by
  simp only [State.rxAdmit]
  split <;> simp
@[simp] theorem rxFree_steady (s : State) (p : Fin 2) (bytes : Nat) : steady (s.rxFree p bytes) = steady s := by rfl
@[simp] theorem pauseRx_steady (s : State) (p : Fin 2) (quanta : Nat) :
    steady (s.pauseRx p quanta) = steady s := by simp [State.pauseRx]
@[simp] theorem started_steady (s : State) (p : Fin 2) (f : TxFrame) : steady (s.started p f) = steady s := by
  simp only [State.started]
  split <;> simp
  all_goals split <;> simp
@[simp] theorem linkChanged_steady (s : State) (p : Fin 2) (up : Bool) (rate : Nat) : steady (s.linkChanged p up rate) = steady s := by
  simp [State.linkChanged]
@[simp] theorem dropLink_steady (s : State) (p : Fin 2) : steady (s.dropLink p) = steady s := by simp [State.dropLink]
@[simp] theorem phySilent_steady (s : State) (p : Fin 2) : steady (s.phySilent p) = steady s := by simp [State.phySilent]
@[simp] theorem arpRx_steady (s : State) (p : Fin 2) (vid : Nat) (target : Nat) (senderIp : Nat) (senderMac : Nat) :
    steady (s.arpRx p vid target senderIp senderMac) = steady s := by
  simp [State.arpRx]
@[simp] theorem nsRx_steady (s : State) (p : Fin 2) (vid : Nat) (target : Nat) (source : Nat) :
    steady (s.nsRx p vid target source) = steady s := by
  simp [State.nsRx]
@[simp] theorem echoRx_steady (s : State) (p : Fin 2) (vid : Nat) (k : Packet) : steady (s.echoRx p vid k) = steady s := by
  unfold State.echoRx
  split <;> simp
@[simp] theorem syncRx_steady (s : State) (p : Fin 2) (logInterval : Int) (time : Nat) : steady
    (s.syncRx p logInterval time) = steady s := by
  simp [State.syncRx]
@[simp] theorem pdelayReqRx_steady (s : State) (p : Fin 2) (seq : Nat) (t2 : Nat) : steady (s.pdelayReqRx p seq t2) = steady s := by
  simp [State.pdelayReqRx]
@[simp] theorem pdelayRespRx_steady (s : State) (p : Fin 2) (seq : Nat) (t2 : Nat) (t3 : Nat) (t4 : Nat) :
    steady (s.pdelayRespRx p seq t2 t3 t4) = steady s := by
  unfold State.pdelayRespRx
  split <;> simp
@[simp] theorem setTables_steady (s : State) (t : Tables) : steady (s.setTables t) = steady s := by rfl
@[simp] theorem startRebuild_steady (s : State) (k : Nat) : steady (s.startRebuild k) = steady s := by simp [State.startRebuild]
@[simp] theorem readShadow_steady (s : State) (pos : Nat) : steady (s.readShadow pos) = steady s := by
  unfold State.readShadow
  split <;> simp
@[simp] theorem repairUnit_steady (s : State) (pos : Nat) : steady (s.repairUnit pos) = steady s := by simp [State.repairUnit]
@[simp] theorem compareUnit_steady (s : State) (pos : Nat) : steady (s.compareUnit pos) = steady s := by simp [State.compareUnit]
@[simp] theorem mirrorPair_steady (tb : Table) (reach : List Entry → List (Nat × Bool)) (k n : Nat) (s : State) :
    steady (State.mirrorPair tb reach k n s) = steady s := by
  induction n generalizing s with
  | zero => rfl
  | succ n ih => simp [State.mirrorPair, ih]
@[simp] theorem mirrorCheck_steady (s : State) (tb : Table) (reach : List Entry → List (Nat × Bool)) :
    steady (s.mirrorCheck tb reach) = steady s := by
  simp [State.mirrorCheck]
@[simp] theorem searched_steady (s : State) (tb : Table) : steady (s.searched tb) = steady s := by rfl
@[simp] theorem consult_steady (s : State) (tb : Table) (word : Nat) : steady (s.consult tb word) = steady s := by simp [State.consult]
@[simp] theorem consultCover_steady (s : State) (value : Nat) (care : Nat) : steady (s.consultCover value care) = steady s := by
  simp [State.consultCover]
@[simp] theorem consultAcl_steady (s : State) (src : Option Source) (m : Nat) (c : OpClass) (ns : Nat) (key : Bytes) (cover : Bool) :
    steady (s.consultAcl src m c ns key cover) = steady s := by
  simp only [State.consultAcl]
  split
  · rfl
  · cases src <;> split <;> simp
@[simp] theorem checkKey_steady (s : State) (src : Option Source) (m : Nat) (c : OpClass) (ns : Nat) (key : Bytes) :
    steady (s.checkKey src m c ns key).1 = steady s := by
  simp [State.checkKey]
@[simp] theorem checkAll_steady (s : State) (src : Option Source) (m : Nat) (c : OpClass) (ns : Nat) (pre : Bytes) :
    steady (s.checkAll src m c ns pre).1 = steady s := by
  simp [State.checkAll]
@[simp] theorem consultRun_steady (p : Pattern) (n state : Nat) (rest : Bytes) (s : State) :
    steady (State.consultRun p n state rest s) = steady s := by
  induction n generalizing state rest s with
  | zero => rfl
  | succ n ih =>
    simp only [State.consultRun]
    split <;> simp [ih]
@[simp] theorem ranOn_steady (s : State) (slot : Nat) (key : Bytes) : steady (s.ranOn slot key) = steady s := by
  unfold State.ranOn
  split <;> simp
@[simp] theorem endWatch_steady (s : State) (w : Watch) (reason : Nat) (m : Nat) : steady (s.endWatch w reason m) = steady s := by
  simp [State.endWatch]
@[simp] theorem tell_steady (s : State) (ns : Nat) (key : Bytes) (kind : Nat) (version : Nat) (len : Nat) (m : Nat) (w : Watch) :
    steady (s.tell ns key kind version len m w) = steady s := by
  simp [State.tell]
@[simp] theorem observe_steady (s : State) (ns : Nat) (key : Bytes) (kind : Nat) (version : Nat) (len : Nat) (m : Nat) :
    steady (s.observe ns key kind version len m) = steady s := by
  simp [State.observe]
@[simp] theorem hostWrote_steady (s : State) (n : Nat) : steady (s.hostWrote n) = steady s := by rfl
@[simp] theorem putValue_steady (s : State) (n : Namespace) (key : Bytes) (value : Bytes) (m : Nat) :
    steady (s.putValue n key value m).2 = steady s := by
  simp [State.putValue]
@[simp] theorem dropValue_steady (s : State) (n : Namespace) (e : KeyEnt) (m : Nat) : steady (s.dropValue n e m) = steady s := by
  simp [State.dropValue]
@[simp] theorem removeNs_steady (s : State) (id : Nat) (m : Nat) : steady (s.removeNs id m) = steady s := by simp [State.removeNs]
@[simp] theorem modLun_steady (s : State) (id : Nat) (f : Lun → Lun) : steady (s.modLun id f) = steady s := by rfl
@[simp] theorem modSb_steady (s : State) (group : Nat) (num : Nat) (g : Superblock → Superblock) :
    steady (s.modSb group num g) = steady s := by
  rfl
@[simp] theorem submit_steady (s : State) (lun : Nat) (o : NandOp) : steady (s.submit lun o) = steady s := by simp [State.submit]
@[simp] theorem drainNand_steady (s : State) : steady (s.drainNand) = steady s := by simp [State.drainNand]
@[simp] theorem readWord_steady (s : State) (kind : NandKind) (b : Superblock) (w : Codeword) (own : Bool) :
    steady (s.readWord kind b w own) = steady s := by
  unfold State.readWord
  split <;> simp
@[simp] theorem readExtent_steady (s : State) (extent : Nat) (lo : Nat) (hi : Nat) (sliced : Option Nat) :
    steady (s.readExtent extent lo hi sliced).2 = steady s := by
  simp [State.readExtent]
@[simp] theorem onNs_steady (c : SealedCmd) (s : State) (local_ : Bool) (need : Option NsType) (f : Namespace → Res)
    (h : ∀ n, steady (f n).1 = steady s) : steady (onNs c s local_ need f).1 = steady s := by
  unfold onNs
  split
  · exact h _
  · simp
@[simp] theorem nsCreate_steady (c : SealedCmd) (s : State) : steady (nsCreate c s).1 = steady s := by simp [nsCreate]
@[simp] theorem nsDelete_steady (n : Namespace) (m : Nat) (s : State) : steady (nsDelete n m s).1 = steady s := by simp [nsDelete]
@[simp] theorem setQuota_steady (n : Namespace) (quota : Nat) (guarantee : Nat) (s : State) :
    steady (setQuota n quota guarantee s).1 = steady s := by
  simp [setQuota]
@[simp] theorem nsDigest_steady (c : SealedCmd) (s : State) : steady (nsDigest c s).1 = steady s := by
  refine onNs_steady _ _ _ _ _ fun n => ?_
  split <;> simp
@[simp] theorem ledgerTrim_steady (n : Namespace) (r : Nat) (m : Nat) (s : State) : steady (ledgerTrim n r m s).1 = steady s := by
  simp [ledgerTrim]
@[simp] theorem setRetention_steady (n : Namespace) (r : Nat) (s : State) : steady (setRetention n r s).1 = steady s := by
  simp [setRetention]
@[simp] theorem ledgerExport_steady (c : SealedCmd) (s : State) : steady (ledgerExport c s).1 = steady s := by
  refine onNs_steady _ _ _ _ _ fun n => ?_
  split
  · rfl
  · extract_lets first last key
    split
    · rfl
    · split
      · rfl
      · simp only [State.checkAll, State.checkKey, State.putValue]
        split
        · simp
        · split
          · simp
          · split
            · simp
            · split <;> simp
@[simp] theorem valueDigest_steady (c : SealedCmd) (s : State) : steady (valueDigest c s).1 = steady s := by
  refine onNs_steady _ _ _ _ _ fun n => ?_
  simp only [State.checkKey]
  split
  · rfl
  · split
    · rfl
    · split
      · simp
      · split <;> simp
@[simp] theorem entryWrite_steady (c : SealedCmd) (s : State) : steady (entryWrite c s).1 = steady s := by
  simp only [entryWrite]
  split <;> simp
@[simp] theorem entryDelete_steady (c : SealedCmd) (s : State) : steady (entryDelete c s).1 = steady s := by
  simp only [entryDelete]
  split <;> simp
@[simp] theorem setTablesCmd_steady (c : SealedCmd) (s : State) : steady (setTables c s).1 = steady s := by
  unfold setTables
  split <;> simp
@[simp] theorem patternLoad_steady (c : SealedCmd) (s : State) : steady (patternLoad c s).1 = steady s := by
  simp only [patternLoad, State.checkKey]
  split
  · rfl
  · split
    · simp
    · split
      · simp
      · split
        · simp
        · split
          · simp
          · split <;> simp
@[simp] theorem patternUnload_steady (c : SealedCmd) (s : State) : steady (patternUnload c s).1 = steady s := by
  simp only [patternUnload]
  split <;> simp
@[simp] theorem cascadeCheck_steady (c : SealedCmd) (s : State) : steady (cascadeCheck c s).1 = steady s := by simp [cascadeCheck]
@[simp] theorem cascadeSwitch_steady (c : SealedCmd) (s : State) : steady (cascadeSwitch c s).1 = steady s := by
  simp only [cascadeSwitch]
  split
  · simp
  · split <;> simp
@[simp] theorem probe_steady (c : SealedCmd) (s : State) : steady (probe c s).1 = steady s := by
  simp only [probe, State.draw]
  split
  · simp
  · simp
  · simp
@[simp] theorem scrub_steady (s : State) : steady (s.scrub) = steady s := by simp [State.scrub]
@[simp] theorem goodTurn_steady (s : State) : steady (s.goodTurn) = steady s := by simp [State.goodTurn]
@[simp] theorem loseCascade_steady (s : State) : steady (s.loseCascade) = steady s := by simp [State.loseCascade]
@[simp] theorem cascadeSearch_steady (s : State) (c : Cascade) (word : Bytes) (matchIn : Bool) (result : Bytes) :
    steady (s.cascadeSearch c word matchIn result) = steady s := by
  simp [State.cascadeSearch]
@[simp] theorem no_steady (s : State) (st : Status) : steady (no s st).1 = steady s := by rfl
@[simp] theorem consultRoute_steady (s : State) (x : Ctx) (r : Request) : steady (s.consultRoute x r) = steady s := by
  simp [State.consultRoute]
@[simp] theorem checkAcl_steady (s : State) (x : Ctx) (r : Request) : steady (s.checkAcl x r).1 = steady s := by simp [State.checkAcl]
@[simp] theorem gate_steady (s : State) (x : Ctx) (r : Request) : steady (s.gate x r).1 = steady s := by
  unfold State.gate
  split
  · rfl
  · split
    · rfl
    · split
      rename_i heq
      have := fst_steady heq (checkAcl_steady s x r)
      split <;> exact this
@[simp] theorem gated_steady (s : State) (x : Ctx) (r : Request) (f : State → Namespace → OpRes)
    (h : ∀ t n, steady (f t n).1 = steady t) : steady (s.gated x r f).1 = steady s := by
  unfold State.gated
  split
  · rename_i heq
    rw [h, fst_steady heq (gate_steady s x r)]
  · rename_i heq
    exact fst_steady heq (gate_steady s x r)
@[simp] theorem opGet_steady (x : Ctx) (r : Request) (s : State) : steady (opGet x r s).1 = steady s := by
  refine gated_steady _ _ _ _ fun t n => ?_
  split
  · rfl
  · extract_lets l data lo hi sliced
    split
    · rfl
    · split
      · rfl
      · cases data.isEmpty <;> simp
@[simp] theorem putOrFull_steady (x : Ctx) (n : Namespace) (key : Bytes) (value : Bytes) (s : State) :
    steady (putOrFull x n key value s).1 = steady s := by
  simp [putOrFull]
@[simp] theorem opOpen_steady (x : Ctx) (r : Request) (s : State) (n : Namespace) : steady (opOpen x r s n).1 = steady s := by
  simp [opOpen]
@[simp] theorem opPut_steady (x : Ctx) (r : Request) (s : State) : steady (opPut x r s).1 = steady s := by simp [opPut]
@[simp] theorem opDelete_steady (x : Ctx) (r : Request) (s : State) : steady (opDelete x r s).1 = steady s := by
  refine gated_steady _ _ _ _ fun t n => ?_
  split
  · rfl
  · split <;> simp
@[simp] theorem opCas_steady (x : Ctx) (r : Request) (s : State) : steady (opCas x r s).1 = steady s := by simp [opCas]
@[simp] theorem appendOrdinary_steady (x : Ctx) (r : Request) (n : Namespace) (s : State) : steady
    (appendOrdinary x r n s).1 = steady s := by
  simp [appendOrdinary]
@[simp] theorem appendLedger_steady (x : Ctx) (r : Request) (n : Namespace) (s : State) :
    steady (appendLedger x r n s).1 = steady s := by
  simp [appendLedger]
@[simp] theorem opAppend_steady (x : Ctx) (r : Request) (s : State) : steady (opAppend x r s).1 = steady s := by
  refine gated_steady _ _ _ _ fun t n => ?_
  split <;> simp
@[simp] theorem commitSeg_steady (x : Ctx) (r : Request) (g : OpenSeg) (s : State) : steady (commitSeg x r g s).1 = steady s := by
  unfold commitSeg
  split <;> simp
@[simp] theorem opSegment_steady (x : Ctx) (r : Request) (s : State) : steady (opSegment x r s).1 = steady s := by
  simp only [opSegment]
  split
  · simp
  · split <;> simp
@[simp] theorem ranOver_steady (slot k : Nat) (l : List KeyEnt) (s : State) : steady (State.ranOver slot k l s) = steady s := by
  induction l generalizing k s with
  | nil => rfl
  | cons e l ih => simp [State.ranOver, ih]
@[simp] theorem opScan_steady (x : Ctx) (r : Request) (s : State) : steady (opScan x r s).1 = steady s := by
  refine gated_steady _ _ _ _ fun t n => ?_
  simp only
  split
  · rfl
  · split <;> simp
@[simp] theorem opWatch_steady (x : Ctx) (r : Request) (s : State) : steady (opWatch x r s).1 = steady s := by
  refine gated_steady _ _ _ _ fun t n => ?_
  simp only
  split
  · rfl
  · split <;> simp
@[simp] theorem opWatchStop_steady (x : Ctx) (r : Request) (s : State) : steady (opWatchStop x r s).1 = steady s := by
  refine gated_steady _ _ _ _ fun t n => ?_
  split <;> simp
@[simp] theorem opBatchOpen_steady (x : Ctx) (r : Request) (s : State) :
    steady (opBatchOpen x r s).1 = steady s := by simp [opBatchOpen]
@[simp] theorem opMember_steady (x : Ctx) (r : Request) (s : State) : steady (opMember x r s).1 = steady s := by simp [opMember]
@[simp] theorem batchStep_steady (x : Ctx) (home : Option (Nat × Nat)) (b : BatchRun) (rm : Request × Nat) :
    steady (b.step x home rm).s = steady b.s := by
  unfold BatchRun.step
  split
  · rfl
  · split
    · rfl
    · have h := opMember_steady { x with adm := rm.2 } rm.1 (b.s.consultRoute x rm.1)
      simp only
      split
      · rw [h, consultRoute_steady]
      · rfl
@[simp] theorem opBatchClose_steady (x : Ctx) (r : Request) (s : State) : steady (opBatchClose x r s).s = steady s := by
  have hrun (b : BatchRun) (l : List (Request × Nat)) (home) : steady (l.foldl (BatchRun.step x home) b).s = steady b.s :=
    foldl_keeps (p := fun b : BatchRun => steady b.s) (batchStep_steady x home) l b
  simp only [opBatchClose, State.drawSealed]
  split
  · rfl
  · split
    · split
      · simp
      · split
        · simp [hrun]
        · simp
    · split
      · simp
      · split
        · simp [hrun]
        · simp
@[simp] theorem opCancel_steady (r : Request) (s : State) : steady (opCancel r s).1 = steady s := by
  simp only [opCancel]
  split
  · rfl
  · split
    · split <;> simp [State.drawSealed]
    · simp
@[simp] theorem stanzaGate_steady (x : Ctx) (r : Request) (cls : OpClass) (l : List Nat) (s : State) :
    steady (State.stanzaGate x r cls l s).1 = steady s := by
  induction l generalizing s with
  | nil => rfl
  | cons n l ih =>
    unfold State.stanzaGate
    split
    · rfl
    · split
      · rfl
      · split
        rename_i heq
        have := fst_steady heq (checkAll_steady ..)
        split <;> simp [ih, this]
@[simp] theorem opStanzaRead_steady (x : Ctx) (r : Request) (s : State) : steady (opStanzaRead x r s).1 = steady s := by
  simp only [opStanzaRead]
  split
  · rfl
  · split
    · rfl
    · split
      · rfl
      · split
        · simp
        · split <;> simp
@[simp] theorem loadManifest_steady (v : Restore) (r : Request) (b : Bytes) (s : State) :
    steady (loadManifest v r b s).1 = steady s := by
  simp [loadManifest]
@[simp] theorem loadSource_steady (v : Restore) (r : Request) (b : Bytes) (s : State) : steady (loadSource v r b s).1 = steady s := by
  simp only [loadSource]
  split
  · rfl
  · split
    · rfl
    · split
      · rfl
      · split
        · rfl
        · split
          · rfl
          · split
            · rfl
            · split
              · rfl
              · split
                · rfl
                · split <;> rfl
@[simp] theorem opStanzaLoad_steady (x : Ctx) (r : Request) (s : State) : steady (opStanzaLoad x r s).1 = steady s := by
  simp only [opStanzaLoad]
  split
  · rfl
  · split
    · simp
    · split <;> simp
@[simp] theorem opStanza_steady (x : Ctx) (r : Request) (s : State) : steady (opStanza x r s).1 = steady s := by simp [opStanza]
@[simp] theorem opRun_steady (x : Ctx) (r : Request) (s : State) : steady (opRun x r s).1 = steady s := by
  unfold opRun
  split <;> simp
@[simp] theorem opAway_steady (x : Ctx) (r : Request) (s : State) : steady (opAway x r s).1 = steady s := by simp [opAway]
@[simp] theorem answerNow_steady (s : State) (r : Request) (st : Status) (flags : Nat) (target : Nat) (body : Bytes) :
    steady (s.answerNow r st flags target body) = steady s := by
  rfl
@[simp] theorem discard_steady (s : State) (p : Fin 2) : steady (s.discard p) = steady s := by rfl
@[simp] theorem consume_steady (s : State) (r : Request) (p : Replay) : steady (s.consume r p) = steady s := by rfl
@[simp] theorem scanTurn_steady (s : State) (v : ScanRun) : steady (s.scanTurn v).1 = steady s := by simp [State.scanTurn]
@[simp] theorem scanStep_steady (s : State) (v : ScanRun) : steady (s.scanStep v) = steady s := by simp [State.scanStep]
@[simp] theorem settle_steady (s : State) (x : Ctx) (r : Request) (a : Ans) (aborted : Bool) :
    steady (s.settle x r a aborted) = steady s := by
  simp [State.settle]
@[simp] theorem runRequest_steady (s : State) (x : Ctx) (r : Request) : steady (s.runRequest x r) = steady s := by
  simp only [State.runRequest]
  split
  · simp
  · split
    · simp
    · split <;> simp
@[simp] theorem cancelOpen_steady (s : State) (r : Request) : steady (s.cancelOpen r) = steady s := by simp [State.cancelOpen]
@[simp] theorem takeIn_steady (s : State) (r : Request) : steady (s.takeIn r) = steady s := by rfl
@[simp] theorem refuseAt_steady (s : State) (r : Request) (st : Status) : steady (s.refuseAt r st) = steady s := by rfl
@[simp] theorem atPort_steady (s : State) (r : Request) : steady (s.atPort r) = steady s := by simp [State.atPort]
@[simp] theorem releaseNext_steady (s : State) (session n : Nat) : steady (s.releaseNext session n) = steady s := by
  induction n generalizing s with
  | zero => rfl
  | succ n ih =>
    unfold State.releaseNext
    split <;> simp [ih]
@[simp] theorem duplicate_steady (s : State) (x : Session) (r : Request) (quiet : Bool) :
    steady (s.duplicate x r quiet) = steady s := by
  unfold State.duplicate
  split
  · simp
  · split <;> simp
@[simp] theorem arriveLocal_steady (s : State) (x : Session) (r : Request) : steady (s.arriveLocal x r) = steady s := by
  simp [State.arriveLocal]
@[simp] theorem lateNow_steady (s : State) (r : Request) : steady (s.lateNow r) = steady s := by simp [State.lateNow]
@[simp] theorem arriveChorus_steady (s : State) (x : Session) (r : Request) : steady (s.arriveChorus x r) = steady s := by
  unfold State.arriveChorus
  split <;> simp
theorem skpGateIn_steady {s : State} {eff : UnitState} {src : Source} {y} (h : (s.skpGateIn eff src) = some y) :
    steady y = steady s := by
  unfold State.skpGateIn at h
  split at h
  · cases h; rfl
  · split at h
    · cases h; simp
    · split at h
      · cases h; rfl
      · cases h; simp
      all_goals
        split at h
        · cases h
        · cases h; simp
theorem skpGate_steady {s : State} {src : Source} {y} (h : (s.skpGate src) = some y) : steady y = steady s := by
  exact skpGateIn_steady h
@[simp] theorem arrive_steady (s : State) (r : Request) : steady (s.arrive r) = steady s := by
  unfold State.arrive
  split <;> simp
@[simp] theorem request_steady (s : State) (r : Request) : steady (s.request r) = steady s := by
  unfold State.request
  split
  · rename_i heq
    exact skpGate_steady heq
  · simp
@[simp] theorem openSession_steady (s : State) (r : Request) : steady (s.openSession r) = steady s := by
  unfold State.openSession
  split <;> rfl
@[simp] theorem hello_steady (s : State) (r : Request) : steady (s.hello r) = steady s := by
  unfold State.hello
  split
  · simp
  · split <;> simp
@[simp] theorem onOpen_steady (s : State) (r : Request) (f : State → Session → State) (h : ∀ t x, steady (f t x) = steady t) :
    steady (s.onOpen r f) = steady s := by
  unfold State.onOpen
  split
  · simp
  · split
    · rw [h]; simp
    · simp
@[simp] theorem closeSession_steady (s : State) (id : Nat) : steady (s.closeSession id) = steady s := by simp [State.closeSession]
@[simp] theorem bye_steady (s : State) (r : Request) : steady (s.bye r) = steady s := by simp [State.bye]
@[simp] theorem beat_steady (s : State) (r : Request) : steady (s.beat r) = steady s := by simp [State.beat]
@[simp] theorem creditRequest_steady (s : State) (r : Request) : steady (s.creditRequest r) = steady s := by simp [State.creditRequest]
@[simp] theorem served_steady (s : State) (r : Request) (f : State → State) (h : ∀ t, steady (f t) = steady t) :
    steady (s.served r f) = steady s := by
  unfold State.served
  split
  · rename_i heq
    exact skpGate_steady heq
  · exact h _
@[simp] theorem gapTimeout_steady (s : State) (id : Nat) : steady (s.gapTimeout id) = steady s := by
  unfold State.gapTimeout
  split <;> simp
@[simp] theorem failBatch_steady (s : State) (b : Batch) : steady (s.failBatch b) = steady s := by simp [State.failBatch]
@[simp] theorem batchDeadline_steady (s : State) (id : Nat) : steady (s.batchDeadline id) = steady s := by
  unfold State.batchDeadline
  split <;> simp
@[simp] theorem segDeadline_steady (s : State) (id : Nat) : steady (s.segDeadline id) = steady s := by
  unfold State.segDeadline
  split <;> simp
@[simp] theorem expire_steady (m : Nat) (s : State) : steady (State.expire m s) = steady s := by simp [State.expire]
@[simp] theorem idleClose_steady (s : State) (id : Nat) : steady (s.idleClose id) = steady s := by
  unfold State.idleClose
  split <;> simp
@[simp] theorem watchOver_steady (s : State) (id : Nat) (seq : Nat) : steady (s.watchOver id seq) = steady s := by
  unfold State.watchOver
  split <;> simp
@[simp] theorem watchFull_steady (s : State) (id : Nat) (seq : Nat) : steady (s.watchFull id seq) = steady s := by
  unfold State.watchFull
  split <;> simp
@[simp] theorem inChorus_steady (c : SealedCmd) (e : Nat) (s : State) (f : Chorus → Res) (h : ∀ k, steady (f k).1 = steady s) :
    steady (inChorus c e s f).1 = steady s := by
  unfold inChorus
  split
  · simp
  · split
    · simp
    · exact h _
@[simp] theorem atE_steady (s : State) (f : Chorus → Res) (h : ∀ k, steady (f k).1 = steady s) : steady (atE s f).1 = steady s := by
  unfold atE
  split
  · simp
  · exact h _
@[simp] theorem formApply_steady (c : SealedCmd) (s : State) : steady (formApply c s).1 = steady s := by
  simp only [formApply]
  split
  · rfl
  · split
    · rfl
    · exact (drawn_steady _).trans (by simp)
@[simp] theorem leaveChorus_steady (s : State) (c : Chorus) : steady (s.leaveChorus c) = steady s := by
  unfold State.leaveChorus
  extract_lets s0 waiting s1 s2
  have h : steady s1 = steady s := by simp [s1, s0]
  exact h
@[simp] theorem checkpointApply_steady (c : SealedCmd) (s : State) : steady (checkpointApply c s).1 = steady s := by
  simp [checkpointApply]
@[simp] theorem restoreEndApply_steady (c : SealedCmd) (s : State) : steady (restoreEndApply c s).1 = steady s := by
  refine atE_steady _ _ fun k => ?_
  split <;> simp
@[simp] theorem chorusQuota_steady (k : Chorus) (n : Namespace) (quota : Nat) (s : State) :
    steady (chorusQuota k n quota s).1 = steady s := by
  simp [chorusQuota]
@[simp] theorem innerApply_steady (op : Nat) (b : Bytes) (m : Nat) (s : State) : steady (innerApply op b m s).1 = steady s := by
  unfold innerApply
  split
  · rfl
  · split
    · rfl
    · refine atE_steady _ _ fun k => ?_
      simp
@[simp] theorem dropOnTime_steady (s : State) (e : Nat) : steady (s.dropOnTime e) = steady s := by simp [State.dropOnTime]
@[simp] theorem sendChorus_steady (s : State) (p : Fin 2) (ip : Nat) (payload : Bytes) : steady
    (s.sendChorus p ip payload) = steady s := by
  rfl
@[simp] theorem sendDigest_steady (s : State) (c : Chorus) (r : Report) (copy : Bool) : steady (s.sendDigest c r copy) = steady s := by
  simp [State.sendDigest]
@[simp] theorem lowerMember_steady (s : State) (k : Nat) (v : UnitState) : steady (s.lowerMember k v) = steady s := by
  simp [State.lowerMember]
@[simp] theorem notePull_steady (s : State) (k : Nat) : steady (s.notePull k) = steady s := by simp [State.notePull]
@[simp] theorem sendPull_steady (s : State) (c : Chorus) (k : Nat) (mode : Nat) (count : Nat) (measure : Nat) (rest : Bytes) :
    steady (s.sendPull c k mode count measure rest) = steady s := by
  unfold State.sendPull
  split <;> simp
@[simp] theorem listIfDiffers_steady (s : State) (c : Chorus) (t : Nat) (r : Report) : steady (s.listIfDiffers c t r) = steady s := by
  unfold State.listIfDiffers
  split <;> simp
@[simp] theorem confirm_steady (s : State) (c : Chorus) (t : Nat) : steady (s.confirm c t) = steady s := by simp [State.confirm]
@[simp] theorem digestFrom_steady (s : State) (c : Chorus) (k : Nat) (r : Report) : steady (s.digestFrom c k r) = steady s := by
  simp [State.digestFrom]
@[simp] theorem digestRx_steady (s : State) (r : Request) : steady (s.digestRx r) = steady s := by
  simp only [State.digestRx]
  split
  · simp
  · split <;> simp
@[simp] theorem pullAnswer_steady (s : State) (r : Request) (st : Status) (body : Bytes) : steady
    (s.pullAnswer r st body) = steady s := by
  simp [State.pullAnswer]
@[simp] theorem transferRead_steady (s : State) (c : Chorus) (r : Request) (shard : Nat) (cut : Nat) (index : Nat) :
    steady (s.transferRead c r shard cut index) = steady s := by
  simp only [State.transferRead]
  split
  · simp
  · split <;> simp
@[simp] theorem transferAnswer_steady (s : State) (c : Chorus) (r : Request) : steady (s.transferAnswer c r) = steady s := by
  simp [State.transferAnswer]
@[simp] theorem pullRx_steady (s : State) (r : Request) : steady (s.pullRx r) = steady s := by
  simp only [State.pullRx]
  split
  · simp
  · split
    · simp
    · split
      · simp
      · split <;> simp
@[simp] theorem pullReturned_steady (s : State) (r : Request) : steady (s.pullReturned r) = steady s := by
  unfold State.pullReturned
  split <;> simp
@[simp] theorem answerAsks_steady (s : State) (x : Nat) : steady (s.answerAsks x) = steady s := by
  unfold State.answerAsks
  split <;> simp
@[simp] theorem ensureSession_steady (s : State) (id : Nat) : steady (s.ensureSession id) = steady s := by
  unfold State.ensureSession
  split <;> rfl
@[simp] theorem refuseAnswered_steady (s : State) (mine : Bool) (r : Request) (st : Status) (t : Nat) :
    steady (s.refuseAnswered mine r st t) = steady s := by
  simp [State.refuseAnswered]
@[simp] theorem refuseSealed_steady (s : State) (r : Request) (st : Status) (t : Nat) : steady (s.refuseSealed r st t) = steady s := by
  simp [State.refuseSealed]
@[simp] theorem divergeUnknown_steady (s : State) (e : Listed) (t : Nat) : steady (s.divergeUnknown e t) = steady s := by
  simp [State.divergeUnknown]
@[simp] theorem placingStep_steady (t : Nat) (gone : List (Nat × Nat × Nat)) (p : Placing) (r : Request) :
    steady (p.step t gone r).s = steady p.s := by
  simp only [Placing.step]
  split
  · simp
  · split
    · simp
    · split
      · simp
      · split <;> simp
@[simp] theorem placeWith_steady (s : State) (t : Nat) (f : List Request) (n : Nat) (gone : List (Nat × Nat × Nat)) :
    steady (s.placeWith t f n gone).s = steady s := by
  have h0 (gone) : steady (s.placeWith t f 0 gone).s = steady s := by
    unfold State.placeWith
    exact foldl_keeps (p := fun p : Placing => steady p.s) (placingStep_steady t gone) f _
  induction n generalizing gone with
  | zero => exact h0 gone
  | succ n ih =>
    unfold State.placeWith
    extract_lets p void
    split
    · exact h0 gone
    · exact ih _
@[simp] theorem placeSet_steady (s : State) (t : Nat) (f : List Request) : steady (s.placeSet t f).s = steady s := by
  simp [State.placeSet]
@[simp] theorem refuseOthers_steady (s : State) (t : Nat) (held : List Request) (u : List Listed) (f : List Request) :
    steady (s.refuseOthers t held u f).1 = steady s := by
  simp [State.refuseOthers]
@[simp] theorem sealSet_steady (s : State) (c : Chorus) (t : Nat) (own : Report) : steady (s.sealSet c t own).1 = steady s := by
  simp [State.sealSet]
@[simp] theorem sealChorus_steady (s : State) : steady (s.sealChorus).1 = steady s := by
  unfold State.sealChorus
  split <;> simp
@[simp] theorem judgePeer_steady (s : State) (c : Chorus) (t : Nat) (k : Nat) : steady (s.judgePeer c t k) = steady s := by
  unfold State.judgePeer
  split <;> simp
@[simp] theorem judgePeers_steady (s : State) : steady (s.judgePeers) = steady s := by
  unfold State.judgePeers
  split <;> simp
@[simp] theorem applySet_steady (s : State) (c : Chorus) (t : Nat) (f : List Request) : steady (s.applySet c t f) = steady s := by
  simp [State.applySet]
@[simp] theorem applyFetched_steady (s : State) (n : Nat) : steady (s.applyFetched n) = steady s := by
  induction n generalizing s with
  | zero => rfl
  | succ n ih =>
    unfold State.applyFetched
    split
    · rfl
    · split
      · rfl
      · simp [ih]
@[simp] theorem catchUp_steady (s : State) : steady (s.catchUp) = steady s := by
  simp only [State.catchUp]
  split
  · rfl
  · split
    · rfl
    · split <;> simp
@[simp] theorem askTransfer_steady (s : State) (c : Chorus) (h : Shard) : steady (s.askTransfer c h) = steady s := by
  unfold State.askTransfer
  split <;> simp
@[simp] theorem startTransfer_steady (s : State) : steady (s.startTransfer) = steady s := by
  unfold State.startTransfer
  split <;> simp
@[simp] theorem endTransfer_steady (s : State) (c : Chorus) : steady (s.endTransfer c) = steady s := by rfl
@[simp] theorem takeStanza_steady (s : State) (c : Chorus) (a : PullAnswer) (h : StanzaHead) (p : Bytes) :
    steady (s.takeStanza c a h p) = steady s := by
  unfold State.takeStanza
  extract_lets old cut l put t0
  have hput (x : State) (v : LoadShard) : steady (put x v) = steady x := rfl
  clear_value put
  split
  · rfl
  · split
    · simp [hput]
    · split
      · rfl
      · extract_lets s1
        have hs : steady s1 = steady s := hput _ _
        clear_value s1
        split <;> simp [hs]
@[simp] theorem fetchMissing_steady (s : State) (c : Chorus) (k t n : Nat) (l : List Listed) :
    steady (s.fetchMissing c k t n l) = steady s := by
  induction n generalizing s l with
  | zero => rfl
  | succ n ih => simp [State.fetchMissing, ih]
@[simp] theorem listRx_steady (s : State) (c : Chorus) (a : PullAnswer) : steady (s.listRx c a) = steady s := by simp [State.listRx]
@[simp] theorem keepFetched_steady (s : State) (t : Nat) (b : Bytes) : steady (s.keepFetched t b) = steady s := by
  simp [State.keepFetched]
@[simp] theorem setsRx_steady (s : State) (c : Chorus) (b : Bytes) : steady (s.setsRx c b) = steady s := by simp [State.setsRx]
@[simp] theorem pullResponse_steady (s : State) (a : PullAnswer) : steady (s.pullResponse a) = steady s := by
  unfold State.pullResponse
  split
  · rfl
  · split
    · rfl
    · split
      · simp
      · simp
      · simp
      · split
        · rfl
        · split
          · split <;> simp
          · split <;> simp
      · rfl
@[simp] theorem sendRound_steady (s : State) (c : Chorus) (round : Nat) (copy : Bool) :
    steady (s.sendRound c round copy) = steady s := by
  simp [State.sendRound]
@[simp] theorem chainLost_steady (s : State) (t : Nat) : steady (s.chainLost t) = steady s := by
  unfold State.chainLost
  split <;> simp
@[simp] theorem setLine_steady (s : State) (d : DirLine) : steady (s.setLine d) = steady s := by rfl
@[simp] theorem jtag_steady (s : State) (i : JtagInstr) (tdo : Nat) : steady (s.jtag i tdo) = steady s := by rfl
@[simp] theorem bypass_steady (s : State) : steady (s.bypass) = steady s := by rfl
@[simp] theorem onPort_steady (b : Bytes) (s : State) (f : Fin 2 → Res) (h : ∀ p, steady (f p).1 = steady s) :
    steady (onPort b s f).1 = steady s := by
  unfold onPort
  split
  · exact h _
  · simp
@[simp] theorem applyPort_steady (s : State) (p : Fin 2) (t : PortSettings) : steady (s.applyPort p t) = steady s := by
  simp [State.applyPort]
@[simp] theorem setFilter_steady (c : SealedCmd) (s : State) : steady (setFilter c s).1 = steady s := by simp [setFilter]
@[simp] theorem setAddress_steady (c : SealedCmd) (s : State) : steady (setAddress c s).1 = steady s := by simp [setAddress]
@[simp] theorem setHeartbeat_steady (c : SealedCmd) (s : State) : steady (setHeartbeat c s).1 = steady s := by simp [setHeartbeat]
@[simp] theorem macsecInstall_steady (c : SealedCmd) (s : State) : steady (macsecInstall c s).1 = steady s := by
  refine onPort_steady _ _ _ fun p => ?_
  simp only
  split <;> simp
@[simp] theorem macsecRemove_steady (c : SealedCmd) (s : State) : steady (macsecRemove c s).1 = steady s := by simp [macsecRemove]
@[simp] theorem txFlush_steady (c : SealedCmd) (s : State) : steady (txFlush c s).1 = steady s := by simp [txFlush]
@[simp] theorem setChan_steady (s : State) (c : Fin 32) (f : ChanCfg → ChanCfg) : steady (s.setChan c f) = steady s := by rfl
@[simp] theorem configureApply_steady (c : SealedCmd) (s : State) : steady (configureApply c s).1 = steady s := by
  unfold configureApply
  split <;> simp
@[simp] theorem lockChannels_steady (c : SealedCmd) (s : State) : steady (lockChannels c s).1 = steady s := by simp [lockChannels]
@[simp] theorem triggerChannels_steady (c : SealedCmd) (s : State) : steady (triggerChannels c s).1 = steady s := by
  simp [triggerChannels]
@[simp] theorem clearChannels_steady (c : SealedCmd) (s : State) : steady (clearChannels c s).1 = steady s := by simp [clearChannels]
@[simp] theorem codaReadAct_steady (c : SealedCmd) (s : State) : steady (codaReadAct c s).1 = steady s := by
  simp only [codaReadAct]
  split
  · simp
  · split <;> simp
@[simp] theorem setTriggersAct_steady (c : SealedCmd) (s : State) : steady (setTriggersAct c s).1 = steady s := by rfl
@[simp] theorem codaKeepAct_steady (c : SealedCmd) (s : State) : steady (codaKeepAct c s).1 = steady s := by
  simp only [codaKeepAct]
  split <;> simp
@[simp] theorem raiseWarn_steady (s : State) (w : Nat) (unit : Option Nat) : steady (s.raiseWarn w unit) = steady s := by
  simp only [State.raiseWarn, State.draw]
  split
  · rfl
  · cases unit
    · exact (pulse_steady _ _).trans rfl
    · simp
@[simp] theorem checkWarn_steady (s : State) (w : Nat) : steady (s.checkWarn w) = steady s := by simp [State.checkWarn]
@[simp] theorem checkWarns_steady (s : State) : steady (s.checkWarns) = steady s := by simp [State.checkWarns]
@[simp] theorem formatMark_steady (s : State) (slcGib : Nat) : steady (s.formatMark slcGib) = steady s := by rfl
@[simp] theorem formatFlash_steady (s : State) (slcGib : Nat) : steady (s.formatFlash slcGib) = steady s := by rfl
@[simp] theorem mediaFormat_steady (c : SealedCmd) (s : State) : steady (mediaFormat c s).1 = steady s := by simp [mediaFormat]
@[simp] theorem setReadPolicy_steady (c : SealedCmd) (s : State) : steady (setReadPolicy c s).1 = steady s := by simp [setReadPolicy]
theorem openSb_steady {s : State} {group : Nat} {native : Bool} {stream : Stream} {y} (h : (s.openSb group native stream) = some y) :
    steady y.1 = steady s := by
  unfold State.openSb at h
  split at h
  · cases h
  · cases h; simp
theorem roomSb_steady {s : State} {group : Nat} {native : Bool} {stream : Stream} {y} (h : (s.roomSb group native stream) = some y) :
    steady y.1 = steady s := by
  unfold State.roomSb at h
  split at h
  · exact openSb_steady h
  · split at h
    · cases h; rfl
    · exact (openSb_steady h).trans (modSb_steady ..)
theorem placeIn_steady {s : State} {group : Nat} {native : Bool} {stream : Stream} {w : Codeword} {y} (h :
    (s.placeIn group native stream w) = some y) :
    steady y.1 = steady s := by
  simp only [State.placeIn, Option.map_eq_some_iff] at h
  obtain ⟨p, hp, rfl⟩ := h
  exact (modSb_steady ..).trans (roomSb_steady hp)
theorem placeAny_steady {s : State} {native : Bool} {stream : Stream} {w : Codeword} {l : List Nat} {y}
    (h : s.placeAny native stream w l = some y) : steady y.1 = steady s := by
  induction l with
  | nil => cases h
  | cons g l ih =>
    unfold State.placeAny at h
    split at h
    · rename_i hp
      cases h
      exact placeIn_steady hp
    · exact ih h
theorem placeAll_steady {s : State} {native : Bool} {stream : Stream} {first : Codeword → Nat} {l : List Codeword} {y}
    (h : s.placeAll native stream first l = some y) : steady y.1 = steady s := by
  induction l generalizing s y with
  | nil => cases h; rfl
  | cons w l ih =>
    simp only [State.placeAll, Option.bind_eq_some_iff, Option.map_eq_some_iff] at h
    obtain ⟨⟨t, p⟩, hp, ⟨u, q⟩, hq, rfl⟩ := h
    exact (ih hq).trans (placeAny_steady hp)
@[simp] theorem endStripes_steady (s : State) (pages : List Page) : steady (s.endStripes pages) = steady s := by simp [State.endStripes]
@[simp] theorem programPages_steady (s : State) (kind : NandKind) (bank : Option Nat) (pages : List Page) :
    steady (s.programPages kind bank pages) = steady s := by
  simp [State.programPages]
theorem write_steady {s : State} {native : Bool} {stream : Stream} {kind : NandKind} {bank : Option Nat} {first : Codeword → Nat} {l : List Codeword} {y} (h : (s.write native stream kind bank first l) = some y) 
   :
    steady y = steady s := by
  simp only [State.write, Option.map_eq_some_iff] at h
  obtain ⟨p, hp, rfl⟩ := h
  simp [placeAll_steady hp]
@[simp] theorem retireBlock_steady (s : State) (b : Superblock) (lun : Nat) (plane : Nat) :
    steady (s.retireBlock b lun plane) = steady s := by
  simp only [State.retireBlock]
  split
  · split <;> simp
  · rfl
@[simp] theorem lunEvent_steady (s : State) (lun : Nat) : steady (s.lunEvent lun) = steady s := by simp [State.lunEvent]
@[simp] theorem lunRebuild_steady (s : State) (lun : Nat) : steady (s.lunRebuild lun) = steady s := by simp [State.lunRebuild]
@[simp] theorem statusError_steady (s : State) (lun : Nat) : steady (s.statusError lun) = steady s := by simp [State.statusError]
@[simp] theorem overrodePin_steady (s : State) (lun : Nat) : steady (s.overrodePin lun) = steady s := by simp [State.overrodePin]
@[simp] theorem readPinned_steady (s : State) (native : Bool) : steady (s.readPinned native).2 = steady s := by
  simp only [State.readPinned, State.draw]
  split
  · rfl
  · split <;> simp
@[simp] theorem trackStep_steady (s : State) (b : Superblock) (step : Nat) : steady (s.trackStep b step) = steady s := by rfl
@[simp] theorem stageCount_steady (s : State) (lun : Nat) (stage : Nat) : steady (s.stageCount lun stage) = steady s := by
  unfold State.stageCount
  split <;> simp
@[simp] theorem markHard_steady (s : State) (b : Superblock) : steady (s.markHard b) = steady s := by rfl
@[simp] theorem noteRebuilt_steady (s : State) (b : Superblock) (w : Codeword) : steady (s.noteRebuilt b w) = steady s := by
  simp only [State.noteRebuilt]
  split <;> simp
@[simp] theorem readFound_steady (s : State) (b : Superblock) (w : Codeword) (pin : Bool) (d : Decoded) :
    steady (s.readFound b w pin d) = steady s := by
  unfold State.readFound
  split <;> simp
@[simp] theorem readServed_steady (s : State) (k : Nat × Nat) : steady (s.readServed k) = steady s := by rfl
@[simp] theorem readFailed_steady (s : State) (k : Nat × Nat) : steady (s.readFailed k) = steady s := by simp [State.readFailed]
@[simp] theorem reclaim_steady (s : State) (group : Nat) (num : Nat) : steady (s.reclaim group num) = steady s := by
  unfold State.reclaim
  split <;> simp
@[simp] theorem finishMove_steady (s : State) (m : Relocation) : steady (s.finishMove m) = steady s := by
  simp only [State.finishMove]
  split
  · rfl
  · split
    · simp
    · rename_i heq
      simp [write_steady heq]
@[simp] theorem finishMoves_steady (s : State) : steady (s.finishMoves) = steady s := by simp [State.finishMoves]
@[simp] theorem moveRead_steady (s : State) (group : Nat) (num : Nat) (k : Nat × Nat) (ok : Bool) :
    steady (s.moveRead group num k ok) = steady s := by
  simp [State.moveRead]
@[simp] theorem relocate_steady (s : State) (b : Superblock) (stream : Stream) (evac : Bool) :
    steady (s.relocate b stream evac) = steady s := by
  simp [State.relocate]
@[simp] theorem endRead_steady (s : State) (o : NandOp) (r : NandResult) : steady (s.endRead o r) = steady s := by
  unfold State.endRead
  split
  · split
    · rfl
    · simp
      split <;> simp
  · rfl
@[simp] theorem modBus_steady (s : State) (ch : Fin 8) (f : Bus → Bus) : steady (s.modBus ch f) = steady s := by rfl
@[simp] theorem busNext_steady (s : State) (ch : Fin 8) : steady (s.busNext ch) = steady s := by
  unfold State.busNext
  split <;> simp
@[simp] theorem busEnd_steady (s : State) (ch : Fin 8) : steady (s.busEnd ch) = steady s := by
  simp only [State.busEnd]
  split
  · rfl
  · split
    · simp
    · split <;> simp
@[simp] theorem divert_steady (s : State) (lun : Nat) (again : State → NandOp → State) (h : ∀ t o, steady (again t o) = steady t) :
    steady (s.divert lun again) = steady s := by
  simp only [State.divert]
  split
  · rfl
  · split
    · rfl
    · rw [foldl_steady (fun t o => by split <;> simp [h])]
      simp
@[simp] theorem placeAgain_steady (s : State) (o : NandOp) (lun : Nat) : steady (s.placeAgain o lun) = steady s := by
  simp only [State.placeAgain]
  split
  · rfl
  · cases hw : State.write _ _ _ _ _ _ _ with
    | none => simp
    | some t => simp [write_steady hw]
@[simp] theorem retryPages_steady (s : State) : steady (s.retryPages) = steady s := by simp [State.retryPages]
@[simp] theorem redo_steady (s : State) (lun : Nat) (o : NandOp) : steady (s.redo lun o) = steady s := by
  simp only [State.redo]
  split
  · simp
  · split
    · split
      · split <;> simp
      · rfl
    · rfl
@[simp] theorem mapMoves_steady (s : State) (b : Superblock) (l : List Codeword) : steady (s.mapMoves b l) = steady s := by
  unfold State.mapMoves
  refine foldl_steady (fun t w => ?_) _ _
  split <;> simp
@[simp] theorem programmed_steady (s : State) (lun : Nat) (o : NandOp) : steady (s.programmed lun o) = steady s := by
  simp only [State.programmed]
  split <;> simp
@[simp] theorem opFailed_steady (s : State) (lun : Nat) (plane : Nat) (o : NandOp) : steady (s.opFailed lun plane o) = steady s := by
  unfold State.opFailed
  split <;> simp
@[simp] theorem free_steady (s : State) (lun : Nat) : steady (s.free lun) = steady s := by rfl
@[simp] theorem opDone_steady (s : State) (lun : Nat) (o : NandOp) (r : NandResult) : steady (s.opDone lun o r) = steady s := by
  unfold State.opDone
  split <;> simp
@[simp] theorem dropHeld_steady (s : State) (lun : Nat) : steady (s.dropHeld lun) = steady s := by
  unfold State.dropHeld
  split <;> simp
@[simp] theorem noteTimeout_steady (s : State) (lun : Nat) : steady (s.noteTimeout lun) = steady s := by simp [State.noteTimeout]
@[simp] theorem queueErases_steady (s : State) : steady (s.queueErases) = steady s := by simp [State.queueErases]
@[simp] theorem setUpd_steady (s : State) (v : UpdState) (trigger : optParam (Option Nat) none) : steady
    (s.setUpd v trigger) = steady s := by
  simp [State.setUpd]
@[simp] theorem releaseHold_steady (s : State) : steady (s.releaseHold) = steady s := by rfl
@[simp] theorem norWrite_steady (s : State) (f : Nor → Nor) : steady (s.norWrite f) = steady s := by simp [State.norWrite]
@[simp] theorem updateStage_steady (c : SealedCmd) (s : State) : steady (updateStage c s).1 = steady s := by
  unfold updateStage
  extract_lets b source key
  split
  · rfl
  · split
    · rfl
    · split
      · rfl
      · split
        rename_i s1 v heq
        have hs : steady s1 = steady s := by
          split at heq
          · exact fst_steady heq (checkKey_steady ..)
          · exact fst_steady heq (checkAll_steady ..)
        split
        · exact hs
        · extract_lets keys get
          split
          · exact hs
          · split
            · exact hs
            · extract_lets blocks whole verdict s2
              split
              · exact hs
              · simp [s2, hs]
@[simp] theorem updateActivate_steady (c : SealedCmd) (s : State) : steady (updateActivate c s).1 = steady s := by simp [updateActivate]
@[simp] theorem updateConfirm_steady (y0 : SealedCmd) (s : State) : steady (updateConfirm y0 s).1 = steady s := by simp [updateConfirm]
@[simp] theorem updateRollback_steady (c : SealedCmd) (s : State) : steady (updateRollback c s).1 = steady s := by simp [updateRollback]
@[simp] theorem updateDiscard_steady (y0 : SealedCmd) (s : State) : steady (updateDiscard y0 s).1 = steady s := by simp [updateDiscard]
@[simp] theorem planReset_steady (s : State) : steady (s.planReset) = steady s := by rfl
@[simp] theorem burnRollback_steady (s : State) : steady (s.burnRollback) = steady s := by rfl
@[simp] theorem burnProvision_steady (s : State) : steady (s.burnProvision) = steady s := by
  unfold State.burnProvision
  split
  · rfl
  · split <;> rfl
@[simp] theorem rdlBeginOp_steady (eth : Bool) (session : Nat) (src : Option Source) (s : State) :
    steady (rdlBeginOp eth session src s).1 = steady s := by
  simp [rdlBeginOp]
@[simp] theorem rdlDataOp_steady (index : Nat) (off : Nat) (data : Bytes) (s : State) :
    steady (rdlDataOp index off data s).1 = steady s := by
  simp only [rdlDataOp]
  split
  · simp
  · split
    · simp
    · split
      · simp
      · split <;> simp
@[simp] theorem rdlEndOp_steady (s : State) : steady (rdlEndOp s).1 = steady s := by rfl
@[simp] theorem spiDownload_steady (s : State) (f : Res) (h : steady f.1 = steady s) : steady (spiDownload s f).1 = steady s := by
  simp [spiDownload, h]
@[simp] theorem serveRdl_steady (src : Source) (p : Bytes) (s : State) (f : Request → Res) (h : ∀ r, steady (f r).1 = steady s) :
    steady (serveRdl src p s f) = steady s := by simp [serveRdl, h]
@[simp] theorem udpBegin_steady (s : State) (r : Request) : steady (udpBegin s r).1 = steady s := by simp [udpBegin]
@[simp] theorem udpRunning_steady (s : State) (r : Request) (ok : Bool) (f : Res) (h : steady f.1 = steady s) :
    steady (udpRunning s r ok f).1 = steady s := by simp [udpRunning, h]
@[simp] theorem udpData_steady (s : State) (r : Request) : steady (udpData s r).1 = steady s := by simp [udpData]
@[simp] theorem udpEnd_steady (s : State) (r : Request) : steady (udpEnd s r).1 = steady s := by simp [udpEnd]
@[simp] theorem udpStatus_steady (s : State) (r : Request) : steady (udpStatus s r).1 = steady s := by simp [udpStatus]
@[simp] theorem udpAny_steady (s : State) (r : Request) : steady (udpAny s r).1 = steady s := by
  unfold udpAny
  split <;> simp
@[simp] theorem setMailboxOwner_steady (c : SealedCmd) (s : State) : steady (setMailboxOwner c s).1 = steady s := by
  simp only [setMailboxOwner]
  split <;> simp
@[simp] theorem provision_steady (c : SealedCmd) (s : State) : steady (provision c s).1 = steady s := by simp [provision]
@[simp] theorem mgmtAnswer_steady (s : State) (src : Source) (e : Bytes) (st : Status) : steady (s.mgmtAnswer src e st) = steady s := by
  rfl
@[simp] theorem mgmtPost_steady (s : State) (src : Source) (m : Fin 8) (e : Bytes) : steady (s.mgmtPost src m e) = steady s := by
  simp [State.mgmtPost]
@[simp] theorem mgmtCancel_steady (s : State) (src : Source) (m : Fin 8) (e : Bytes) : steady (s.mgmtCancel src m e) = steady s := by
  simp [State.mgmtCancel]
@[simp] theorem mgmtRxIn_steady (s : State) (eff : UnitState) (src : Source) (p : Bytes) :
    steady (s.mgmtRxIn eff src p) = steady s := by
  simp [State.mgmtRxIn]
@[simp] theorem mgmtRx_steady (s : State) (src : Source) (p : Bytes) : steady (s.mgmtRx src p) = steady s := by simp [State.mgmtRx]
@[simp] theorem cancelAll_steady (s : State) : steady (s.cancelAll) = steady s := by
  unfold State.cancelAll
  refine foldl_steady (fun t i => ?_) _ _
  split <;> simp
@[simp] theorem riseOwn_steady (s : State) : steady (s.riseOwn) = steady s := by
  unfold State.riseOwn
  split
  · rfl
  · split <;> simp
@[simp] theorem closeFlash_steady (s : State) (m : Nat) : steady (s.closeFlash m) = steady s := by rfl
@[simp] theorem entryDurable_steady (s : State) (e : JournalEntry) : steady (s.entryDurable e) = steady s := by rfl
@[simp] theorem moveDurable_steady (s : State) (m : Nat × Nat × Nat × Nat) : steady (s.moveDurable m) = steady s := by
  simp only [State.moveDurable]
  split
  · rfl
  · split <;> simp
@[simp] theorem flashDurable_steady (s : State) (p : Snap) : steady (s.flashDurable p) = steady s := by simp [State.flashDurable]
@[simp] theorem stillDegraded_steady (s : State) (id : Nat) : steady (s.stillDegraded id) = steady s := by rfl
@[simp] theorem raiseDegraded_steady (s : State) (id : Nat) : steady (s.raiseDegraded id) = steady s := by simp [State.raiseDegraded]
@[simp] theorem raiseMember_steady (s : State) (u : HwUnit) : steady (s.raiseMember u) = steady s := by simp [State.raiseMember]
@[simp] theorem raiseBank_steady (s : State) (u : HwUnit) : steady (s.raiseBank u) = steady s := by simp [State.raiseBank]
@[simp] theorem raiseRank_steady (s : State) (u : HwUnit) : steady (s.raiseRank u) = steady s := by simp [State.raiseRank]
@[simp] theorem raiseLun_steady (s : State) (u : HwUnit) : steady (s.raiseLun u) = steady s := by simp [State.raiseLun]
@[simp] theorem raiseChannel_steady (s : State) (u : HwUnit) : steady (s.raiseChannel u) = steady s := by
  simp only [State.raiseChannel, State.draw]
  split
  · rfl
  · split <;> simp
@[simp] theorem raisePort_steady (s : State) (p : Fin 2) (u : HwUnit) : steady (s.raisePort p u) = steady s := by simp [State.raisePort]
@[simp] theorem raiseUnit_steady (s : State) (u : HwUnit) : steady (s.raiseUnit u) = steady s := by
  unfold State.raiseUnit
  split <;> simp
@[simp] theorem ageViews_steady (s : State) (u : HwUnit) : steady (s.ageViews u) = steady s := by simp [State.ageViews]
@[simp] theorem raiseViews_steady (s : State) : steady (s.raiseViews) = steady s := by simp [State.raiseViews]
@[simp] theorem boundaryUnits_steady (s : State) : steady (s.boundaryUnits) = steady s := by simp [State.boundaryUnits]
@[simp] theorem beginTick_steady (s : State) : steady (s.beginTick) = steady s := by simp [State.beginTick]
@[simp] theorem endTick_steady (s : State) (before : List (Nat × UnitState × UnitState)) : steady (s.endTick before) = steady s := by
  simp [State.endTick]
@[simp] theorem throttle_steady (s : State) (tj : Int) : steady (s.throttle tj) = steady s := by simp [State.throttle]
@[simp] theorem serveWatchdog_steady (s : State) : steady (s.serveWatchdog) = steady s := by simp [State.serveWatchdog]
@[simp] theorem tickPulses_steady (s : State) : steady (s.tickPulses) = steady s := by simp [State.tickPulses]
@[simp] theorem custodyQuiesce_steady (s : State) : steady (s.custodyQuiesce) = steady s := by
  unfold State.custodyQuiesce
  split <;> simp
@[simp] theorem wakeHeld_steady (s : State) (r : Request) : steady (s.wakeHeld r) = steady s := by simp [State.wakeHeld]
@[simp] theorem admitHeld_steady (s : State) : steady (s.admitHeld) = steady s := by simp [State.admitHeld]
@[simp] theorem wakeWaiting_steady (s : State) (i : Item) : steady (s.wakeWaiting i) = steady s := by
  unfold State.wakeWaiting
  split <;> simp
@[simp] theorem admitWaiting_steady (s : State) : steady (s.admitWaiting) = steady s := by simp [State.admitWaiting]
@[simp] theorem scanAll_steady (s : State) : steady (s.scanAll) = steady s := by simp [State.scanAll]
@[simp] theorem countWaits_steady (s : State) : steady (s.countWaits) = steady s := by simp [State.countWaits, State.draw]
@[simp] theorem clearHappenings_steady (s : State) : steady (s.clearHappenings) = steady s := by rfl
@[simp] theorem boundaryMedia_steady (s : State) : steady (s.boundaryMedia) = steady s := by simp [State.boundaryMedia]
@[simp] theorem endSlices_steady (s : State) : steady (s.endSlices) = steady s := by rfl
@[simp] theorem countSystem_steady (s : State) (m : Nat) : steady (s.countSystem m) = steady s := by rfl
@[simp] theorem rxDone_steady (s : State) (p : Fin 2) : steady (s.rxDone p) = steady s := by rfl
@[simp] theorem rxFail_steady (s : State) (p : Fin 2) (c : Ctr) : steady (s.rxFail p c) = steady s := by rfl
@[simp] theorem rxOk_steady (s : State) (p : Fin 2) (f : Frame) : steady (s.rxOk p f) = steady s := by rfl
@[simp] theorem fcsError_steady (s : State) (p : Fin 2) : steady (s.fcsError p) = steady s := by simp [State.fcsError]
@[simp] theorem ptpFrame_steady (s : State) (p : Fin 2) (m : PtpMsg) : steady (s.ptpFrame p m) = steady s := by
  unfold State.ptpFrame
  split <;> simp
theorem skpCheck_steady {s : State} {src : Source} {p : Bytes} {t : State} (h : s.skpCheck src p = .inl t) : steady t = steady s := by
  simp only [State.skpCheck] at h
  split at h
  · cases h; simp
  · split at h
    · cases h; simp
    · split at h
      · cases h
      · split at h <;> · cases h; simp
@[simp] theorem dataFrame_steady (s : State) (p : Fin 2) (f : Frame) (st : UnitState) (src : Source) (payload : Bytes) :
    steady (s.dataFrame p f st src payload) = steady s := by
  simp only [State.dataFrame]
  split
  · rename_i heq
    simp [skpGateIn_steady heq]
  · split
    · rename_i heq
      simp [skpCheck_steady heq]
    · simp
@[simp] theorem ipFrame_steady (s : State) (p : Fin 2) (f : Frame) (st : UnitState) (verified : Bool) (k : Packet) :
    steady (s.ipFrame p f st verified k) = steady s := by
  unfold State.ipFrame
  split <;> simp
@[simp] theorem rxContent_steady (s : State) (p : Fin 2) (f : Frame) (st : UnitState) (verified : Bool) :
    steady (s.rxContent p f st verified) = steady s := by
  unfold State.rxContent
  extract_lets quiet
  cases f.content
  case ip k => cases h : s.ipCheck p k <;> simp [h]
  all_goals simp
@[simp] theorem rxSecured_steady (s : State) (p : Fin 2) (f : Frame) (st : UnitState) : steady (s.rxSecured p f st) = steady s := by
  unfold State.rxSecured
  split <;> simp
@[simp] theorem rxChecks_steady (s : State) (p : Fin 2) (f : Frame) (limit : Nat) (st : UnitState) :
    steady (s.rxChecks p f limit st) = steady s := by
  simp only [State.rxChecks]
  repeat' split
  all_goals simp
@[simp] theorem checkStored_steady (s : State) (p : Fin 2) (a : RxSlot) (rest : List RxSlot) (f : Frame) :
    steady (s.checkStored p a rest f) = steady s := by
  simp [State.checkStored]
@[simp] theorem parsed_steady (s : State) (r : Request) : steady (s.parsed r) = steady s := by
  unfold State.parsed
  split <;> simp
@[simp] theorem readEffect_steady (s : State) (b : Block) (a : Nat) : steady (s.readEffect b a) = steady s := by
  unfold State.readEffect
  extract_lets off
  cases b <;> simp
  split <;> simp
@[simp] theorem readWords_steady (s : State) (n a : Nat) : steady (s.readWords n a).1 = steady s := by
  induction n generalizing s a with
  | zero => rfl
  | succ n ih =>
    unfold State.readWords
    split <;> simp [ih]
@[simp] theorem writeMbx_steady (s : State) (off : Nat) (v : Nat) : steady (s.writeMbx off v) = steady s := by
  unfold State.writeMbx
  split <;> simp
@[simp] theorem writeEvf_steady (s : State) (off : Nat) (v : Nat) : steady (s.writeEvf off v) = steady s := by simp [State.writeEvf]
@[simp] theorem writeWord_steady (s : State) (b : Block) (a : Nat) (v : Nat) : steady (s.writeWord b a v) = steady s := by
  unfold State.writeWord
  split <;> simp
@[simp] theorem writeSome_steady (s : State) (p : Nat → Bool) (n a : Nat) (d : Bytes) : steady (s.writeSome p n a d) = steady s := by
  induction n generalizing s a d with
  | zero => rfl
  | succ n ih =>
    simp only [State.writeSome, ih]
    split <;> simp
@[simp] theorem writeWords_steady (s : State) (n : Nat) (a : Nat) (d : Bytes) : steady (s.writeWords n a d) = steady s := by
  simp [State.writeWords]
@[simp] theorem frameDone_steady (s : State) (start : Nat) (status : Nat) (l : List (Nat × WordErr)) (miso : Bytes) :
    steady (s.frameDone start status l miso) = steady s := by
  rfl
@[simp] theorem readFrame_steady (s : State) (m : Bytes) : steady (s.readFrame m) = steady s := by simp [State.readFrame]
@[simp] theorem writeFrame_steady (s : State) (m : Bytes) : steady (s.writeFrame m) = steady s := by simp [State.writeFrame]
@[simp] theorem ringStart_steady (s : State) (recovery : Bool) : steady (s.ringStart recovery) = steady s := by simp [State.ringStart]
@[simp] theorem enterRecovery_steady (s : State) (reason : Nat) : steady (s.enterRecovery reason) = steady s := by rfl
@[simp] theorem startRanks_steady (s : State) : steady (s.startRanks) = steady s := by
  unfold State.startRanks
  split <;> simp
@[simp] theorem placeFixed_steady (s : State) : steady (s.placeFixed) = steady s := by
  unfold State.placeFixed
  split <;> simp
@[simp] theorem startLuns_steady (s : State) : steady (s.startLuns) = steady s := by
  unfold State.startLuns
  split <;> rfl
@[simp] theorem dropBatches_steady (s : State) : steady (s.dropBatches) = steady s := by simp [State.dropBatches]
@[simp] theorem applySettings_steady (s : State) : steady (s.applySettings) = steady s := by rfl
@[simp] theorem checkPending_steady (s : State) : steady (s.checkPending) = steady s := by simp [State.checkPending]
@[simp] theorem powerUp_steady (s : State) (chip : Nat) : steady (s.powerUp chip) = steady s := by rfl
@[simp] theorem startTests_steady (s : State) (f : Found) : steady (s.startTests f) = steady s := by simp [State.startTests]
@[simp] theorem startMedia_steady (s : State) (f : Found) : steady (s.startMedia f) = steady s := by simp [State.startMedia]
@[simp] theorem closeAll_steady (s : State) : steady (s.closeAll) = steady s := by simp [State.closeAll]
@[simp] theorem flashCustody_steady (s : State) : steady (s.flashCustody) = steady s := by simp [State.flashCustody]
end Sys2Proof.Laws
end

section
namespace Sys2Proof.Laws
open Sys2Proof Sys2Proof.Machine
/-! ## Actions of the event fabric's consumers (k = 0 is the wake, which leaves Custody) -/

theorem act_steady {k : Nat} (hk : k ≠ 0) (s : State) (c : Fin 32) (time : Nat) : steady (s.act c k time) = steady s := by
  unfold State.act
  extract_lets busy
  have hb (t : State) : steady (busy t) = steady t := rfl
  clear_value busy
  split
  · exact absurd rfl hk
  · simp [hb]
  · simp [hb]
  · simp [hb]
  · simp
  · simp [hb]

theorem finish_steady {k : Nat} (hk : k ≠ 0) (s : State) : steady (s.finish k) = steady s := by
  unfold State.finish
  extract_lets s1
  split
  · rfl
  · exact (act_steady hk _ _ _).trans rfl

@[simp] theorem completeFreeze_steady (s : State) (reason : Nat) : steady (s.completeFreeze reason) = steady s := by
  simp [State.completeFreeze, finish_steady]

@[simp] theorem accept_steady (s : State) (r : Report14) : steady (s.accept r) = steady s := by
  unfold State.accept
  split
  · rfl
  · extract_lets post s1 s2 s3
    have h2 : steady s2 = steady s := by simp [s2, s1]
    have h3 : steady s3 = steady s := by
      simp only [s3]
      cases r.trigger <;> simp [h2]
    simp [h3]

@[simp] theorem codaStep_steady (others : Nat) (s : State) : steady (s.codaStep others) = steady s := by
  unfold State.codaStep
  split <;> simp

@[simp] theorem codaDrain_steady (s : State) : steady s.codaDrain = steady s := by simp [State.codaDrain]

@[simp] theorem codaFreezeAct_steady (c : SealedCmd) (s : State) : steady (codaFreezeAct c s).1 = steady s := by
  simp [codaFreezeAct]

/-! ## Commands -/

/-- Neither the effect of a command at its place nor its effect at the boundary touches what is steady. -/
def cmdSteady (d : CmdDef) : Prop := ∀ (c : SealedCmd) (s : State), steady (d.act c s).1 = steady s ∧ steady (d.later c s).1 = steady s

theorem commandsDevice_steady : ∀ d ∈ commandsDevice, cmdSteady d := by
  simp [commandsDevice, cmdSteady, CmdDef.base, cmdDeviceIdentify, cmdDeviceEcho, cmdDeviceStartupStatus, cmdDeviceEnterCustody,
    cmdDeviceSetThermal,
   cmdDeviceReset, cmdDevicePowerStatus, cmdTimeStatus, cmdTimeSetLength, cmdTimeSealLog, cmdUnitQuery,
   cmdUnitSetState, cmdUnitList]
  intro c s
  split <;> simp
theorem commandsNamespaces_steady : ∀ d ∈ commandsNamespaces, cmdSteady d := by
  simp [commandsNamespaces, cmdSteady, CmdDef.base, cmdNamespaceCreate, cmdNamespaceDelete, cmdNamespaceSetQuota, cmdNamespaceInfo,
    cmdNamespaceList,
   cmdNamespaceDigest, cmdNamespaceLedgerHead, cmdNamespaceLedgerTrim, cmdNamespaceSetRetention,
   cmdNamespaceLedgerExport, cmdNamespaceValueDigest]
theorem commandsLarkspur_steady : ∀ d ∈ commandsLarkspur, cmdSteady d := by
  simp [commandsLarkspur, cmdSteady, CmdDef.base, cmdSearchEntryWrite, cmdSearchEntryDelete, cmdSearchSetTables, cmdSearchPatternLoad,
   cmdSearchPatternUnload, cmdSearchCascadeSet, cmdSearchCascadeSwitch, cmdSearchProbe, cmdSearchStats]
theorem commandsNet_steady : ∀ d ∈ commandsNet, cmdSteady d := by
  simp [commandsNet, cmdSteady, CmdDef.base, cmdNetSetPort, cmdNetSetFilter, cmdNetSetAddress, cmdNetSetMgmtPeers, cmdNetSetHeartbeat,
   cmdNetMacsecPolicy, cmdNetMacsecInstallSa, cmdNetMacsecRemoveSa, cmdNetPhyReset, cmdNetMdioWrite,
   cmdNetMdioRead, cmdNetTxFlush, cmdNetPortStatus, cmdNetCounters]
  intro c s
  split <;> simp
theorem commandsMedia_steady : ∀ d ∈ commandsMedia, cmdSteady d := by
  simp [commandsMedia, cmdSteady, CmdDef.base, cmdMediaFormat, cmdMediaSetReadPolicy, cmdMediaSetWarn, cmdMediaAckWarnings, cmdMediaHealth,
   cmdMediaLunHealth]
  intro c s
  split <;> simp
theorem commandsChorus_steady : ∀ d ∈ commandsChorus, cmdSteady d := by
  simp [commandsChorus, cmdSteady, CmdDef.base, cmdChorusForm, cmdChorusLeave, cmdChorusStatus, cmdChorusCheckpoint, cmdChorusCheckpointEnd,
   cmdChorusRestoreEnd, cmdChorusNsCommand, cmdChorusPark, cmdChorusResume]
  refine ⟨fun c s _ => ?_, fun c s => ?_, fun c s => ?_, fun c s => inChorus_steady _ _ _ _ fun k => ?_⟩
  · split <;> simp
  · split <;> simp
  · split <;> simp
  · split
    · simp
    · split
      · split <;> simp
      · simp
theorem commandsEvents_steady : ∀ d ∈ commandsEvents, cmdSteady d := by
  simp [commandsEvents, cmdSteady, CmdDef.base, cmdEventConfigure, cmdEventSetOwner, cmdEventLock, cmdEventEvioConfig, cmdEventSetParams,
   cmdEventTrigger, cmdEventQuery, cmdEventClear]
  refine ⟨fun c s => ⟨?_, ?_⟩, fun c s => ?_⟩
  · split <;> simp
  · split <;> simp
  · split <;> simp
theorem commandsUpdate_steady : ∀ d ∈ commandsUpdate, cmdSteady d := by
  simp [commandsUpdate, cmdSteady, CmdDef.base, cmdUpdateStatus, cmdUpdateStage, cmdUpdateActivate, cmdUpdateConfirm, cmdUpdateRollback,
   cmdUpdateDiscard, cmdUpdateRdlBegin, cmdUpdateRdlData, cmdUpdateRdlEnd, CmdDef.recoveryOnly]
theorem commandsCoda_steady : ∀ d ∈ commandsCoda, cmdSteady d := by
  simp [commandsCoda, cmdSteady, CmdDef.base, cmdCodaRead, cmdCodaList, cmdCodaFreeze, cmdCodaSetTriggers, cmdCodaKeep]

theorem commandsSecurity_steady : ∀ d ∈ commandsSecurity, cmdSteady d := by
  simp [commandsSecurity, cmdSteady, CmdDef.base, cmdSecurityMrsUnlock, cmdSecurityMrsLock, cmdSecuritySetMailboxOwner,
    cmdSecurityLedgerKey,
   cmdSecurityProvision, cmdSecurityStatus]
  intro c s
  split <;> simp

theorem cmdSteady_of_mem {d : CmdDef} (h : d ∈ commands) : cmdSteady d := by
  simp only [commands, List.mem_append] at h
  obtain ((((((((h | h) | h) | h) | h) | h) | h) | h) | h) | h := h
  · exact commandsDevice_steady d h
  · exact commandsNamespaces_steady d h
  · exact commandsLarkspur_steady d h
  · exact commandsNet_steady d h
  · exact commandsMedia_steady d h
  · exact commandsChorus_steady d h
  · exact commandsEvents_steady d h
  · exact commandsUpdate_steady d h
  · exact commandsCoda_steady d h
  · exact commandsSecurity_steady d h

theorem cmdSteady_of_commandOf {op : Nat} {d : CmdDef} (h : commandOf op = some d) : cmdSteady d :=
  cmdSteady_of_mem (List.mem_of_find?_eq_some h)

section
variable {d : CmdDef} (h : cmdSteady d)
include h

theorem answer_steady (c : SealedCmd) (s : State) : steady (d.answer c s).1 = steady s := by
  simp [CmdDef.answer, h c s]

theorem atPlace_steady (c : SealedCmd) (s : State) : steady (d.atPlace c s) = steady s := by
  have ha := answer_steady h c s
  simp only [CmdDef.atPlace]
  split <;> simp [ha]

theorem granted_steady (c : Cmd) (s : State) : steady (d.granted c s) = steady s := by
  simp only [CmdDef.granted, State.admitCmd]
  split
  · simp
  · simp [(h _ _).1]

theorem run_steady (c : Cmd) (s : State) : steady (d.run c s) = steady s := by
  simp [CmdDef.run, granted_steady h]
end

/-! ## Items of a sealed list -/

@[simp] theorem placed_steady (s : State) (ts : List Touch) (run : State → State) (h : ∀ t, steady (run t) = steady t) :
    steady (s.placed ts run) = steady s := by
  simp [State.placed, h]

@[simp] theorem runItem_steady (m : Nat) (chorus : Bool) (s : State) (i : Item) : steady (s.runItem m chorus i) = steady s := by
  cases i with
  | skp r => simp [State.runItem]
  | cmd c =>
    refine placed_steady _ _ _ fun t => ?_
    cases hd : commandOf c.opcode with
    | none => rfl
    | some d => exact atPlace_steady (cmdSteady_of_commandOf hd) c t

@[simp] theorem runEffective_steady (m : Nat) (s : State) : steady (s.runEffective m) = steady s := by
  refine (foldl_steady (fun t p => placed_steady _ _ _ fun u => ?_) _ _).trans (by simp)
  cases hd : commandOf p.2.opcode with
  | none => rfl
  | some d => simp [(cmdSteady_of_commandOf hd p.2 u).2]

@[simp] theorem boundaryCommands_steady (s : State) : steady s.boundaryCommands = steady s := by
  refine (foldl_steady (fun t c => ?_) _ _).trans (by simp)
  cases hd : commandOf c.opcode with
  | none => rfl
  | some d => exact (cmdSteady_of_commandOf hd c t).2

@[simp] theorem fetch_steady (s : State) (m : Fin 8) : steady (s.fetch m) = steady s := by
  simp only [State.fetch]
  split
  · simp
  · split
    · simp
    · cases hd : commandOf (fld (s.mb m).request 0 2) with
      | none => simp
      | some d => exact (granted_steady (cmdSteady_of_commandOf hd) _ _).trans (by simp)
end Sys2Proof.Laws
end

section
namespace Sys2Proof.Laws
open Sys2Proof Sys2Proof.Machine

/-! # No measure opens

What resets, stops, Custody, updates and lists do to the numbers of measures: the open measure may close, the highest number stays. -/

/-- From `s` to `t` no measure has opened: the highest number is kept, and a measure that is open in `t` is the one open in `s`. -/
def opensNone (s t : State) : Prop :=
  t.tb.highest = s.tb.highest ∧ (t.tb.opened = true → s.tb.opened = true ∧ t.tb.measure = s.tb.measure)

theorem opensNone.trans {s t u : State} (h : opensNone s t) (k : opensNone t u) : opensNone s u :=
  ⟨k.1.trans h.1, fun ho => ⟨(h.2 (k.2 ho).1).1, (k.2 ho).2.trans (h.2 (k.2 ho).1).2⟩⟩

theorem opensNone_of_steady {s t : State} (h : steady t = steady s) : opensNone s t := by
  simp only [steady, Prod.mk.injEq] at h
  obtain ⟨hm, hh, ho, -⟩ := h
  exact ⟨hh, fun hx => ⟨ho ▸ hx, hm⟩⟩

/-- A change that leaves the timebase alone opens nothing. -/
theorem opensNone_of_tb {s t : State} (h : t.tb = s.tb) : opensNone s t := by
  rw [opensNone, h]
  exact ⟨rfl, fun ho => ⟨ho, rfl⟩⟩

theorem opensNone.then_steady {s t u : State} (h : opensNone s t) (k : steady u = steady t) : opensNone s u :=
  h.trans (opensNone_of_steady k)

theorem steady.then_opensNone {s t u : State} (h : steady t = steady s) (k : opensNone t u) : opensNone s u :=
  (opensNone_of_steady h).trans k

theorem clearSwitched_opensNone (s : State) : opensNone s s.clearSwitched := ⟨rfl, fun h => nomatch h⟩

theorem exitCustody_opensNone (s : State) (source channel : Nat) : opensNone s (s.exitCustody source channel) := by
  have h := steady.then_opensNone (extrapolate_steady s) (clearSwitched_opensNone _)
  exact h

theorem wake_opensNone (s : State) (source channel : Nat) : opensNone s (s.wake source channel) := by
  unfold State.wake
  split
  · exact exitCustody_opensNone s source channel
  all_goals exact opensNone_of_tb rfl

theorem act_opensNone (s : State) (c : Fin 32) (k time : Nat) : opensNone s (s.act c k time) := by
  by_cases hk : k = 0
  · subst hk; exact wake_opensNone s 1 c
  · exact opensNone_of_steady (act_steady hk s c time)

theorem finish_opensNone (s : State) (k : Nat) : opensNone s (s.finish k) := by
  unfold State.finish
  extract_lets s1
  split
  · exact opensNone_of_tb rfl
  · exact act_opensNone _ _ _ _

theorem deliver_opensNone (s : State) (c : Fin 32) (k time : Nat) (remember : Bool) : opensNone s (s.deliver c k time remember) := by
  unfold State.deliver
  split
  · exact act_opensNone ..
  · exact opensNone_of_steady (by simp)

theorem controllerReset_opensNone (s : State) (cause : ResetCause) : opensNone s (s.controllerReset cause) := by
  have h : opensNone s (s.codaDrain.completeFreeze 3).clearSwitched :=
    steady.then_opensNone (by simp) (clearSwitched_opensNone _)
  exact h

theorem afterStop_opensNone (s : State) : opensNone s s.afterStop := by
  unfold State.afterStop
  split
  · exact controllerReset_opensNone ..
  · split
    · exact opensNone_of_tb rfl
    · exact controllerReset_opensNone ..

theorem fatal_opensNone (s : State) (reason core : Nat) (causing : Option (Nat × Nat × Bytes)) :
    opensNone s (s.fatal reason core causing) := by
  unfold State.fatal
  refine steady.then_opensNone ?_ (controllerReset_opensNone _ _)
  cases causing <;> simp

theorem stopForm_opensNone (s : State) (code : Option ResetCause) : opensNone s (s.stopForm code) := by
  have h1 : opensNone s (s.queueHeartbeats 3 true) := opensNone_of_steady (queueHeartbeats_steady s 3 true)
  unfold State.stopForm
  generalize s.queueHeartbeats 3 true = s1 at h1
  extract_lets s2 s3 s4 s5
  have ht : s5.tb = s1.tb := by simp [s5, s4, s3, s2]
  have h : opensNone s s5 := h1.trans (opensNone_of_tb ht)
  split
  · exact h.then_steady (completeFreeze_steady _ _)
  · exact h

theorem alsoDurable_opensNone (s : State) (f : Store → Store) : opensNone s (s.alsoDurable f) := opensNone_of_tb rfl

theorem confirmDurable_opensNone (s : State) : opensNone s s.confirmDurable := by
  unfold State.confirmDurable
  split
  · split
    · exact opensNone_of_steady (by simp)
    · exact opensNone_of_tb rfl
  · exact opensNone_of_tb rfl

theorem restoreArchive_opensNone (s : State) : opensNone s s.restoreArchive := by
  unfold State.restoreArchive
  split
  · exact opensNone_of_tb rfl
  · rename_i image slot _ _
    extract_lets s1 s2
    have h : opensNone s s2 := steady.then_opensNone (t := s1.releaseHold.setUpd .idle (some 9)) (by simp [s1]) (alsoDurable_opensNone ..)
    exact h

theorem activate_opensNone (s : State) (stream : Bytes) : opensNone s (s.activate stream) := by
  unfold State.activate
  exact steady.then_opensNone (by simp) (alsoDurable_opensNone ..)

theorem migrate_opensNone (s : State) : opensNone s s.migrate := by
  simp only [State.migrate]
  split <;> exact opensNone_of_tb rfl

theorem fallback_opensNone (s : State) : opensNone s s.fallback.1 := by
  unfold State.fallback
  extract_lets n s1
  have h : opensNone s s1 := opensNone_of_tb rfl
  split
  · exact h
  · split
    · exact h.trans (restoreArchive_opensNone _)
    · split
      · exact h
      · exact h.then_steady (by simp)

theorem boot_opensNone (s : State) (strap : Bool) : opensNone s (s.boot strap).1 := by
  unfold State.boot
  split
  · exact opensNone_of_tb rfl
  · split
    · exact opensNone_of_tb rfl
    · split
      · exact opensNone_of_tb rfl
      · extract_lets s1
        have h : opensNone s s1 := opensNone_of_steady (by simp [s1])
        split
        · exact h.trans (restoreArchive_opensNone _)
        · split
          · exact h.trans (opensNone_of_tb rfl)
          · split
            · exact h.trans (fallback_opensNone _)
            · exact h

theorem startUp_opensNone (s : State) : opensNone s s.startUp := by
  unfold State.startUp
  extract_lets s1 s2
  have h : opensNone s s1 :=
    (steady.then_opensNone (t := ((s.ringStart false).startRanks.startLuns.dropBatches.applySettings).checkPending) (by simp)
      (confirmDurable_opensNone _)).then_steady (by simp [s1])
  exact (h.trans (opensNone_of_tb (t := s2) rfl)).then_steady (by simp)

theorem releaseReset_opensNone (s : State) (strap : Bool) (chip : Nat) : opensNone s (s.releaseReset strap chip) := by
  have h : opensNone s ((s.powerUp chip).boot strap).1 := steady.then_opensNone (by simp) (boot_opensNone _ _)
  unfold State.releaseReset
  split
  rename_i s1 why heq
  rw [heq] at h
  split
  · exact h.then_steady (by simp)
  · exact h.trans (startUp_opensNone _)

theorem enterCustody_opensNone (s : State) : opensNone s s.enterCustody := by
  have h : steady s.closeAll.codaDrain.codaCustody.flashCustody = steady s := by simp
  simp only [steady, Prod.mk.injEq] at h
  obtain ⟨-, hh, -⟩ := h
  unfold State.enterCustody
  extract_lets last s1 flushed s2 s3 s4 s5
  have ht : s5.tb = s3.tb := by simp [s5, s4]
  constructor
  · simp [ht, s3, s2, flushed, s1, hh]
  · simp [ht, s3]

theorem startBank_opensNone (s : State) (p : Snap) : opensNone s (s.startBank p).1 := by
  unfold State.startBank
  split
  · exact opensNone_of_tb rfl
  · extract_lets new first
    cases hw : s.write false .slcHost .programFg (some p.measure) first new with
    | none => exact opensNone_of_tb rfl
    | some t => exact (opensNone_of_steady (write_steady hw)).trans (opensNone_of_tb rfl)

theorem startBanks_opensNone (s : State) : opensNone s s.startBanks := by
  unfold State.startBanks
  split
  · exact opensNone_of_tb rfl
  · rename_i p rest _
    have h := startBank_opensNone s p
    split
    rename_i u q hb
    rw [hb] at h
    exact h.trans (opensNone_of_tb rfl)

theorem bankDurable_opensNone (s : State) (p : Snap) (rest : List Snap) : opensNone s (s.bankDurable p rest) := by
  unfold State.bankDurable
  extract_lets s1 s2
  have h : opensNone s (s2.flashDurable p) :=
    (opensNone_of_tb (s := s) (t := s1) rfl).then_steady (by simp [s2])
  exact h

theorem runList_opensNone (s : State) (l : SealedList) (rest : List SealedList) : opensNone s (s.runList l rest) := by
  unfold State.runList
  extract_lets m s0 s1 s2 s3 fresh p
  have he : opensNone s (s.expire m) := opensNone_of_steady (expire_steady _ _)
  have h0 : opensNone s s0 := he.trans (opensNone_of_tb rfl)
  have h1 : opensNone s s1 := h0.then_steady (by simp [s1])
  have h2 : opensNone s s2 := h1.then_steady (by simp [s2])
  exact h2


/-- A step to a state of the block opens no measure. -/
def outOpensNone (s : State) (o : Out) : Prop := ∀ t, o = .next t → opensNone s t

@[simp] theorem outOpensNone_next (s t : State) : outOpensNone s (.next t) ↔ opensNone s t :=
  ⟨fun h => h t rfl, fun h u hu => by cases hu; exact h⟩
theorem outOpensNone_ite {s : State} {c : Prop} [Decidable c] {a b : Out} :
    outOpensNone s (if c then a else b) ↔ (c → outOpensNone s a) ∧ (¬ c → outOpensNone s b) := by
  split <;> simp [*]
end Sys2Proof.Laws
end

section
namespace Sys2Proof.Laws
open Sys2Proof Sys2Proof.Machine

/-! ## The rows that open no measure -/

@[simp] theorem execWdogWarn_opensNone (core : Fin 4) (s : State) : outOpensNone s (execWdogWarn core s) := by
  unfold execWdogWarn
  split <;> simp [opensNone_of_steady]
@[simp] theorem execHoldupOkFall_opensNone (s : State) : outOpensNone s (execHoldupOkFall s) :=
    by simp [execHoldupOkFall, opensNone_of_steady]
@[simp] theorem execThermAlertAssert_opensNone (s : State) : outOpensNone s (execThermAlertAssert s) :=
    by simp [execThermAlertAssert, opensNone_of_steady]
@[simp] theorem execThermalShutdownRelease_opensNone (tj : Int) (s : State) : outOpensNone s (execThermalShutdownRelease tj s) := by
  unfold execThermalShutdownRelease
  split <;> simp [opensNone_of_steady]
@[simp] theorem execXtal32Stable_opensNone (s : State) : outOpensNone s (execXtal32Stable s) :=
    by simp [execXtal32Stable, opensNone_of_steady]
@[simp] theorem execRxFrameAdmit_opensNone (port : Fin 2) (s : State) : outOpensNone s (execRxFrameAdmit port s) :=
    by simp [execRxFrameAdmit, opensNone_of_steady]
@[simp] theorem execPauseReceive_opensNone (port : Fin 2) (quanta : Nat) (s : State) :
    outOpensNone s (execPauseReceive port quanta s) :=
    by simp [execPauseReceive, opensNone_of_steady]
@[simp] theorem execReceivedPauseExpiry_opensNone (port : Fin 2) (pausedUs : Nat) (s : State) :
    outOpensNone s (execReceivedPauseExpiry port pausedUs s) :=
    by simp [execReceivedPauseExpiry, opensNone_of_steady]
@[simp] theorem execPauseRepeat_opensNone (port : Fin 2) (s : State) : outOpensNone s (execPauseRepeat port s) :=
    by simp [execPauseRepeat, opensNone_of_steady]
@[simp] theorem execFrameTransmitStart_opensNone (port : Fin 2) (s : State) : outOpensNone s (execFrameTransmitStart port s) := by
  unfold execFrameTransmitStart
  (repeat' split) <;> simp [opensNone_of_steady]
@[simp] theorem execTxDescriptorCancel_opensNone (port : Fin 2) (descriptor : Nat) (s : State) :
    outOpensNone s (execTxDescriptorCancel port descriptor s) :=
    by simp [execTxDescriptorCancel, opensNone_of_steady]
@[simp] theorem execHeartbeatQueue_opensNone (s : State) : outOpensNone s (execHeartbeatQueue s) :=
    by simp [execHeartbeatQueue, opensNone_of_steady]
@[simp] theorem execDepartureHeartbeatExpiry_opensNone (port : Fin 2) (s : State) :
    outOpensNone s (execDepartureHeartbeatExpiry port s) :=
    by simp [execDepartureHeartbeatExpiry, opensNone_of_steady]
@[simp] theorem execLinkDown_opensNone (port : Fin 2) (s : State) : outOpensNone s (execLinkDown port s) :=
    by simp [execLinkDown, opensNone_of_steady]
@[simp] theorem execLinkUp_opensNone (port : Fin 2) (rate : Nat) (fullDuplex : Bool) (s : State) :
    outOpensNone s (execLinkUp port rate fullDuplex s) :=
    by simp [execLinkUp, opensNone_of_steady]
@[simp] theorem execPhyIntPoll_opensNone (port : Fin 2) (register : Nat) (value : Nat) (s : State) :
    outOpensNone s (execPhyIntPoll port register value s) :=
    by simp [execPhyIntPoll, opensNone_of_steady]
@[simp] theorem execPhyResetRelease_opensNone (phy : PhyRelease) (s : State) : outOpensNone s (execPhyResetRelease phy s) :=
    by simp [execPhyResetRelease, opensNone_of_steady]
@[simp] theorem execArpRequestReceive_opensNone (port : Fin 2) (vid : Nat) (target : Nat) (senderIp : Nat) (senderMac : Nat)
    (s : State) : outOpensNone s (execArpRequestReceive port vid target senderIp senderMac s) :=
    by simp [execArpRequestReceive, opensNone_of_steady]
@[simp] theorem execNeighborSolicitationReceive_opensNone (port : Fin 2) (vid : Nat) (target : Nat) (source : Nat) (s : State) :
    outOpensNone s (execNeighborSolicitationReceive port vid target source s) :=
    by simp [execNeighborSolicitationReceive, opensNone_of_steady]
@[simp] theorem execEchoRequestReceive_opensNone (port : Fin 2) (vid : Nat) (packet : Packet) (s : State) :
    outOpensNone s (execEchoRequestReceive port vid packet s) :=
    by simp [execEchoRequestReceive, opensNone_of_steady]
@[simp] theorem execGptpSyncReceive_opensNone (port : Fin 2) (logInterval : Int) (time : Nat) (s : State) :
    outOpensNone s (execGptpSyncReceive port logInterval time s) :=
    by simp [execGptpSyncReceive, opensNone_of_steady]
@[simp] theorem execSyncLoss_opensNone (port : Fin 2) (s : State) : outOpensNone s (execSyncLoss port s) :=
    by simp [execSyncLoss, opensNone_of_steady]
@[simp] theorem execHoldoverExpiry_opensNone (s : State) : outOpensNone s (execHoldoverExpiry s) :=
    by simp [execHoldoverExpiry, opensNone_of_steady]
@[simp] theorem execPdelayReqReceive_opensNone (port : Fin 2) (seq : Nat) (t2 : Nat) (s : State) :
    outOpensNone s (execPdelayReqReceive port seq t2 s) :=
    by simp [execPdelayReqReceive, opensNone_of_steady]
@[simp] theorem execPdelayRespReceive_opensNone (port : Fin 2) (seq : Nat) (t2 : Nat) (t3 : Nat) (t4 : Nat) (s : State) :
    outOpensNone s (execPdelayRespReceive port seq t2 t3 t4 s) :=
    by simp [execPdelayRespReceive, opensNone_of_steady]
@[simp] theorem execPdelayReqSend_opensNone (port : Fin 2) (t1 : Nat) (s : State) : outOpensNone s (execPdelayReqSend port t1 s) :=
    by simp [execPdelayReqSend, opensNone_of_steady]
@[simp] theorem execPpsInEdge_opensNone (time : Nat) (s : State) : outOpensNone s (execPpsInEdge time s) :=
    by simp [execPpsInEdge, opensNone_of_steady]
@[simp] theorem execPpsOutSecond_opensNone (s : State) : outOpensNone s (execPpsOutSecond s) :=
    by simp [execPpsOutSecond, opensNone_of_steady]
@[simp] theorem execPpsOutPulseEnd_opensNone (s : State) : outOpensNone s (execPpsOutPulseEnd s) :=
    by simp [execPpsOutPulseEnd, opensNone_of_steady]
@[simp] theorem execLarkspurScrub_opensNone (upsets : List Upset) (s : State) : outOpensNone s (execLarkspurScrub upsets s) := by
  unfold execLarkspurScrub
  split <;> simp [opensNone_of_steady]
@[simp] theorem execLarkspurForcedScrub_opensNone (s : State) : outOpensNone s (execLarkspurForcedScrub s) :=
    by simp [execLarkspurForcedScrub, opensNone_of_steady]
@[simp] theorem execOnePlaceMove_opensNone (table : Fin 5) (s : State) : outOpensNone s (execOnePlaceMove table s) := by
  simp only [execOnePlaceMove]
  (repeat' split) <;> simp [opensNone_of_steady]
@[simp] theorem execShadowRebuild_opensNone (pair : Fin 8) (s : State) : outOpensNone s (execShadowRebuild pair s) :=
    by simp [execShadowRebuild, opensNone_of_steady]
@[simp] theorem execBankRequalify_opensNone (bank : Fin 16) (passed : Bool) (s : State) :
    outOpensNone s (execBankRequalify bank passed s) :=
    by
  simp only [execBankRequalify]
  (repeat' split) <;> simp [opensNone_of_steady]
@[simp] theorem execCascadeTransaction_opensNone (header : Byte) (word : Bytes) (matchIn : Bool) (result : Bytes) (s : State) :
    outOpensNone s (execCascadeTransaction header word matchIn result s) :=
    by
  simp only [execCascadeTransaction]
  (repeat' split) <;> simp [opensNone_of_steady]
@[simp] theorem execCascadeLoss_opensNone (y0 : CascadeLoss) (s : State) : outOpensNone s (execCascadeLoss y0 s) :=
    by simp [execCascadeLoss, opensNone_of_steady]
@[simp] theorem execCascadeGenerationCopy_opensNone (s : State) : outOpensNone s (execCascadeGenerationCopy s) := by
  unfold execCascadeGenerationCopy
  split <;> simp [opensNone_of_steady]
@[simp] theorem execGet_opensNone (r : Request) (s : State) : outOpensNone s (execGet r s) := by simp [execGet, opensNone_of_steady]
@[simp] theorem execPut_opensNone (r : Request) (s : State) : outOpensNone s (execPut r s) := by simp [execPut, opensNone_of_steady]
@[simp] theorem execDelete_opensNone (r : Request) (s : State) : outOpensNone s (execDelete r s) :=
    by simp [execDelete, opensNone_of_steady]
@[simp] theorem execCas_opensNone (r : Request) (s : State) : outOpensNone s (execCas r s) := by simp [execCas, opensNone_of_steady]
@[simp] theorem execAppend_opensNone (r : Request) (s : State) : outOpensNone s (execAppend r s) :=
    by simp [execAppend, opensNone_of_steady]
@[simp] theorem execScan_opensNone (r : Request) (s : State) : outOpensNone s (execScan r s) := by simp [execScan, opensNone_of_steady]
@[simp] theorem execWatch_opensNone (r : Request) (s : State) :
    outOpensNone s (execWatch r s) := by simp [execWatch, opensNone_of_steady]
@[simp] theorem execWatchStop_opensNone (r : Request) (s : State) : outOpensNone s (execWatchStop r s) :=
    by simp [execWatchStop, opensNone_of_steady]
@[simp] theorem execBatchOpen_opensNone (r : Request) (s : State) : outOpensNone s (execBatchOpen r s) :=
    by simp [execBatchOpen, opensNone_of_steady]
@[simp] theorem execBatchClose_opensNone (r : Request) (s : State) : outOpensNone s (execBatchClose r s) :=
    by simp [execBatchClose, opensNone_of_steady]
@[simp] theorem execCancel_opensNone (r : Request) (s : State) : outOpensNone s (execCancel r s) :=
    by simp [execCancel, opensNone_of_steady]
@[simp] theorem execSegment_opensNone (r : Request) (s : State) : outOpensNone s (execSegment r s) :=
    by simp [execSegment, opensNone_of_steady]
@[simp] theorem execSegmentCommit_opensNone (r : Request) (s : State) : outOpensNone s (execSegmentCommit r s) :=
    by simp [execSegmentCommit, opensNone_of_steady]
@[simp] theorem execSegmentAbort_opensNone (r : Request) (s : State) : outOpensNone s (execSegmentAbort r s) :=
    by simp [execSegmentAbort, opensNone_of_steady]
@[simp] theorem execStanzaRead_opensNone (r : Request) (s : State) : outOpensNone s (execStanzaRead r s) :=
    by simp [execStanzaRead, opensNone_of_steady]
@[simp] theorem execStanzaLoad_opensNone (r : Request) (s : State) : outOpensNone s (execStanzaLoad r s) :=
    by simp [execStanzaLoad, opensNone_of_steady]
@[simp] theorem execHello_opensNone (r : Request) (s : State) :
    outOpensNone s (execHello r s) := by simp [execHello, opensNone_of_steady]
@[simp] theorem execBye_opensNone (r : Request) (s : State) : outOpensNone s (execBye r s) := by simp [execBye, opensNone_of_steady]
@[simp] theorem execCredit_opensNone (r : Request) (s : State) : outOpensNone s (execCredit r s) :=
    by simp [execCredit, opensNone_of_steady]
@[simp] theorem execHeartbeat_opensNone (r : Request) (s : State) : outOpensNone s (execHeartbeat r s) :=
    by simp [execHeartbeat, opensNone_of_steady]
@[simp] theorem execGapTimeout_opensNone (session : Nat) (s : State) : outOpensNone s (execGapTimeout session s) :=
    by simp [execGapTimeout, opensNone_of_steady]
@[simp] theorem execBatchDeadline_opensNone (session : Nat) (s : State) : outOpensNone s (execBatchDeadline session s) :=
    by simp [execBatchDeadline, opensNone_of_steady]
@[simp] theorem execSegmentedValueDeadline_opensNone (session : Nat) (s : State) :
    outOpensNone s (execSegmentedValueDeadline session s) :=
    by simp [execSegmentedValueDeadline, opensNone_of_steady]
@[simp] theorem execSessionIdleClose_opensNone (session : Nat) (s : State) : outOpensNone s (execSessionIdleClose session s) :=
    by simp [execSessionIdleClose, opensNone_of_steady]
@[simp] theorem execWatchDurationEnd_opensNone (session : Nat) (seq : Nat) (s : State) :
    outOpensNone s (execWatchDurationEnd session seq s) :=
    by simp [execWatchDurationEnd, opensNone_of_steady]
@[simp] theorem execWatchLimitReached_opensNone (session : Nat) (seq : Nat) (s : State) :
    outOpensNone s (execWatchLimitReached session seq s) :=
    by simp [execWatchLimitReached, opensNone_of_steady]
@[simp] theorem execDigest_opensNone (r : Request) (s : State) : outOpensNone s (execDigest r s) :=
    by simp [execDigest, opensNone_of_steady]
@[simp] theorem execPullList_opensNone (r : Request) (s : State) : outOpensNone s (execPullList r s) :=
    by simp [execPullList, opensNone_of_steady]
@[simp] theorem execPullFetch_opensNone (r : Request) (s : State) : outOpensNone s (execPullFetch r s) :=
    by simp [execPullFetch, opensNone_of_steady]
@[simp] theorem execPullSets_opensNone (r : Request) (s : State) : outOpensNone s (execPullSets r s) :=
    by simp [execPullSets, opensNone_of_steady]
@[simp] theorem execPullTransfer_opensNone (r : Request) (s : State) : outOpensNone s (execPullTransfer r s) :=
    by simp [execPullTransfer, opensNone_of_steady]
@[simp] theorem execPullResponseReceive_opensNone (a : PullAnswer) (s : State) : outOpensNone s (execPullResponseReceive a s) :=
    by simp [execPullResponseReceive, opensNone_of_steady]
@[simp] theorem execDigestRoundSend_opensNone (round : Fin 2) (copy : Bool) (s : State) :
    outOpensNone s (execDigestRoundSend round copy s) :=
    by
  unfold execDigestRoundSend
  (repeat' split) <;> simp [opensNone_of_steady]
@[simp] theorem execPeerSilenceTimeout_opensNone (member : Fin 8) (s : State) : outOpensNone s (execPeerSilenceTimeout member s) := by
  unfold execPeerSilenceTimeout
  (repeat' split) <;> simp [opensNone_of_steady]
@[simp] theorem execChorusCatchUp_opensNone (s : State) : outOpensNone s (execChorusCatchUp s) :=
    by simp [execChorusCatchUp, opensNone_of_steady]
@[simp] theorem execChorusTransferRejoin_opensNone (s : State) : outOpensNone s (execChorusTransferRejoin s) :=
    by simp [execChorusTransferRejoin, opensNone_of_steady]
@[simp] theorem execTransferWindowExpiry_opensNone (s : State) : outOpensNone s (execTransferWindowExpiry s) :=
    by simp [execTransferWindowExpiry, opensNone_of_steady]
@[simp] theorem execSnapshotExpiry_opensNone (s : State) : outOpensNone s (execSnapshotExpiry s) :=
    by simp [execSnapshotExpiry, opensNone_of_steady]
@[simp] theorem execChainConfirmDeadline_opensNone (measure : Nat) (s : State) : outOpensNone s (execChainConfirmDeadline measure s) :=
    by simp [execChainConfirmDeadline, opensNone_of_steady]
@[simp] theorem execOwnershipRequest_opensNone (line : Nat) (cores : List (Fin 4)) (writeback : Bool) (s : State) :
    outOpensNone s (execOwnershipRequest line cores writeback s) :=
    by
  unfold execOwnershipRequest
  split <;> simp [opensNone_of_steady]
@[simp] theorem execOwnershipRetry_opensNone (line : Nat) (s : State) : outOpensNone s (execOwnershipRetry line s) := by
  unfold execOwnershipRetry
  split <;> simp [opensNone_of_steady]
@[simp] theorem execDebugHalt_opensNone (core : Fin 4) (halt : Bool) (s : State) : outOpensNone s (execDebugHalt core halt s) := by
  unfold execDebugHalt
  (repeat' split) <;> simp [opensNone_of_steady]
@[simp] theorem execJtagBypass_opensNone (s : State) :
    outOpensNone s (execJtagBypass s) := by simp [execJtagBypass, opensNone_of_steady]
@[simp] theorem execJtagIdcode_opensNone (s : State) :
    outOpensNone s (execJtagIdcode s) := by simp [execJtagIdcode, opensNone_of_steady]
@[simp] theorem execJtagSamplePreload_opensNone (boundary : Nat) (s : State) : outOpensNone s (execJtagSamplePreload boundary s) :=
    by simp [execJtagSamplePreload, opensNone_of_steady]
@[simp] theorem execJtagExtest_opensNone (s : State) : outOpensNone s (execJtagExtest s) := by
  unfold execJtagExtest
  split <;> simp [opensNone_of_steady]
@[simp] theorem execJtagClamp_opensNone (s : State) : outOpensNone s (execJtagClamp s) := by simp [execJtagClamp, opensNone_of_steady]
@[simp] theorem execJtagHighz_opensNone (s : State) : outOpensNone s (execJtagHighz s) := by simp [execJtagHighz, opensNone_of_steady]
@[simp] theorem execEvioInputEdge_opensNone (ball : Fin 16) (rising : Bool) (y2 : Nat) (s : State) :
    outOpensNone s (execEvioInputEdge ball rising y2 s) :=
    by simp [execEvioInputEdge, opensNone_of_steady]
@[simp] theorem execAonTimerExpiry_opensNone (s : State) : outOpensNone s (execAonTimerExpiry s) :=
    by simp [execAonTimerExpiry, opensNone_of_steady]
@[simp] theorem execCodaEntryWrite_opensNone (s : State) : outOpensNone s (execCodaEntryWrite s) := by
  unfold execCodaEntryWrite
  split <;> simp [opensNone_of_steady]
@[simp] theorem execFreezeTimeout_opensNone (s : State) : outOpensNone s (execFreezeTimeout s) :=
    by simp [execFreezeTimeout, opensNone_of_steady]
@[simp] theorem execCodaRecordCopy_opensNone (s : State) : outOpensNone s (execCodaRecordCopy s) :=
    by simp [execCodaRecordCopy, opensNone_of_steady]
@[simp] theorem execVaultFlush_opensNone (s : State) : outOpensNone s (execVaultFlush s) := by
  unfold execVaultFlush
  split <;> simp [opensNone_of_steady]
@[simp] theorem execNandOpComplete_opensNone (lun : Nat) (r : NandResult) (s : State) :
    outOpensNone s (execNandOpComplete lun r s) := by
  unfold execNandOpComplete
  (repeat' split) <;> simp [opensNone_of_steady]
@[simp] theorem execNandOpTimeout_opensNone (lun : Nat) (s : State) : outOpensNone s (execNandOpTimeout lun s) := by
  simp only [execNandOpTimeout]
  (repeat' split) <;> simp [opensNone_of_steady]
@[simp] theorem execLunSlotBoundary_opensNone (lun : Nat) (y1 : Fin 16) (s : State) :
    outOpensNone s (execLunSlotBoundary lun y1 s) := by
  unfold execLunSlotBoundary
  split <;> simp [opensNone_of_steady]
@[simp] theorem execBackgroundDenialExpiry_opensNone (unit : Nat) (s : State) : outOpensNone s (execBackgroundDenialExpiry unit s) := by
  unfold execBackgroundDenialExpiry
  split <;> simp [opensNone_of_steady]
@[simp] theorem execEraseDone_opensNone (group : Nat) (blocks : SbOnLun) (s : State) :
    outOpensNone s (execEraseDone group blocks s) := by
  simp only [execEraseDone]
  (repeat' split) <;> simp [opensNone_of_steady]
@[simp] theorem execGarbageCollection_opensNone (group : Nat) (s : State) : outOpensNone s (execGarbageCollection group s) := by
  simp only [execGarbageCollection]
  (repeat' split) <;> simp [opensNone_of_steady]
@[simp] theorem execFolding_opensNone (group : Nat) (s : State) : outOpensNone s (execFolding group s) := by
  unfold execFolding
  (repeat' split) <;> simp [opensNone_of_steady]
@[simp] theorem execWearMove_opensNone (group : Nat) (s : State) : outOpensNone s (execWearMove group s) := by
  unfold execWearMove
  (repeat' split) <;> simp [opensNone_of_steady]
@[simp] theorem execScrub_opensNone (group : Nat) (blocks : SbOnLun) (errLow : Nat) (errMid : Nat) (errHigh : Nat) (s : State) :
    outOpensNone s (execScrub group blocks errLow errMid errHigh s) :=
    by
  simp only [execScrub]
  (repeat' split) <;> simp [opensNone_of_steady]
@[simp] theorem execRefresh_opensNone (group : Nat) (num : Nat) (s : State) : outOpensNone s (execRefresh group num s) := by
  unfold execRefresh
  (repeat' split) <;> simp [opensNone_of_steady]
@[simp] theorem execEvacuation_opensNone (lun : Nat) (s : State) : outOpensNone s (execEvacuation lun s) := by
  simp only [execEvacuation]
  (repeat' split) <;> simp [opensNone_of_steady]
@[simp] theorem execTemperatureSample_opensNone (temps : List (Nat × Int)) (s : State) :
    outOpensNone s (execTemperatureSample temps s) :=
    by
  unfold execTemperatureSample
  (repeat' split) <;> simp [opensNone_of_steady]
@[simp] theorem execPendingRegionWritten_opensNone (s : State) : outOpensNone s (execPendingRegionWritten s) := by
  unfold execPendingRegionWritten
  (repeat' split) <;> simp [opensNone_of_steady]
@[simp] theorem execArchiveDurable_opensNone (s : State) : outOpensNone s (execArchiveDurable s) := by
  unfold execArchiveDurable
  split <;> simp [opensNone_of_steady]
@[simp] theorem execBootRecordArmedWrite_opensNone (s : State) : outOpensNone s (execBootRecordArmedWrite s) := by
  unfold execBootRecordArmedWrite
  split <;> simp [opensNone_of_steady]
@[simp] theorem execInstallReady_opensNone (s : State) : outOpensNone s (execInstallReady s) := by
  unfold execInstallReady
  split <;> simp [opensNone_of_steady]
@[simp] theorem execBootRecordRevertingWrite_opensNone (s : State) : outOpensNone s (execBootRecordRevertingWrite s) := by
  unfold execBootRecordRevertingWrite
  split <;> simp [opensNone_of_steady]
@[simp] theorem execProvisionFuseBurn_opensNone (s : State) : outOpensNone s (execProvisionFuseBurn s) := by
  unfold execProvisionFuseBurn
  split <;> simp [opensNone_of_steady]
@[simp] theorem execSettingsMirrorWrite_opensNone (s : State) : outOpensNone s (execSettingsMirrorWrite s) := by
  simp only [execSettingsMirrorWrite]
  (repeat' split) <;> simp [opensNone_of_steady]
@[simp] theorem execRdlBegin_opensNone (src : Source) (p : Bytes) (s : State) : outOpensNone s (execRdlBegin src p s) :=
    by simp [execRdlBegin, opensNone_of_steady]
@[simp] theorem execRdlData_opensNone (src : Source) (p : Bytes) (s : State) : outOpensNone s (execRdlData src p s) :=
    by simp [execRdlData, opensNone_of_steady]
@[simp] theorem execRdlEnd_opensNone (src : Source) (p : Bytes) (s : State) : outOpensNone s (execRdlEnd src p s) :=
    by simp [execRdlEnd, opensNone_of_steady]
@[simp] theorem execRdlStatus_opensNone (src : Source) (p : Bytes) (s : State) : outOpensNone s (execRdlStatus src p s) :=
    by simp [execRdlStatus, opensNone_of_steady]
@[simp] theorem execMailboxFetch_opensNone (s : State) : outOpensNone s (execMailboxFetch s) := by
  unfold execMailboxFetch
  (repeat' split) <;> simp [opensNone_of_steady]
@[simp] theorem execMailboxLoadingTimeout_opensNone (m : Fin 8) (s : State) : outOpensNone s (execMailboxLoadingTimeout m s) := by
  unfold execMailboxLoadingTimeout
  split <;> simp [opensNone_of_steady]
@[simp] theorem execMgmtMessage_opensNone (src : Source) (p : Bytes) (s : State) : outOpensNone s (execMgmtMessage src p s) :=
    by simp [execMgmtMessage, opensNone_of_steady]
@[simp] theorem execMgmtMessageCancel_opensNone (src : Source) (p : Bytes) (s : State) :
    outOpensNone s (execMgmtMessageCancel src p s) :=
    by simp [execMgmtMessageCancel, opensNone_of_steady]
@[simp] theorem execStartupGptpWaitExpiry_opensNone (s : State) : outOpensNone s (execStartupGptpWaitExpiry s) := by
  unfold execStartupGptpWaitExpiry
  split <;> simp [opensNone_of_steady]
@[simp] theorem execRxFrameCheck_opensNone (port : Fin 2) (frame : Frame) (s : State) :
    outOpensNone s (execRxFrameCheck port frame s) :=
    by
  simp only [execRxFrameCheck]
  (repeat' split) <;> simp [opensNone_of_steady]
@[simp] theorem execRequestToAdmissionPort_opensNone (port : Fin 2) (s : State) :
    outOpensNone s (execRequestToAdmissionPort port s) := by
  unfold execRequestToAdmissionPort
  split <;> simp [opensNone_of_steady]
@[simp] theorem execSpiWriteFrame_opensNone (m : Bytes) (s : State) : outOpensNone s (execSpiWriteFrame m s) :=
    by simp [execSpiWriteFrame, opensNone_of_steady]
@[simp] theorem execSpiReadFrame_opensNone (m : Bytes) (s : State) : outOpensNone s (execSpiReadFrame m s) :=
    by simp [execSpiReadFrame, opensNone_of_steady]
@[simp] theorem execMbxDoorbell_opensNone (m : Fin 8) (s : State) : outOpensNone s (execMbxDoorbell m s) :=
    by simp [execMbxDoorbell, opensNone_of_steady]
@[simp] theorem execMbxCtrlCancel_opensNone (m : Fin 8) (s : State) : outOpensNone s (execMbxCtrlCancel m s) :=
    by simp [execMbxCtrlCancel, opensNone_of_steady]
@[simp] theorem execMbxRelease_opensNone (m : Fin 8) (s : State) : outOpensNone s (execMbxRelease m s) :=
    by simp [execMbxRelease, opensNone_of_steady]
@[simp] theorem execMbxRequestWindowWrite_opensNone (off : Nat) (d : Bytes) (s : State) :
    outOpensNone s (execMbxRequestWindowWrite off d s) :=
    by simp [execMbxRequestWindowWrite, opensNone_of_steady]
@[simp] theorem execTmbMeasureLoRead_opensNone (s : State) : outOpensNone s (execTmbMeasureLoRead s) :=
    by simp [execTmbMeasureLoRead, opensNone_of_steady]
@[simp] theorem execMacCounterLowRead_opensNone (p : Fin 2) (c : Fin 30) (s : State) : outOpensNone s (execMacCounterLowRead p c s) :=
    by simp [execMacCounterLowRead, opensNone_of_steady]
@[simp] theorem execMac0PpsLoRead_opensNone (s : State) : outOpensNone s (execMac0PpsLoRead s) :=
    by simp [execMac0PpsLoRead, opensNone_of_steady]
@[simp] theorem execEvfChTsLoRead_opensNone (s : State) : outOpensNone s (execEvfChTsLoRead s) :=
    by simp [execEvfChTsLoRead, opensNone_of_steady]
@[simp] theorem execCustodyPortStopTimeout_opensNone (s : State) : outOpensNone s (execCustodyPortStopTimeout s) := by
  unfold execCustodyPortStopTimeout
  split <;> simp [opensNone_of_steady]

@[simp] theorem execPorstNAssert_opensNone (s : State) : outOpensNone s (execPorstNAssert s) := by
  simp [execPorstNAssert, controllerReset_opensNone]

@[simp] theorem execSysRstNAssert_opensNone (s : State) : outOpensNone s (execSysRstNAssert s) := by
  simp [execSysRstNAssert, controllerReset_opensNone]

@[simp] theorem execWatchdogExpiry_opensNone (s : State) : outOpensNone s (execWatchdogExpiry s) := by
  unfold execWatchdogExpiry
  split
  · simp [opensNone_of_steady]
  · exact (outOpensNone_next ..).2 (steady.then_opensNone (by simp) (controllerReset_opensNone _ _))

@[simp] theorem execInternalFatalError_opensNone (reason : Nat) (core : Fin 4) (s : State) :
    outOpensNone s (execInternalFatalError reason core s) := by
  simp [execInternalFatalError, fatal_opensNone]

@[simp] theorem execPwrFailAssert_opensNone (offsetUs : Nat) (s : State) : outOpensNone s (execPwrFailAssert offsetUs s) := by
  have h : opensNone s (s.modPower fun p => { p with pwrFail := true }) := opensNone_of_tb rfl
  unfold execPwrFailAssert
  extract_lets s1
  split
  · exact (outOpensNone_next ..).2 h
  · split <;> rw [outOpensNone_next]
    · exact (h.then_steady (by simp [s1])).trans (stopForm_opensNone _ _)
    · exact (h.then_steady (by simp [s1])).trans (stopForm_opensNone _ _)
    · exact h.then_steady (by simp [s1])
    · exact (h.trans (controllerReset_opensNone _ .powerReturn)).trans (opensNone_of_tb rfl)
    · exact h.then_steady (by simp [s1])
    · exact h

@[simp] theorem execStopQuiesceComplete_opensNone (quiesce10us : Nat) (s : State) :
    outOpensNone s (execStopQuiesceComplete quiesce10us s) := by
  unfold execStopQuiesceComplete
  split
  · extract_lets s1 s2 s3
    have h1 : opensNone s s1 := opensNone_of_steady (by simp [s1])
    exact (outOpensNone_next ..).2 ((h1.trans (opensNone_of_tb (t := s3) rfl)).trans (afterStop_opensNone _))
  · exact (outOpensNone_next ..).2 (opensNone_of_tb rfl)

@[simp] theorem execPowerReturn_opensNone (s : State) : outOpensNone s (execPowerReturn s) := by
  have h : opensNone s (s.modPower fun p => { p with pwrFail := false, held := false, holdupOk := true }) := opensNone_of_tb rfl
  unfold execPowerReturn
  extract_lets s1
  split <;> rw [outOpensNone_next]
  · exact h.trans (controllerReset_opensNone _ _)
  · exact h

@[simp] theorem execDeviceResetQuiesceStart_opensNone (s : State) : outOpensNone s (execDeviceResetQuiesceStart s) := by
  unfold execDeviceResetQuiesceStart
  split
  · split <;> rw [outOpensNone_next]
    · exact stopForm_opensNone _ _
    · exact opensNone_of_tb rfl
  · exact (outOpensNone_next ..).2 (opensNone_of_tb rfl)

@[simp] theorem execThermalShutdown_opensNone (tj : Int) (s : State) : outOpensNone s (execThermalShutdown tj s) := by
  unfold execThermalShutdown
  split
  · exact (outOpensNone_next ..).2 (opensNone_of_tb rfl)
  · extract_lets s1
    have h1 : opensNone s s1 := opensNone_of_steady (by simp [s1])
    split <;> rw [outOpensNone_next]
    · exact h1.trans (stopForm_opensNone _ _)
    · exact h1.trans (stopForm_opensNone _ _)
    · exact h1.trans (opensNone_of_tb rfl)
    all_goals exact h1.trans (controllerReset_opensNone _ _)

@[simp] theorem execWakeRise_opensNone (s : State) : outOpensNone s (execWakeRise s) :=
  (outOpensNone_next ..).2 (steady.then_opensNone (t := s.pulse 0) (by simp) (wake_opensNone _ _ _))

@[simp] theorem execProtectionFault_opensNone (core : Fin 4) (access : Access) (start size : Nat) (s : State) :
    outOpensNone s (execProtectionFault core access start size s) := by
  unfold execProtectionFault
  split
  rename_i d s1 hd
  have h1 : opensNone s s1 := by
    split at hd
    · exact opensNone_of_steady (fst_steady (p := (s1, d)) rfl (by cases hd; simp))
    · cases hd; exact opensNone_of_tb rfl
  extract_lets rs
  split
  · exact (outOpensNone_next ..).2 h1
  · split <;> rw [outOpensNone_next]
    · exact h1.trans (fatal_opensNone _ _ _ _)
    · exact h1

@[simp] theorem execEventDeliver_opensNone (channel : Fin 32) (consumer : Fin 64) (merged : Bool) (time : Nat) (s : State) :
    outOpensNone s (execEventDeliver channel consumer merged time s) := by
  refine (outOpensNone_next ..).2 ?_
  split
  · exact opensNone_of_tb rfl
  · rename_i f _
    extract_lets s1
    have h1 : opensNone s s1 := opensNone_of_tb rfl
    split
    · exact h1.then_steady (by simp)
    · split
      · exact h1.then_steady (by simp)
      · exact h1.trans (deliver_opensNone _ _ _ _ _)

@[simp] theorem execConsumerActionComplete_opensNone (consumer : Fin 64) (s : State) :
    outOpensNone s (execConsumerActionComplete consumer s) := by
  refine (outOpensNone_next ..).2 ?_
  split
  · exact finish_opensNone _ _
  · exact opensNone_of_tb rfl

@[simp] theorem execLpddr5PatrolPass_opensNone (rank : Fin 2) (corrected : Nat) (uncorrectable : Bool) (s : State) :
    outOpensNone s (execLpddr5PatrolPass rank corrected uncorrectable s) := by
  unfold execLpddr5PatrolPass
  extract_lets id
  split
  · exact (outOpensNone_next ..).2 (opensNone_of_tb rfl)
  · rename_i u _
    split
    · exact (outOpensNone_next ..).2 (opensNone_of_tb rfl)
    · split
      · split
        rename_i v s1 hd
        have h1 : opensNone s s1 := opensNone_of_steady (by rw [← draw_steady s 3, hd])
        split <;> rw [outOpensNone_next]
        · exact (h1.trans (opensNone_of_tb rfl)).trans (fatal_opensNone _ _ _ _)
        · exact h1.then_steady (by simp)
      · rename_i now s1 many s2 _ _ _ _
        have h2 : steady s2 = steady s := by simp [s2, s1]
        split <;> rw [outOpensNone_next] <;> exact opensNone_of_steady (by simp [h2])

@[simp] theorem execRollbackFuseBurn_opensNone (s : State) : outOpensNone s (execRollbackFuseBurn s) := by
  unfold execRollbackFuseBurn
  split <;> rw [outOpensNone_next]
  · exact (confirmDurable_opensNone s).then_steady (by simp)
  · exact opensNone_of_tb rfl

@[simp] theorem execLoaderInstall_opensNone (s : State) : outOpensNone s (execLoaderInstall s) := by
  unfold execLoaderInstall
  split
  · exact (outOpensNone_next ..).2 (opensNone_of_tb rfl)
  · extract_lets stop
    have hs : opensNone s (stop s) := opensNone_of_tb rfl
    split
    · exact (outOpensNone_next ..).2 hs
    · split <;> rw [outOpensNone_next]
      · exact (activate_opensNone s _).trans (opensNone_of_tb rfl)
      · exact hs

@[simp] theorem execRecoveryInstallComplete_opensNone (s : State) : outOpensNone s (execRecoveryInstallComplete s) := by
  unfold execRecoveryInstallComplete
  extract_lets r ordered full verdict s1 s2
  split
  · exact (outOpensNone_next ..).2 (opensNone_of_tb rfl)
  · split <;> rw [outOpensNone_next]
    · exact opensNone_of_tb rfl
    · have h1 : opensNone s s1 := (opensNone_of_tb rfl).trans (activate_opensNone _ _)
      have h2 : opensNone s s2 := h1.trans (alsoDurable_opensNone _ _)
      exact (h2.trans (opensNone_of_tb rfl)).trans (controllerReset_opensNone _ _)

@[simp] theorem execCommandTimeout_opensNone (m : Fin 8) (s : State) : outOpensNone s (execCommandTimeout m s) := by
  unfold execCommandTimeout
  extract_lets b
  split
  · split
    rename_i core s1 hd
    have h1 : opensNone s s1 := opensNone_of_steady (by rw [← draw_steady s 2, hd])
    exact (outOpensNone_next ..).2 (h1.trans (fatal_opensNone _ _ _ _))
  · exact (outOpensNone_next ..).2 (opensNone_of_tb rfl)

@[simp] theorem execStagingBankDurable_opensNone (s : State) : outOpensNone s (execStagingBankDurable s) := by
  unfold execStagingBankDurable
  split
  · rename_i p rest _
    split
    · extract_lets s1
      have h1 : opensNone s s1 := (bankDurable_opensNone s p rest).trans (confirmDurable_opensNone _)
      rw [outOpensNone_next]
      split
      · exact h1
      · exact (h1.trans (startBanks_opensNone _)).then_steady (by simp)
    · exact (outOpensNone_next ..).2 (opensNone_of_tb rfl)
  · exact (outOpensNone_next ..).2 (opensNone_of_tb rfl)

@[simp] theorem execSealedListExecute_opensNone (s : State) : outOpensNone s (execSealedListExecute s) := by
  unfold execSealedListExecute
  split
  · split <;> rw [outOpensNone_next]
    · exact steady.then_opensNone (placeDue_steady s) (runList_opensNone _ _ _)
    · exact opensNone_of_tb rfl
  · exact (outOpensNone_next ..).2 (opensNone_of_tb rfl)

@[simp] theorem execExecutionWindowOverrun_opensNone (s : State) : outOpensNone s (execExecutionWindowOverrun s) := by
  unfold execExecutionWindowOverrun
  split
  · extract_lets n s1
    have h1 : opensNone s s1 := ⟨rfl, fun h => ⟨h, rfl⟩⟩
    exact (outOpensNone_next ..).2 (h1.then_steady (by simp))
  · exact (outOpensNone_next ..).2 (opensNone_of_tb rfl)

@[simp] theorem execControllerResetRelease_opensNone (modeRecov cascId0 cascId1 : Fin 8) (s : State) :
    outOpensNone s (execControllerResetRelease modeRecov cascId0 cascId1 s) := by
  unfold execControllerResetRelease
  split
  · exact (outOpensNone_next ..).2 (opensNone_of_tb rfl)
  · split <;> rw [outOpensNone_next]
    · exact (controllerReset_opensNone s .powerReturn).trans (opensNone_of_tb rfl)
    · exact releaseReset_opensNone _ _ _

@[simp] theorem execCustodyEntryComplete_opensNone (s : State) : outOpensNone s (execCustodyEntryComplete s) := by
  unfold execCustodyEntryComplete
  split
  · split
    · extract_lets s1
      have h1 : opensNone s s1 := enterCustody_opensNone s
      split <;> rw [outOpensNone_next]
      · exact h1.trans (exitCustody_opensNone _ _ _)
      · exact h1
    · exact (outOpensNone_next ..).2 (opensNone_of_tb rfl)
  · exact (outOpensNone_next ..).2 (opensNone_of_tb rfl)
end Sys2Proof.Laws
end

section
namespace Sys2Proof.Laws
open Sys2Proof Sys2Proof.Machine

/-! ## The two rows that open a measure (R26, R28) -/

/-- From `s` to `t` a new measure has opened: if it is still open it has the highest number there ever was, which is higher than
every number before. -/
def opensNew (s t : State) : Prop := (t.tb.opened = true → t.tb.measure = t.tb.highest) ∧ s.tb.highest < t.tb.highest

theorem opensNew.then_opensNone {s t u : State} (h : opensNew s t) (k : opensNone t u) : opensNew s u := by
  rw [opensNew, k.1]
  exact ⟨fun ho => (k.2 ho).2.trans (h.1 (k.2 ho).1), h.2⟩

theorem opensNone.then_opensNew {s t u : State} (h : opensNone s t) (k : opensNew t u) : opensNew s u := by
  rw [opensNew, ← h.1]
  exact k

theorem opensNew.then_steady {s t u : State} (h : opensNew s t) (k : steady u = steady t) : opensNew s u :=
  h.then_opensNone (opensNone_of_steady k)

theorem openMeasure_numbers (s : State) (o : Opening) :
    (s.openMeasure o).tb.measure = o.number ∧ (s.openMeasure o).tb.highest = max s.tb.highest o.number := by
  unfold State.openMeasure
  extract_lets m skip s1 s2
  have h : steady (s2.setTb o.state) = steady s1 := by
    rw [setTb_steady]
    simp only [s2, ite_steady]
    simp [Sequencer.skipTo]
  simp only [steady, Prod.mk.injEq] at h
  obtain ⟨hm, hh, -⟩ := h
  exact ⟨hm.trans rfl, hh.trans rfl⟩

/-- A measure that opens with a number above the highest is the new highest. -/
theorem openMeasure_newest {s : State} {o : Opening} (h : s.tb.highest < o.number) :
    (s.openMeasure o).tb.measure = (s.openMeasure o).tb.highest ∧ s.tb.highest < (s.openMeasure o).tb.highest := by
  obtain ⟨hm, hh⟩ := openMeasure_numbers s o
  omega

theorem openMeasure_opensNew {s : State} {o : Opening} (h : s.tb.highest < o.number) : opensNew s (s.openMeasure o) :=
  ⟨fun _ => (openMeasure_newest h).1, (openMeasure_newest h).2⟩

theorem opening_number (s : State) (time : Nat) : s.tb.measure < (s.opening time).number := by
  unfold State.opening
  split
  · exact Nat.lt_succ_self _
  · extract_lets n a g next v
    split
    · exact lt_of_lt_of_le (Nat.lt_succ_self _) (Nat.le_max_left ..)
    · exact Nat.lt_succ_self _

theorem firstOpening_number (s : State) (time : Nat) : s.tb.highest < (s.firstOpening time).number := by
  have hlow : s.tb.highest < max (s.tb.persisted + 8) (s.tb.highest + 1) :=
    lt_of_lt_of_le (Nat.lt_succ_self _) (Nat.le_max_right ..)
  unfold State.firstOpening
  extract_lets low a g n t v
  split
  · exact lt_of_lt_of_le hlow (Nat.le_max_left ..)
  · split
    · exact hlow
    · exact lt_of_lt_of_le hlow (Nat.le_max_left ..)

theorem sealMeasure_opensNone (s : State) : opensNone s s.sealMeasure := by
  unfold State.sealMeasure
  extract_lets m c s1 head digest l s2
  have hc : steady c.1 = steady s := by
    simp only [c]
    split <;> simp
  have h1 : steady s1 = steady s := by simp [s1, hc]
  have h2 : s2.tb = s1.tb := rfl
  exact (opensNone_of_steady h1).trans ⟨rfl, fun h => ⟨h, rfl⟩⟩

theorem opened_opensNone (s : State) (tj : Int) : opensNone s (s.opened tj) := by
  unfold State.opened
  extract_lets s1 s2
  have h1 : opensNone s s1 :=
    (steady.then_opensNone (t := ((s.custodyQuiesce.boundaryCommands.throttle tj).boundaryUnits).endSlices) (by simp)
      (startBanks_opensNone _))
  have h2 : opensNone s s2 := h1.then_steady (by simp [s2])
  exact h2.then_steady (by simp)

/-- A tick of an open measure in a state that counts once opens a measure above every measure before it. -/
theorem tick_opensNew {s : State} (h : s.countsOnce) (ho : s.tb.opened = true) (time : Nat) (tj : Int) :
    opensNew s (s.tick time tj) := by
  have hb : opensNone s s.beginTick.sealMeasure :=
    steady.then_opensNone (t := s.beginTick) (by simp) (sealMeasure_opensNone _)
  have hn : s.beginTick.sealMeasure.tb.highest < (s.opening time).number := by
    rw [hb.1, ← h ho]
    exact opening_number s time
  have hopen := hb.then_opensNew (openMeasure_opensNew hn)
  exact (hopen.then_opensNone (opened_opensNone _ tj)).then_steady (endTick_steady _ _)

theorem firstMeasure_opensNew (s : State) (time : Nat) (found : Found) : opensNew s (s.firstMeasure time found) := by
  unfold State.firstMeasure
  extract_lets s1 s2 o
  have h2 : opensNone s s2 := steady.then_opensNone (startMedia_steady s found) (migrate_opensNone s1)
  split
  rename_i flags _ ms s3 hd
  extract_lets s4 s5 s6
  have h3 : opensNone s (s3.modPower fun p => p.open flags ms) :=
    (h2.then_steady (u := s3) (by rw [← draw_steady s2 16, hd])).trans (opensNone_of_tb rfl)
  have hn : (s3.modPower fun p => p.open flags ms).tb.highest < o.number := by
    rw [h3.1, ← h2.1]
    exact firstOpening_number s2 time
  obtain ⟨hm, hh⟩ := openMeasure_newest hn
  have h5 : opensNew s s5 := ⟨fun _ => hm, h3.1 ▸ hh⟩
  have h6 : opensNew s s6 := h5.then_steady (by simp [s6])
  exact h6.then_steady (by simp)

/-! ## Every step -/

/-- A step keeps the count of measures: what `EveryMeasureNumberIsNew` says of it. -/
def countKept (s t : State) : Prop :=
  t.countsOnce ∧ s.tb.highest ≤ t.tb.highest ∧
    (t.tb.opened = true → (s.tb.opened = true ∧ t.tb.measure = s.tb.measure) ∨ s.tb.highest < t.tb.measure)

theorem countKept_of_opensNone {s t : State} (hs : s.countsOnce) (h : opensNone s t) : countKept s t := by
  obtain ⟨hh, ho⟩ := h
  refine ⟨fun hx => ?_, hh.ge, fun hx => .inl (ho hx)⟩
  rw [(ho hx).2, hh, hs (ho hx).1]

theorem countKept_of_opensNew {s t : State} (h : opensNew s t) : countKept s t :=
  ⟨h.1, h.2.le, fun hx => .inr (h.1 hx ▸ h.2)⟩

theorem execMeasureTick_countKept {s t : State} (hs : s.countsOnce) (time : Nat) (sample : TickSample)
    (h : execMeasureTick time sample s = .next t) : countKept s t := by
  simp only [execMeasureTick, Host.Outcome.next.injEq] at h
  subst h
  split
  · rename_i ht
    have ho : s.tb.opened = true := by
      simp only [State.ticks, Bool.and_eq_true] at ht
      exact ht.1.2
    exact countKept_of_opensNew ((opensNone_of_tb rfl).then_opensNew (tick_opensNew (s := s.modPower _) hs ho time sample.tj))
  · exact countKept_of_opensNone hs (opensNone_of_tb rfl)

theorem execFirstMeasureOpen_countKept {s t : State} (hs : s.countsOnce) (start : StartUpEnd)
    (h : execFirstMeasureOpen start s = .next t) : countKept s t := by
  unfold execFirstMeasureOpen at h
  extract_lets p at h
  split at h <;> cases h
  · exact countKept_of_opensNew (firstMeasure_opensNew _ _ _)
  · exact countKept_of_opensNone hs (opensNone_of_tb rfl)
end Sys2Proof.Laws
end

section
namespace Sys2Proof.Laws
open Sys2Proof Sys2Proof.Machine

theorem run_opensNone {d : CmdDef} (h : cmdSteady d) (c : Cmd) (s : State) : outOpensNone s (.next (d.run c s)) :=
  (outOpensNone_next ..).2 (opensNone_of_steady (run_steady h c s))

@[simp] theorem execDeviceIdentify_opensNone (c : Cmd) (s : State) : outOpensNone s (execDeviceIdentify c s) :=
  run_opensNone (commandsDevice_steady _ (by simp [commandsDevice])) c s
@[simp] theorem execDeviceEcho_opensNone (c : Cmd) (s : State) : outOpensNone s (execDeviceEcho c s) :=
  run_opensNone (commandsDevice_steady _ (by simp [commandsDevice])) c s
@[simp] theorem execDeviceStartupStatus_opensNone (c : Cmd) (s : State) : outOpensNone s (execDeviceStartupStatus c s) :=
  run_opensNone (commandsDevice_steady _ (by simp [commandsDevice])) c s
@[simp] theorem execDeviceEnterCustody_opensNone (c : Cmd) (s : State) : outOpensNone s (execDeviceEnterCustody c s) :=
  run_opensNone (commandsDevice_steady _ (by simp [commandsDevice])) c s
@[simp] theorem execDeviceSetThermal_opensNone (c : Cmd) (s : State) : outOpensNone s (execDeviceSetThermal c s) :=
  run_opensNone (commandsDevice_steady _ (by simp [commandsDevice])) c s
@[simp] theorem execDeviceReset_opensNone (c : Cmd) (s : State) : outOpensNone s (execDeviceReset c s) :=
  run_opensNone (commandsDevice_steady _ (by simp [commandsDevice])) c s
@[simp] theorem execDevicePowerStatus_opensNone (c : Cmd) (s : State) : outOpensNone s (execDevicePowerStatus c s) :=
  run_opensNone (commandsDevice_steady _ (by simp [commandsDevice])) c s
@[simp] theorem execTimeStatus_opensNone (c : Cmd) (s : State) : outOpensNone s (execTimeStatus c s) :=
  run_opensNone (commandsDevice_steady _ (by simp [commandsDevice])) c s
@[simp] theorem execTimeSetLength_opensNone (c : Cmd) (s : State) : outOpensNone s (execTimeSetLength c s) :=
  run_opensNone (commandsDevice_steady _ (by simp [commandsDevice])) c s
@[simp] theorem execTimeSealLog_opensNone (c : Cmd) (s : State) : outOpensNone s (execTimeSealLog c s) :=
  run_opensNone (commandsDevice_steady _ (by simp [commandsDevice])) c s
@[simp] theorem execUnitQuery_opensNone (c : Cmd) (s : State) : outOpensNone s (execUnitQuery c s) :=
  run_opensNone (commandsDevice_steady _ (by simp [commandsDevice])) c s
@[simp] theorem execUnitSetState_opensNone (c : Cmd) (s : State) : outOpensNone s (execUnitSetState c s) :=
  run_opensNone (commandsDevice_steady _ (by simp [commandsDevice])) c s
@[simp] theorem execUnitList_opensNone (c : Cmd) (s : State) : outOpensNone s (execUnitList c s) :=
  run_opensNone (commandsDevice_steady _ (by simp [commandsDevice])) c s
@[simp] theorem execNamespaceCreate_opensNone (c : Cmd) (s : State) : outOpensNone s (execNamespaceCreate c s) :=
  run_opensNone (commandsNamespaces_steady _ (by simp [commandsNamespaces])) c s
@[simp] theorem execNamespaceDelete_opensNone (c : Cmd) (s : State) : outOpensNone s (execNamespaceDelete c s) :=
  run_opensNone (commandsNamespaces_steady _ (by simp [commandsNamespaces])) c s
@[simp] theorem execNamespaceSetQuota_opensNone (c : Cmd) (s : State) : outOpensNone s (execNamespaceSetQuota c s) :=
  run_opensNone (commandsNamespaces_steady _ (by simp [commandsNamespaces])) c s
@[simp] theorem execNamespaceInfo_opensNone (c : Cmd) (s : State) : outOpensNone s (execNamespaceInfo c s) :=
  run_opensNone (commandsNamespaces_steady _ (by simp [commandsNamespaces])) c s
@[simp] theorem execNamespaceList_opensNone (c : Cmd) (s : State) : outOpensNone s (execNamespaceList c s) :=
  run_opensNone (commandsNamespaces_steady _ (by simp [commandsNamespaces])) c s
@[simp] theorem execNamespaceDigest_opensNone (c : Cmd) (s : State) : outOpensNone s (execNamespaceDigest c s) :=
  run_opensNone (commandsNamespaces_steady _ (by simp [commandsNamespaces])) c s
@[simp] theorem execNamespaceLedgerHead_opensNone (c : Cmd) (s : State) : outOpensNone s (execNamespaceLedgerHead c s) :=
  run_opensNone (commandsNamespaces_steady _ (by simp [commandsNamespaces])) c s
@[simp] theorem execNamespaceLedgerTrim_opensNone (c : Cmd) (s : State) : outOpensNone s (execNamespaceLedgerTrim c s) :=
  run_opensNone (commandsNamespaces_steady _ (by simp [commandsNamespaces])) c s
@[simp] theorem execNamespaceSetRetention_opensNone (c : Cmd) (s : State) : outOpensNone s (execNamespaceSetRetention c s) :=
  run_opensNone (commandsNamespaces_steady _ (by simp [commandsNamespaces])) c s
@[simp] theorem execNamespaceLedgerExport_opensNone (c : Cmd) (s : State) : outOpensNone s (execNamespaceLedgerExport c s) :=
  run_opensNone (commandsNamespaces_steady _ (by simp [commandsNamespaces])) c s
@[simp] theorem execNamespaceValueDigest_opensNone (c : Cmd) (s : State) : outOpensNone s (execNamespaceValueDigest c s) :=
  run_opensNone (commandsNamespaces_steady _ (by simp [commandsNamespaces])) c s
@[simp] theorem execSearchSetTables_opensNone (c : Cmd) (s : State) : outOpensNone s (execSearchSetTables c s) :=
  run_opensNone (commandsLarkspur_steady _ (by simp [commandsLarkspur])) c s
@[simp] theorem execSearchEntryWrite_opensNone (c : Cmd) (s : State) : outOpensNone s (execSearchEntryWrite c s) :=
  run_opensNone (commandsLarkspur_steady _ (by simp [commandsLarkspur])) c s
@[simp] theorem execSearchEntryDelete_opensNone (c : Cmd) (s : State) : outOpensNone s (execSearchEntryDelete c s) :=
  run_opensNone (commandsLarkspur_steady _ (by simp [commandsLarkspur])) c s
@[simp] theorem execSearchPatternLoad_opensNone (c : Cmd) (s : State) : outOpensNone s (execSearchPatternLoad c s) :=
  run_opensNone (commandsLarkspur_steady _ (by simp [commandsLarkspur])) c s
@[simp] theorem execSearchPatternUnload_opensNone (c : Cmd) (s : State) : outOpensNone s (execSearchPatternUnload c s) :=
  run_opensNone (commandsLarkspur_steady _ (by simp [commandsLarkspur])) c s
@[simp] theorem execSearchCascadeSet_opensNone (c : Cmd) (s : State) : outOpensNone s (execSearchCascadeSet c s) :=
  run_opensNone (commandsLarkspur_steady _ (by simp [commandsLarkspur])) c s
@[simp] theorem execSearchCascadeSwitch_opensNone (c : Cmd) (s : State) : outOpensNone s (execSearchCascadeSwitch c s) :=
  run_opensNone (commandsLarkspur_steady _ (by simp [commandsLarkspur])) c s
@[simp] theorem execSearchProbe_opensNone (c : Cmd) (s : State) : outOpensNone s (execSearchProbe c s) :=
  run_opensNone (commandsLarkspur_steady _ (by simp [commandsLarkspur])) c s
@[simp] theorem execSearchStats_opensNone (c : Cmd) (s : State) : outOpensNone s (execSearchStats c s) :=
  run_opensNone (commandsLarkspur_steady _ (by simp [commandsLarkspur])) c s
@[simp] theorem execNetSetPort_opensNone (c : Cmd) (s : State) : outOpensNone s (execNetSetPort c s) :=
  run_opensNone (commandsNet_steady _ (by simp [commandsNet])) c s
@[simp] theorem execNetSetFilter_opensNone (c : Cmd) (s : State) : outOpensNone s (execNetSetFilter c s) :=
  run_opensNone (commandsNet_steady _ (by simp [commandsNet])) c s
@[simp] theorem execNetSetAddress_opensNone (c : Cmd) (s : State) : outOpensNone s (execNetSetAddress c s) :=
  run_opensNone (commandsNet_steady _ (by simp [commandsNet])) c s
@[simp] theorem execNetSetMgmtPeers_opensNone (c : Cmd) (s : State) : outOpensNone s (execNetSetMgmtPeers c s) :=
  run_opensNone (commandsNet_steady _ (by simp [commandsNet])) c s
@[simp] theorem execNetSetHeartbeat_opensNone (c : Cmd) (s : State) : outOpensNone s (execNetSetHeartbeat c s) :=
  run_opensNone (commandsNet_steady _ (by simp [commandsNet])) c s
@[simp] theorem execNetMacsecPolicy_opensNone (c : Cmd) (s : State) : outOpensNone s (execNetMacsecPolicy c s) :=
  run_opensNone (commandsNet_steady _ (by simp [commandsNet])) c s
@[simp] theorem execNetMacsecInstallSa_opensNone (c : Cmd) (s : State) : outOpensNone s (execNetMacsecInstallSa c s) :=
  run_opensNone (commandsNet_steady _ (by simp [commandsNet])) c s
@[simp] theorem execNetMacsecRemoveSa_opensNone (c : Cmd) (s : State) : outOpensNone s (execNetMacsecRemoveSa c s) :=
  run_opensNone (commandsNet_steady _ (by simp [commandsNet])) c s
@[simp] theorem execNetPhyReset_opensNone (c : Cmd) (s : State) : outOpensNone s (execNetPhyReset c s) :=
  run_opensNone (commandsNet_steady _ (by simp [commandsNet])) c s
@[simp] theorem execNetMdioWrite_opensNone (c : Cmd) (s : State) : outOpensNone s (execNetMdioWrite c s) :=
  run_opensNone (commandsNet_steady _ (by simp [commandsNet])) c s
@[simp] theorem execNetMdioRead_opensNone (c : Cmd) (s : State) : outOpensNone s (execNetMdioRead c s) :=
  run_opensNone (commandsNet_steady _ (by simp [commandsNet])) c s
@[simp] theorem execNetTxFlush_opensNone (c : Cmd) (s : State) : outOpensNone s (execNetTxFlush c s) :=
  run_opensNone (commandsNet_steady _ (by simp [commandsNet])) c s
@[simp] theorem execNetPortStatus_opensNone (c : Cmd) (s : State) : outOpensNone s (execNetPortStatus c s) :=
  run_opensNone (commandsNet_steady _ (by simp [commandsNet])) c s
@[simp] theorem execNetCounters_opensNone (c : Cmd) (s : State) : outOpensNone s (execNetCounters c s) :=
  run_opensNone (commandsNet_steady _ (by simp [commandsNet])) c s
@[simp] theorem execMediaFormat_opensNone (c : Cmd) (s : State) : outOpensNone s (execMediaFormat c s) :=
  run_opensNone (commandsMedia_steady _ (by simp [commandsMedia])) c s
@[simp] theorem execMediaSetReadPolicy_opensNone (c : Cmd) (s : State) : outOpensNone s (execMediaSetReadPolicy c s) :=
  run_opensNone (commandsMedia_steady _ (by simp [commandsMedia])) c s
@[simp] theorem execMediaSetWarn_opensNone (c : Cmd) (s : State) : outOpensNone s (execMediaSetWarn c s) :=
  run_opensNone (commandsMedia_steady _ (by simp [commandsMedia])) c s
@[simp] theorem execMediaAckWarnings_opensNone (c : Cmd) (s : State) : outOpensNone s (execMediaAckWarnings c s) :=
  run_opensNone (commandsMedia_steady _ (by simp [commandsMedia])) c s
@[simp] theorem execMediaHealth_opensNone (c : Cmd) (s : State) : outOpensNone s (execMediaHealth c s) :=
  run_opensNone (commandsMedia_steady _ (by simp [commandsMedia])) c s
@[simp] theorem execMediaLunHealth_opensNone (c : Cmd) (s : State) : outOpensNone s (execMediaLunHealth c s) :=
  run_opensNone (commandsMedia_steady _ (by simp [commandsMedia])) c s
@[simp] theorem execChorusForm_opensNone (c : Cmd) (s : State) : outOpensNone s (execChorusForm c s) :=
  run_opensNone (commandsChorus_steady _ (by simp [commandsChorus])) c s
@[simp] theorem execChorusLeave_opensNone (c : Cmd) (s : State) : outOpensNone s (execChorusLeave c s) :=
  run_opensNone (commandsChorus_steady _ (by simp [commandsChorus])) c s
@[simp] theorem execChorusStatus_opensNone (c : Cmd) (s : State) : outOpensNone s (execChorusStatus c s) :=
  run_opensNone (commandsChorus_steady _ (by simp [commandsChorus])) c s
@[simp] theorem execChorusCheckpoint_opensNone (c : Cmd) (s : State) : outOpensNone s (execChorusCheckpoint c s) :=
  run_opensNone (commandsChorus_steady _ (by simp [commandsChorus])) c s
@[simp] theorem execChorusCheckpointEnd_opensNone (c : Cmd) (s : State) : outOpensNone s (execChorusCheckpointEnd c s) :=
  run_opensNone (commandsChorus_steady _ (by simp [commandsChorus])) c s
@[simp] theorem execChorusRestoreEnd_opensNone (c : Cmd) (s : State) : outOpensNone s (execChorusRestoreEnd c s) :=
  run_opensNone (commandsChorus_steady _ (by simp [commandsChorus])) c s
@[simp] theorem execChorusNsCommand_opensNone (c : Cmd) (s : State) : outOpensNone s (execChorusNsCommand c s) :=
  run_opensNone (commandsChorus_steady _ (by simp [commandsChorus])) c s
@[simp] theorem execChorusPark_opensNone (c : Cmd) (s : State) : outOpensNone s (execChorusPark c s) :=
  run_opensNone (commandsChorus_steady _ (by simp [commandsChorus])) c s
@[simp] theorem execChorusResume_opensNone (c : Cmd) (s : State) : outOpensNone s (execChorusResume c s) :=
  run_opensNone (commandsChorus_steady _ (by simp [commandsChorus])) c s
@[simp] theorem execEventConfigure_opensNone (c : Cmd) (s : State) : outOpensNone s (execEventConfigure c s) :=
  run_opensNone (commandsEvents_steady _ (by simp [commandsEvents])) c s
@[simp] theorem execEventSetOwner_opensNone (c : Cmd) (s : State) : outOpensNone s (execEventSetOwner c s) :=
  run_opensNone (commandsEvents_steady _ (by simp [commandsEvents])) c s
@[simp] theorem execEventLock_opensNone (c : Cmd) (s : State) : outOpensNone s (execEventLock c s) :=
  run_opensNone (commandsEvents_steady _ (by simp [commandsEvents])) c s
@[simp] theorem execEventEvioConfig_opensNone (c : Cmd) (s : State) : outOpensNone s (execEventEvioConfig c s) :=
  run_opensNone (commandsEvents_steady _ (by simp [commandsEvents])) c s
@[simp] theorem execEventSetParams_opensNone (c : Cmd) (s : State) : outOpensNone s (execEventSetParams c s) :=
  run_opensNone (commandsEvents_steady _ (by simp [commandsEvents])) c s
@[simp] theorem execEventTrigger_opensNone (c : Cmd) (s : State) : outOpensNone s (execEventTrigger c s) :=
  run_opensNone (commandsEvents_steady _ (by simp [commandsEvents])) c s
@[simp] theorem execEventQuery_opensNone (c : Cmd) (s : State) : outOpensNone s (execEventQuery c s) :=
  run_opensNone (commandsEvents_steady _ (by simp [commandsEvents])) c s
@[simp] theorem execEventClear_opensNone (c : Cmd) (s : State) : outOpensNone s (execEventClear c s) :=
  run_opensNone (commandsEvents_steady _ (by simp [commandsEvents])) c s
@[simp] theorem execUpdateStatus_opensNone (c : Cmd) (s : State) : outOpensNone s (execUpdateStatus c s) :=
  run_opensNone (commandsUpdate_steady _ (by simp [commandsUpdate])) c s
@[simp] theorem execUpdateStage_opensNone (c : Cmd) (s : State) : outOpensNone s (execUpdateStage c s) :=
  run_opensNone (commandsUpdate_steady _ (by simp [commandsUpdate])) c s
@[simp] theorem execUpdateActivate_opensNone (c : Cmd) (s : State) : outOpensNone s (execUpdateActivate c s) :=
  run_opensNone (commandsUpdate_steady _ (by simp [commandsUpdate])) c s
@[simp] theorem execUpdateConfirm_opensNone (c : Cmd) (s : State) : outOpensNone s (execUpdateConfirm c s) :=
  run_opensNone (commandsUpdate_steady _ (by simp [commandsUpdate])) c s
@[simp] theorem execUpdateRollback_opensNone (c : Cmd) (s : State) : outOpensNone s (execUpdateRollback c s) :=
  run_opensNone (commandsUpdate_steady _ (by simp [commandsUpdate])) c s
@[simp] theorem execUpdateDiscard_opensNone (c : Cmd) (s : State) : outOpensNone s (execUpdateDiscard c s) :=
  run_opensNone (commandsUpdate_steady _ (by simp [commandsUpdate])) c s
@[simp] theorem execUpdateRdlBegin_opensNone (c : Cmd) (s : State) : outOpensNone s (execUpdateRdlBegin c s) :=
  run_opensNone (commandsUpdate_steady _ (by simp [commandsUpdate])) c s
@[simp] theorem execUpdateRdlData_opensNone (c : Cmd) (s : State) : outOpensNone s (execUpdateRdlData c s) :=
  run_opensNone (commandsUpdate_steady _ (by simp [commandsUpdate])) c s
@[simp] theorem execUpdateRdlEnd_opensNone (c : Cmd) (s : State) : outOpensNone s (execUpdateRdlEnd c s) :=
  run_opensNone (commandsUpdate_steady _ (by simp [commandsUpdate])) c s
@[simp] theorem execCodaRead_opensNone (c : Cmd) (s : State) : outOpensNone s (execCodaRead c s) :=
  run_opensNone (commandsCoda_steady _ (by simp [commandsCoda])) c s
@[simp] theorem execCodaList_opensNone (c : Cmd) (s : State) : outOpensNone s (execCodaList c s) :=
  run_opensNone (commandsCoda_steady _ (by simp [commandsCoda])) c s
@[simp] theorem execCodaFreeze_opensNone (c : Cmd) (s : State) : outOpensNone s (execCodaFreeze c s) :=
  run_opensNone (commandsCoda_steady _ (by simp [commandsCoda])) c s
@[simp] theorem execCodaSetTriggers_opensNone (c : Cmd) (s : State) : outOpensNone s (execCodaSetTriggers c s) :=
  run_opensNone (commandsCoda_steady _ (by simp [commandsCoda])) c s
@[simp] theorem execCodaKeep_opensNone (c : Cmd) (s : State) : outOpensNone s (execCodaKeep c s) :=
  run_opensNone (commandsCoda_steady _ (by simp [commandsCoda])) c s
@[simp] theorem execSecurityMrsUnlock_opensNone (c : Cmd) (s : State) : outOpensNone s (execSecurityMrsUnlock c s) :=
  run_opensNone (commandsSecurity_steady _ (by simp [commandsSecurity])) c s
@[simp] theorem execSecurityMrsLock_opensNone (c : Cmd) (s : State) : outOpensNone s (execSecurityMrsLock c s) :=
  run_opensNone (commandsSecurity_steady _ (by simp [commandsSecurity])) c s
@[simp] theorem execSecuritySetMailboxOwner_opensNone (c : Cmd) (s : State) : outOpensNone s (execSecuritySetMailboxOwner c s) :=
  run_opensNone (commandsSecurity_steady _ (by simp [commandsSecurity])) c s
@[simp] theorem execSecurityLedgerKey_opensNone (c : Cmd) (s : State) : outOpensNone s (execSecurityLedgerKey c s) :=
  run_opensNone (commandsSecurity_steady _ (by simp [commandsSecurity])) c s
@[simp] theorem execSecurityProvision_opensNone (c : Cmd) (s : State) : outOpensNone s (execSecurityProvision c s) :=
  run_opensNone (commandsSecurity_steady _ (by simp [commandsSecurity])) c s
@[simp] theorem execSecurityStatus_opensNone (c : Cmd) (s : State) : outOpensNone s (execSecurityStatus c s) :=
  run_opensNone (commandsSecurity_steady _ (by simp [commandsSecurity])) c s

/-- A row other than the measure tick and the first measure opens no measure: a command's row is its table entry's `run`. -/
theorem exec_opensNone (s : State) (i : Instr) (htick : ∀ time sample, i ≠ .measureTick time sample)
    (hfirst : ∀ start, i ≠ .firstMeasureOpen start) : outOpensNone s (exec i s) := by
  cases i
  case measureTick time sample => exact absurd rfl (htick time sample)
  case firstMeasureOpen start => exact absurd rfl (hfirst start)
  all_goals simp [exec]

theorem exec_countKept {s t : State} (hs : s.countsOnce) {i : Instr} (h : exec i s = .next t) : countKept s t := by
  by_cases htick : ∃ time sample, i = .measureTick time sample
  · obtain ⟨time, sample, rfl⟩ := htick
    exact execMeasureTick_countKept hs time sample h
  · by_cases hfirst : ∃ start, i = .firstMeasureOpen start
    · obtain ⟨start, rfl⟩ := hfirst
      exact execFirstMeasureOpen_countKept hs start h
    · exact countKept_of_opensNone hs (exec_opensNone s i (fun a b k => htick ⟨a, b, k⟩) (fun a k => hfirst ⟨a, k⟩) t h)

/-- Settles O3: only a tick and the first measure of a start open a measure, with a number above the highest there ever was; every
other row keeps the highest number and the open measure. -/
theorem everyMeasureNumberIsNew : Obligations.EveryMeasureNumberIsNew := by
  intro s t hs h
  unfold step at h
  split at h
  · cases h
    exact countKept_of_opensNone hs (opensNone_of_tb rfl)
  · rename_i c rest _
    exact exec_countKept (s := { s with pending := rest }) hs h

/-- Settles O2: the state after reset is written out, and `countsOnce` and `Fuses.wf` hold of it at once. -/
theorem resetKeepsInvariants : Obligations.ResetKeepsInvariants := by
  unfold Obligations.ResetKeepsInvariants
  refine ⟨rfl, fun h => (nomatch h), Nat.zero_le _, rfl, rfl, rfl, rfl, rfl, rfl, rfl, rfl, rfl, rfl, fun m => ?_⟩
  have h : State.reset.mb m = Mailbox.reset := by simp [State.reset, State.mb]
  rw [h]
  rfl
end Sys2Proof.Laws
end

section
namespace Sys2Proof.Laws
open Sys2Proof Sys2Proof.Machine

/-! # The admission of requests (R33 to R37, R48)

The row of a sequenced request is `State.request` of the request itself; a request that is its session's next goes straight to its turn
at the admission port. -/

/-! ## Sessions -/

theorem modSession_modSession (s : State) (id : Nat) (f g : Session → Session) (hf : ∀ x, (f x).id = x.id) :
    (s.modSession id f).modSession id g = s.modSession id fun x => g (f x) := by
  have h (x : Session) : (if (if x.id = id then f x else x).id = id then g (if x.id = id then f x else x)
      else if x.id = id then f x else x) = if x.id = id then g (f x) else x := by
    split <;> simp_all
  simp [State.modSession, h]

@[simp] theorem takeCredit_id (q : Nat) (x : Session) : (x.takeCredit q).id = x.id := rfl

@[simp] theorem returnCredit_id (q : Nat) (x : Session) : (x.returnCredit q).id = x.id := by
  unfold Session.returnCredit
  split <;> rfl

@[simp] theorem consume_id (m : Nat) (p : Replay) (x : Session) : (x.consume m p).id = x.id := by
  simp only [Session.consume]
  split <;> rfl

@[simp] theorem consume_holding (m : Nat) (p : Replay) (x : Session) : (x.consume m p).holding = x.holding := by
  simp only [Session.consume]
  split <;> rfl

@[simp] theorem consume_closing (m : Nat) (p : Replay) (x : Session) : (x.consume m p).closing = x.closing := by
  simp only [Session.consume]
  split <;> rfl

@[simp] theorem consume_replay (m : Nat) (p : Replay) (x : Session) : (x.consume m p).replay = keepReplay m (p :: x.replay) := by
  simp only [Session.consume]
  split <;> rfl

@[simp] theorem returnCredit_replay (q : Nat) (x : Session) : (x.returnCredit q).replay = x.replay := by
  unfold Session.returnCredit
  split <;> rfl

theorem returnCredit_holding {q : Nat} {x : Session} (h : x.closing = []) : (x.returnCredit q).holding = x.holding.erase q := by
  simp [Session.returnCredit, h]

/-! ## The rows -/

theorem withBit_self (v i : Nat) : withBit v i (v.testBit i) = v := by
  unfold withBit
  cases h : v.testBit i with
  | true =>
    have := Nat.ge_two_pow_of_testBit h
    simp only [if_true]
    omega
  | false => simp

theorem withBit_true {v i : Nat} (h : bit v i = true) : withBit v i true = v := h ▸ withBit_self v i

theorem withBit_false {v i : Nat} (h : bit v i = false) : withBit v i false = v := h ▸ withBit_self v i

/-- A first byte that reads `v` is the byte that `be 1 v` writes. -/
theorem be_drop_of_u8 {b : Bytes} {v : Nat} (hv : v ≠ 0) (h : u8 b 0 = v) : be 1 v ++ b.drop 1 = b := by
  subst h
  cases b with
  | nil => exact absurd rfl hv
  | cons x l => simp [u8, fld, sub, beNat, be]

/-- A request with its own opcode goes to its row. -/
theorem with_op {r : Request} {op : Nat} (h : r.op = op) : ({ r with op := op } : Request) = r := by rw [← h]

theorem with_op_flags {r : Request} {op fl : Nat} (h : r.op = op) (hf : fl = r.flags) :
    ({ r with op := op, flags := fl } : Request) = r := by rw [← h, hf]

theorem with_op_body {r : Request} {op : Nat} {b : Bytes} (h : r.op = op) (hb : b = r.body) :
    ({ r with op := op, body := b } : Request) = r := by rw [← h, hb]

/-- The row that a request's opcode and flags name is `State.request` of that request. -/
theorem exec_rowOf {r : Request} {i : Instr} (h : rowOf r = some i) (s : State) : exec i s = .next (s.request r) := by
  unfold rowOf at h
  split at h
  case h_7 ho =>
    cases h
    cases hb : bit r.flags 4
    · exact congrArg (fun q => Host.Outcome.next (s.request q)) (with_op_flags ho (withBit_false hb))
    · exact congrArg (fun q => Host.Outcome.next (s.request q)) (with_op_flags ho (withBit_true hb))
  case h_11 ho =>
    cases h
    cases h3 : bit r.flags 3
    · cases h2 : bit r.flags 2
      · exact congrArg (fun q => Host.Outcome.next (s.request q))
          (with_op_flags ho (by rw [withBit_false h2, withBit_false h3]))
      · exact congrArg (fun q => Host.Outcome.next (s.request q))
          (with_op_flags ho (by rw [withBit_true h2, withBit_false h3]))
    · exact congrArg (fun q => Host.Outcome.next (s.request q)) (with_op_flags ho (withBit_true h3))
  case h_12 ho =>
    split at h
    · cases h
      rename_i hb
      exact congrArg (fun q => Host.Outcome.next (s.request q)) (with_op_body ho (be_drop_of_u8 (by decide) hb))
    · split at h <;> cases h
      rename_i hb
      exact congrArg (fun q => Host.Outcome.next (s.request q)) (with_op_body ho (be_drop_of_u8 (by decide) hb))
  case h_13 => cases h
  all_goals
    rename_i ho
    cases h
    exact congrArg (fun q => Host.Outcome.next (s.request q)) (with_op ho)

/-! ## A request that is its session's next -/

theorem serves_gate {s : State} {src : Source} (h : s.serves src) : s.skpGate src = none := by
  obtain ⟨hm, hr, hp, hv⟩ := h
  simp only [State.portUsable, decide_eq_true_eq] at hp
  unfold State.skpGate State.skpGateIn
  cases he : s.effective (portId src.port) <;> simp [he, UnitState.num] at hp <;> simp [hm, hr, hv]

theorem sendTo_seq (s : State) (src : Source) (d : Bool) (n m : Option Nat) (p : Bytes) : (s.sendTo src d n m p).seq = s.seq := rfl

theorem refuseAt_seq (s : State) (r : Request) (st : Status) : (s.refuseAt r st).seq = s.seq := rfl

theorem atPort_reorder (s : State) (r : Request) : (s.atPort r).seq.reorder = s.seq.reorder := by
  unfold State.atPort
  simp only []
  repeat' split
  all_goals rfl

/-- A request that is its session's next, with a credit free and nothing in a reorder window, takes its credit and has its turn. -/
theorem request_next {s : State} {r : Request} {x : Session} (hg : s.serves r.src) (hx : s.session r.session = some x)
    (ho : x.opened = true) (hc : x.chorus = false) (hb : x.boundTo r.src = true) (hn : r.seq = x.next)
    (hw : x.outstanding < x.window) (ha : s.awaits r = false) (hr : s.seq.reorder = []) :
    s.request r = (s.arrived r).atPort r := by
  have hd : (r.seq + 2 ^ 32 - x.next) % 2 ^ 32 = 0 := by rw [hn, Nat.add_sub_cancel_left, Nat.mod_self]
  have ha1 : (s.modSession r.session fun y => { y with lastSeen := s.tb.measure }).awaits r = false := ha
  have hfit : ¬ x.window < x.outstanding + 1 := by omega
  have hs1 : (s.modSession r.session fun y => { y with lastSeen := s.tb.measure }).modSession r.session (Session.takeCredit r.seq) =
      s.arrived r := modSession_modSession _ _ _ _ fun _ => rfl
  have hre : ((s.arrived r).atPort r).seq.reorder = [] := (atPort_reorder _ _).trans hr
  simp only [State.request, serves_gate hg, State.arrive, hx, Option.filter_some, ho, if_true, hb, hc, State.arriveLocal, hd, ha1,
    if_neg hfit, hs1, hre]
  rfl

theorem arrived_consume (s : State) (r : Request) (p : Replay) : (s.arrived r).consume r p = s.modSession r.session fun x =>
    Session.consume s.tb.persisted p (Session.takeCredit r.seq { x with lastSeen := s.tb.measure }) :=
  modSession_modSession _ _ _ _ fun _ => rfl

/-- The ready request of a local session enters the open measure (R33). -/
theorem request_entered {s : State} {r : Request} {x : Session} (h : s.readySkp r x) : s.request r = s.entered r := by
  obtain ⟨hg, hx, ho, hc, hb, hn, -, hw, ht, hf, hfit, ha, hr⟩ := h
  have hfit1 : (s.arrived r).fits (valueBytesOf r) = true := hfit
  rw [request_next hg hx ho hc hb hn hw ha hr]
  simp only [State.atPort, hf, ht, hfit1, Bool.not_true, Bool.false_eq_true, if_false, if_true]
  rw [State.takeIn, arrived_consume]
  rfl

theorem exec_entered {s : State} {r : Request} {x : Session} {i : Instr} (h : s.readySkp r x) (hi : rowOf r = some i) :
    exec i s = .next (s.entered r) := by rw [exec_rowOf hi, request_entered h]

/-! ## A pinned request (R48) -/

theorem readyPinned_exec {s : State} {r : Request} {x : Session} {i : Instr} (h : s.readyPinned r x) (hi : rowOf r = some i) :
    exec i s = .next ((s.arrived r).atPort r) := by
  obtain ⟨hg, hx, ho, hc, hb, hn, -, hw, -, -, -, ha, hr⟩ := h
  rw [exec_rowOf hi, request_next hg hx ho hc hb hn hw ha hr]

/-- A refusal at the port of a request that has just taken its credit. -/
theorem refuses_refuseAt {s : State} {r : Request} {x : Session} (hx : s.session r.session = some x) (hcl : x.closing = [])
    (st : Status) : s.refuses ((s.arrived r).refuseAt r st) r x st := by
  have hf (y : Session) : (Session.returnCredit r.seq (Session.consume s.tb.persisted (.refusal r s.tb.measure st)
      (Session.takeCredit r.seq { y with lastSeen := s.tb.measure }))).id = y.id := by simp
  have ht : ((s.arrived r).refuseAt r st).sessions = (s.modSession r.session fun y =>
      Session.returnCredit r.seq (Session.consume s.tb.persisted (.refusal r s.tb.measure st)
        (Session.takeCredit r.seq { y with lastSeen := s.tb.measure }))).sessions := by
    have h : ((s.arrived r).refuseAt r st).sessions = (((s.arrived r).consume r (.refusal r s.tb.measure st)).modSession r.session
      (Session.returnCredit r.seq)).sessions := rfl
    rw [h, arrived_consume, modSession_modSession _ _ _ _ (by simp)]
  have hs (k : Nat) : ((s.arrived r).refuseAt r st).session k = (s.modSession r.session fun y =>
      Session.returnCredit r.seq (Session.consume s.tb.persisted (.refusal r s.tb.measure st)
        (Session.takeCredit r.seq { y with lastSeen := s.tb.measure }))).session k := by
    simp only [State.session, ht]
  refine ⟨⟨_, (hs _).trans ((modSession_session _ _ _ hf).trans (by rw [hx]; rfl)), ?_, ?_⟩, fun k hk => ?_, rfl, rfl⟩
  · rw [returnCredit_holding (by simpa [Session.takeCredit] using hcl)]
    simp [Session.takeCredit]
  · simp [Session.takeCredit]
  · rw [hs, modSession_other _ _ _ _ hf hk]

/-- Settles O35: the turn at the admission port, by the place of the target relative to the open measure. -/
theorem pinnedRequestsFollowTheirTarget : Obligations.PinnedRequestsFollowTheirTarget := by
  intro i r s x hi h
  have hexec := readyPinned_exec h hi
  obtain ⟨-, hx, -, -, -, -, -, -, hcl, ht, hf, -, -⟩ := h
  have hrefuse (st : Status) := refuses_refuseAt hx hcl st
  have htb : (s.arrived r).tb.measure = s.tb.measure := rfl
  have hfits : (s.arrived r).fits (valueBytesOf r) = s.fits (valueBytesOf r) := rfl
  simp only [State.atPort, hf, ht, htb, hfits, Bool.not_true, Bool.false_eq_true, if_false] at hexec
  refine ⟨fun hlt => ?_, fun he hfit => ?_, fun he hfit => ?_, fun hgt hle => ?_, fun hgt => ?_⟩
  · rw [if_pos hlt] at hexec
    exact ⟨_, hexec, hrefuse .late⟩
  · rw [if_neg (by omega), if_pos he, if_pos hfit] at hexec
    exact hexec
  · rw [if_neg (by omega), if_pos he, if_neg (by simp [hfit])] at hexec
    exact ⟨_, hexec, hrefuse .busy⟩
  · rw [if_neg (by omega), if_neg (by omega), if_pos (by omega)] at hexec
    exact hexec
  · rw [if_neg (by omega), if_neg (by omega), if_neg (by omega)] at hexec
    exact ⟨_, hexec, hrefuse .range⟩
end Sys2Proof.Laws
end

section
namespace Sys2Proof.Laws
open Sys2Proof Sys2Proof.Machine

/-! # What searches and reads leave

Searching Larkspur, reading values from flash, lowering a unit and reporting change the units, the flash queues, the arrays, the
event fabric, Coda and the free values alone. -/

/-- A state without what searches and reads change. -/
def still (s : State) : State :=
  { s with units := [], flash := .reset .reset, lks := .reset, fabric := .reset, coda := .reset, fresh := 0 }

@[simp] theorem foldl_still {α : Type} {f : State → α → State} (h : ∀ t a, still (f t a) = still t) (l : List α) (s : State) :
    still (l.foldl f s) = still s := foldl_keeps h l s
@[simp] theorem ite_still {c : Prop} [Decidable c] {a b : State} : still (if c then a else b) = if c then still a else still b :=
  apply_ite ..
theorem fst_still {α : Type} {s t : State} {p : State × α} {v : α} (h : p = (t, v)) (hp : still p.1 = still s) : still t = still s := by
  rw [h] at hp; exact hp
@[simp] theorem ite_fst_still {α : Type} {c : Prop} [Decidable c] {a b : State × α} :
    still (if c then a else b).1 = if c then still a.1 else still b.1 := by split <;> rfl

@[simp] theorem report_still (s : State) (code : Nat) (source : Nat) (payload : Bytes) (trigger : Option Nat) (secure : Bool) :
    still (s.report code source payload trigger secure) = still s := by
  rfl
@[simp] theorem modChan_still (s : State) (c : Fin 32) (f : Chan → Chan) : still (s.modChan c f) = still s := by rfl
@[simp] theorem modFabric_still (s : State) (f : Fabric → Fabric) : still (s.modFabric f) = still s := by rfl
@[simp] theorem modCoda_still (s : State) (f : Coda → Coda) : still (s.modCoda f) = still s := by rfl
@[simp] theorem modLks_still (s : State) (f : LksArray → LksArray) : still (s.modLks f) = still s := by rfl
@[simp] theorem modFlash_still (s : State) (f : Flash → Flash) : still (s.modFlash f) = still s := by rfl
@[simp] theorem modLun_still (s : State) (id : Nat) (f : Lun → Lun) : still (s.modLun id f) = still s := by rfl
@[simp] theorem modUnit_still (s : State) (id : Nat) (f : HwUnit → HwUnit) : still (s.modUnit id f) = still s := by rfl
@[simp] theorem draw_still (s : State) (bits : Nat) : still (s.draw bits).2 = still s := by rfl
@[simp] theorem inject_still (s : State) (c : Fin 32) : still (s.inject c) = still s := by rfl
@[simp] theorem injectAll_still (s : State) (cs : List (Fin 32)) : still (s.injectAll cs) = still s := by simp [State.injectAll]
@[simp] theorem pulseAll_still (s : State) (ps : List Nat) : still (s.pulseAll ps) = still s := by simp [State.pulseAll]
@[simp] theorem pulse_still (s : State) (p : Nat) : still (s.pulse p) = still s := by simp [State.pulse]
@[simp] theorem noteViews_still (s : State) (id : Nat) (age : Nat) : still (s.noteViews id age) = still s := by
  unfold State.noteViews
  split <;> simp
@[simp] theorem viewsMoved_still (s : State) (id : Nat) (age : Nat) : still (s.viewsMoved id age) = still s := by
  simp [State.viewsMoved]
@[simp] theorem lowerData_still (s : State) (id : Nat) (v : UnitState) : still (s.lowerData id v) = still s := by
  unfold State.lowerData
  split <;> simp
@[simp] theorem raiseData_still (s : State) (id : Nat) (v : UnitState) : still (s.raiseData id v) = still s := by
  unfold State.raiseData
  split <;> simp
@[simp] theorem degrade_still (s : State) (id : Nat) : still (s.degrade id) = still s := by simp [State.degrade]
@[simp] theorem startRebuild_still (s : State) (k : Nat) : still (s.startRebuild k) = still s := by simp [State.startRebuild]
@[simp] theorem readShadow_still (s : State) (pos : Nat) : still (s.readShadow pos) = still s := by
  unfold State.readShadow
  split <;> simp
@[simp] theorem repairUnit_still (s : State) (pos : Nat) : still (s.repairUnit pos) = still s := by simp [State.repairUnit]
@[simp] theorem compareUnit_still (s : State) (pos : Nat) : still (s.compareUnit pos) = still s := by simp [State.compareUnit]
@[simp] theorem mirrorPair_still (tb : Table) (reach : List Entry → List (Nat × Bool)) (k n : Nat) (s : State) :
    still (State.mirrorPair tb reach k n s) = still s := by
  induction n generalizing s with
  | zero => rfl
  | succ n ih => simp [State.mirrorPair, ih]
@[simp] theorem mirrorCheck_still (s : State) (tb : Table) (reach : List Entry → List (Nat × Bool)) :
    still (s.mirrorCheck tb reach) = still s := by
  simp [State.mirrorCheck]
@[simp] theorem searched_still (s : State) (tb : Table) : still (s.searched tb) = still s := by rfl
@[simp] theorem consult_still (s : State) (tb : Table) (word : Nat) : still (s.consult tb word) = still s := by simp [State.consult]
@[simp] theorem consultCover_still (s : State) (value : Nat) (care : Nat) : still (s.consultCover value care) = still s := by
  simp [State.consultCover]
@[simp] theorem consultAcl_still (s : State) (src : Option Source) (m : Nat) (c : OpClass) (ns : Nat) (key : Bytes) (cover : Bool) :
    still (s.consultAcl src m c ns key cover) = still s := by
  simp only [State.consultAcl]
  split
  · rfl
  · cases src <;> split <;> simp
@[simp] theorem checkKey_still (s : State) (src : Option Source) (m : Nat) (c : OpClass) (ns : Nat) (key : Bytes) :
    still (s.checkKey src m c ns key).1 = still s := by
  simp [State.checkKey]
@[simp] theorem checkAll_still (s : State) (src : Option Source) (m : Nat) (c : OpClass) (ns : Nat) (pre : Bytes) :
    still (s.checkAll src m c ns pre).1 = still s := by
  simp [State.checkAll]
@[simp] theorem consultRun_still (p : Pattern) (n state : Nat) (rest : Bytes) (s : State) :
    still (State.consultRun p n state rest s) = still s := by
  induction n generalizing state rest s with
  | zero => rfl
  | succ n ih =>
    simp only [State.consultRun]
    split <;> simp [ih]
@[simp] theorem ranOn_still (s : State) (slot : Nat) (key : Bytes) : still (s.ranOn slot key) = still s := by
  unfold State.ranOn
  split <;> simp
@[simp] theorem ranOver_still (slot k : Nat) (l : List KeyEnt) (s : State) : still (State.ranOver slot k l s) = still s := by
  induction l generalizing k s with
  | nil => rfl
  | cons e l ih => simp [State.ranOver, ih]
@[simp] theorem checkAcl_still (s : State) (x : Ctx) (r : Request) : still (s.checkAcl x r).1 = still s := by simp [State.checkAcl]
@[simp] theorem gate_still (s : State) (x : Ctx) (r : Request) : still (s.gate x r).1 = still s := by
  unfold State.gate
  split
  · rfl
  · split
    · rfl
    · split
      rename_i heq
      have := fst_still heq (checkAcl_still s x r)
      split <;> exact this
@[simp] theorem submit_still (s : State) (lun : Nat) (o : NandOp) : still (s.submit lun o) = still s := by simp [State.submit]
@[simp] theorem readWord_still (s : State) (kind : NandKind) (b : Superblock) (w : Codeword) (own : Bool) :
    still (s.readWord kind b w own) = still s := by
  unfold State.readWord
  split <;> simp
@[simp] theorem readExtent_still (s : State) (extent : Nat) (lo : Nat) (hi : Nat) (sliced : Option Nat) :
    still (s.readExtent extent lo hi sliced).2 = still s := by
  simp [State.readExtent]
@[simp] theorem hostWrote_still (s : State) (n : Nat) : still (s.hostWrote n) = still s := by rfl


/-! ## What `still` holds -/

section
variable {s t : State} (h : still t = still s)
include h
theorem store_of_still : t.store = s.store := (congrArg State.store h :)
theorem seq_of_still : t.seq = s.seq := (congrArg State.seq h :)
theorem tb_of_still : t.tb = s.tb := (congrArg State.tb h :)
theorem sessions_of_still : t.sessions = s.sessions := (congrArg State.sessions h :)
theorem sameRest_of_still : s.sameRest t :=
  ⟨(congrArg State.pending h :), (congrArg State.board h :), (congrArg State.fuses h :), (congrArg State.nor h :),
    (congrArg State.tb h :), (congrArg State.mbx h :), (congrArg State.ports h :), (congrArg State.power h :),
    (congrArg State.spi h :), (congrArg State.cluster h :),
    (congrArg State.chorus h :), (congrArg State.durable h :), (congrArg State.snaps h :)⟩
end
end Sys2Proof.Laws
end

section
namespace Sys2Proof.Laws
open Sys2Proof Sys2Proof.Machine

/-! # A request at its place in a local list (R42 to R44, R132) -/

/-! ## Placing a response leaves the Sequencer's item state -/

@[simp] theorem sendPieces_seq (s : State) (r : Reply) (more : Bool) (k : Nat) (l : List (Nat × Nat × Bytes × Bytes)) :
    (s.sendPieces r more k l).seq = s.seq := by
  induction l generalizing s k with
  | nil => rfl
  | cons pc l ih =>
    rw [State.sendPieces, ih]
    split
    · rfl
    · rfl

@[simp] theorem replyDone_seq (s : State) (r : Reply) : (s.replyDone r).seq = s.seq := by
  simp only [State.replyDone]
  split <;> split <;> rfl

@[simp] theorem completeMailbox_seq (s : State) (m : Fin 8) (op sq : Nat) (st : Status) (n : Nat) (b : Bytes) :
    (s.completeMailbox m op sq st n b).seq = s.seq := by
  simp only [State.completeMailbox]
  split <;> rfl

/-- What of the Sequencer the responses of an item leave alone. -/
def under (q : Sequencer) : Sequencer := { q with replies := [], readUsed := 0 }

theorem under_ite {c : Prop} [Decidable c] {a b : State} {q : Sequencer} (ha : under a.seq = q) (hb : under b.seq = q) :
    under (if c then a else b).seq = q := by split <;> assumption

theorem placeReply_under (s : State) (r : Reply) : under (s.placeReply r).seq = under s.seq := by
  unfold State.placeReply
  split
  · simp
  · split
    · simp
    · exact under_ite (by simp [under]) (by simp [under])

theorem schedule_under (s : State) (r : Reply) : under (s.schedule r).seq = under s.seq := by
  unfold State.schedule
  split
  · exact placeReply_under s r
  · rfl

theorem behind_of_under {p q : Sequencer} (h : under p = under q) : p.behind = q.behind := (congrArg Sequencer.behind h :)

/-! ## The checks of R132 -/

theorem ns_id {t : Store} {k : Nat} {n : Namespace} (h : t.ns k = some n) : n.id = k := by
  simpa using List.find?_some h

/-- A request that may use its local namespace passes the gate; only the searches of the ACL have left a trace. -/
theorem gate_of_mayAccess {s : State} {m : Nat} {r : Request} {n : Namespace} (h : s.mayAccess m r n) :
    s.gate ⟨m, m, false⟩ r = ((s.checkAcl ⟨m, m, false⟩ r).1, .ok n) := by
  obtain ⟨hr, h0, hn, hc, hl, ha⟩ := h
  have hg : s.nsGate r = .ok n := by
    simpa [State.nsGate, hr, h0, hn] using hl
  simp only [State.gate, hg, Bool.false_and, Bool.false_eq_true, if_false]
  simp [ha, State.shardGate, hc]

theorem gated_of_mayAccess {s : State} {m : Nat} {r : Request} {n : Namespace} (h : s.mayAccess m r n)
    (f : State → Namespace → OpRes) : s.gated ⟨m, m, false⟩ r f = f (s.checkAcl ⟨m, m, false⟩ r).1 n := by
  rw [State.gated, gate_of_mayAccess h]

/-! ## From an operation to its response -/

/-- A request of a local list that is neither a member of a batch nor its close runs its operation and settles the answer. -/
theorem runRequest_local {s t : State} {m : Nat} {r : Request} {a : Ans} (hj : (joinsBatch r && (s.store.batch r.session).isSome) = false)
    (h9 : r.op ≠ 9) (hop : opRun ⟨m, m, false⟩ r s = (t, a)) :
    s.runRequest ⟨m, m, false⟩ r = t.settle ⟨m, m, false⟩ r a false := by
  simp only [State.runRequest, hj, Bool.false_eq_true, if_false, h9, State.consultRoute, awayFrom, Bool.false_and, hop]

/-- The replay record of a request takes its answer. -/
def recorded (s : State) (r : Request) (a : Ans) (aborted : Bool) : State :=
  s.modReplay r.session r.seq fun p => { p with status := some a.status, aborted, body := a.kept }

theorem settle_local {s : State} {m : Nat} {r : Request} {a : Ans} {ab : Bool} (ha : a.silent = false)
    (h6 : r.op ≠ 6 ∨ a.status ≠ .ok) :
    s.settle ⟨m, m, false⟩ r a ab = (recorded s r a ab).schedule (s.replyOf ⟨m, m, false⟩ r a ab) := by
  have h6 : ¬ (r.op = 6 ∧ a.status = .ok) := by tauto
  simp only [State.settle, ha, Bool.false_and, Bool.or_self, Bool.false_eq_true, if_false, h6]
  rfl

/-- The response of a local request whose operation stood in the measure after `m` and kept the Sequencer at rest. -/
theorem servesWith_of_opRun {s t : State} {m : Nat} {r : Request} {a : Ans} {due durable : Nat} {P : State → Prop}
    (h : s.reachesSkp m) (hj : (joinsBatch r && (s.store.batch r.session).isSome) = false) (h9 : r.op ≠ 9)
    (h6 : r.op ≠ 6 ∨ a.status ≠ .ok) (hop : opRun ⟨m, m, false⟩ r s = (t, a)) (ha : a.silent = false)
    (hl : t.seq.late = 0) (hb : t.seq.behind = 0) (hdue : due = if isWrite r then m + 3 else m + 1)
    (hdur : durable = if isWrite r then m else 0) (hP : ∀ l, P { t with sessions := l }) :
    s.servesWith m r a.status a.pieces due durable P := by
  have hs : s.serve m r = (recorded t r a false).schedule (t.replyOf ⟨m, m, false⟩ r a false) := by
    rw [serve_eq h, runRequest_local hj h9 hop, settle_local ha h6]
    exact modSeq_behind ((behind_of_under (schedule_under _ _)).trans hb)
  refine ⟨recorded t r a false, ⟨_, hs, rfl, rfl, rfl, rfl, rfl, rfl, rfl, ?_, ?_, rfl, rfl⟩, hP _⟩
  · rw [hdue]
    cases hw : isWrite r <;> simp [State.replyOf, Sequencer.ackAt, hw, hl, hb]
  · rw [hdur]
    cases hw : isWrite r <;> simp [State.replyOf, Sequencer.ackAt, hw, hl, hb]

end Sys2Proof.Laws
end

section
namespace Sys2Proof.Laws
open Sys2Proof Sys2Proof.Machine

/-! # GET, SCAN and WATCH at their place (R114, R123 to R127) -/

theorem opRun_get (x : Ctx) {r : Request} (s : State) (h : r.op = 1) : opRun x r s = opGet x r s := by simp only [opRun, h]
theorem opRun_scan (x : Ctx) {r : Request} (s : State) (h : r.op = 6) : opRun x r s = opScan x r s := by simp only [opRun, h]
theorem opRun_watch (x : Ctx) {r : Request} (s : State) (h : r.op = 7) (hb : bit r.flags 4 = false) :
    opRun x r s = opWatch x r s := by simp only [opRun, h, hb, Bool.false_eq_true, if_false]
theorem opRun_watchStop (x : Ctx) {r : Request} (s : State) (h : r.op = 7) (hb : bit r.flags 4 = true) :
    opRun x r s = opWatchStop x r s := by simp only [opRun, h, hb, if_true]

/-! ## SCAN: the run of its pattern does not look at the sessions -/

theorem runFrom_sessions (s : State) (l : List Session) (p : Pattern) (fuel state : Nat) (rest : Bytes) :
    ({ s with sessions := l } : State).runFrom p fuel state rest = s.runFrom p fuel state rest := by
  induction fuel generalizing state rest with
  | zero => rfl
  | succ n ih =>
    have hstep : ({ s with sessions := l } : State).autoStep p state rest = s.autoStep p state rest := rfl
    simp only [State.runFrom, hstep, ih]

theorem accepts_sessions (s : State) (l : List Session) (slot : Nat) (key : Bytes) :
    ({ s with sessions := l } : State).accepts slot key = s.accepts slot key := by
  simp only [State.accepts, State.run, runFrom_sessions]

theorem steps_sessions (s : State) (l : List Session) (slot : Nat) (key : Bytes) :
    ({ s with sessions := l } : State).steps slot key = s.steps slot key := by
  simp only [State.steps, State.run, runFrom_sessions]

@[simp] theorem recorded_accepts (s : State) (r : Request) (a : Ans) (ab : Bool) (slot : Nat) (key : Bytes) :
    (recorded s r a ab).accepts slot key = s.accepts slot key := accepts_sessions ..

@[simp] theorem recorded_steps (s : State) (r : Request) (a : Ans) (ab : Bool) (slot : Nat) (key : Bytes) :
    (recorded s r a ab).steps slot key = s.steps slot key := steps_sessions ..

theorem scanStep_under {s : State} {v : ScanRun} (hv : v.behind = []) : (s.scanStep v).seq.behind = s.seq.behind := by
  have ht : (s.scanTurn v).1.seq.behind = s.seq.behind ∧ (s.scanTurn v).2.behind = [] := by
    unfold State.scanTurn
    extract_lets budget forced
    split
    · exact ⟨rfl, hv⟩
    · exact ⟨rfl, hv⟩
  simp only [State.scanStep, ht.2, List.foldl_nil]
  split
  · rw [behind_of_under (schedule_under _ _), ht.1]
  · exact ht.1

theorem settle_scan {s : State} {m : Nat} {r : Request} {a : Ans} (ha : a.silent = false) (h6 : r.op = 6) (hst : a.status = .ok) :
    s.settle ⟨m, m, false⟩ r a false = (recorded s r a false).scanStep
      { reply := s.replyOf ⟨m, m, false⟩ r a false, costs := a.costs, slot := a.slot, behind := [] } := by
  have hscan : r.op = 6 ∧ a.status = .ok := ⟨h6, hst⟩
  simp only [State.settle, ha, Bool.false_and, Bool.or_self, Bool.false_eq_true, if_false, if_pos hscan]
  rfl

/-! ## The operations -/

section
variable {s : State} {m : Nat} {r : Request} {n : Namespace} (h : s.reachesSkp m) (ha : s.mayAccess m r n)
include h

/-- What is still at rest when the searches are done. -/
theorem still_calm {t : State} (ht : still t = still s) : t.seq.late = 0 ∧ t.seq.behind = 0 := by
  obtain ⟨-, hl, hb, -⟩ := h
  rw [seq_of_still ht]
  exact ⟨hl, hb⟩

include ha

theorem get_serves {e : KeyEnt} {data : Bytes} (ho : r.op = 1) (he : n.find r.key = some e) (hoff : r.offset ≤ e.value.length)
    (hlen : r.length = 0 ∨ r.offset + r.length ≤ e.value.length)
    (hd : data = sub e.value r.offset (if r.length = 0 then e.value.length - r.offset else r.length))
    (hlost : data = [] ∨ s.wordsLost e.extent (r.offset / 4096) ((r.offset + data.length + 4095) / 4096)
      (if readSliceOf s.store.length < data.length then some m else none) = false) :
    s.servesWith m r .ok (valuePieces (s.pieceSize r.src.port) e.value.length r.offset (be 8 e.version) data) (m + 1) 0 fun u =>
      u.store = s.store ∧ s.sameRest u := by
  have hrange : ¬ (e.value.length < r.offset ∨ (r.length ≠ 0 ∧ e.value.length < r.offset + r.length)) := by omega
  have hl : (!data.isEmpty && s.wordsLost e.extent (r.offset / 4096) ((r.offset + data.length + 4095) / 4096)
      (if readSliceOf s.store.length < data.length then some m else none)) = false := by
    rcases hlost with hlost | hlost <;> simp [hlost]
  have h1 : still (s.checkAcl ⟨m, m, false⟩ r).1 = still s := checkAcl_still ..
  obtain ⟨t, reads, hop, ht⟩ : ∃ t reads, opRun ⟨m, m, false⟩ r s = (t, { Ans.ok [] with
      pieces := valuePieces (s.pieceSize r.src.port) e.value.length r.offset (be 8 e.version) data, reads }) ∧
      still t = still s := by
    rw [opRun_get _ _ ho, opGet, gated_of_mayAccess ha]
    simp only [he, if_neg hrange, ← hd, hl, Bool.false_eq_true, if_false]
    split
    · exact ⟨_, _, rfl, h1⟩
    · exact ⟨_, _, rfl, (readExtent_still ..).trans h1⟩
  obtain ⟨hl, hb⟩ := still_calm h ht
  have hst := store_of_still ht
  have hre := sameRest_of_still ht
  exact servesWith_of_opRun h (by simp [joinsBatch, ho]) (by omega) (by omega) hop rfl hl hb (by simp [isWrite, isLoad, ho])
    (by simp [isWrite, isLoad, ho]) fun l => ⟨hst, hre⟩

theorem watch_serves (ho : r.op = 7) (hf : bit r.flags 4 = false) (hd : 1 ≤ fld r.body 4 4) (hd2 : fld r.body 4 4 ≤ 4194304)
    (hp : s.patternCheck (fld r.body 0 2) = none) (hw : s.seq.watches.length < 1024) :
    s.servesWith m r .ok [(0, 0, [], [])] (m + 1) 0 fun u =>
      u.seq.watches = s.seq.watches ++ [{ session := r.session, seq := r.seq, src := r.src, ns := r.ns, pre := r.key
                                          pattern := fld r.body 0 2, from_ := m, duration := fld r.body 4 4
                                          limit := fld r.body 8 4, cls := r.cls, count := 0 }] ∧
      u.store = s.store ∧ s.sameRest u := by
  have h1 : still (s.checkAcl ⟨m, m, false⟩ r).1 = still s := checkAcl_still ..
  have hdur : ¬ (fld r.body 4 4 = 0 ∨ 4194304 < fld r.body 4 4) := by omega
  have hop := opRun_watch ⟨m, m, false⟩ s ho hf
  rw [opWatch, gated_of_mayAccess ha] at hop
  simp only [if_neg hdur, hp, if_neg (Nat.not_le.mpr hw), ns_id ha.2.2.1] at hop
  obtain ⟨hl, hb⟩ := still_calm h h1
  have hst := store_of_still h1
  have hre := sameRest_of_still h1
  refine servesWith_of_opRun h (by simp [joinsBatch, ho]) (by omega) (by omega) hop rfl hl hb (by simp [isWrite, isLoad, ho])
    (by simp [isWrite, isLoad, ho]) fun l => ⟨?_, hst, hre⟩
  simp [seq_of_still h1]

theorem watchStop_serves {w : Watch} (ho : r.op = 7) (hf : bit r.flags 4 = true)
    (hw : s.seq.watches.find? (fun v => v.is r.session (fld r.body 4 4)) = some w) (hc : w.cls < 4) :
    s.servesWith m r .ok [(0, 0, [], [])] (m + 1) 0 fun u =>
      u.seq.watches = s.seq.watches.filter (fun v => !v.is r.session (fld r.body 4 4)) ∧
      (∃ q ∈ u.seq.replies, q.notify = true ∧ q.credit = true ∧ q.session = r.session ∧ q.seq = fld r.body 4 4 ∧ bit q.flags 13 = true) ∧
      u.store = s.store ∧ s.sameRest u := by
  have h1 : still (s.checkAcl ⟨m, m, false⟩ r).1 = still s := checkAcl_still ..
  generalize hs1 : (s.checkAcl ⟨m, m, false⟩ r).1 = s1 at h1
  obtain ⟨hl, hb⟩ := still_calm h h1
  have hst := store_of_still h1
  have hre := sameRest_of_still h1
  have hq := seq_of_still h1
  have hwis : w.session = r.session ∧ w.seq = fld r.body 4 4 := by
    simpa [Watch.is] using List.find?_some hw
  have hop := opRun_watchStop ⟨m, m, false⟩ s ho hf
  rw [opWatchStop, gated_of_mayAccess ha, hs1, hq] at hop
  simp only [hw] at hop
  have hnot : s1.endWatch w 3 m = s1.modSeq fun q =>
      { q with
        watches := q.watches.filter fun x => !x.is w.session w.seq
        replies := q.replies ++ [w.notify (w.count + 1) 3 3 0 0 [] true (s1.seq.ackAt m)] } := by
    rw [State.endWatch, schedule_later]
    · rfl
    · have htb : s1.tb.measure = m + 1 := (congrArg Timebase.measure (tb_of_still h1)).trans h.1
      simp only [State.modSeq, htb, Watch.notify, Sequencer.ackAt, hl, hb, if_true]
      omega
  rw [hnot] at hop
  refine servesWith_of_opRun h (by simp [joinsBatch, ho]) (by omega) (by omega) hop rfl hl hb (by simp [isWrite, isLoad, ho])
    (by simp [isWrite, isLoad, ho]) fun l => ⟨?_, ⟨_, List.mem_append_right _ (List.mem_singleton.2 rfl), rfl, rfl, hwis.1, hwis.2, ?_⟩, hst, hre⟩
  · simp [hq, hwis]
  · have h13 : (w.cls + 2 ^ 13).testBit 13 = true := by
      rw [Nat.add_comm, Nat.testBit_two_pow_add_eq, Nat.testBit_lt_two_pow (by omega)]
      rfl
    exact h13

theorem scan_serves {walk : List KeyEnt} {k : Nat} (ho : r.op = 6) (hk : fld r.body 2 2 = k) (hk0 : k ≠ 0)
    (hp : s.patternCheck (fld r.body 0 2) = none) (hlost : s.leavesLost n r.key (r.body.drop 8) = false)
    (hwalk : walk = n.keys.filter fun e => isPrefix r.key e.key && ((r.body.drop 8).isEmpty || bytesLt (r.body.drop 8) e.key)) :
    ∃ (u : State) (v : ScanRun), s.serve m r = u.scanStep v ∧ u.store = s.store ∧ s.sameRest u ∧
      v.slot = fld r.body 0 2 ∧ v.behind = [] ∧ v.reply.session = r.session ∧ v.reply.seq = r.seq ∧ v.reply.src = r.src ∧
      v.reply.status = .ok ∧ v.reply.due = m + 1 ∧ v.reply.credit = true ∧
      ∀ hits, hits = walk.filter (fun e => u.accepts (fld r.body 0 2) e.key) →
        v.costs = (visited (fun e => u.accepts (fld r.body 0 2) e.key) k walk).map (fun e => u.steps (fld r.body 0 2) e.key) ∧
        v.reply.flags = r.flags % 32 + (if k < hits.length then 2 ^ 11 else 0) ∧
        v.reply.pieces = (packEntries (s.pieceSize r.src.port) [] ((hits.take k).map scanEntry)).map fun b =>
          (0, (hits.take k).length, [], b) := by
  have h1 : still (s.checkAcl ⟨m, m, false⟩ r).1 = still s := checkAcl_still ..
  have h2 : still (State.ranOver (fld r.body 0 2) k walk (s.checkAcl ⟨m, m, false⟩ r).1) = still s := (ranOver_still ..).trans h1
  have hop := opRun_scan ⟨m, m, false⟩ s ho
  rw [opScan, gated_of_mayAccess ha] at hop
  simp only [hk, hk0, if_false, hp, hlost, Bool.false_eq_true, ← hwalk] at hop
  generalize State.ranOver (fld r.body 0 2) k walk (s.checkAcl ⟨m, m, false⟩ r).1 = t at h2 hop
  obtain ⟨hl, hb⟩ := still_calm h h2
  have hst := store_of_still h2
  have hre := sameRest_of_still h2
  rw [serve_eq h, runRequest_local (by simp [joinsBatch, ho]) (by omega) hop, settle_scan rfl ho rfl]
  refine ⟨_, _, modSeq_behind ((scanStep_under rfl).trans hb), hst, hre, rfl, rfl, rfl, rfl, rfl, rfl, ?_, ?_, ?_⟩
  · simp [State.replyOf, isWrite, isLoad, ho, hb]
  · simp [State.replyOf, ho]
  · rintro hits rfl
    simp [State.replyOf]
end

/-- Settles O28: the rows take their requests, and each operation's answer follows from its gate and its own checks. -/
theorem skpReadsComplete : Obligations.SkpReadsComplete := by
  refine ⟨fun r s x h => ⟨fun ho => ?_, fun ho => ?_, fun ho hb => ?_, fun ho hb => ?_⟩, fun r s m n h ha => ⟨?_, ?_, ?_, ?_⟩⟩
  · exact exec_entered h (by simp [rowOf, ho])
  · exact exec_entered h (by simp [rowOf, ho])
  · exact exec_entered h (by simp [rowOf, ho, hb])
  · exact exec_entered h (by simp [rowOf, ho, hb])
  · exact fun e data => get_serves h ha
  · exact fun walk k => scan_serves h ha
  · exact watch_serves h ha
  · exact fun w => watchStop_serves h ha
end Sys2Proof.Laws
end

section
namespace Sys2Proof.Laws
open Sys2Proof Sys2Proof.Machine

/-! # APPEND whose own ACL check takes the value away (R122, R173, R221)

The obligation names the loss of the value in the state before the request; APPEND looks for it after the searches of its ACL check,
which may fence a Larkspur bank. No well-formedness keeps the unit of a codeword apart from the units of the banks. -/

/-- A codeword of extent `ext` on unit `lun`, in stripe 0. -/
def strayWord (ext lun : Nat) : Codeword where
  ext := ext
  idx := 0
  ns := 1
  measure := 90
  data := []
  stripe := 0
  lun := lun
  programmed := true
  live := true
  durable := true
  source := none
  unread := false

/-- A superblock with the value of extent 0 on the unit of Larkspur bank 4, and in the same stripe a page on no unit at all. -/
def straySb : Superblock where
  group := 0
  num := 0
  native := false
  stream := .slcHost
  blocks := []
  luns := []
  words := [strayWord 0 0x4004, strayWord 77 0]
  used := 2
  closedAt := 0
  refs := []
  hard := false
  draining := false

/-- `talk` with that superblock, and with stuck cells where bank 4 holds the one ACL entry. -/
def strayState : State :=
  { Tests.talk with
    lks := { Tests.talk.lks with cells := [⟨4 * 8192, 2 ^ 256 - 1, true⟩] }
    flash := { Tests.talk.flash with sbs := [straySb] } }

/-- APPEND of one byte to the key of namespace 1. -/
def strayAppend : Request := Tests.rq 5 [1] [9] 1

theorem strayAppend_reaches : strayState.reachesSkp 99 := by unfold State.reachesSkp; decide +kernel

theorem strayAppend_mayAccess : strayState.mayAccess 99 strayAppend Tests.ns1 := by unfold State.mayAccess; decide +kernel

theorem strayAppend_readable : ∀ e, Tests.ns1.find strayAppend.key = some e → strayState.valueLost e = false := by
  intro e he
  have h : ((Tests.ns1.find strayAppend.key).map strayState.valueLost) = some false := by decide +kernel
  rw [he] at h
  exact Option.some.inj h

/-- The APPEND is answered UNIT_OFFLINE and writes nothing: its key keeps version 1. -/
theorem strayAppend_store : ((strayState.serve 99 strayAppend).store.ns strayAppend.ns).bind
    (fun n => (n.find strayAppend.key).map (·.version)) = some 1 := by
  decide +kernel

@[simp] theorem sendPieces_store (s : State) (r : Reply) (more : Bool) (k : Nat) (l : List (Nat × Nat × Bytes × Bytes)) :
    (s.sendPieces r more k l).store = s.store := by
  induction l generalizing s k with
  | nil => rfl
  | cons pc l ih =>
    rw [State.sendPieces, ih]
    split
    · rfl
    · rfl

@[simp] theorem replyDone_store (s : State) (r : Reply) : (s.replyDone r).store = s.store := by
  simp only [State.replyDone]
  split <;> split <;> rfl

@[simp] theorem completeMailbox_store (s : State) (m : Fin 8) (op sq : Nat) (st : Status) (n : Nat) (b : Bytes) :
    (s.completeMailbox m op sq st n b).store = s.store := by
  simp only [State.completeMailbox]
  split <;> rfl

theorem store_ite {c : Prop} [Decidable c] {a b : State} {t : Store} (ha : a.store = t) (hb : b.store = t) :
    (if c then a else b).store = t := by split <;> assumption

@[simp] theorem placeReply_store (s : State) (r : Reply) : (s.placeReply r).store = s.store := by
  unfold State.placeReply
  split
  · simp
  · split
    · simp
    · exact store_ite (by simp) (by simp)

@[simp] theorem schedule_store (s : State) (r : Reply) : (s.schedule r).store = s.store := by
  unfold State.schedule
  split
  · simp
  · rfl

/-- Refutes O29: an APPEND whose ACL check fences bank 4 finds its value, said to lie on that bank's unit, unreadable, and is
answered UNIT_OFFLINE. -/
theorem not_skpWritesComplete : ¬ Obligations.SkpWritesComplete := by
  intro h
  have happ := (h.2 strayAppend strayState 99 Tests.ns1 strayAppend_reaches strayAppend_mayAccess rfl rfl 2 rfl).1 [10, 11, 9]
    (.inr (.inr ⟨rfl, rfl, by decide, rfl, by decide, strayAppend_readable⟩)) rfl (by decide +kernel)
  obtain ⟨u, ⟨q, hu, -⟩, ⟨n1, hn, -, e, he, -, hv, -⟩, -⟩ := happ
  have hst := strayAppend_store
  rw [hu, schedule_store, hn, Option.bind_some, he] at hst
  have hver : e.version = 1 := Option.some.inj hst
  omega
end Sys2Proof.Laws
end

section
namespace Sys2Proof.Laws
open Sys2Proof Sys2Proof.Machine

/-! # Batches and CANCEL (R128, R129, R68, R69) -/

/-! ## What an operation adds to the delay of the answers after it: nothing -/

/-- How far answers are put off: by Quiesce and behind a sliced operation. -/
def lag (s : State) : Nat × Nat := (s.seq.late, s.seq.behind)

theorem lag_of_still {s t : State} (h : still t = still s) : lag t = lag s := by rw [lag, seq_of_still h]; rfl

theorem schedule_lag (s : State) (r : Reply) : lag (s.schedule r) = lag s := by
  have h := schedule_under s r
  exact Prod.ext (congrArg Sequencer.late h :) (congrArg Sequencer.behind h :)

theorem endWatch_lag (s : State) (w : Watch) (reason m : Nat) : lag (s.endWatch w reason m) = lag s := schedule_lag _ _

theorem tell_lag (s : State) (ns : Nat) (key : Bytes) (kind version len m : Nat) (w : Watch) :
    lag (s.tell ns key kind version len m w) = lag s := by
  unfold State.tell
  split
  · extract_lets w1 s1
    have h1 : lag s1 = lag s := schedule_lag _ _
    split
    · exact (endWatch_lag _ _ _ _).trans h1
    · exact h1
  · rfl

theorem observe_lag (s : State) (ns : Nat) (key : Bytes) (kind version len m : Nat) :
    lag (s.observe ns key kind version len m) = lag s := by
  unfold State.observe
  extract_lets s1
  have h1 : lag s1 = lag s := lag_of_still (foldl_still (fun t slot => ranOn_still t slot key) _ s)
  exact (foldl_keeps (fun t w => tell_lag t ns key kind version len m w) _ s1).trans h1

/-- An operation that answers, and puts off no answer after it. -/
def answersNow (s : State) (p : OpRes) : Prop := lag p.1 = lag s ∧ p.2.silent = false

theorem answersNow_no {s t : State} (h : lag t = lag s) (st : Status) : answersNow s (no t st) := ⟨h, rfl⟩

theorem answersNow_of {s t : State} (h : lag t = lag s) (st : Status) (b : Bytes) : answersNow s (t, .of st b) := ⟨h, rfl⟩

theorem gated_answers (x : Ctx) (r : Request) (s : State) {f : State → Namespace → OpRes}
    (hf : ∀ t n, answersNow t (f t n)) : answersNow s (s.gated x r f) := by
  have hg := lag_of_still (gate_still s x r)
  unfold State.gated
  split <;> rename_i s1 _ heq <;> rw [heq] at hg
  · exact ⟨(hf s1 _).1.trans hg, (hf s1 _).2⟩
  · exact answersNow_no hg _

theorem putValue_lag (s : State) (n : Namespace) (key value : Bytes) (m : Nat) : lag (s.putValue n key value m).2 = lag s :=
  observe_lag _ _ _ _ _ _ _

theorem opOpen_answers (x : Ctx) (r : Request) (s : State) (n : Namespace) : answersNow s (opOpen x r s n) := by
  unfold opOpen
  repeat' split
  all_goals exact ⟨rfl, rfl⟩

theorem putOrFull_answers (x : Ctx) (n : Namespace) (key value : Bytes) (s : State) : answersNow s (putOrFull x n key value s) := by
  unfold putOrFull
  extract_lets old freed
  split
  · exact answersNow_of (putValue_lag s n key value x.m) _ _
  · exact answersNow_no rfl _

theorem opPut_answers (x : Ctx) (r : Request) (s : State) : answersNow s (opPut x r s) :=
  gated_answers x r s fun t n => by
    split
    · exact opOpen_answers x r t n
    · split
      · exact answersNow_no rfl _
      · exact putOrFull_answers x n _ _ t

theorem opDelete_answers (x : Ctx) (r : Request) (s : State) : answersNow s (opDelete x r s) :=
  gated_answers x r s fun t n => by
    split
    · exact answersNow_no rfl _
    · split
      · exact answersNow_no rfl _
      · exact answersNow_of (observe_lag _ _ _ _ _ _ _) _ _

theorem opCas_answers (x : Ctx) (r : Request) (s : State) : answersNow s (opCas x r s) :=
  gated_answers x r s fun t n => by
    split
    · exact opOpen_answers x r t n
    · split
      · exact answersNow_no rfl _
      · extract_lets now
        split
        · exact answersNow_of rfl _ _
        · exact putOrFull_answers x n _ _ t

theorem appendOrdinary_answers (x : Ctx) (r : Request) (n : Namespace) (s : State) : answersNow s (appendOrdinary x r n s) := by
  unfold appendOrdinary
  extract_lets old before size freed
  split
  · exact answersNow_no rfl _
  · split
    · exact answersNow_no rfl _
    · split
      · exact answersNow_no rfl _
      · exact answersNow_of (putValue_lag s n r.key (before ++ r.body) x.m) _ _

theorem appendLedger_answers (x : Ctx) (r : Request) (n : Namespace) (s : State) : answersNow s (appendLedger x r n s) := by
  unfold appendLedger
  extract_lets key
  split
  · exact answersNow_no rfl _
  · exact answersNow_of (observe_lag _ _ _ _ _ _ _) _ _

theorem opAppend_answers (x : Ctx) (r : Request) (s : State) : answersNow s (opAppend x r s) :=
  gated_answers x r s fun t n => by
    split
    · exact answersNow_no rfl _
    · split
      · exact appendLedger_answers x r n t
      · exact answersNow_no rfl _
    · split
      · exact answersNow_no rfl _
      · exact appendOrdinary_answers x r n t

theorem opMember_answers (x : Ctx) (r : Request) (s : State) : answersNow s (opMember x r s) := by
  unfold opMember
  repeat' split
  · exact opPut_answers x r s
  · exact opDelete_answers x r s
  · exact opCas_answers x r s
  · exact opAppend_answers x r s

/-! ## Evaluating a batch -/

theorem consultRoute_local (s : State) (m adm : Nat) (r : Request) : s.consultRoute ⟨m, adm, false⟩ r = s := by rfl

/-- The members evaluated so far put off no answer, and one that failed has an answer. -/
def BatchRun.plain (s : State) (b : BatchRun) : Prop := lag b.s = lag s ∧ ∀ q a, b.failed = some (q, a) → a.silent = false

theorem BatchRun.plain_step {s : State} {m : Nat} {home : Option (Nat × Nat)} {b : BatchRun} (h : BatchRun.plain s b) (k : Request × Nat) :
    BatchRun.plain s (BatchRun.step ⟨m, m, false⟩ home b k) := by
  have hk := opMember_answers ⟨m, k.2, false⟩ k.1 b.s
  unfold BatchRun.step
  split
  · exact h
  · simp only [Bool.false_eq_true, false_and, if_false, consultRoute_local]
    by_cases hst : (opMember ⟨m, k.2, false⟩ k.1 b.s).2.status = .ok
    · rw [if_pos hst]
      exact ⟨hk.1.trans h.1, fun q a hq => h.2 q a hq⟩
    · rw [if_neg hst]
      refine ⟨h.1, fun q a hq => ?_⟩
      simp only [Option.some.injEq, Prod.mk.injEq] at hq
      exact hq.2 ▸ hk.2

theorem BatchRun.plain_foldl {s : State} {m : Nat} {home : Option (Nat × Nat)} {b : BatchRun} (h : BatchRun.plain s b)
    (l : List (Request × Nat)) : BatchRun.plain s (l.foldl (BatchRun.step ⟨m, m, false⟩ home) b) := by
  induction l generalizing b with
  | nil => exact h
  | cons k l ih => exact ih (BatchRun.plain_step h k)

/-! ## Settling the members -/

theorem settle_lag (s : State) (x : Ctx) (r : Request) (a : Ans) (ab : Bool) (h6 : r.op ≠ 6) : lag (s.settle x r a ab) = lag s := by
  unfold State.settle
  split
  · rfl
  · extract_lets s1 reply
    have h : ¬ (r.op = 6 ∧ a.status = .ok) := fun h => h6 h.1
    rw [if_neg h]
    exact schedule_lag s1 reply

theorem settle_store (s : State) (x : Ctx) (r : Request) (a : Ans) (ab : Bool) (h6 : r.op ≠ 6) : (s.settle x r a ab).store = s.store := by
  unfold State.settle
  split
  · rfl
  · extract_lets s1 reply
    have h : ¬ (r.op = 6 ∧ a.status = .ok) := fun h => h6 h.1
    rw [if_neg h, schedule_store]
    rfl

/-- The members' answers settled one after the other. -/
def settleAll (m : Nat) (s : State) (l : List (Request × Nat × Ans × Bool)) : State :=
  l.foldl (fun t k => t.settle ⟨m, k.2.1, false⟩ k.1 k.2.2.1 k.2.2.2) s

theorem settleAll_lag_store (m : Nat) (s : State) (l : List (Request × Nat × Ans × Bool)) (h : ∀ k ∈ l, k.1.op ≠ 6) :
    lag (settleAll m s l) = lag s ∧ (settleAll m s l).store = s.store := by
  induction l generalizing s with
  | nil => exact ⟨rfl, rfl⟩
  | cons k l ih =>
    obtain ⟨h1, h2⟩ := ih (s.settle ⟨m, k.2.1, false⟩ k.1 k.2.2.1 k.2.2.2) fun j hj => h j (List.mem_cons_of_mem _ hj)
    have hk := h k List.mem_cons_self
    exact ⟨h1.trans (settle_lag _ _ _ _ _ hk), h2.trans (settle_store _ _ _ _ _ hk)⟩

theorem op_of_joins {r : Request} (h : joinsBatch r = true) : r.op = 2 ∨ r.op = 3 ∨ r.op = 4 ∨ r.op = 5 := by
  simp only [joinsBatch, Bool.and_eq_true, Bool.or_eq_true, beq_iff_eq] at h
  omega

theorem isWrite_of_joins {r : Request} (h : joinsBatch r = true) : isWrite r = true := by
  rcases op_of_joins h with h | h | h | h <;> simp [isWrite, h]

/-- Bit 10 of an answer's flags is ABORTED. -/
theorem replyOf_aborted (s : State) (x : Ctx) (r : Request) (a : Ans) (ab : Bool) : bit (s.replyOf x r a ab).flags 10 = ab := by
  have h : (s.replyOf x r a ab).flags = r.flags % 32 + (if ab then 2 ^ 10 else 0) + (if a.truncated then 2 ^ 11 else 0) := rfl
  rw [h, bit, Nat.testBit_eq_decide_div_mod_eq]
  cases ab <;> cases a.truncated <;> simp <;> omega

/-- The answer of a write, in the measure after its list's, is queued for its window. -/
theorem settle_queued {s : State} {m adm : Nat} {r : Request} {a : Ans} {ab : Bool} (hm : s.tb.measure = m + 1) (hl : lag s = (0, 0))
    (hw : joinsBatch r = true) (ha : a.silent = false) :
    s.settle ⟨m, adm, false⟩ r a ab = (recorded s r a ab).modSeq fun q =>
      { q with replies := q.replies ++ [s.replyOf ⟨m, adm, false⟩ r a ab] } := by
  have h6 : ¬ (r.op = 6 ∧ a.status = .ok) := fun h => by have := op_of_joins hw; omega
  simp only [lag, Prod.mk.injEq] at hl
  have hdue : (recorded s r a ab).tb.measure < (s.replyOf ⟨m, adm, false⟩ r a ab).due := by
    simp only [State.replyOf, isWrite_of_joins hw, Bool.true_or, if_true, Sequencer.ackAt, hl, recorded, State.modReplay, modSession_tb, hm]
    omega
  rw [← schedule_later hdue]
  simp only [State.settle, ha, Bool.false_and, Bool.or_self, Bool.false_eq_true, if_false, h6]
  rfl

/-- From `s` to `t` answers were settled and queued, and nothing else happened but to the sessions. -/
def queuedOnly (s t : State) : Prop :=
  t.store = s.store ∧ lag t = lag s ∧ s.sameRest t ∧ ∀ p ∈ s.seq.replies, p ∈ t.seq.replies

theorem sameRest_refl (s : State) : s.sameRest s := ⟨rfl, rfl, rfl, rfl, rfl, rfl, rfl, rfl, rfl, rfl, rfl, rfl, rfl⟩

theorem sameRest_tb {s t : State} (h : s.sameRest t) : t.tb = s.tb := h.2.2.2.2.1

theorem sameRest_trans {s t u : State} (h : s.sameRest t) (k : t.sameRest u) : s.sameRest u := by
  simp only [State.sameRest] at h k ⊢
  simp only [k, h, and_self]

theorem queuedOnly_trans {s t u : State} (h : queuedOnly s t) (k : queuedOnly t u) : queuedOnly s u := by
  obtain ⟨h1, h2, h3, h4⟩ := h
  obtain ⟨k1, k2, k3, k4⟩ := k
  exact ⟨k1.trans h1, k2.trans h2, sameRest_trans h3 k3, fun p hp => k4 p (h4 p hp)⟩

/-- Every member of a batch that fails has its answer queued. -/
theorem settleAll_queued {m : Nat} {s : State} (l : List (Request × Nat × Ans × Bool)) (hm : s.tb.measure = m + 1) (hl : lag s = (0, 0))
    (h : ∀ k ∈ l, joinsBatch k.1 = true ∧ k.2.2.1.silent = false) :
    queuedOnly s (settleAll m s l) ∧ ∀ k ∈ l, ∃ p ∈ (settleAll m s l).seq.replies,
      p.seq = k.1.seq ∧ p.session = k.1.session ∧ p.status = k.2.2.1.status ∧ bit p.flags 10 = k.2.2.2 := by
  induction l generalizing s with
  | nil => exact ⟨⟨rfl, rfl, sameRest_refl s, fun p hp => hp⟩, fun k hk => nomatch hk⟩
  | cons k l ih =>
    obtain ⟨hj, hs⟩ := h k List.mem_cons_self
    have h1 := settle_queued (adm := k.2.1) (ab := k.2.2.2) hm hl hj hs
    have hq : queuedOnly s (s.settle ⟨m, k.2.1, false⟩ k.1 k.2.2.1 k.2.2.2) := by
      rw [h1]
      exact ⟨rfl, rfl, sameRest_refl s, fun p hp => List.mem_append_left _ hp⟩
    obtain ⟨hr, hans⟩ := ih (s := s.settle ⟨m, k.2.1, false⟩ k.1 k.2.2.1 k.2.2.2)
      ((congrArg Timebase.measure (sameRest_tb hq.2.2.1)).trans hm) (hq.2.1.trans hl) fun j hj => h j (List.mem_cons_of_mem _ hj)
    refine ⟨queuedOnly_trans hq hr, fun j hj => ?_⟩
    rcases List.mem_cons.1 hj with rfl | hj
    · refine ⟨s.replyOf ⟨m, j.2.1, false⟩ j.1 j.2.2.1 j.2.2.2, hr.2.2.2 _ ?_, rfl, rfl, rfl, replyOf_aborted _ _ _ _ _⟩
      rw [h1]
      exact List.mem_append_right _ (List.mem_singleton.2 rfl)
    · exact hans j hj
end Sys2Proof.Laws
end

section
namespace Sys2Proof.Laws
open Sys2Proof Sys2Proof.Machine

/-! ## BATCH_OPEN, members and BATCH_CLOSE -/

theorem calm_of_lag {t : State} (h : lag t = (0, 0)) : t.seq.late = 0 ∧ t.seq.behind = 0 := by simpa [lag] using h

theorem lag_of_reaches {s : State} {m : Nat} (h : s.reachesSkp m) : lag s = (0, 0) := by
  obtain ⟨-, hl, hb, -⟩ := h
  rw [lag, hl, hb]

theorem batchOpen_serves {s : State} {m : Nat} {r : Request} (h : s.reachesSkp m) (ho : r.op = 8)
    (hb : s.store.batch r.session = none) :
    s.servesWith m r .ok [(0, 0, [], [])] (m + 1) 0 fun u =>
      u.store = { s.store with batches := s.store.batches ++ [{ session := r.session, adm := m, members := [] }] } ∧
      s.sameRest u := by
  have hop : opRun ⟨m, m, false⟩ r s =
      (s.modStore fun t => { t with batches := t.batches ++ [{ session := r.session, adm := m, members := [] }] }, .ok []) := by
    simp only [opRun, ho, opBatchOpen, hb, Option.isSome_none, Bool.false_eq_true, if_false]
  obtain ⟨-, hl, hbe, -⟩ := id h
  exact servesWith_of_opRun h (by simp [hb]) (by omega) (by omega) hop rfl hl hbe (by simp [isWrite, isLoad, ho])
    (by simp [isWrite, isLoad, ho]) fun l => ⟨rfl, sameRest_refl s⟩

theorem member_waits {s : State} {m : Nat} {r : Request} {b : Batch} (h : s.reachesSkp m) (hj : joinsBatch r = true)
    (hb : s.store.batch r.session = some b) :
    (s.serve m r).store = { s.store with batches := s.store.batches.map fun c =>
      if c.session == r.session then { c with members := c.members ++ [(r, m)] } else c } ∧
    (s.serve m r).seq.replies = s.seq.replies ∧ s.sameRest (s.serve m r) := by
  rw [serve_eq h]
  simp only [State.runRequest, hj, hb, Option.isSome_some, Bool.and_self, if_true]
  exact ⟨rfl, rfl, sameRest_refl s⟩

/-- The close of a local batch settles its members' answers, then its own. -/
theorem batchClose_serve {s : State} {m : Nat} {r : Request} (h : s.reachesSkp m) (ho : r.op = 9) :
    s.serve m r = ((settleAll m (opBatchClose ⟨m, m, false⟩ r s).s (opBatchClose ⟨m, m, false⟩ r s).members).settle ⟨m, m, false⟩ r
      (opBatchClose ⟨m, m, false⟩ r s).own false).modSeq fun q => { q with behind := 0 } := by
  rw [serve_eq h]
  have hj : joinsBatch r = false := by simp [joinsBatch, ho]
  simp only [State.runRequest, hj, Bool.false_and, Bool.false_eq_true, if_false, ho, if_true]
  rfl

/-- The close's own answer, once its members' are settled. -/
theorem batchClose_answers {s t : State} {m : Nat} {r : Request} {a : Ans} {P : State → Prop} (ho : r.op = 9) (ht : lag t = (0, 0))
    (ha : a.silent = false) (hs : s.serve m r = (t.settle ⟨m, m, false⟩ r a false).modSeq fun q => { q with behind := 0 })
    (hP : ∀ l, P { t with sessions := l }) : s.servesWith m r a.status a.pieces (m + 3) m P := by
  obtain ⟨hl, hb⟩ := calm_of_lag ht
  have hw : isWrite r = true := by simp [isWrite, ho]
  rw [settle_local ha (by omega)] at hs
  replace hs := hs.trans (modSeq_behind ((behind_of_under (schedule_under _ _)).trans hb))
  refine ⟨recorded t r a false, ⟨_, hs, rfl, rfl, rfl, rfl, rfl, rfl, rfl, ?_, ?_, rfl, rfl⟩, hP _⟩
  · simp [State.replyOf, Sequencer.ackAt, hw, hl, hb]
  · simp [State.replyOf, Sequencer.ackAt, hw, hl, hb]

theorem BatchRun.answers_step {P : Request → Prop} {x : Ctx} {home : Option (Nat × Nat)} {b : BatchRun} (h : ∀ a ∈ b.answers, P a.1)
    {k : Request × Nat} (hk : P k.1) : ∀ a ∈ (BatchRun.step x home b k).answers, P a.1 := by
  unfold BatchRun.step
  split
  · exact h
  · split
    · exact h
    · split
      split
      · intro a ha
        rcases List.mem_append.1 ha with ha | ha
        · exact h a ha
        · rw [List.mem_singleton.1 ha]
          exact hk
      · exact h

/-- The answers are those of the members. -/
theorem BatchRun.answers_foldl {P : Request → Prop} {x : Ctx} {home : Option (Nat × Nat)} {b : BatchRun} (h : ∀ a ∈ b.answers, P a.1)
    {l : List (Request × Nat)} (hl : ∀ k ∈ l, P k.1) : ∀ a ∈ (l.foldl (BatchRun.step x home) b).answers, P a.1 := by
  induction l generalizing b with
  | nil => exact h
  | cons k l ih =>
    exact ih (BatchRun.answers_step h (hl k List.mem_cons_self)) fun j hj => hl j (List.mem_cons_of_mem _ hj)

section
variable {s s0 : State} {m : Nat} {r : Request} {b : Batch} {ms : List (Request × Nat)} {run : BatchRun} (h : s.reachesSkp m)
  (ho : r.op = 9) (hb : s.store.batch r.session = some b) (hms : ms = b.members.foldr insertMember [])
  (hs0 : s0 = (s.modStore fun t => { t with batches := t.batches.filter fun y => y.session != r.session }))
  (hrun : run = ms.foldl (BatchRun.step ⟨m, m, false⟩ (ms.head?.map fun k => s.store.shardIndex k.1)) ⟨s0, [], none⟩)
include hb hms hs0 hrun

theorem opBatchClose_applied (hf : run.failed = none) : opBatchClose ⟨m, m, false⟩ r s =
    { s := run.s, own := .ok (closeBody ms.length 0), members := run.answers.map fun a => (a.1, a.2.1, a.2.2, false) } := by
  subst hms hs0 hrun
  simp only [opBatchClose, hb, Bool.false_and, Bool.false_eq_true, if_false, hf]

theorem opBatchClose_failed {q : Nat} {a : Ans} (hf : run.failed = some (q, a)) : opBatchClose ⟨m, m, false⟩ r s =
    { s := s0, own := .of a.status (closeBody ms.length q)
      members := ms.map fun m => if m.1.seq = q then (m.1, m.2, a, false) else (m.1, m.2, .no a.status, true) } := by
  subst hms hs0 hrun
  simp only [opBatchClose, hb, Bool.false_and, Bool.false_eq_true, if_false, hf]


include h ho

theorem batchClose_applied (hj : ∀ k ∈ ms, joinsBatch k.1 = true ∧ k.1.session = r.session) (hf : run.failed = none) :
    s.servesWith m r .ok [(0, 0, [], closeBody ms.length 0)] (m + 3) m fun u => u.store = run.s.store := by
  have hserve := batchClose_serve h ho
  rw [opBatchClose_applied hb hms hs0 hrun hf] at hserve
  have hlag : lag run.s = (0, 0) := by
    have hplain : BatchRun.plain s0 run := hrun ▸ BatchRun.plain_foldl ⟨rfl, fun q a hq => by simp at hq⟩ ms
    rw [hplain.1, hs0]
    exact lag_of_reaches h
  have h6 : ∀ k ∈ run.answers.map fun a => (a.1, a.2.1, a.2.2, false), k.1.op ≠ 6 := by
    intro k hk
    obtain ⟨a, ha, rfl⟩ := List.mem_map.1 hk
    have hm : ∀ a ∈ run.answers, joinsBatch a.1 = true :=
      by
      rw [hrun]
      exact BatchRun.answers_foldl (P := fun q => joinsBatch q = true) (fun a ha => by simp at ha) fun k hk => (hj k hk).1
    have := op_of_joins (hm a ha)
    simp only
    omega
  obtain ⟨hl, hst⟩ := settleAll_lag_store m run.s _ h6
  exact batchClose_answers ho (hl.trans hlag) rfl hserve fun l => hst

theorem batchClose_failed {q : Nat} {a : Ans} (hj : ∀ k ∈ ms, joinsBatch k.1 = true ∧ k.1.session = r.session)
    (hf : run.failed = some (q, a)) :
    s.servesWith m r a.status [(0, 0, [], closeBody ms.length q)] (m + 3) m fun u =>
      u.store = s0.store ∧
      (∀ k ∈ ms, ∃ p ∈ u.seq.replies, p.seq = k.1.seq ∧ p.session = r.session ∧ p.status = a.status ∧
        bit p.flags 10 = decide (k.1.seq ≠ q)) ∧ s.sameRest u := by
  have hserve := batchClose_serve h ho
  rw [opBatchClose_failed hb hms hs0 hrun hf] at hserve
  have hplain : BatchRun.plain s0 run := hrun ▸ BatchRun.plain_foldl ⟨rfl, fun q a hq => by simp at hq⟩ ms
  have hsilent := hplain.2 q a hf
  have hlag : lag s0 = (0, 0) := by
    rw [hs0]
    exact lag_of_reaches h
  have hm : s0.tb.measure = m + 1 := by
    rw [hs0]
    exact h.1
  have hrest : s.sameRest s0 := by
    rw [hs0]
    exact sameRest_refl s
  have hmem : ∀ k ∈ ms.map fun m => if m.1.seq = q then (m.1, m.2, a, false) else (m.1, m.2, Ans.no a.status, true),
      joinsBatch k.1 = true ∧ k.2.2.1.silent = false := by
    intro k hk
    obtain ⟨j, hjm, rfl⟩ := List.mem_map.1 hk
    split
    · exact ⟨(hj j hjm).1, hsilent⟩
    · exact ⟨(hj j hjm).1, rfl⟩
  obtain ⟨⟨hst, hl, hre, -⟩, hans⟩ := settleAll_queued _ hm hlag hmem
  refine batchClose_answers ho (hl.trans hlag) rfl hserve fun l => ⟨hst, fun k hk => ?_, sameRest_trans hrest hre⟩
  obtain ⟨p, hp, h1, h2, h3, h4⟩ := hans _ (List.mem_map.2 ⟨k, hk, rfl⟩)
  refine ⟨p, hp, ?_⟩
  by_cases hq : k.1.seq = q
  · simp only [hq, if_true] at h1 h2 h3 h4
    exact ⟨by simp [h1, hq], h2.trans (hj k hk).2, h3, by simp [h4, hq]⟩
  · simp only [hq, if_false] at h1 h2 h3 h4
    exact ⟨h1, h2.trans (hj k hk).2, h3, by simp [h4, hq]⟩
end

/-! ## CANCEL -/

theorem cancel_serves {s : State} {m : Nat} {r : Request} {st : Status} (h : s.reachesSkp m) (ho : r.op = 0x0A)
    (hc : opCancel r s = (s, .of st (be 4 (fld r.body 0 4)))) :
    s.servesWith m r st [(0, 0, [], be 4 (fld r.body 0 4))] (m + 1) 0 fun u => u.store = s.store ∧ s.sameRest u := by
  have hop : opRun ⟨m, m, false⟩ r s = (s, .of st (be 4 (fld r.body 0 4))) := by
    simp only [opRun, ho]
    exact hc
  obtain ⟨-, hl, hb, -⟩ := id h
  exact servesWith_of_opRun h (by simp [joinsBatch, ho]) (by omega) (by omega) hop rfl hl hb (by simp [isWrite, isLoad, ho])
    (by simp [isWrite, isLoad, ho]) fun l => ⟨rfl, sameRest_refl s⟩

/-- What became of a target that the session has a record of. -/
theorem opCancel_record {s : State} {r : Request} {x : Session} {p : Replay} (hx : s.session r.session = some x)
    (ht : fld r.body 0 4 < r.seq) (hp : x.record (fld r.body 0 4) = some p) :
    opCancel r s = (s, .of (if p.removedBy = some r.seq then .ok
      else if p.removedBy.isSome || !p.admitted then .notFound else .cancelLate) (be 4 (fld r.body 0 4))) := by
  simp only [opCancel, if_neg (Nat.not_le.mpr ht), hx, Option.bind_some, hp]
  split
  · rfl
  · split <;> rfl

theorem opCancel_notLower {s : State} {r : Request} (ht : r.seq ≤ fld r.body 0 4) :
    opCancel r s = (s, .of .notFound (be 4 (fld r.body 0 4))) := by
  simp only [opCancel, if_pos ht]

theorem opCancel_never {s : State} {r : Request} {x : Session} (hx : s.session r.session = some x)
    (hp : x.record (fld r.body 0 4) = none) (hr : x.received (fld r.body 0 4) = false) :
    opCancel r s = (s, .of .notFound (be 4 (fld r.body 0 4))) := by
  simp [opCancel, hx, hp, hr]

/-! ## A CANCEL as its measure closes -/

/-- The item is the request that `r` cancels. -/
def isTarget (r : Request) : Item → Bool
  | .skp q => q.session == r.session && q.seq == fld r.body 0 4
  | .cmd _ => false

theorem cancelOpen_eq {r : Request} {s : State} (ht : fld r.body 0 4 < r.seq) (h : s.seq.admitted.any (isTarget r) = true) :
    s.cancelOpen r = ((s.modSeq fun q => { q with admitted := q.admitted.filter fun i => !isTarget r i }).modReplay r.session
      (fld r.body 0 4) fun p => { p with removedBy := some r.seq }).modSession r.session (Session.returnCredit (fld r.body 0 4)) := by
  have hc : (decide (fld r.body 0 4 < r.seq) && s.seq.admitted.any (isTarget r)) = true := by simp [ht, h]
  unfold State.cancelOpen
  exact if_pos hc

/-- The session as the cancelled request leaves it. -/
def cancelled (r : Request) (x : Session) : Session :=
  Session.returnCredit (fld r.body 0 4)
    { x with replay := x.replay.map fun p => if p.seq == fld r.body 0 4 then { p with removedBy := some r.seq } else p }

theorem cancelOpen_session {r : Request} {s : State} (ht : fld r.body 0 4 < r.seq) (h : s.seq.admitted.any (isTarget r) = true) :
    (s.cancelOpen r).session r.session = (s.session r.session).map (cancelled r) := by
  rw [cancelOpen_eq ht h, State.modReplay, modSession_session _ _ _ (returnCredit_id _), modSession_session _ _ _ (by simp),
    Option.map_map]
  rfl

theorem cancelled_record {r : Request} {x : Session} {p : Replay} (h : (cancelled r x).record (fld r.body 0 4) = some p) :
    p.removedBy = some r.seq := by
  simp only [Session.record, cancelled, returnCredit_replay, ← List.map_take] at h
  have hm := List.mem_of_find?_eq_some h
  have hs : p.seq = fld r.body 0 4 := by simpa using List.find?_some h
  obtain ⟨y, -, rfl⟩ := List.mem_map.1 hm
  by_cases hy : y.seq = fld r.body 0 4
  · simp [hy]
  · simp [hy] at hs

theorem cancelled_holding {r : Request} {x : Session} (h : x.closing = []) :
    (cancelled r x).holding = x.holding.erase (fld r.body 0 4) := returnCredit_holding h

theorem cancelOpen_removes {r c : Request} {s t : State} (ht : fld r.body 0 4 < r.seq) (hc : .skp c ∈ s.seq.admitted)
    (hs : c.session = r.session) (hq : c.seq = fld r.body 0 4) (hcan : t = s.cancelOpen r) :
    (∀ q, .skp q ∈ t.seq.admitted ↔ .skp q ∈ s.seq.admitted ∧ ¬ (q.session = r.session ∧ q.seq = fld r.body 0 4)) ∧
    (∀ q, .cmd q ∈ t.seq.admitted ↔ .cmd q ∈ s.seq.admitted) ∧
    (∀ x, s.session r.session = some x → ∃ y, t.session r.session = some y ∧
      (∀ p, y.record (fld r.body 0 4) = some p → p.removedBy = some r.seq) ∧
      (x.closing = [] → y.holding = x.holding.erase (fld r.body 0 4))) ∧
    t.store = s.store ∧ s.sameRest t := by
  have hany : s.seq.admitted.any (isTarget r) = true := List.any_eq_true.2 ⟨_, hc, by simp [isTarget, hs, hq]⟩
  have hadm : t.seq.admitted = s.seq.admitted.filter fun i => !isTarget r i := by
    rw [hcan, cancelOpen_eq ht hany]
    rfl
  refine ⟨fun q => ?_, fun q => ?_, fun x hx => ⟨cancelled r x, ?_, fun p => cancelled_record, cancelled_holding⟩, ?_, ?_⟩
  · simp [hadm, isTarget, imp_iff_not_or]
  · simp [hadm, isTarget]
  · rw [hcan, cancelOpen_session ht hany, hx]
    rfl
  · rw [hcan, cancelOpen_eq ht hany]
    rfl
  · rw [hcan, cancelOpen_eq ht hany]
    exact sameRest_refl s

/-- Settles O33: the rows take their requests; a close settles its members' answers and its own; a CANCEL reads its target's record. -/
theorem skpBatchesCancelComplete : Obligations.SkpBatchesCancelComplete := by
  refine ⟨fun r s x h => ⟨fun ho => ?_, fun ho => ?_, fun ho => ?_⟩, fun r s m h => ⟨?_, ?_, ?_, ?_⟩, ?_⟩
  · exact exec_entered h (by simp [rowOf, ho])
  · exact exec_entered h (by simp [rowOf, ho])
  · exact exec_entered h (by simp [rowOf, ho])
  · exact batchOpen_serves h
  · exact fun b => member_waits h
  · exact fun b ms s0 run ho hb hms hj hs0 hrun =>
      ⟨batchClose_applied h ho hb hms hs0 hrun hj, fun q a => batchClose_failed h ho hb hms hs0 hrun hj⟩
  · intro x ho hx
    refine ⟨fun p ht hp hr => cancel_serves h ho ?_, fun p ht hp hr ha => cancel_serves h ho ?_, fun hn => cancel_serves h ho ?_⟩
    · simp [opCancel_record hx ht hp, hr]
    · simp [opCancel_record hx ht hp, hr, ha]
    · by_cases ht : r.seq ≤ fld r.body 0 4
      · exact opCancel_notLower ht
      · rcases hn with hn | ⟨p, hp, hne, hn⟩ | ⟨hp, hr⟩
        · exact absurd hn ht
        · have hn' : (p.removedBy.isSome || !p.admitted) = true := by
            rcases hn with hn | hn
            · simp [Option.isSome_iff_ne_none.2 hn]
            · simp [hn]
          simp [opCancel_record hx (Nat.not_le.mp ht) hp, hne, hn']
        · exact opCancel_never hx hp hr
  · exact fun r c s t => cancelOpen_removes
end Sys2Proof.Laws
end

section
namespace Sys2Proof.Laws
open Sys2Proof Sys2Proof.Machine

/-! # SPI frames (R79 to R82) -/

/-! ## The fields of a frame -/

theorem fld_writeMosi_start {a : Nat} (d : Bytes) (h : a < 2 ^ 24) : fld (writeMosi a d) 1 3 = a := by
  have hs : sub (writeMosi a d) 1 3 = be 3 a := by simp [sub, writeMosi, be]
  rw [fld, hs, beNat_be]
  omega

theorem fld_writeMosi_words (a : Nat) {d : Bytes} (h : d.length ≤ 1024) : fld (writeMosi a d) 4 2 = d.length / 4 := by
  have hs : sub (writeMosi a d) 4 2 = be 2 (d.length / 4) := by simp [sub, writeMosi, be]
  rw [fld, hs, beNat_be]
  omega

theorem sub_writeMosi_data (a : Nat) (d : Bytes) : sub (writeMosi a d) 6 d.length = d := by
  simp [sub, writeMosi, be]

theorem headerOk_writeMosi (a : Nat) {d : Bytes} (h4 : 4 ≤ d.length) (h : d.length ≤ 1024) : headerOk 0x02 (writeMosi a d) = true := by
  have hu : u8 (writeMosi a d) 0 = 2 := by simp [u8, fld, sub, writeMosi, be, beNat]
  have hl : 6 ≤ (writeMosi a d).length := by simp [writeMosi, be]
  have hn : 1 ≤ d.length / 4 ∧ d.length / 4 ≤ 256 := by omega
  simp [headerOk, hu, hl, fld_writeMosi_words a h, hn]

theorem fld_readMosi_start {a : Nat} (n : Nat) (h : a < 2 ^ 24) : fld (readMosi a n) 1 3 = a := by
  have hs : sub (readMosi a n) 1 3 = be 3 a := by simp [sub, readMosi, be]
  rw [fld, hs, beNat_be]
  omega

/-! ## Status bytes -/

/-- Every word passes its checks. -/
def allPass (l : List (Nat × WordErr)) : Prop := ∀ p ∈ l, p.2 = ⟨false, false, false, false⟩

/-- The words pass every check but that of their mailbox, which one fails. -/
def onlyBusy (l : List (Nat × WordErr)) : Prop :=
  (∀ p ∈ l, p.2.addr = false ∧ p.2.secure = false ∧ p.2.mode = false) ∧ ∃ p ∈ l, p.2.busy = true

theorem statusByte_allPass {l : List (Nat × WordErr)} (h : allPass l) (irq : Bool) :
    statusByte l false irq = spiDone + if irq then spiIrq else 0 := by
  have h1 : l.any (fun p => p.2.addr) = false := List.any_eq_false.2 fun p hp => by simp [h p hp]
  have h2 : l.any (fun p => p.2.secure) = false := List.any_eq_false.2 fun p hp => by simp [h p hp]
  have h3 : l.any (fun p => p.2.busy) = false := List.any_eq_false.2 fun p hp => by simp [h p hp]
  have h4 : l.any (fun p => p.2.mode) = false := List.any_eq_false.2 fun p hp => by simp [h p hp]
  simp [statusByte, h1, h2, h3, h4]

theorem statusByte_onlyBusy {l : List (Nat × WordErr)} (h : onlyBusy l) (irq : Bool) :
    statusByte l false irq = spiBusy + if irq then spiIrq else 0 := by
  obtain ⟨h, hb⟩ := h
  have h1 : l.any (fun p => p.2.addr) = false := List.any_eq_false.2 fun p hp => by simp [h p hp]
  have h2 : l.any (fun p => p.2.secure) = false := List.any_eq_false.2 fun p hp => by simp [h p hp]
  have h3 : l.any (fun p => p.2.busy) = true := List.any_eq_true.2 hb
  have h4 : l.any (fun p => p.2.mode) = false := List.any_eq_false.2 fun p hp => by simp [h p hp]
  simp [statusByte, h1, h2, h3, h4, spiBusy]

theorem notFaulty {l : List (Nat × WordErr)} (h : ∀ p ∈ l, p.2.addr = false ∧ p.2.secure = false ∧ p.2.mode = false) :
    l.find? (fun p => p.2.faulty) = none := by
  rw [List.find?_eq_none]
  intro p hp
  simp [WordErr.faulty, h p hp]

theorem frameDone_clean {l : List (Nat × WordErr)} (h : ∀ p ∈ l, p.2.addr = false ∧ p.2.secure = false ∧ p.2.mode = false)
    (s : State) (start st : Nat) (miso : Bytes) : s.frameDone start st l miso = s.modSpi fun p => { p with portStat := st, miso } := by
  simp only [State.frameDone, notFaulty h]

theorem allPass.clean {l : List (Nat × WordErr)} (h : allPass l) : ∀ p ∈ l, p.2.addr = false ∧ p.2.secure = false ∧ p.2.mode = false :=
  fun p hp => by simp [h p hp]

theorem spiAlive_of_inService {s : State} (h : s.inService = true) : s.spiAlive = true := by
  simp only [State.inService, Bool.and_eq_true, beq_iff_eq, Bool.not_eq_true'] at h
  simp [State.spiAlive, h]

section
variable {s : State} {a : Nat} {d : Bytes} (hs : s.inService = true) (ha : a < 2 ^ 24) (h4 : 4 ≤ d.length) (hd : d.length % 4 = 0)
  (h1024 : d.length ≤ 1024)
include hs ha h4 hd h1024

/-- A write frame whose words all pass is applied whole. -/
theorem writeFrame_pass (h : allPass (s.checkBurst (some d) (d.length / 4) a)) :
    ∃ miso, s.writeFrame (writeMosi a d) = (s.writeWords (d.length / 4) a d).modSpi fun p =>
      { p with portStat := spiDone + (if (s.writeWords (d.length / 4) a d).mirq then spiIrq else 0), miso } := by
  have hst := statusByte_allPass h
  have hbit : bit (spiDone + if s.mirq then spiIrq else 0) 0 = true := by cases s.mirq <;> rfl
  simp only [State.writeFrame, spiAlive_of_inService hs, headerOk_writeMosi a h4 h1024, fld_writeMosi_start d ha,
    fld_writeMosi_words a h1024, sub_writeMosi_data a d, Nat.mul_div_cancel' (Nat.dvd_of_mod_eq_zero hd), lt_irrefl, decide_false,
    hbit, Bool.not_true, Bool.false_eq_true, if_false, if_true, hst, frameDone_clean h.clean]
  exact ⟨_, rfl⟩

/-- A write frame that finds its mailbox busy changes nothing but the port's own record of it. -/
theorem writeFrame_busy (h : onlyBusy (s.checkBurst (some d) (d.length / 4) a)) :
    ∃ miso, s.writeFrame (writeMosi a d) = s.modSpi fun p =>
      { p with portStat := spiBusy + (if s.mirq then spiIrq else 0), miso } := by
  have hst := statusByte_onlyBusy h
  have hbit : bit (spiBusy + if s.mirq then spiIrq else 0) 0 = false := by cases s.mirq <;> rfl
  simp only [State.writeFrame, spiAlive_of_inService hs, headerOk_writeMosi a h4 h1024, fld_writeMosi_start d ha,
    fld_writeMosi_words a h1024, sub_writeMosi_data a d, Nat.mul_div_cancel' (Nat.dvd_of_mod_eq_zero hd), lt_irrefl, decide_false,
    hbit, Bool.not_true, Bool.false_eq_true, if_false, hst, frameDone_clean h.1]
  exact ⟨_, rfl⟩
end

/-! ## Words of the mailbox block -/

theorem inService_served {s : State} (h : s.inService = true) (b : Block) (a : Nat) : s.servesAddr b a = true := by
  simp only [State.inService, Bool.and_eq_true, beq_iff_eq] at h
  simp [State.servesAddr, h.1]

theorem inService_fetches {s : State} (h : s.inService = true) : s.fetches = true := by
  simp only [State.inService, Bool.and_eq_true, beq_iff_eq, Bool.not_eq_true'] at h
  simp [State.fetches, h]

/-- A word of the mailbox block fails at most the check of its mailbox's state. -/
theorem checkWord_mbx {s : State} (h : s.inService = true) {a : Nat} (ha : a / 0x1000 = 1) (h4 : a % 4 = 0) (v : Option Nat) :
    s.checkWord a v = ⟨false, false, false, s.wordBusy a v⟩ := by
  simp [State.checkWord, blockOf, ha, h4, State.lockedOut, Block.secured, inService_served h]

section
variable {s : State} (hs : s.inService = true) (m : Fin 8)

theorem ctrl_block : (0x1000 + 0x40 * m.val) / 0x1000 = 1 := by omega

theorem wordBusy_ctrl (v : Nat) : s.wordBusy (0x1000 + 0x40 * m) (some v) =
    ((s.mb m).taken || (bit v 0 && ((s.mb m).state != .loading || !s.fetches))) := by
  have ho : 0x1000 + 0x40 * m.val - 0x1000 = 0x40 * m.val := by omega
  have hm : (⟨0x40 * m.val / 0x40, by omega⟩ : Fin 8) = m := Fin.ext (by simp)
  have hlt : 0x40 * m.val < 0x200 := by omega
  simp only [State.wordBusy, ctrl_block, ho]
  simp [hlt]

theorem clearsOnly_ctrl : clearsOnly (0x1000 + 0x40 * m) = false := by
  fin_cases m <;> rfl

theorem writeWords_ctrl (v : Nat) (hv : leNat ((le 4 v).take 4) = v) :
    s.writeWords 1 (0x1000 + 0x40 * m) (le 4 v) = s.modMbx m fun b => b.control v := by
  have ho : (0x1000 + 0x40 * m.val) % 0x1000 = 0x40 * m.val := by omega
  have hlt : 0x40 * m.val < 0x200 := by omega
  simp only [State.writeWords, State.writeSome, clearsOnly_ctrl, blockOf, ctrl_block, hv, State.writeWord, ho, State.writeMbx, hlt]
  simp

include hs

theorem checkBurst_ctrl (v : Nat) (hv : leNat ((le 4 v).take 4) = v) : s.checkBurst (some (le 4 v)) 1 (0x1000 + 0x40 * m) =
    [(0x1000 + 0x40 * m.val, ⟨false, false, false,
      (s.mb m).taken || (bit v 0 && ((s.mb m).state != .loading || !s.fetches))⟩)] := by
  simp only [State.checkBurst, Option.map_some, hv, checkWord_mbx hs (ctrl_block m) (by omega), wordBusy_ctrl]
end

/-! ## The request window -/

/-- A burst writes nothing where its filter picks no word. -/
theorem writeSome_none (s : State) {p : Nat → Bool} (n a : Nat) (d : Bytes) (h : ∀ k < n, p (a + 4 * k) = false) :
    s.writeSome p n a d = s := by
  induction n generalizing a d with
  | zero => rfl
  | succ n ih =>
    have h0 : p a = false := h 0 (Nat.succ_pos n)
    have hrest : ∀ k < n, p (a + 4 + 4 * k) = false := fun k hk => by
      have := h (k + 1) (Nat.succ_lt_succ hk)
      rwa [Nat.mul_succ, ← Nat.add_assoc, Nat.add_right_comm] at this
    simp only [State.writeSome, h0, Bool.false_eq_true, if_false]
    split <;> exact ih _ _ hrest

/-- A mailbox with `d` written into its request buffer from `off` on. -/
def filled (off : Nat) (d : Bytes) (b : Mailbox) : Mailbox :=
  { b with
    state := if d = [] then b.state else if b.state = .idle then .loading else b.state
    request := b.request.take off ++ d ++ b.request.drop (off + d.length) }

theorem modMbx_congr {s : State} {m : Fin 8} {f g : Mailbox → Mailbox} (h : f (s.mb m) = g (s.mb m)) : s.modMbx m f = s.modMbx m g := by
  have h' : f s.mbx[m] = g s.mbx[m] := h
  simp only [State.modMbx, h']

theorem le_leNat (d : Bytes) (h : d.length = 4) : le 4 (leNat d) = d := by
  match d, h with
  | [a, b, c, e], _ =>
    have ha := a.isLt
    have hb := b.isLt
    have hc := c.isLt
    have he := e.isLt
    simp only [leNat, le, List.cons.injEq, and_true]
    refine ⟨?_, ?_, ?_, ?_⟩ <;> apply BitVec.eq_of_toNat_eq <;> simp only [BitVec.toNat_ofNat] <;> omega

theorem filled_cons {off : Nat} {w d : Bytes} {b : Mailbox} (hw : w.length = 4) (hb : off + 4 ≤ b.request.length) :
    filled (off + 4) d (filled off w b) = filled off (w ++ d) b := by
  have hne : w ≠ [] := fun h => by simp [h] at hw
  have ht : (b.request.take off).length = off := by simp; omega
  have h1 : ((b.request.take off ++ w ++ b.request.drop (off + 4)).take (off + 4)) = b.request.take off ++ w := by
    rw [List.take_append_of_le_length (by simp [ht, hw]), List.take_of_length_le (by simp [ht, hw])]
  have h2 : ((b.request.take off ++ w ++ b.request.drop (off + 4)).drop (off + 4 + d.length)) =
      b.request.drop (off + (4 + d.length)) := by
    rw [List.drop_append, List.drop_of_length_le (by simp [ht, hw])]
    simp [ht, hw]
    omega
  have hstate : (if d = [] then (if b.state = .idle then MbxState.loading else b.state)
      else if (if b.state = .idle then MbxState.loading else b.state) = .idle then MbxState.loading
      else if b.state = .idle then MbxState.loading else b.state) = if b.state = .idle then MbxState.loading else b.state := by
    by_cases hi : b.state = .idle <;> simp [hi]
  simp only [filled, hw, h1, h2, hne, List.append_eq_nil_iff, false_and, if_false, List.length_append, hstate]
  simp only [List.append_assoc]

/-- The words of a burst into the request window go into the selected mailbox's buffer. -/
theorem writeSome_window (n : Nat) : ∀ (s : State) (off : Nat) (d : Bytes), d.length = 4 * n → off + 4 * n ≤ 512 →
    (s.mb s.spi.winsel).request.length = 512 → off % 4 = 0 →
    s.writeSome (fun x => !clearsOnly x) n (0x1800 + off) d = s.modMbx s.spi.winsel (filled off d) := by
  induction n with
  | zero =>
    intro s off d hd hle hr h4
    obtain rfl : d = [] := List.length_eq_zero_iff.1 hd
    have h : filled off [] (s.mb s.spi.winsel) = id (s.mb s.spi.winsel) := by simp [filled]
    rw [modMbx_congr h]
    simp [State.writeSome, State.modMbx]
  | succ n ih =>
    intro s off d hd hle hr h4
    have hb : (0x1800 + off) / 0x1000 = 1 := by omega
    have ho : (0x1800 + off) % 0x1000 = 0x800 + off := by omega
    have hc : clearsOnly (0x1800 + off) = false := by
      simp only [clearsOnly, Bool.or_eq_false_iff, beq_eq_false_iff_ne, Bool.and_eq_false_iff, decide_eq_false_iff_not]
      omega
    have hw : (d.take 4).length = 4 := by simp; omega
    have hword : s.writeWord .mbx (0x1800 + off) (leNat (d.take 4)) = s.modMbx s.spi.winsel (filled off (d.take 4)) := by
      have h1 : ¬ 0x800 + off < 0x200 := by omega
      have h2 : ¬ 0x800 + off = 0x200 := by omega
      have h3 : 0x800 ≤ 0x800 + off ∧ 0x800 + off < 0xA00 := by omega
      have hne : d.take 4 ≠ [] := fun h => by simp [h] at hw
      have hput (b : Bytes) : putWord b off (leNat (d.take 4)) = b.take off ++ d.take 4 ++ b.drop (off + 4) := by
        rw [putWord, le_leNat _ hw]
      simp only [State.writeWord, ho, State.writeMbx, h1, h2, h3, dif_neg, not_false_iff, if_false, if_true, and_self,
        Nat.add_sub_cancel_left, hput]
      exact modMbx_congr (by simp [filled, hne, hw])
    have hlen : ((s.modMbx s.spi.winsel (filled off (d.take 4))).mb s.spi.winsel).request.length = 512 := by
      rw [modMbx_mb]
      simp [filled, hr]
      omega
    have hrest := ih (s.modMbx s.spi.winsel (filled off (d.take 4))) (off + 4) (d.drop 4) (by simp; omega) (by omega) hlen (by omega)
    simp only [State.writeSome, blockOf, hb, hc, Bool.not_false, if_true, hword]
    refine hrest.trans ((modMbx_modMbx _ _ _ _).trans (modMbx_congr ?_))
    rw [filled_cons hw (by omega), List.take_append_drop]
end Sys2Proof.Laws
end

section
namespace Sys2Proof.Laws
open Sys2Proof Sys2Proof.Machine

theorem mem_checkBurst {s : State} {data : Option Bytes} {n a : Nat} {p : Nat × WordErr} (h : p ∈ s.checkBurst data n a) :
    ∃ k < n, ∃ v, p = (a + 4 * k, s.checkWord (a + 4 * k) v) ∧ v.isSome = data.isSome := by
  induction n generalizing data a with
  | zero => exact nomatch h
  | succ n ih =>
    rcases List.mem_cons.1 h with rfl | h
    · exact ⟨0, Nat.succ_pos n, _, rfl, by simp⟩
    · obtain ⟨k, hk, v, hp, hv⟩ := ih h
      exact ⟨k + 1, Nat.succ_lt_succ hk, v, by rw [hp, Nat.mul_succ, Nat.add_right_comm, Nat.add_assoc], by simpa using hv⟩

/-- What a word write into the request window needs of the selected mailbox. -/
theorem wordBusy_window (s : State) {a : Nat} (h : 0x1800 ≤ a) (h2 : a < 0x1A00) (v : Nat) : s.wordBusy a (some v) =
    ((s.mb s.spi.winsel).taken || ((s.mb s.spi.winsel).state != .idle && (s.mb s.spi.winsel).state != .loading)) := by
  have hb : a / 0x1000 = 1 := by omega
  have h3 : ¬ a - 0x1000 < 0x200 := by omega
  have h4 : 0x800 ≤ a - 0x1000 ∧ a - 0x1000 < 0xA00 := by omega
  simp [State.wordBusy, hb, h3, h4]

/-! ## What a frame on a mailbox leaves -/

/-- From `s` to `t` mailbox `m` alone has turned by `f`, and the port has recorded a frame that was done. -/
def turnedBy (s : State) (m : Fin 8) (t : State) (f : Mailbox → Mailbox) : Prop :=
  t.mb m = f (s.mb m) ∧ (∀ k, k ≠ m → t.mb k = s.mb k) ∧ t.spi.portStat = spiDone + (if t.mirq then spiIrq else 0) ∧
  t = { s with mbx := t.mbx, spi := { s.spi with portStat := t.spi.portStat, miso := t.spi.miso } }

/-- From `s` to `t` the port alone has recorded a frame that was answered BUSY. -/
def answersBusy (s t : State) : Prop :=
  t.spi.portStat = spiBusy + (if s.mirq then spiIrq else 0) ∧
  t = { s with spi := { s.spi with portStat := t.spi.portStat, miso := t.spi.miso } }

theorem turnedBy_modMbx (s : State) (m : Fin 8) {f g : Mailbox → Mailbox} (h : f (s.mb m) = g (s.mb m)) (miso : Bytes) :
    turnedBy s m ((s.modMbx m f).modSpi fun p =>
      { p with portStat := spiDone + (if (s.modMbx m f).mirq then spiIrq else 0), miso }) g :=
  ⟨(modMbx_mb s m f).trans h, fun k hk => modMbx_other s m k f hk, rfl, rfl⟩

theorem answersBusy_modSpi (s : State) (miso : Bytes) :
    answersBusy s (s.modSpi fun p => { p with portStat := spiBusy + (if s.mirq then spiIrq else 0), miso }) := ⟨rfl, rfl⟩

section
variable {s : State} (hs : s.inService = true) (m : Fin 8)
include hs

/-- A control word that its mailbox takes. -/
theorem ctrl_turns {v : Nat} (hv : leNat ((le 4 v).take 4) = v) {g : Mailbox → Mailbox}
    (hb : ((s.mb m).taken || (bit v 0 && ((s.mb m).state != .loading || !s.fetches))) = false)
    (hg : (s.mb m).control v = g (s.mb m)) : turnedBy s m (s.writeFrame (writeMosi (0x1000 + 0x40 * m) (le 4 v))) g := by
  have hl : (le 4 v).length = 4 := by simp [le]
  have hpass : allPass (s.checkBurst (some (le 4 v)) ((le 4 v).length / 4) (0x1000 + 0x40 * m)) := by
    rw [hl, checkBurst_ctrl hs m v hv, hb]
    exact fun p hp => by rw [List.mem_singleton.1 hp]
  obtain ⟨miso, h⟩ := writeFrame_pass hs (a := 0x1000 + 0x40 * m) (by omega) (by omega) (by omega) (by omega) hpass
  rw [h, hl, writeWords_ctrl m v hv]
  exact turnedBy_modMbx s m hg miso

/-- A control word that its mailbox does not take. -/
theorem ctrl_busy {v : Nat} (hv : leNat ((le 4 v).take 4) = v)
    (hb : ((s.mb m).taken || (bit v 0 && ((s.mb m).state != .loading || !s.fetches))) = true) :
    answersBusy s (s.writeFrame (writeMosi (0x1000 + 0x40 * m) (le 4 v))) := by
  have hl : (le 4 v).length = 4 := by simp [le]
  have hbusy : onlyBusy (s.checkBurst (some (le 4 v)) ((le 4 v).length / 4) (0x1000 + 0x40 * m)) := by
    rw [hl, checkBurst_ctrl hs m v hv, hb]
    exact ⟨fun p hp => by rw [List.mem_singleton.1 hp]; exact ⟨rfl, rfl, rfl⟩, _, List.mem_singleton_self _, rfl⟩
  obtain ⟨miso, h⟩ := writeFrame_busy hs (a := 0x1000 + 0x40 * m) (by omega) (by omega) (by omega) (by omega) hbusy
  rw [h]
  exact answersBusy_modSpi s miso

section
variable {off : Nat} {d : Bytes} (ho : off % 4 = 0) (hd : d.length % 4 = 0) (h4 : 4 ≤ d.length) (hle : off + d.length ≤ 512)
include ho hd h4 hle

omit h4 in
/-- The words of a burst into the request window fail at most the check of the selected mailbox's state. -/
theorem checkBurst_window {p : Nat × WordErr} (hp : p ∈ s.checkBurst (some d) (d.length / 4) (0x1800 + off)) : p.2 =
    ⟨false, false, false,
      (s.mb s.spi.winsel).taken || ((s.mb s.spi.winsel).state != .idle && (s.mb s.spi.winsel).state != .loading)⟩ := by
  obtain ⟨k, hk, v, rfl, hv⟩ := mem_checkBurst hp
  obtain ⟨v, rfl⟩ := Option.isSome_iff_exists.1 (hv.trans rfl)
  rw [checkWord_mbx hs (by omega) (by omega), wordBusy_window s (by omega) (by omega)]

theorem window_turns (hr : (s.mb s.spi.winsel).request.length = 512) (ht : (s.mb s.spi.winsel).taken = false)
    (hst : (s.mb s.spi.winsel).state = .idle ∨ (s.mb s.spi.winsel).state = .loading) :
    turnedBy s s.spi.winsel (s.writeFrame (writeMosi (0x1800 + off) d)) fun b =>
      { b with state := .loading, request := b.request.take off ++ d ++ b.request.drop (off + d.length) } := by
  have hpass : allPass (s.checkBurst (some d) (d.length / 4) (0x1800 + off)) := by
    intro p hp
    rw [checkBurst_window hs ho hd hle hp, ht]
    rcases hst with hst | hst <;> simp [hst]
  obtain ⟨miso, h⟩ := writeFrame_pass hs (a := 0x1800 + off) (by omega) h4 hd (by omega) hpass
  have hnone : s.writeSome clearsOnly (d.length / 4) (0x1800 + off) d = s := writeSome_none s _ _ _ fun k hk => by
    simp only [clearsOnly, Bool.or_eq_false_iff, beq_eq_false_iff_ne, Bool.and_eq_false_iff, decide_eq_false_iff_not]
    omega
  have hne : d ≠ [] := fun hx => by simp [hx] at h4
  rw [h, State.writeWords, hnone, writeSome_window _ s off d (by omega) (by omega) hr ho]
  refine turnedBy_modMbx s _ ?_ miso
  rcases hst with hst | hst <;> simp [filled, hne, hst]

theorem window_busy (ht : (s.mb s.spi.winsel).taken = true) : answersBusy s (s.writeFrame (writeMosi (0x1800 + off) d)) := by
  have hbusy : onlyBusy (s.checkBurst (some d) (d.length / 4) (0x1800 + off)) := by
    refine ⟨fun p hp => by rw [checkBurst_window hs ho hd hle hp]; exact ⟨rfl, rfl, rfl⟩, ?_⟩
    obtain ⟨n, hn⟩ : ∃ n, d.length / 4 = n + 1 := ⟨d.length / 4 - 1, by omega⟩
    have hm : (0x1800 + off, s.checkWord (0x1800 + off) ((some d).map fun d => leNat (d.take 4))) ∈
        s.checkBurst (some d) (d.length / 4) (0x1800 + off) := by
      rw [hn]
      exact List.mem_cons_self
    exact ⟨_, hm, by rw [checkBurst_window hs ho hd hle hm, ht]; rfl⟩
  obtain ⟨miso, h⟩ := writeFrame_busy hs (a := 0x1800 + off) (by omega) h4 hd (by omega) hbusy
  rw [h]
  exact answersBusy_modSpi s miso
end
end

/-! ## A read of one word -/

theorem readFrame_word {s : State} (hs : s.inService = true) {a : Nat} {b : Block} (ha : a < 2 ^ 24) (h4 : a % 4 = 0)
    (hb : blockOf a = some b) (hl : s.lockedOut b = false) (hw : a / 0x1000 ≠ 1) :
    s.readFrame (readMosi a 1) = (s.readEffect b a).modSpi fun p =>
      { p with
        portStat := spiDone + (if s.mirq then spiIrq else 0)
        miso := 0xFF#8 :: be 1 (spiDone + (if s.mirq then spiIrq else 0)) ++ le 4 (s.regValue b a) } := by
  have hword : s.checkWord a none = ⟨false, false, false, false⟩ := by
    simp [State.checkWord, hb, h4, hl, inService_served hs, State.wordBusy, hw]
  have hpass : allPass (s.checkBurst none 1 a) := fun p hp => by
    rw [State.checkBurst, State.checkBurst, List.mem_singleton] at hp
    rw [hp]
    exact hword
  have hbit : bit (spiDone + if s.mirq then spiIrq else 0) 0 = true := by cases s.mirq <;> rfl
  have hhead : headerOk 0x0B (readMosi a 1) = true := by simp [headerOk, readMosi, be, u8, fld, sub, beNat]
  have hn : fld (readMosi a 1) 4 2 = 1 := by simp [fld, sub, readMosi, be, beNat]
  have hroom : (readMosi a 1).length - 6 = 6 := by simp [readMosi, be, zeros]
  simp only [State.readFrame, spiAlive_of_inService hs, hhead, fld_readMosi_start 1 ha, hn, hroom, statusByte_allPass hpass, hbit,
    Bool.not_true, Bool.false_eq_true, if_false, if_true, frameDone_clean hpass.clean, State.readWords, hb, List.append_nil]
  rw [List.take_of_length_le (by simp [be, le])]

theorem control_doorbell {b : Mailbox} (h : b.state = .loading) : b.control 1 = { b with state := .posted } := by
  simp [Mailbox.control, Mailbox.doorbell, h, bit, Nat.testBit]

theorem control_cancel_posted {b : Mailbox} (h : b.state = .posted) :
    b.control 2 = { b with state := .idle, eth := false, cancelled := true, seqReg := fld b.request 4 4 } := by
  simp [Mailbox.control, Mailbox.cancel, h, bit, Nat.testBit]

theorem control_cancel_running {b : Mailbox} (h : b.state = .running) : b.control 2 = { b with cancelPending := true } := by
  simp [Mailbox.control, Mailbox.cancel, h, bit, Nat.testBit]

theorem control_release {b : Mailbox} (h : b.state = .loading ∨ b.state = .done) : b.control 4 = { b with state := .idle } := by
  rcases h with h | h <;> simp [Mailbox.control, Mailbox.release, h, bit, Nat.testBit]

/-- Settles O48: every register write is one write frame, applied or answered BUSY; every low word's read is one read frame. -/
theorem mailboxRegistersComplete : Obligations.MailboxRegistersComplete := by
  refine ⟨fun m s hs turned hturned busy hbusy => ?_, fun s hs spi hspi => ?_⟩
  · obtain rfl : turned = turnedBy s m := hturned
    obtain rfl : busy = answersBusy s := hbusy
    have hbit2 : bit 2 0 = false := rfl
    have hbit4 : bit 4 0 = false := rfl
    refine ⟨fun ht => ⟨fun hst => ⟨_, rfl, ctrl_turns hs m (v := 1) rfl (by simp [ht, hst, inService_fetches hs]) (control_doorbell hst)⟩,
      fun hst => ⟨_, rfl, ctrl_busy hs m (v := 1) rfl (by simp [hst, bit])⟩,
      fun hst => ⟨_, rfl, ctrl_turns hs m (v := 2) rfl (by simp [ht, hbit2]) (control_cancel_posted hst)⟩,
      fun hst => ⟨_, rfl, ctrl_turns hs m (v := 2) rfl (by simp [ht, hbit2]) (control_cancel_running hst)⟩,
      fun hst => ⟨_, rfl, ctrl_turns hs m (v := 4) rfl (by simp [ht, hbit4]) (control_release hst)⟩, ?_⟩,
      fun ht => ⟨⟨_, rfl, ctrl_busy hs m (v := 1) rfl (by simp [ht])⟩, ⟨_, rfl, ctrl_busy hs m (v := 2) rfl (by simp [ht])⟩,
        ⟨_, rfl, ctrl_busy hs m (v := 4) rfl (by simp [ht])⟩, ?_⟩⟩
    · rintro off d rfl hr hst ho hd h4 hle
      exact ⟨_, rfl, window_turns hs ho hd h4 hle hr ht hst⟩
    · rintro off d rfl ho hd h4 hle
      exact ⟨_, rfl, window_busy hs ho hd h4 hle ht⟩
  · subst hspi
    have hlk (b : Block) (hb : b.secured = false) : s.lockedOut b = false := by simp [State.lockedOut, hb]
    refine ⟨?_, ?_, fun p c => ?_, fun hl => ?_⟩
    · exact congrArg Host.Outcome.next (readFrame_word hs (by decide) rfl rfl (hlk .tmb rfl) (by decide))
    · exact congrArg Host.Outcome.next (readFrame_word hs (by decide) rfl rfl (hlk (.mac 0) rfl) (by decide))
    · have hoff : (0x10000 + 0x1000 * p.val + 0x100 + 8 * c.val) % 0x1000 = 0x100 + 8 * c.val := by omega
      have hlow : 0x100 ≤ 0x100 + 8 * c.val ∧ 0x100 + 8 * c.val < 0x1F0 := by omega
      have hblock : blockOf (0x10000 + 0x1000 * p.val + 0x100 + 8 * c.val) = some (.mac p) := by
        fin_cases p
        · have : (0x10000 + 0x1000 * 0 + 0x100 + 8 * c.val) / 0x1000 = 0x10 := by omega
          simp [blockOf, this]
        · have : (0x10000 + 0x1000 * 1 + 0x100 + 8 * c.val) / 0x1000 = 0x11 := by omega
          simp [blockOf, this]
      have h8 : (0x100 + 8 * c.val) % 8 = 0 := by omega
      refine congrArg Host.Outcome.next ((readFrame_word hs (by omega) (by omega) hblock (hlk (.mac p) rfl) (by omega)).trans ?_)
      simp only [State.readEffect, State.regValue, State.macReg, hoff, dif_pos hlow, h8, if_true, Nat.add_sub_cancel_left,
        Nat.mul_div_cancel_left c.val (by decide : 0 < 8)]
      rfl
    · exact congrArg Host.Outcome.next (readFrame_word hs (by decide) rfl rfl hl (by decide))
end Sys2Proof.Laws
end

section
namespace Sys2Proof.Laws
open Sys2Proof Sys2Proof.Machine

/-! # The sealed DEVICE, TIME and UNIT commands (R31, R97, R99, R312, R323, R377) -/

/-- A sealed command whose arguments pass its own checks enters the open measure. -/
theorem entersMeasure_of {row : Cmd → Instr} {ok : Board → Bytes → Prop} (d : CmdDef) (hrow : ∀ c s, exec (row c) s = .next (d.run c s))
    (hk : d.kind ≠ .immediate) (hs : d.inService = true)
    (h : ∀ b a, ok b a → d.len a.length = true ∧ a.length ≤ 496 ∧ d.pre b a = none) :
    entersMeasure row d.opcode d.owner ok := by
  intro c s hr hok
  obtain ⟨hl, h496, hp⟩ := h _ _ hok
  rw [hrow, run_taken hr hk hs hl h496 hp]

/-! ## Lists by key -/

theorem getKey_insertKey {α : Type} (k : Nat) (v : α) (l : List (Nat × α)) (j : Nat) :
    getKey j (insertKey k v l) = if k = j then some v else getKey j l := by
  induction l with
  | nil => by_cases h : k = j <;> simp [insertKey, getKey, h]
  | cons p l ih =>
    simp only [getKey] at ih ⊢
    simp only [insertKey]
    split
    · by_cases h : k = j <;> simp [h]
    · split
      · next _ hk => by_cases h : k = j <;> simp_all
      · next hk =>
        by_cases h : p.1 = j
        · simp [h, show k ≠ j from fun e => hk (e.trans h.symm)]
        · simpa [List.find?_cons, h] using ih

theorem getKey_dropKey {α : Type} (k : Nat) (l : List (Nat × α)) (j : Nat) :
    getKey j (dropKey k l) = if k = j then none else getKey j l := by
  simp only [getKey, dropKey, List.find?_filter]
  split
  · next h => simp [h]
  · next h =>
    congr 2
    funext p
    by_cases hp : p.1 = j <;> simp [hp, Ne.symm h]

theorem setMgmt_mgmtView (t : Store) (k : Nat) (v : UnitState) (j : Nat) :
    (t.setMgmt k v).mgmtView j = if k = j then v else t.mgmtView j := by
  simp only [Store.setMgmt, Store.mgmtView]
  split
  · next hv => rw [getKey_dropKey]; split <;> simp [hv]
  · rw [getKey_insertKey]; split <;> rfl

theorem num_ofNum {n : Nat} (h : n ≤ 3) : (UnitState.ofNum n).num = n := by
  interval_cases n <;> rfl

/-! ## At their places -/

/-- What a unit's changed views leave of the state: the store, the sessions, the clock and the Sequencer. -/
theorem viewsMoved_leaves (s : State) (id age : Nat) :
    (s.viewsMoved id age).store = s.store ∧ (s.viewsMoved id age).sessions = s.sessions ∧ (s.viewsMoved id age).tb = s.tb ∧
      (s.viewsMoved id age).seq = s.seq :=
  have h := viewsMoved_still s id age
  ⟨store_of_still h, sessions_of_still h, tb_of_still h, seq_of_still h⟩

theorem reaches_calm {s : State} {c : SealedCmd} {op : Nat} (h : s.reaches c op) : calm s.seq :=
  ⟨h.2.2.1, h.2.2.2.1, h.2.2.2.2.2.1⟩

theorem enterCustody_atPlace {s : State} {c : SealedCmd} (h : s.reaches c 0x0104) (hx : s.power.xtal32 = true)
    (hc : bit (u8 c.cmd.args 0) 0 = false ∨ s.store.chorus = none) (hp : s.power.plan = none) :
    s.atPlace c = (s.sealedOk c []).modPower fun p => { p with plan := some ⟨c.adm, true⟩ } := by
  refine atPlace_sealedNow (d := cmdDeviceEnterCustody) (t := s.modPower fun p => { p with plan := some ⟨c.adm, true⟩ })
    h rfl rfl ?_ rfl (reaches_calm h)
  have : (bit (u8 c.cmd.args 0) 0 && s.store.chorus.isSome && !s.parked) = false := by
    obtain hc | hc := hc <;> simp [hc]
  show enterCustody c s = _
  simp [enterCustody, hx, this, okay, State.modPower, hp]

theorem setThermal_atPlace {s : State} {c : SealedCmd} (h : s.reaches c 0x0105)
    (ht : thermalOk s.thermalDefaults (thermalArgs c.cmd.args) = true) :
    s.atPlace c = (s.sealedOk c []).modStore fun t => { t with boundary := t.boundary ++ [c] } := by
  refine atPlace_sealedBoundary (d := cmdDeviceSetThermal) (t := s) h rfl rfl ?_ rfl (reaches_calm h)
  show (if thermalOk s.thermalDefaults (thermalArgs c.cmd.args) then okay s [] else refuse s .range) = _
  rw [if_pos ht]
  rfl

theorem deviceReset_atPlace {s : State} {c : SealedCmd} (h : s.reaches c 0x0106) (hp : s.power.plan = none) :
    s.atPlace c = (s.sealedOk c []).modPower fun p =>
      { p with plan := some ⟨c.adm, false⟩, planRecovery := u8 c.cmd.args 0 == 1 } := by
  refine atPlace_sealedNow (d := cmdDeviceReset) h rfl rfl
    (t := s.modPower fun p => { p with plan := some ⟨c.adm, false⟩, planRecovery := u8 c.cmd.args 0 == 1 }) ?_ rfl (reaches_calm h)
  show deviceReset c s = _
  simp [deviceReset, hp, okay]

theorem setLength_atPlace {s : State} {c : SealedCmd} {a : Bytes} (ha : a = c.cmd.args) (h : s.reaches c 0x0202) (hl : u8 a 0 ≤ 3)
    (hn : u8 a 0 ≠ s.store.length) (h2 : c.adm + 2 ≤ fld a 2 6) (h6 : fld a 2 6 ≤ c.adm + 65536)
    (hp : s.store.pendingAnchor = none) (hs : s.store.startOf (fld a 2 6) % (lengthUs (u8 a 0) * 1000) = 0) :
    s.atPlace c = (s.sealedOk c (be 6 (fld a 2 6) ++ be 2 0 ++ be 8 (s.store.startOf (fld a 2 6)))).modStore fun t =>
      { t with pendingAnchor := some (s.store.startOf (fld a 2 6), fld a 2 6, u8 a 0) } := by
  subst ha
  refine atPlace_sealedNow (d := cmdTimeSetLength) h rfl rfl
    (t := s.modStore fun t => { t with pendingAnchor := some (s.store.startOf (fld c.cmd.args 2 6), fld c.cmd.args 2 6, u8 c.cmd.args 0) })
    ?_ rfl (reaches_calm h)
  show setLength c s = _
  have hr : ¬ (3 < u8 c.cmd.args 0 ∨ fld c.cmd.args 2 6 < c.adm + 2 ∨ c.adm + 65536 < fld c.cmd.args 2 6) := by omega
  simp only [setLength, if_neg hr, hp, if_neg hn, hs]
  rfl

/-- A raise of a management view waits for the boundary. -/
theorem setState_raise_atPlace {s : State} {c : SealedCmd} {a : Bytes} {u : HwUnit} (ha : a = c.cmd.args) (h : s.reaches c 0x0302)
    (hv : u8 a 2 ≤ 3) (hu : s.unit (fld a 0 2) = some u) (hr : (s.mgmtView (fld a 0 2)).num < u8 a 2) :
    s.atPlace c = (s.sealedOk c (be 2 (fld a 0 2) ++ be 1 (s.mgmtView (fld a 0 2)).num ++ be 1 (u8 a 2))).modStore fun t =>
      { t with raises := insertKey (fld a 0 2) (UnitState.ofNum (u8 a 2)) (dropKey (fld a 0 2) t.raises) } := by
  subst ha
  have hnum := num_ofNum hv
  refine atPlace_sealedNow (d := cmdUnitSetState) h rfl rfl (t := s.modStore fun t =>
    { t with raises := insertKey (fld c.cmd.args 0 2) (UnitState.ofNum (u8 c.cmd.args 2)) (dropKey (fld c.cmd.args 0 2) t.raises) })
    ?_ rfl (reaches_calm h)
  show setState c s = _
  simp only [setState, hu, hnum, if_neg (Nat.not_lt.mpr hr.le), if_pos hr]
  rfl

/-- A lower management view applies at once. -/
theorem setState_lower_atPlace {s : State} {c : SealedCmd} {a : Bytes} {u : HwUnit} (ha : a = c.cmd.args) (h : s.reaches c 0x0302)
    (hv : u8 a 2 ≤ 3) (hu : s.unit (fld a 0 2) = some u) (hr : u8 a 2 < (s.mgmtView (fld a 0 2)).num) :
    s.atPlace c = (((s.modStore fun t => { t with raises := dropKey (fld a 0 2) t.raises }).modStore fun t =>
      t.setMgmt (fld a 0 2) (UnitState.ofNum (u8 a 2))).viewsMoved (fld a 0 2) 0).sealedOk c
        (be 2 (fld a 0 2) ++ be 1 (s.mgmtView (fld a 0 2)).num ++ be 1 (u8 a 2)) := by
  subst ha
  have hnum := num_ofNum hv
  obtain ⟨-, -, htb, hseq⟩ := viewsMoved_leaves ((s.modStore fun t => { t with raises := dropKey (fld c.cmd.args 0 2) t.raises }).modStore
    fun t => t.setMgmt (fld c.cmd.args 0 2) (UnitState.ofNum (u8 c.cmd.args 2))) (fld c.cmd.args 0 2) 0
  refine atPlace_sealedNow (d := cmdUnitSetState) h rfl rfl ?_ htb (hseq ▸ reaches_calm h)
  show setState c s = _
  simp only [setState, hu, hnum, if_pos hr]
  rfl

/-- Settles O7: each row enters the open measure, and at its place each command is what its own definition makes of the state. -/
theorem deviceTimeUnitChangesComplete : Obligations.DeviceTimeUnitChangesComplete := by
  unfold Obligations.DeviceTimeUnitChangesComplete
  refine ⟨entersMeasure_of cmdDeviceEnterCustody (fun _ _ => rfl) nofun rfl ?_,
    entersMeasure_of cmdDeviceSetThermal (fun _ _ => rfl) nofun rfl ?_, entersMeasure_of cmdDeviceReset (fun _ _ => rfl) nofun rfl ?_,
    entersMeasure_of cmdTimeSetLength (fun _ _ => rfl) nofun rfl ?_, entersMeasure_of cmdUnitSetState (fun _ _ => rfl) nofun rfl ?_,
    fun c s a ha => ⟨?_, ?_, ?_, fun h => setLength_atPlace ha h, fun u h hv hu => ⟨setState_raise_atPlace ha h hv hu, ?_⟩⟩⟩
  · intro b a hl
    simp [cmdDeviceEnterCustody, CmdDef.base, hl]
  · rintro b a ⟨hl, hr⟩
    simp [cmdDeviceSetThermal, CmdDef.base, hl, hr]
  · rintro b a ⟨hl, hr⟩
    simp [cmdDeviceReset, CmdDef.base, hl, Nat.not_lt.mpr hr]
  · rintro b a ⟨hl, hr⟩
    simp [cmdTimeSetLength, CmdDef.base, hl, Nat.not_lt.mpr hr]
  · rintro b a ⟨hl, hr⟩
    simp [cmdUnitSetState, CmdDef.base, hl, Nat.not_lt.mpr hr]
  · subst ha; exact enterCustody_atPlace
  · subst ha; exact setThermal_atPlace
  · subst ha; exact deviceReset_atPlace
  · rintro hr t rfl
    rw [setState_lower_atPlace ha h hv hu hr]
    obtain ⟨hstore, hsess, htb, -⟩ := viewsMoved_leaves ((s.modStore fun t =>
      { t with raises := dropKey (fld a 0 2) t.raises }).modStore fun t => t.setMgmt (fld a 0 2) (UnitState.ofNum (u8 a 2)))
      (fld a 0 2) 0
    simp only [State.sealedOk, State.replying, State.mgmtView, setMgmt_mgmtView, modSeq_store, modSeq_sessions, modSeq_tb,
      modSeq_seq, hstore, hsess, htb, modStore_store, modStore_sessions, modStore_tb, if_true]
    refine ⟨trivial, fun k hk => if_neg hk.symm, ?_, by simp, by rfl, by rfl, trivial, trivial⟩
    exact (getKey_dropKey _ _ _).trans (if_pos rfl)

end Sys2Proof.Laws
end

section
namespace Sys2Proof.Laws
open Sys2Proof Sys2Proof.Machine

/-! # The data-path view of a unit, and what lowering one does (R94, R97) -/

theorem dataView_of_units {s t : State} (h : t.units = s.units) (k : Nat) : t.dataView k = s.dataView k := by
  simp [State.dataView, State.unit, h]

theorem dataView_eq {s : State} {k : Nat} {u : HwUnit} (h : s.unit k = some u) : s.dataView k = u.data := by
  simp [State.dataView, h]

@[simp] theorem inject_units (s : State) (c : Fin 32) : (s.inject c).units = s.units := by rfl

@[simp] theorem injectAll_units (s : State) (cs : List (Fin 32)) : (s.injectAll cs).units = s.units :=
  foldl_keeps (p := State.units) (f := State.inject) (fun _ _ => rfl) cs s

@[simp] theorem pulse_units (s : State) (p : Nat) : (s.pulse p).units = s.units := injectAll_units ..

theorem modUnit_unit_some {s : State} {id : Nat} {u : HwUnit} {f : HwUnit → HwUnit} (hf : ∀ u, (f u).id = u.id) (h : s.unit id = some u) :
    (s.modUnit id f).unit id = some (f u) := by
  rw [modUnit_unit _ _ _ hf, h, Option.map_some]

theorem modUnit_dataView (s : State) {id : Nat} {u : HwUnit} {f : HwUnit → HwUnit} (hf : ∀ u, (f u).id = u.id) (h : s.unit id = some u) :
    (s.modUnit id f).dataView id = (f u).data :=
  dataView_eq (modUnit_unit_some hf h)

theorem modUnit_dataView_other (s : State) {id k : Nat} {f : HwUnit → HwUnit} (hf : ∀ u, (f u).id = u.id) (hk : k ≠ id) :
    (s.modUnit id f).dataView k = s.dataView k := by
  simp [State.dataView, modUnit_other _ _ _ _ hf hk]

/-- A change that keeps identities and data leaves every data-path view. -/
theorem modUnit_dataView_same (s : State) (id k : Nat) (f : HwUnit → HwUnit) (hi : ∀ u, (f u).id = u.id) (hd : ∀ u, (f u).data = u.data) :
    (s.modUnit id f).dataView k = s.dataView k := by
  by_cases h : k = id
  · subst h
    simp [State.dataView, modUnit_unit _ _ _ hi, Function.comp_def, hd]
  · exact modUnit_dataView_other s hi h

theorem noteViews_dataView (s : State) (id age k : Nat) : (s.noteViews id age).dataView k = s.dataView k := by
  unfold State.noteViews
  split
  · rfl
  · split
    · have h := modUnit_dataView_same s id k (fun v => { v with apart := 0, pairAge := 0, noted := false }) (fun _ => rfl) (fun _ => rfl)
      split <;> exact h
    · exact modUnit_dataView_same s id k _ (fun _ => rfl) (fun _ => rfl)

@[simp] theorem viewsMoved_dataView (s : State) (id age k : Nat) : (s.viewsMoved id age).dataView k = s.dataView k := by
  unfold State.viewsMoved
  split
  · rfl
  · exact noteViews_dataView ..

/-- Lowering a unit's data-path view to `v` leaves the lower of the two. -/
theorem lowerData_dataView (s : State) (id : Nat) (v : UnitState) :
    (s.lowerData id v).dataView id = if v.num < (s.dataView id).num then v else s.dataView id := by
  unfold State.lowerData
  split
  · next h => simp [State.dataView, h, UnitState.num]
  · next u h =>
    rw [dataView_eq h]
    split
    · rw [viewsMoved_dataView]
      refine (dataView_of_units (s := s.modUnit id fun w => { w with data := v, qualified := false }) (by simp) id).trans ?_
      exact modUnit_dataView s (fun _ => rfl) h
    · exact dataView_eq h

theorem lowerData_dataView_other (s : State) {id k : Nat} (v : UnitState) (hk : k ≠ id) : (s.lowerData id v).dataView k = s.dataView k := by
  unfold State.lowerData
  split
  · rfl
  · split
    · rw [viewsMoved_dataView]
      refine (dataView_of_units (s := s.modUnit id fun w => { w with data := v, qualified := false }) (by simp) k).trans ?_
      exact modUnit_dataView_other s (fun _ => rfl) hk
    · rfl

theorem lowerData_offline (s : State) (id : Nat) : (s.lowerData id .offline).dataView id = .offline := by
  rw [lowerData_dataView]
  cases h : s.dataView id <;> rfl

end Sys2Proof.Laws
end

section
namespace Sys2Proof.Laws
open Sys2Proof Sys2Proof.Machine

/-! # The sealed NET commands (R87, R90, R135, R140, R156, R390 to R393) -/

/-- The port that byte 0 names, on a board that has it. -/
theorem onPort_named {b : Bytes} {s : State} {p : Fin 2} (hp : u8 b 0 = p) (hb : p = 1 → s.board.port1 = true) (f : Fin 2 → Res) :
    onPort b s f = f p := by
  have h : s.portArg (u8 b 0) = .ok p := by
    rw [hp]
    match p with
    | 0 => rfl
    | 1 => exact if_pos (hb rfl)
  simp only [onPort, h]

theorem sealedOk_net (s : State) (c : SealedCmd) (b : Bytes) (p : Fin 2) : (s.sealedOk c b).net p = s.net p := rfl

theorem modNet_net (s : State) (p : Fin 2) (f : PortNet → PortNet) : (s.modNet p f).net p = f (s.net p) := by
  simp [State.modNet, State.net]

section
variable {c : SealedCmd} {s : State} {p : Fin 2}

/-- A sealed NET command that acts on one port, at its place: `t` is what it makes of the state. -/
theorem onPort_atPlace {d : CmdDef} {t : State} {f : Fin 2 → Res} (hp : u8 c.cmd.args 0 = p) (hb : p = 1 → s.board.port1 = true)
    (h : s.reaches c d.opcode) (hd : commandOf d.opcode = some d) (hk : d.kind = .sealedNow) (ha : d.act c s = onPort c.cmd.args s f)
    (hf : f p = okay t []) (htb : t.tb = s.tb) (hseq : t.seq = s.seq) : s.atPlace c = t.sealedOk c [] :=
  atPlace_sealedNow h hd hk (by rw [ha, onPort_named hp hb, hf]; rfl) htb (hseq ▸ reaches_calm h)

/-- A sealed NET command that sets port `p`'s settings by `g`, at its place. -/
theorem setNet_atPlace {d : CmdDef} {g : PortNet → PortNet} {f : Fin 2 → Res} (hp : u8 c.cmd.args 0 = p)
    (hb : p = 1 → s.board.port1 = true) (h : s.reaches c d.opcode) (hd : commandOf d.opcode = some d) (hk : d.kind = .sealedNow)
    (ha : d.act c s = onPort c.cmd.args s f) (hf : f p = okay (s.modNet p g) []) : s.atPlace c = (s.sealedOk c []).modNet p g :=
  onPort_atPlace hp hb h hd hk ha hf rfl rfl

theorem setPort_atPlace (hp : u8 c.cmd.args 0 = p) (hb : p = 1 → s.board.port1 = true) (h : s.reaches c 0x0601) :
    s.atPlace c = (s.sealedOk c []).modStore fun t => { t with boundary := t.boundary ++ [c] } :=
  atPlace_sealedBoundary (d := cmdNetSetPort) (t := s) h rfl rfl (onPort_named hp hb _) rfl (reaches_calm h)

theorem setFilter_zero_atPlace (hp : u8 c.cmd.args 0 = p) (hb : p = 1 → s.board.port1 = true) (h : s.reaches c 0x0602)
    (h0 : u8 c.cmd.args 1 = 0) :
    s.atPlace c = (s.sealedOk c []).modNet p fun n =>
      { n with filter0 := if u8 c.cmd.args 2 = 1 then fld c.cmd.args 4 6 else n.filter0, filter0On := u8 c.cmd.args 2 == 1 } := by
  refine setNet_atPlace (d := cmdNetSetFilter) hp hb h rfl rfl rfl ?_
  simp only [h0, if_true, beq_iff_eq]

/-- The entry that SET_FILTER sets, with the three others as they were. -/
def entryFor (a : Bytes) (l : Vector (Option Nat) 4) : Vector (Option Nat) 4 :=
  Vector.ofFn fun i : Fin 4 => if i.val + 4 = u8 a 1 then (if u8 a 2 == 1 then some (fld a 4 6) else none) else l[i]

theorem setFilter_entry_atPlace (hp : u8 c.cmd.args 0 = p) (hb : p = 1 → s.board.port1 = true) (h : s.reaches c 0x0602)
    (h0 : u8 c.cmd.args 1 ≠ 0) :
    s.atPlace c = (s.sealedOk c []).modNet p fun n => { n with filter4 := entryFor c.cmd.args n.filter4 } := by
  refine setNet_atPlace (d := cmdNetSetFilter) hp hb h rfl rfl rfl ?_
  simp only [if_neg h0]
  rfl

theorem setAddress_atPlace (hp : u8 c.cmd.args 0 = p) (hb : p = 1 → s.board.port1 = true) (h : s.reaches c 0x0603) :
    s.atPlace c = (s.sealedOk c []).modNet p fun n =>
      { n with
        ipv6 := if bit (u8 c.cmd.args 1) 0 then some (fld c.cmd.args 4 16) else none
        ipv4 := if bit (u8 c.cmd.args 1) 1 then some (fld c.cmd.args 20 4) else none } :=
  setNet_atPlace (d := cmdNetSetAddress) hp hb h rfl rfl rfl rfl

theorem setHeartbeat_atPlace (hp : u8 c.cmd.args 0 = p) (hb : p = 1 → s.board.port1 = true) (h : s.reaches c 0x0605) :
    s.atPlace c = (s.sealedOk c []).modNet p fun n =>
      { n with hbDest := if u8 c.cmd.args 1 = 0 then none else some (fld c.cmd.args 4 16, fld c.cmd.args 20 2) } :=
  setNet_atPlace (d := cmdNetSetHeartbeat) hp hb h rfl rfl rfl rfl

/-- The policy that MACSEC_POLICY's byte names. -/
def policyOf : Nat → MacsecPolicy
  | 0 => .disabled
  | 1 => .check
  | _ => .strict

theorem macsecPolicy_atPlace (hp : u8 c.cmd.args 0 = p) (hb : p = 1 → s.board.port1 = true) (h : s.reaches c 0x0606) :
    s.atPlace c = (s.sealedOk c []).modNet p fun n =>
      { n with policy := policyOf (u8 c.cmd.args 1), replayWindow := u8 c.cmd.args 2 } := by
  refine setNet_atPlace (d := cmdNetMacsecPolicy) hp hb h rfl rfl rfl ?_
  unfold policyOf
  rfl

theorem policyOf_num {n : Nat} (h : n ≤ 2) : (policyOf n).num = n := by interval_cases n <;> rfl

theorem installSa_free {l : List Sa} {a : Sa} (h : (l.filter fun b => b.an != a.an).length < 2) :
    installSa l a = some (a :: l.filter fun b => b.an != a.an) := if_neg (Nat.not_le.mpr h)

theorem macsecInstall_atPlace (hp : u8 c.cmd.args 0 = p) (hb : p = 1 → s.board.port1 = true) (h : s.reaches c 0x0607)
    (h1 : u8 c.cmd.args 1 ≤ 1) (ht : u8 c.cmd.args 1 = 0 → ((s.net p).txSa.filter fun b => b.an != u8 c.cmd.args 2).length < 2)
    (hr : u8 c.cmd.args 1 = 1 → ((s.net p).rxSa.filter fun b => b.an != u8 c.cmd.args 2).length < 2) :
    s.atPlace c = (s.sealedOk c []).modNet p fun n =>
      if u8 c.cmd.args 1 = 0 then { n with txSa := saArgs c.cmd.args :: n.txSa.filter fun b => b.an != u8 c.cmd.args 2 }
      else { n with rxSa := saArgs c.cmd.args :: n.rxSa.filter fun b => b.an != u8 c.cmd.args 2 } := by
  refine setNet_atPlace (d := cmdNetMacsecInstallSa) hp hb h rfl rfl rfl ?_
  by_cases h0 : u8 c.cmd.args 1 = 0
  · have := installSa_free (a := saArgs c.cmd.args) (ht h0)
    simp only [h0, this, if_true, beq_self_eq_true]
    rfl
  · have := installSa_free (a := saArgs c.cmd.args) (hr (by omega))
    simp only [h0, beq_iff_eq, if_false, this]
    rfl

theorem macsecRemove_tx_atPlace (hp : u8 c.cmd.args 0 = p) (hb : p = 1 → s.board.port1 = true) (h : s.reaches c 0x0608)
    (h0 : u8 c.cmd.args 1 = 0) (hk : ∃ k ∈ (s.net p).txSa, k.an = u8 c.cmd.args 2)
    (hh : (s.net p).txSa.head?.map (·.an) ≠ some (u8 c.cmd.args 2)) :
    s.atPlace c = (s.sealedOk c []).modNet p fun n => { n with txSa := n.txSa.filter fun k => k.an != u8 c.cmd.args 2 } := by
  refine setNet_atPlace (d := cmdNetMacsecRemoveSa) hp hb h rfl rfl rfl ?_
  have ha : ((s.net p).txSa.any fun a => a.an == u8 c.cmd.args 2) = true := by simpa using hk
  simp only [h0, ha, if_true, Bool.not_true, Bool.false_eq_true, if_false, if_neg hh]

theorem macsecRemove_rx_atPlace (hp : u8 c.cmd.args 0 = p) (hb : p = 1 → s.board.port1 = true) (h : s.reaches c 0x0608)
    (h1 : u8 c.cmd.args 1 = 1) (hk : ∃ k ∈ (s.net p).rxSa, k.an = u8 c.cmd.args 2) :
    s.atPlace c = (s.sealedOk c []).modNet p fun n => { n with rxSa := n.rxSa.filter fun k => k.an != u8 c.cmd.args 2 } := by
  refine setNet_atPlace (d := cmdNetMacsecRemoveSa) hp hb h rfl rfl rfl ?_
  have ha : ((s.net p).rxSa.any fun a => a.an == u8 c.cmd.args 2) = true := by simpa using hk
  simp only [h1, ha, Nat.one_ne_zero, Bool.not_true, Bool.false_eq_true, if_false]

theorem ports_of_still {s t : State} (h : still t = still s) : t.ports = s.ports :=
  (congrArg State.ports h :)

/-- The PHY of port `p` held in reset. -/
def phyHeld (s : State) (p : Fin 2) : State := s.modPort p fun q => { q with phyRun := false, phySilent := false, cleanMeasure := false }

theorem phyReset_atPlace (hp : u8 c.cmd.args 0 = p) (hb : p = 1 → s.board.port1 = true) (h : s.reaches c 0x0609) :
    s.atPlace c = ((phyHeld s p).lowerData (portId p) .offline).sealedOk c [] :=
  have hs := lowerData_still (phyHeld s p) (portId p) .offline
  onPort_atPlace (d := cmdNetPhyReset) hp hb h rfl rfl rfl rfl (tb_of_still (s := phyHeld s p) hs)
    (seq_of_still (s := phyHeld s p) hs)

theorem setMgmtPeers_atPlace (h : s.reaches c 0x0604) :
    s.atPlace c = (s.sealedOk c []).modSettings fun t =>
      { t with peers := (List.range (u8 c.cmd.args 0)).map fun i => fld c.cmd.args (4 + 16 * i) 16 } :=
  atPlace_sealedNow (d := cmdNetSetMgmtPeers) (t := s.modSettings fun t =>
    { t with peers := (List.range (u8 c.cmd.args 0)).map fun i => fld c.cmd.args (4 + 16 * i) 16 }) h rfl rfl rfl rfl (reaches_calm h)

theorem mdioWrite_atPlace (h : s.reaches c 0x060A) :
    s.atPlace c = (s.sealedOk c []).modCluster fun k =>
      { k with mdio := some (MdioWrite.mk (u8 c.cmd.args 0) (u8 c.cmd.args 1) (if u8 c.cmd.args 0 = 45 then u8 c.cmd.args 2 else 0)
        (fld c.cmd.args 4 2) (fld c.cmd.args 6 2)) } :=
  atPlace_sealedNow (d := cmdNetMdioWrite) (t := s.modCluster fun k =>
    { k with mdio := some (MdioWrite.mk (u8 c.cmd.args 0) (u8 c.cmd.args 1) (if u8 c.cmd.args 0 = 45 then u8 c.cmd.args 2 else 0)
      (fld c.cmd.args 4 2) (fld c.cmd.args 6 2)) }) h rfl rfl rfl rfl (reaches_calm h)

end

/-! ## The obligation -/

theorem netRows_enter :
    entersMeasure .netSetPort 0x0601 .mgmt (fun _ a => a.length = 24 ∧ u8 a 0 ≤ 1 ∧ setPortOk a = true) ∧
    entersMeasure .netSetFilter 0x0602 .mgmt (fun _ a => a.length = 12 ∧ u8 a 0 ≤ 1 ∧ u8 a 2 ≤ 1 ∧
      (u8 a 1 = 0 ∧ (fld a 4 6).testBit 40 = false ∨ 4 ≤ u8 a 1 ∧ u8 a 1 ≤ 7)) ∧
    entersMeasure .netSetAddress 0x0603 .mgmt (fun _ a => a.length = 24 ∧ u8 a 0 ≤ 1 ∧
      (bit (u8 a 1) 0 = true → ipv6Ok (fld a 4 16) = true) ∧ (bit (u8 a 1) 1 = true → ipv4Ok (fld a 20 4) = true)) ∧
    entersMeasure .netSetMgmtPeers 0x0604 .sec (fun _ a => u8 a 0 ≤ 8 ∧ a.length = 4 + 16 * u8 a 0) ∧
    entersMeasure .netSetHeartbeat 0x0605 .mgmt (fun _ a => a.length = 24 ∧ u8 a 0 ≤ 1 ∧
      (u8 a 1 = 0 ∨ u8 a 1 = 6 ∨ (u8 a 1 = 4 ∧ isV4 (fld a 4 16) = true))) ∧
    entersMeasure .netMacsecPolicy 0x0606 .sec (fun _ a => a.length = 4 ∧ u8 a 0 ≤ 1 ∧ u8 a 1 ≤ 2) ∧
    entersMeasure .netMacsecInstallSa 0x0607 .sec (fun _ a => a.length = 80 ∧ installOk a = true) ∧
    entersMeasure .netMacsecRemoveSa 0x0608 .sec (fun _ a => a.length = 4 ∧ u8 a 0 ≤ 1 ∧ u8 a 1 ≤ 1 ∧ u8 a 2 ≤ 3) ∧
    entersMeasure .netPhyReset 0x0609 .mgmt (fun _ a => a.length = 4 ∧ u8 a 0 ≤ 1) ∧
    entersMeasure .netMdioWrite 0x060A .mgmt (fun _ a => a.length = 8 ∧ (u8 a 0 = 22 ∨ u8 a 0 = 45) ∧ u8 a 1 ≤ 31) := by
  refine ⟨entersMeasure_of cmdNetSetPort (fun _ _ => rfl) nofun rfl ?_, entersMeasure_of cmdNetSetFilter (fun _ _ => rfl) nofun rfl ?_,
    entersMeasure_of cmdNetSetAddress (fun _ _ => rfl) nofun rfl ?_, entersMeasure_of cmdNetSetMgmtPeers (fun _ _ => rfl) nofun rfl ?_,
    entersMeasure_of cmdNetSetHeartbeat (fun _ _ => rfl) nofun rfl ?_, entersMeasure_of cmdNetMacsecPolicy (fun _ _ => rfl) nofun rfl ?_,
    entersMeasure_of cmdNetMacsecInstallSa (fun _ _ => rfl) nofun rfl ?_,
    entersMeasure_of cmdNetMacsecRemoveSa (fun _ _ => rfl) nofun rfl ?_, entersMeasure_of cmdNetPhyReset (fun _ _ => rfl) nofun rfl ?_,
    entersMeasure_of cmdNetMdioWrite (fun _ _ => rfl) nofun rfl ?_⟩
  · rintro b a ⟨hl, h0, hk⟩
    simp [cmdNetSetPort, CmdDef.base, hl, hk, Nat.not_lt.mpr h0]
  · rintro b a ⟨hl, h0, h2, he⟩
    refine ⟨by simp [cmdNetSetFilter, CmdDef.base, hl], by omega, if_neg ?_⟩
    obtain ⟨h1, hm⟩ | ⟨h4, h7⟩ := he
    · simp only [bit, hm]
      simp
      omega
    · omega
  · rintro b a ⟨hl, h0, h6, h4⟩
    refine ⟨by simp [cmdNetSetAddress, CmdDef.base, hl], by omega, if_neg ?_⟩
    rintro (h | ⟨h, h'⟩ | ⟨h, h'⟩)
    · omega
    · simp [h6 h] at h'
    · simp [h4 h] at h'
  · rintro b a ⟨h0, hl⟩
    refine ⟨?_, by omega, if_neg (by omega)⟩
    have : 4 ≤ a.length ∧ a.length ≤ 132 ∧ a.length % 16 = 4 := by omega
    simpa [cmdNetSetMgmtPeers, CmdDef.base, and_assoc] using this
  · rintro b a ⟨hl, h0, hf⟩
    refine ⟨by simp [cmdNetSetHeartbeat, CmdDef.base, hl], by omega, if_neg ?_⟩
    rintro (h | h | ⟨h, h'⟩)
    · omega
    · omega
    · obtain hf | hf | ⟨-, hv⟩ := hf
      · omega
      · omega
      · simp [hv] at h'
  · rintro b a ⟨hl, h0, h1⟩
    exact ⟨by simp [cmdNetMacsecPolicy, CmdDef.base, hl], by omega, if_neg (by omega)⟩
  · rintro b a ⟨hl, hk⟩
    exact ⟨by simp [cmdNetMacsecInstallSa, CmdDef.base, hl], by omega, if_pos hk⟩
  · rintro b a ⟨hl, h0, h1, h2⟩
    exact ⟨by simp [cmdNetMacsecRemoveSa, CmdDef.base, hl], by omega, if_neg (by omega)⟩
  · rintro b a ⟨hl, h0⟩
    exact ⟨by simp [cmdNetPhyReset, CmdDef.base, hl], by omega, if_neg (by omega)⟩
  · rintro b a ⟨hl, h0, h1⟩
    exact ⟨by simp [cmdNetMdioWrite, CmdDef.base, hl], by omega, if_neg (by omega)⟩

/-- Settles O13: each row enters the open measure, and at its place each command sets its port, or the drive, as its definition says. -/
theorem netChangesComplete : Obligations.NetChangesComplete := by
  unfold Obligations.NetChangesComplete
  obtain ⟨e1, e2, e3, e4, e5, e6, e7, e8, e9, e10⟩ := netRows_enter
  refine ⟨e1, e2, e3, e4, e5, e6, e7, e8, e9, e10, ?_, ?_⟩
  · rintro c s p a rfl hp hb
    refine ⟨setPort_atPlace hp hb, setFilter_zero_atPlace hp hb, ?_, setAddress_atPlace hp hb, setHeartbeat_atPlace hp hb, ?_,
      macsecInstall_atPlace hp hb, macsecRemove_tx_atPlace hp hb, macsecRemove_rx_atPlace hp hb, ?_⟩
    · rintro e t h he rfl
      rw [setFilter_entry_atPlace hp hb h (by omega), modNet_net]
      refine ⟨?_, fun j hj => ?_, rfl⟩
      · simp [entryFor, he]
      · have : ¬ j.val + 4 = u8 c.cmd.args 1 := by omega
        simp [entryFor, this, sealedOk_net]
    · rintro t h h2 rfl
      rw [macsecPolicy_atPlace hp hb h, modNet_net]
      exact ⟨policyOf_num h2, rfl, rfl⟩
    · rintro t h rfl
      have hs : still _ = still (phyHeld s p) := lowerData_still (phyHeld s p) (portId p) .offline
      have hports : ((phyHeld s p).lowerData (portId p) .offline).ports = (phyHeld s p).ports := ports_of_still hs
      have hport (q : Fin 2) : ((phyHeld s p).lowerData (portId p) .offline).port q = (phyHeld s p).port q := by
        simp only [State.port, hports]
      rw [phyReset_atPlace hp hb h]
      refine ⟨?_, lowerData_offline _ _, List.mem_append_right _ (List.mem_singleton_self _), ?_, ?_, ?_, fun q hq => ?_⟩
      · exact (congrArg Port.phyRun (hport p)).trans (by simp [phyHeld])
      · exact (store_of_still hs).trans rfl
      · exact (sessions_of_still hs).trans rfl
      · exact (tb_of_still hs).trans rfl
      · exact (hport q).trans (modPort_other s p q _ hq)
  · rintro c s a rfl
    exact ⟨setMgmtPeers_atPlace, mdioWrite_atPlace⟩

end Sys2Proof.Laws
end

section
namespace Sys2Proof.Laws
open Sys2Proof Sys2Proof.Machine

/-! # The sealed SEARCH commands (R87, R218, R227, R228, R242, R243, R246, R388, R389) -/

theorem searchRows_enter :
    entersMeasure .searchSetTables 0x0501 .sec (fun _ a => a.length = 32 ∧
      ∃ ps, (List.range 8).mapM (pairRec a) = some ps ∧ pairsOk ps = true) ∧
    entersMeasure .searchEntryWrite 0x0502 .mgmt (fun _ a =>
      4 ≤ a.length ∧ a.length ≤ 496 ∧ (Table.ofNum (u8 a 0) = some .peer ∨ Table.ofNum (u8 a 0) = some .acl) ∧
        1 ≤ u8 a 1 ∧ u8 a 1 ≤ 12) ∧
    entersMeasure .searchEntryDelete 0x0503 .mgmt (fun _ a =>
      (Table.ofNum (u8 a 0) = some .peer ∨ Table.ofNum (u8 a 0) = some .acl) ∧ 1 ≤ u8 a 1 ∧ u8 a 1 ≤ 64 ∧ a.length = 4 + 4 * u8 a 1 ∧
      0xFFFFF ∉ (List.range (u8 a 1)).map (fun i => fld a (4 + 4 * i) 4 % 2 ^ 20) ∧
      ((List.range (u8 a 1)).map fun i => fld a (4 + 4 * i) 4 % 2 ^ 20).Nodup) ∧
    entersMeasure .searchCascadeSet 0x0506 .sec (fun _ a => a.length = 4 ∧ 1 ≤ u8 a 0 ∧ u8 a 0 ≤ 4 ∧ (u8 a 2 = 1 ∨ u8 a 2 = 2)) ∧
    entersMeasure .searchCascadeSwitch 0x0507 .mgmt (fun _ a => a.length = 8) := by
  refine ⟨entersMeasure_of cmdSearchSetTables (fun _ _ => rfl) nofun rfl ?_,
    entersMeasure_of cmdSearchEntryWrite (fun _ _ => rfl) nofun rfl ?_,
    entersMeasure_of cmdSearchEntryDelete (fun _ _ => rfl) nofun rfl ?_,
    entersMeasure_of cmdSearchCascadeSet (fun _ _ => rfl) nofun rfl ?_,
    entersMeasure_of cmdSearchCascadeSwitch (fun _ _ => rfl) nofun rfl ?_⟩
  · rintro b a ⟨hl, ps, hm, hk⟩
    exact ⟨by simp [cmdSearchSetTables, CmdDef.base, hl], by omega, if_pos (by simp only [hm, Option.map_some, Option.getD_some, hk])⟩
  · rintro b a ⟨h4, h496, ht, h1, h12⟩
    refine ⟨by simpa [cmdSearchEntryWrite, CmdDef.base] using h4, h496, if_neg ?_⟩
    have h0 : (u8 a 1 == 0) = false := by simp; omega
    obtain ht | ht := ht <;> simp [entryRange, ht, h0, h12]
  · rintro b a ⟨ht, h1, h64, hl, hn, hd⟩
    refine ⟨?_, by omega, if_neg ?_⟩
    · have : 8 ≤ a.length ∧ a.length ≤ 260 := by omega
      simpa [cmdSearchEntryDelete, CmdDef.base] using this
    · have h0 : (u8 a 1 == 0) = false := by simp; omega
      have hr : entryRange a = false := by obtain ht | ht := ht <;> simp [entryRange, ht, h0]
      rintro (h | h | h | h | h)
      · simp [hr] at h
      · omega
      · omega
      · exact hn (List.contains_iff_mem.mp h)
      · exact h hd
  · rintro b a ⟨hl, h1, h4, h2⟩
    exact ⟨by simp [cmdSearchCascadeSet, CmdDef.base, hl], by omega, if_neg (by omega)⟩
  · rintro b a hl
    exact ⟨by simp [cmdSearchCascadeSwitch, CmdDef.base, hl], by omega, rfl⟩

/-- What ENTRY_WRITE's records make of the entries of `tb` in `t`, the draws from `draws` on (R227). -/
def tried (t : Tables) (tb : Table) (m draws n : Nat) (recs : List EntryRec) : Trial :=
  ((List.range n).zip recs).foldl (fun (x : Trial) ir =>
    x.apply (t.slots tb) (t.shape tb).ordered (t.capacity tb) (Config.placement (draws + ir.1)) (t.mine tb m) (t.stampFor tb m) ir.2)
    ⟨t.entries tb, false, false, false, false⟩

theorem written_any {s : State} {old new : List Entry} (h : ∀ e ∈ new, e ∉ old → s.pairLost (e.addr / 8192) = false) :
    ((written old new).any fun e => s.pairLost (e.addr / 8192)) = false := by
  simp only [written, List.any_eq_false, List.mem_filter, Bool.not_eq_true', List.contains_eq_mem, decide_eq_false_iff_not]
  rintro e ⟨he, hn⟩
  simp [h e he hn]

section
variable {c : SealedCmd} {s : State} {t : Tables} {tb : Table}

theorem entryWrite_atPlace (h : s.reaches c 0x0502) (ht : t = s.store.tables.settled c.adm)
    (ho : Table.ofNum (u8 c.cmd.args 0) = some tb) (htb : tb = .peer ∨ tb = .acl) {recs : List EntryRec}
    (hrecs : recs = (List.range (u8 c.cmd.args 1)).map (entryRec c.cmd.args (t.shape tb).width)) (h1 : 1 ≤ u8 c.cmd.args 1)
    (hmax : u8 c.cmd.args 1 ≤ entryMax (t.shape tb).width)
    (hl : c.cmd.args.length = 4 + u8 c.cmd.args 1 * (8 + 32 * (t.shape tb).width))
    (hx : ∀ x ∈ recs, x.stage = t.cascaded tb ∧ x.tag ≠ 0xFFFFF) (hd : (recs.map (·.tag)).Nodup) {r : Trial}
    (hr : r = tried t tb c.adm s.store.draws (u8 c.cmd.args 1) recs) (he : r.exists_ = false) (hab : r.absent = false)
    (hc : r.clash = false) (hm : r.tooMany = false)
    (hlost : ∀ e ∈ r.es, e ∉ t.entries tb → s.pairLost (e.addr / 8192) = false) :
    s.atPlace c = ((s.drawnBy (u8 c.cmd.args 1)).setTables (t.setEntries tb r.es)).sealedOk c ((t.setEntries tb r.es).occupancy tb) := by
  refine atPlace_sealedNow (d := cmdSearchEntryWrite) h rfl rfl ?_ rfl (reaches_calm h)
  show entryWrite c s = _
  have hrange : ¬ (u8 c.cmd.args 1 = 0 ∨ entryMax (t.shape tb).width < u8 c.cmd.args 1 ∨
      c.cmd.args.length ≠ 4 + u8 c.cmd.args 1 * (8 + 32 * (t.shape tb).width) ∨ recs.any (fun r => r.stage != t.cascaded tb) = true) := by
    rintro (h | h | h | h)
    · omega
    · omega
    · exact h hl
    · obtain ⟨x, hmem, hne⟩ := List.any_eq_true.mp h
      simp [(hx x hmem).1] at hne
  have htags : ¬ ((recs.map (·.tag)).contains 0xFFFFF = true ∨ ¬ (recs.map (·.tag)).Nodup) := by
    rintro (h | h)
    · obtain ⟨x, hmem, hne⟩ := List.mem_map.mp (List.contains_iff_mem.mp h)
      exact (hx x hmem).2 hne
    · exact h hd
  subst hr
  obtain rfl | rfl := htb <;>
    simp only [entryWrite, ho, Option.getD_some, ← ht, ← hrecs, if_neg hrange, if_neg htags] <;>
    simp only [tried] at he hab hc hm hlost ⊢ <;>
    simp only [he, hab, hc, hm, written_any hlost, Bool.false_eq_true, if_false] <;> rfl

theorem setEntries_entries {t : Tables} {tb : Table} (h : tb = .peer ∨ tb = .acl) (l : List Entry) :
    (t.setEntries tb l).entries tb = l := by
  obtain rfl | rfl := h <;> rfl

theorem setEntries_entries_other {t : Tables} {tb tb' : Table} (h : tb' ≠ tb) (l : List Entry) :
    (t.setEntries tb l).entries tb' = t.entries tb' := by
  cases tb <;> cases tb' <;> simp [Tables.setEntries, Tables.entries] at h ⊢

theorem setEntries_pairs (t : Tables) (tb : Table) (l : List Entry) : (t.setEntries tb l).pairs = t.pairs := by cases tb <;> rfl

theorem setEntries_cascade (t : Tables) (tb : Table) (l : List Entry) : (t.setEntries tb l).cascade = t.cascade := by cases tb <;> rfl

theorem entryDelete_atPlace (h : s.reaches c 0x0503) (ht : t = s.store.tables.settled c.adm)
    (ho : Table.ofNum (u8 c.cmd.args 0) = some tb) (htb : tb = .peer ∨ tb = .acl) {tags : List Nat}
    (htags : tags = (List.range (u8 c.cmd.args 1)).map (fun i => fld c.cmd.args (4 + 4 * i) 4 % 2 ^ 20)) (h1 : 1 ≤ u8 c.cmd.args 1)
    (h64 : u8 c.cmd.args 1 ≤ 64) (hl : c.cmd.args.length = 4 + 4 * u8 c.cmd.args 1) (hb : bit (u8 c.cmd.args 2) 0 = t.cascaded tb)
    (hn : 0xFFFFF ∉ tags) (hd : tags.Nodup) (hin : ∀ g ∈ tags, ∃ e ∈ t.entries tb, e.tag = g ∧ t.mine tb c.adm e = true) :
    s.atPlace c =
      (s.setTables (t.setEntries tb ((t.entries tb).filter fun e => !(tags.contains e.tag && t.mine tb c.adm e)))).sealedOk c
        ((t.setEntries tb ((t.entries tb).filter fun e => !(tags.contains e.tag && t.mine tb c.adm e))).occupancy tb) := by
  refine atPlace_sealedNow (d := cmdSearchEntryDelete) h rfl rfl ?_ rfl (reaches_calm h)
  show entryDelete c s = _
  have hrange : ¬ (u8 c.cmd.args 1 = 0 ∨ 64 < u8 c.cmd.args 1 ∨ c.cmd.args.length ≠ 4 + 4 * u8 c.cmd.args 1 ∨
      bit (u8 c.cmd.args 2) 0 ≠ t.cascaded tb) := by
    rintro (h | h | h | h)
    · omega
    · omega
    · exact h hl
    · exact h hb
  have hbad : ¬ (tags.contains 0xFFFFF = true ∨ ¬ tags.Nodup) := by
    rintro (h | h)
    · exact hn (List.contains_iff_mem.mp h)
    · exact h hd
  have hall : (tags.any fun g => !(t.entries tb).any fun e => e.tag == g && t.mine tb c.adm e) = false := by
    simpa using hin
  obtain rfl | rfl := htb <;>
    simp only [entryDelete, ho, Option.getD_some, ← ht, ← htags, if_neg hrange, if_neg hbad, hall, Bool.false_eq_true, if_false] <;> rfl

end

theorem ofFn_pairs {ps : List Pair} {new : Vector Pair 8} (h : ∀ k : Fin 8, new[k] = (ps[k.val]?).getD (.make .unassigned 1 false 0)) :
    (Vector.ofFn fun k : Fin 8 => (ps[k.val]?).getD (.make .unassigned 1 false 0)) = new := by
  ext i hi
  simp [← h ⟨i, hi⟩]

section
variable {c : SealedCmd} {s : State}

theorem setTables_atPlace {ps : List Pair} {new : Tables} (h : s.reaches c 0x0501)
    (hm : (List.range 8).mapM (pairRec c.cmd.args) = some ps) (hok : pairsOk ps = true)
    (hp : ∀ k : Fin 8, new.pairs[k] = (ps[k.val]?).getD (.make .unassigned 1 false 0))
    (hnew : new = { s.store.tables with pairs := new.pairs })
    (hfree : ∀ k : Fin 8, s.store.tables.pairs[k] ≠ new.pairs[k] →
      s.store.tables.pairUsed k = false ∧ s.store.tables.cascaded s.store.tables.pairs[k].table = false ∧
      s.store.tables.cascaded new.pairs[k].table = false) :
    s.atPlace c = (s.modStore fun x => { x with tables := new }).sealedOk c
      (be 4 (new.capacity .peer) ++ be 4 (new.capacity .acl) ++ be 4 (new.capacity .route) ++ be 4 (new.capacity .automaton)) := by
  refine atPlace_sealedNow (d := cmdSearchSetTables) h rfl rfl ?_ rfl (reaches_calm h)
  show setTables c s = _
  have hbusy : (((List.finRange 8).filter fun k => s.store.tables.pairs[k] != new.pairs[k]).any fun k =>
      s.store.tables.pairUsed k || s.store.tables.cascaded s.store.tables.pairs[k].table ||
        s.store.tables.cascaded new.pairs[k].table) = false := by
    simp only [List.any_eq_false, List.mem_filter, bne_iff_ne]
    rintro k ⟨-, hk⟩
    obtain ⟨h1, h2, h3⟩ := hfree k hk
    simp only [h1, h2, h3, Bool.or_self, Bool.false_eq_true, not_false_eq_true]
  simp only [setTables, hm, ofFn_pairs hp, hok, Bool.not_true, Bool.false_eq_true, if_false, hbusy, ← hnew]
  rfl

theorem cascadeSet_atPlace {t1 : Tables} (h : s.reaches c 0x0506) (hlt : u8 c.cmd.args 1 < u8 c.cmd.args 0)
    (hid : u8 c.cmd.args 1 = s.lks.chipId)
    (ht : t1 = s.store.tables.setCascade c.cmd.args (c.adm + 2) (Config.placement s.store.draws))
    (hfit : u8 c.cmd.args 0 = 1 ∨ t1.valid .peer ≤ t1.capacity .peer ∧ t1.valid .acl ≤ t1.capacity .acl)
    (hlost : ∀ tb e, (tb = .peer ∨ tb = .acl) → e ∈ t1.entries tb → e ∉ s.store.tables.entries tb → s.pairLost (e.addr / 8192) = false) :
    s.atPlace c = (s.sealedOk c []).modStore fun t => { t with boundary := t.boundary ++ [c] } := by
  refine atPlace_sealedBoundary (d := cmdSearchCascadeSet) (t := s) h rfl rfl ?_ rfl (reaches_calm h)
  show cascadeCheck c s = _
  have htb : s.tb.measure + 1 = c.adm + 2 := by rw [h.2.1]
  have hid' : ¬ (u8 c.cmd.args 1 ≠ s.lks.chipId ∨ u8 c.cmd.args 0 ≤ u8 c.cmd.args 1) := by omega
  have hfit' : ¬ (u8 c.cmd.args 0 ≠ 1 ∧ [Table.peer, .acl].any (fun tb => decide (t1.capacity tb < t1.valid tb)) = true) := by
    rintro ⟨hne, hany⟩
    obtain ⟨hpeer, hacl⟩ := hfit.resolve_left hne
    simp [Nat.not_lt.mpr hpeer, Nat.not_lt.mpr hacl] at hany
  have hl' : ([Table.peer, .acl].any fun tb =>
      (written (s.store.tables.entries tb) (t1.entries tb)).any fun e => s.pairLost (e.addr / 8192)) = false := by
    simp [written_any fun e => hlost .peer e (.inl rfl), written_any fun e => hlost .acl e (.inr rfl)]
  simp only [cascadeCheck, htb, ← ht, if_neg hid', if_neg hfit', hl', Bool.false_eq_true, if_false]
  rfl

theorem cascadeSwitch_atPlace {t : Tables} {k : Cascade} (h : s.reaches c 0x0507) (ht : t = s.store.tables.settled c.adm)
    (hk : t.cascade = some k) (h4 : c.adm + 4 ≤ fld c.cmd.args 0 6) (h64 : fld c.cmd.args 0 6 ≤ c.adm + 64) :
    s.atPlace c =
      (s.setTables { t with cascade := some { k with switches := putSwitch (fld c.cmd.args 0 6) k.switches } }).sealedOk c [] := by
  refine atPlace_sealedNow (d := cmdSearchCascadeSwitch) h rfl rfl ?_ rfl (reaches_calm h)
  show cascadeSwitch c s = _
  have hr : ¬ (fld c.cmd.args 0 6 < c.adm + 4 ∨ c.adm + 64 < fld c.cmd.args 0 6) := by omega
  simp only [cascadeSwitch, if_neg hr, ← ht, hk]
  rfl

end

/-- Settles O10: each row enters the open measure, and at its place each command makes of the tables what its checks let it. -/
theorem searchChangesComplete : Obligations.SearchChangesComplete := by
  unfold Obligations.SearchChangesComplete
  obtain ⟨e1, e2, e3, e4, e5⟩ := searchRows_enter
  refine ⟨e1, e2, e3, e4, e5, ?_, ?_⟩
  · rintro c s a t tb rfl ht ho htb
    refine ⟨fun recs h hrecs h1 hmax hl hx hd r hr he hab hc hm hlost =>
      entryWrite_atPlace h ht ho htb hrecs h1 hmax hl hx hd hr he hab hc hm hlost, ?_⟩
    intro tags h htags h1 h64 hl hb hn hd hin
    exact ⟨_, entryDelete_atPlace h ht ho htb htags h1 h64 hl hb hn hd hin, setEntries_entries htb _,
      fun tb' h' => setEntries_entries_other h' _, setEntries_pairs _ _ _, setEntries_cascade _ _ _⟩
  · rintro c s a rfl
    exact ⟨fun ps new h hm _ hok hp hnew hfree => setTables_atPlace h hm hok hp hnew hfree,
      fun t1 h hlt hid ht hfit hlost => cascadeSet_atPlace h hlt hid ht hfit hlost,
      fun t k h ht hk h4 h64 => cascadeSwitch_atPlace h ht hk h4 h64⟩

end Sys2Proof.Laws
end

section
namespace Sys2Proof.Laws
open Sys2Proof Sys2Proof.Machine

/-! # A tick (R22, R26, R38, R51, R60) -/

/-- The counts of the measures and the sealed lists: what everything of a tick but its opening and its sealing keeps. -/
def counted (s : State) : Nat × Nat × Bool × Nat × List (Nat × Bytes) × List SealedList :=
  (s.tb.measure, s.tb.highest, s.tb.opened, s.tb.persisted, s.tb.sealLog, s.seq.sealed)

theorem counted_of_steady {s t : State} (h : steady t = steady s) : counted t = counted s := by
  simp only [steady, Prod.mk.injEq] at h
  simp only [counted, h]

theorem startBank_counted (s : State) (p : Snap) : counted (s.startBank p).1 = counted s := by
  unfold State.startBank
  split
  · rfl
  · extract_lets new first
    cases hw : s.write false .slcHost .programFg (some p.measure) first new with
    | none => rfl
    | some t => exact (rfl : counted _ = counted t).trans (counted_of_steady (write_steady hw))

theorem startBanks_counted (s : State) : counted s.startBanks = counted s := by
  unfold State.startBanks
  split
  · rfl
  · next p rest _ => exact (rfl : counted _ = counted (s.startBank p).1).trans (startBank_counted s p)

theorem opened_counted (s : State) (tj : Int) : counted (s.opened tj) = counted s := by
  unfold State.opened
  extract_lets s1 s2
  calc counted _ = counted s1 := counted_of_steady (by simp [s2])
    _ = counted ((s.custodyQuiesce.boundaryCommands.throttle tj).boundaryUnits).endSlices := startBanks_counted _
    _ = counted s := counted_of_steady (by simp)

theorem openMeasure_counted (s : State) (o : Opening) : counted (s.openMeasure o) =
    (o.number, max s.tb.highest o.number, s.tb.opened, s.tb.persisted, s.tb.sealLog, s.seq.sealed) := by
  unfold State.openMeasure
  extract_lets m skip s1 s2
  have h : steady (s2.setTb o.state) = steady s1 := by
    rw [setTb_steady]
    simp only [s2, ite_steady]
    simp [Sequencer.skipTo]
  exact (counted_of_steady h).trans rfl

/-! ## The sealing -/

@[simp] theorem ageViews_still (s : State) (u : HwUnit) : still (s.ageViews u) = still s := by
  simp [State.ageViews]

theorem beginTick_still (s : State) : still s.beginTick = still (s.modTb fun t => { t with ticking := true }) := by
  have h : still (s.units.foldl State.ageViews s) = still s := by simp
  exact congrArg (fun t : State => { t with tb := { t.tb with ticking := true } }) h

theorem mem_insertItem {i x : Item} {l : List Item} (h : i ∈ insertItem x l) : i = x ∨ i ∈ l := by
  induction l with
  | nil => exact .inl (List.mem_singleton.mp h)
  | cons y ys ih =>
    rw [insertItem] at h
    split at h
    · exact List.mem_cons.mp h
    · obtain rfl | h := List.mem_cons.mp h
      · exact .inr List.mem_cons_self
      · exact (ih h).imp_right (List.mem_cons_of_mem _)

theorem mem_sortItems {i : Item} {l : List Item} (h : i ∈ sortItems l) : i ∈ l := by
  induction l with
  | nil => exact h
  | cons x l ih =>
    obtain rfl | h := mem_insertItem (l := sortItems l) h
    · exact List.mem_cons_self
    · exact List.mem_cons_of_mem _ (ih h)

theorem foldl_fixed_of_mem {α β : Type} {f : β → α → β} {b : β} {l : List α} (h : ∀ a ∈ l, f b a = b) : l.foldl f b = b := by
  induction l with
  | nil => rfl
  | cons a l ih => rw [List.foldl_cons, h a List.mem_cons_self, ih fun x hx => h x (List.mem_cons_of_mem _ hx)]

theorem cancelAll_none {s : State} (h : ∀ r, Item.skp r ∈ s.seq.admitted → r.op ≠ 0x0A) : s.cancelAll = s := by
  refine foldl_fixed_of_mem fun i hi => ?_
  cases i with
  | skp r => exact if_neg fun hc => h r (mem_sortItems hi) hc.1
  | cmd c => rfl

/-- The sealing puts the closed measure's digest at the head of the log and counts nothing. -/
theorem sealMeasure_counted (s : State) : ∃ d, counted s.sealMeasure =
    (s.tb.measure, s.tb.highest, s.tb.opened, s.tb.persisted, ((s.tb.measure, d) :: s.tb.sealLog).take 4096, s.sealMeasure.seq.sealed) := by
  suffices h : ∃ d, s.sealMeasure.tb.measure = s.tb.measure ∧ s.sealMeasure.tb.highest = s.tb.highest ∧
      s.sealMeasure.tb.opened = s.tb.opened ∧ s.sealMeasure.tb.persisted = s.tb.persisted ∧
      s.sealMeasure.tb.sealLog = ((s.tb.measure, d) :: s.tb.sealLog).take 4096 by
    obtain ⟨d, h⟩ := h
    exact ⟨d, by simp only [counted, h]⟩
  unfold State.sealMeasure
  extract_lets m c s1 head digest l s2
  have hc : steady c.1 = steady s := by
    simp only [c]
    split <;> simp
  have h1 : steady s1 = steady s := by simp [s1, hc]
  simp only [steady, Prod.mk.injEq] at h1
  obtain ⟨hm, hh, ho, hp, hl, -⟩ := h1
  exact ⟨digest, hm, hh, ho, hp, congrArg (fun log => ((m, digest) :: log).take 4096) hl⟩

/-- Without a Chorus and without a CANCEL, the measure's list holds the admitted items in sealed order. -/
theorem sealMeasure_sealed {s : State} (hc : s.store.chorus = none) (h : ∀ r, Item.skp r ∈ s.seq.admitted → r.op ≠ 0x0A) :
    s.sealMeasure.seq.sealed = s.seq.sealed ++
      [{ measure := s.tb.measure, items := sortItems s.seq.admitted, chorus := 0
         digest := digestItems s.seq.admitted, refused := [] }] := by
  have hr : s.riseOwn = s := by simp [State.riseOwn, hc]
  have hs : s.sealChorus = (s, [], []) := by simp [State.sealChorus, hc]
  have hj : s.judgePeers = s := by simp [State.judgePeers, hc]
  simp only [State.sealMeasure, hr, hs, hj, ite_self, cancelAll_none h]
  rfl

/-! ## The tick -/

theorem endTick_counted (s : State) (before : List (Nat × UnitState × UnitState)) : counted (s.endTick before) = counted s :=
  counted_of_steady (endTick_steady s before)

/-- A tick closes measure N with its digest, and opens the measure that the clock gives. -/
theorem tick_counted (s : State) (time : Nat) (tj : Int) : ∃ d, counted (s.tick time tj) =
    ((s.opening time).number, max s.tb.highest (s.opening time).number, s.tb.opened, s.tb.persisted,
      ((s.tb.measure, d) :: s.tb.sealLog).take 4096, s.beginTick.sealMeasure.seq.sealed) := by
  obtain ⟨d, hd⟩ := sealMeasure_counted s.beginTick
  have hb : s.beginTick.tb = { s.tb with ticking := true } := tb_of_still (beginTick_still s)
  simp only [counted, hb, Prod.mk.injEq] at hd
  obtain ⟨-, hh, ho, hp, hl, -⟩ := hd
  refine ⟨d, ?_⟩
  rw [State.tick, endTick_counted, opened_counted, openMeasure_counted, hh, ho, hp, hl]

theorem opening_unsourced {s : State} (h : s.tb.source = none) (time : Nat) : (s.opening time).number = s.tb.measure + 1 := by
  simp [State.opening, h]

/-- Settles O51: the row is the tick of the state at its edges, and a tick counts as `tick_counted` says. -/
theorem measureTickCompletes : Obligations.MeasureTickCompletes := by
  unfold Obligations.MeasureTickCompletes
  intro time sample s hs
  refine ⟨(s.modPower fun p => p.edges sample).tick time sample.tj, ?_, ?_⟩
  · exact congrArg Host.Outcome.next (if_pos hs)
  obtain ⟨d, hd⟩ := tick_counted (s.modPower fun p => p.edges sample) time sample.tj
  have hopen : (s.modPower fun p => p.edges sample).opening time = s.opening time := rfl
  rw [hopen] at hd
  simp only [counted, modPower_tb, Prod.mk.injEq] at hd
  obtain ⟨hm, hh, ho, hp, hl, hq⟩ := hd
  have hopened : s.tb.opened = true := by
    simp only [State.ticks, Bool.and_eq_true] at hs
    exact hs.1.2
  refine ⟨hm ▸ opening_number s time, hm, hm ▸ hh, fun h => hm.trans (opening_unsourced h time), hp, ho.trans hopened, ⟨d, hl⟩,
    fun hc hn => ?_⟩
  have hb := beginTick_still (s.modPower fun p => p.edges sample)
  have hstore := store_of_still hb
  have hseq := seq_of_still hb
  have htb := tb_of_still hb
  rw [hq, sealMeasure_sealed (by rw [hstore]; exact hc) (by rw [hseq]; exact hn), hseq, htb]
  rfl

end Sys2Proof.Laws
end

section
namespace Sys2Proof.Laws
open Sys2Proof Sys2Proof.Machine

/-! # What replies leave

Sending, completing and scheduling answers change the sessions, the mailboxes, the ports and the Sequencer alone. -/

/-- A state without what the answers change. -/
def outside (s : State) : State :=
  { s with sessions := [], mbx := Vector.replicate 8 .reset, ports := Vector.replicate 2 .reset, seq := .reset }

@[simp] theorem foldl_outside {α : Type} {f : State → α → State} (h : ∀ t a, outside (f t a) = outside t) (l : List α) (s : State) :
    outside (l.foldl f s) = outside s := foldl_keeps h l s
@[simp] theorem ite_outside {c : Prop} [Decidable c] {a b : State} :
    outside (if c then a else b) = if c then outside a else outside b := apply_ite ..
@[simp] theorem ite_fst_outside {α : Type} {c : Prop} [Decidable c] {a b : State × α} :
    outside (if c then a else b).1 = if c then outside a.1 else outside b.1 := by split <;> rfl
@[simp] theorem modSeq_outside (s : State) (f : Sequencer → Sequencer) : outside (s.modSeq f) = outside s := by rfl
@[simp] theorem count_outside (s : State) (p : Fin 2) (c : Ctr) (n : Nat) : outside (s.count p c n) = outside s := by rfl
@[simp] theorem modPort_outside (s : State) (p : Fin 2) (f : Port → Port) : outside (s.modPort p f) = outside s := by rfl
@[simp] theorem modMbx_outside (s : State) (m : Fin 8) (f : Mailbox → Mailbox) : outside (s.modMbx m f) = outside s := by rfl
@[simp] theorem enqueue_outside (s : State) (p : Fin 2) (f : TxFrame) : outside (s.enqueue p f) = outside s := by rfl
@[simp] theorem sendTo_outside (s : State) (src : Source) (data : Bool) (session : Option Nat) (notify : Option Nat) (payload : Bytes) :
    outside (s.sendTo src data session notify payload) = outside s := by
  rfl
@[simp] theorem modSession_outside (s : State) (id : Nat) (f : Session → Session) : outside (s.modSession id f) = outside s := by rfl
@[simp] theorem modReplay_outside (s : State) (id : Nat) (seq : Nat) (f : Replay → Replay) :
    outside (s.modReplay id seq f) = outside s := by
  rfl
@[simp] theorem completeMailbox_outside (s : State) (m : Fin 8) (opcode : Nat) (sequence : Nat) (status : Status) (measure : Nat)
    (result : Bytes) :
    outside (s.completeMailbox m opcode sequence status measure result) = outside s := by
  unfold State.completeMailbox
  split <;> simp
@[simp] theorem sendPieces_outside (s : State) (r : Reply) (more : Bool) (k : Nat) (l : List (Nat × Nat × Bytes × Bytes)) :
    outside (s.sendPieces r more k l) = outside s := by
  induction l generalizing s k with
  | nil => rfl
  | cons pc l ih => simp [State.sendPieces, ih]
@[simp] theorem replyDone_outside (s : State) (r : Reply) : outside (s.replyDone r) = outside s := by simp [State.replyDone]
@[simp] theorem placeReply_outside (s : State) (r : Reply) : outside (s.placeReply r) = outside s := by
  unfold State.placeReply
  split <;> simp
@[simp] theorem placeDue_outside (s : State) : outside (s.placeDue) = outside s := by simp [State.placeDue]
@[simp] theorem schedule_outside (s : State) (r : Reply) : outside (s.schedule r) = outside s := by simp [State.schedule]
@[simp] theorem scanTurn_outside (s : State) (v : ScanRun) : outside (s.scanTurn v).1 = outside s := by simp [State.scanTurn]
@[simp] theorem scanStep_outside (s : State) (v : ScanRun) : outside (s.scanStep v) = outside s := by simp [State.scanStep]
@[simp] theorem settle_outside (s : State) (x : Ctx) (r : Request) (a : Ans) (aborted : Bool) :
    outside (s.settle x r a aborted) = outside s := by
  simp [State.settle]


end Sys2Proof.Laws
end

section
namespace Sys2Proof.Laws
open Sys2Proof Sys2Proof.Machine

/-! ## What writing to flash leaves -/

@[simp] theorem modSb_still (s : State) (group : Nat) (num : Nat) (g : Superblock → Superblock) :
    still (s.modSb group num g) = still s := by
  rfl
@[simp] theorem formatFlash_still (s : State) (slcGib : Nat) : still (s.formatFlash slcGib) = still s := by rfl
theorem openSb_still {s : State} {group : Nat} {native : Bool} {stream : Stream} {y} (h : (s.openSb group native stream) = some y) :
    still y.1 = still s := by
  unfold State.openSb at h
  split at h
  · cases h
  · cases h; simp
theorem roomSb_still {s : State} {group : Nat} {native : Bool} {stream : Stream} {y} (h : (s.roomSb group native stream) = some y) :
    still y.1 = still s := by
  unfold State.roomSb at h
  split at h
  · exact openSb_still h
  · split at h
    · cases h; rfl
    · exact (openSb_still h).trans (modSb_still ..)
theorem placeIn_still {s : State} {group : Nat} {native : Bool} {stream : Stream} {w : Codeword} {y} (h :
    (s.placeIn group native stream w) = some y) :
    still y.1 = still s := by
  simp only [State.placeIn, Option.map_eq_some_iff] at h
  obtain ⟨p, hp, rfl⟩ := h
  exact (modSb_still ..).trans (roomSb_still hp)
theorem placeAny_still {s : State} {native : Bool} {stream : Stream} {w : Codeword} {l : List Nat} {y}
    (h : s.placeAny native stream w l = some y) : still y.1 = still s := by
  induction l with
  | nil => cases h
  | cons g l ih =>
    unfold State.placeAny at h
    split at h
    · rename_i hp
      cases h
      exact placeIn_still hp
    · exact ih h
theorem placeAll_still {s : State} {native : Bool} {stream : Stream} {first : Codeword → Nat} {l : List Codeword} {y}
    (h : s.placeAll native stream first l = some y) : still y.1 = still s := by
  induction l generalizing s y with
  | nil => cases h; rfl
  | cons w l ih =>
    simp only [State.placeAll, Option.bind_eq_some_iff, Option.map_eq_some_iff] at h
    obtain ⟨⟨t, p⟩, hp, ⟨u, q⟩, hq, rfl⟩ := h
    exact (ih hq).trans (placeAny_still hp)
@[simp] theorem endStripes_still (s : State) (pages : List Page) : still (s.endStripes pages) = still s := by simp [State.endStripes]
@[simp] theorem programPages_still (s : State) (kind : NandKind) (bank : Option Nat) (pages : List Page) :
    still (s.programPages kind bank pages) = still s := by
  simp [State.programPages]
theorem write_still {s : State} {native : Bool} {stream : Stream} {kind : NandKind} {bank : Option Nat} {first : Codeword → Nat}
    {l : List Codeword} {y} (h : s.write native stream kind bank first l = some y) :
    still y = still s := by
  simp only [State.write, Option.map_eq_some_iff] at h
  obtain ⟨p, hp, rfl⟩ := h
  simp [placeAll_still hp]
@[simp] theorem reclaim_still (s : State) (group : Nat) (num : Nat) : still (s.reclaim group num) = still s := by
  unfold State.reclaim
  split <;> simp
@[simp] theorem queueErases_still (s : State) : still (s.queueErases) = still s := by simp [State.queueErases]
@[simp] theorem entryDurable_still (s : State) (e : JournalEntry) : still (s.entryDurable e) = still s := by rfl
@[simp] theorem moveDurable_still (s : State) (m : Nat × Nat × Nat × Nat) : still (s.moveDurable m) = still s := by
  simp only [State.moveDurable]
  split
  · rfl
  · split <;> simp
@[simp] theorem flashDurable_still (s : State) (p : Snap) : still (s.flashDurable p) = still s := by simp [State.flashDurable]

end Sys2Proof.Laws
end

section
namespace Sys2Proof.Laws
open Sys2Proof Sys2Proof.Machine

/-! # Events into channels (R285, R287) -/

theorem modFabric_chan {s : State} {f : Fabric → Fabric} (c : Fin 32) (h : (f s.fabric).chans = s.fabric.chans) :
    (s.modFabric f).chan c = s.chan c := by
  simp only [State.chan, State.modFabric, h]

theorem inject_chan (s : State) (c : Fin 32) : ∃ n, (s.inject c).chan c =
    { s.chan c with events := bump (s.chan c).events, absent := n } := by
  refine ⟨?_, ?_⟩
  rotate_left
  · rw [State.inject, modFabric_chan c rfl, modChan_chan]

theorem inject_other (s : State) {c d : Fin 32} (h : d ≠ c) : (s.inject c).chan d = s.chan d := by
  rw [State.inject, modFabric_chan d rfl, modChan_other _ _ _ _ h]

theorem inject_eq (s : State) (c : Fin 32) : s.inject c =
    { s with fabric := { s.fabric with chans := (s.inject c).fabric.chans, flight := (s.inject c).fabric.flight } } := rfl

theorem inject_flight (s : State) (c : Fin 32) : ∃ l, (s.inject c).fabric.flight = s.fabric.flight ++ l ∧
    ∀ k ∈ consumers, (s.chan c).cfg.consumers.getLsbD k = true → s.consumerPresent k = true → (c.val, k, (s.chan c).cfg.remember) ∈ l := by
  refine ⟨_, rfl, fun k hk hon hp => List.mem_map.mpr ⟨k, ?_, rfl⟩⟩
  exact List.mem_filter.mpr ⟨List.mem_filter.mpr ⟨hk, hon⟩, hp⟩

/-- An event into each channel of a list without repetition. -/
theorem injectAll_injects (s : State) (cs : List (Fin 32)) (h : cs.Nodup) : s.injects (s.injectAll cs) (· ∈ cs) := by
  induction cs generalizing s with
  | nil => exact ⟨rfl, nofun, fun _ _ => rfl, fun _ hp => hp, nofun⟩
  | cons c cs ih =>
    obtain ⟨hc, hcs⟩ := List.nodup_cons.mp h
    obtain ⟨heq, hin, hout, hold, hnew⟩ := ih (s.inject c) hcs
    obtain ⟨l, hl, hk⟩ := inject_flight s c
    show s.injects ((s.inject c).injectAll cs) _
    refine ⟨heq, fun d hd => ?_, fun d hd => ?_, fun p hp => ?_, fun d k hd hcon hon hpres => ?_⟩
    · by_cases hdc : d = c
      · subst hdc
        rw [hout d hc]
        obtain ⟨n, hn⟩ := inject_chan s d
        rw [hn]
      · have := hin d ((List.mem_cons.mp hd).resolve_left hdc)
        rwa [inject_other s hdc] at this
    · obtain ⟨hdc, hd⟩ := not_or.mp (mt List.mem_cons.mpr hd)
      rw [hout d hd, inject_other s hdc]
    · exact hold p (hl ▸ List.mem_append_left _ hp)
    · by_cases hdc : d = c
      · subst hdc
        exact hold _ (hl ▸ List.mem_append_right _ (hk k hcon hon hpres))
      · have := hnew d k ((List.mem_cons.mp hd).resolve_left hdc) hcon
        rw [inject_other s hdc] at this
        exact this hon hpres

/-- The channels of a pulse of producer `p` are those that take it. -/
theorem pulse_injects {s : State} {p : Nat} (h : s.producerAlive p = true) : s.injects (s.pulse p) fun c => s.takes p c = true := by
  have hq : (fun c => s.takes p c = true) =
      (· ∈ (List.finRange 32).filter fun c => [p].any fun p => s.producerAlive p && s.takes p c) := by
    funext c
    simp [h]
  rw [hq]
  exact injectAll_injects s _ ((List.nodup_finRange 32).filter _)

end Sys2Proof.Laws
end

section
namespace Sys2Proof.Laws
open Sys2Proof Sys2Proof.Machine

/-! # Sealed lists and staging banks (R42, R43, R45, R190, R192, R239) -/

/-! ## The execution of a list -/

/-- What the deadlines of batches and segmented values leave: the pull's requests and the commands that wait for their E. -/
theorem expire_leaves (s : State) (m : Nat) :
    (s.expire m).chorus = s.chorus ∧ (s.expire m).store.effective = s.store.effective := by
  have hfail (t : State) (b : Batch) : ((t.failBatch b).chorus, (t.failBatch b).store.effective) = (t.chorus, t.store.effective) := by
    have h : outside (t.failBatch b) =
        outside (t.modStore fun x => { x with batches := x.batches.filter fun y => y.session != b.session }) := by
      simp only [State.failBatch]
      exact foldl_outside (fun u a => settle_outside ..) _ _
    exact Prod.ext (congrArg State.chorus h :) (congrArg (fun x : State => x.store.effective) h :)
  have h := foldl_keeps (p := fun t : State => (t.chorus, t.store.effective)) hfail
    (s.store.batches.filter fun b => decide (b.adm + 64 < m)) s
  exact ⟨congrArg Prod.fst h, congrArg Prod.snd h⟩

theorem answerAsks_none {s : State} (h : s.chorus.asks = []) (m : Nat) : s.answerAsks m = s := by
  have hs : (s.modChorus fun k => { k with asks := [] }) = s := by
    simp only [State.modChorus, ← h]
  unfold State.answerAsks
  split
  · exact hs
  · rw [h]
    exact hs

theorem runEffective_none {s : State} {m : Nat} (h : ∀ p ∈ s.store.effective, m < p.1) : s.runEffective m = s := by
  have hdue : (s.store.effective.filter fun p => decide (p.1 ≤ m)) = [] :=
    List.filter_eq_nil_iff.mpr fun p hp => by simpa using h p hp
  have hkeep : (s.store.effective.filter fun p => !decide (p.1 ≤ m)) = s.store.effective :=
    List.filter_eq_self.mpr fun p hp => by simpa using h p hp
  simp only [State.runEffective, hdue, List.foldl_nil, State.modStore, hkeep]

/-- The state in which list `l` runs (R42): its turn has come, with the deadlines before it. -/
def listStart (s : State) (l : SealedList) (rest : List SealedList) : State :=
  (s.placeDue.expire l.measure).modSeq fun q =>
    { q with sealed := rest, overrunBy := 0, late := s.tb.measure - (l.measure + 1) }

theorem tb_of_outside {s t : State} (h : outside t = outside s) : t.tb = s.tb := (congrArg State.tb h :)
theorem store_of_outside {s t : State} (h : outside t = outside s) : t.store = s.store := (congrArg State.store h :)
theorem chorus_of_outside {s t : State} (h : outside t = outside s) : t.chorus = s.chorus := (congrArg State.chorus h :)

/-- What the list has left once its last item has run. -/
def listRan (s : State) (l : SealedList) (rest : List SealedList) : State :=
  (l.items.drop l.chorus).foldl (State.runItem l.measure false)
    ((((l.items.take l.chorus).foldl (State.runItem l.measure true) (listStart s l rest)).answerAsks l.measure).runEffective l.measure)

theorem runList_eq (s : State) (l : SealedList) (rest : List SealedList) :
    ∃ j f, s.placeDue.runList l rest =
      { ((listRan s l rest).countSystem l.measure).modSeq fun q => { q with executed := l.measure, late := 0 } with
        snaps := (listRan s l rest).snaps ++
          [{ measure := l.measure, store := ((listRan s l rest).countSystem l.measure).store, programming := false, journal := j
             moves := [] }]
        flash := f } := by
  have htb : s.placeDue.tb = s.tb := tb_of_outside (placeDue_outside s)
  simp only [State.runList, listRan, listStart, htb]
  exact ⟨_, _, rfl⟩

theorem listRan_steady (s : State) (l : SealedList) (rest : List SealedList) : steady (listRan s l rest) =
    (s.tb.measure, s.tb.highest, s.tb.opened, s.tb.persisted, s.tb.sealLog, rest, 0, s.snaps, s.durable) := by
  have hs : steady (s.placeDue.expire l.measure) = steady s := by simp
  simp only [steady, Prod.mk.injEq] at hs
  obtain ⟨hm, hh, ho, hp, hl, -, -, hsn, hd⟩ := hs
  have h : steady (listRan s l rest) = steady (listStart s l rest) := by simp [listRan]
  rw [h]
  simp only [steady, listStart, modSeq_tb, modSeq_seq, modSeq_snaps, modSeq_durable, hm, hh, ho, hp, hl, hsn, hd]

/-- Without a Chorus's share, asks and commands that are due, the items alone run. -/
theorem listRan_local {s : State} {l : SealedList} (rest : List SealedList) (hc : l.chorus = 0) (ha : s.chorus.asks = [])
    (he : ∀ p ∈ s.store.effective, l.measure < p.1) :
    listRan s l rest = l.items.foldl (State.runItem l.measure false) (listStart s l rest) := by
  obtain ⟨hch, heff⟩ := expire_leaves s.placeDue l.measure
  have hasks : (listStart s l rest).chorus.asks = [] := by
    show (s.placeDue.expire l.measure).chorus.asks = []
    rw [hch, chorus_of_outside (placeDue_outside s), ha]
  have heff : (listStart s l rest).store.effective = s.store.effective := by
    show (s.placeDue.expire l.measure).store.effective = _
    rw [heff, store_of_outside (placeDue_outside s)]
  rw [listRan, hc, List.take_zero, List.foldl_nil, List.drop_zero, answerAsks_none hasks,
    runEffective_none (fun p hp => he p (heff ▸ hp))]

/-- A list that runs (R42, R190, R192, R239). -/
theorem execSealedListExecute_runs {l : SealedList} {rest : List SealedList} {s : State} (hs : s.ticks = true)
    (hl : s.seq.sealed = l :: rest) (hb : s.bankFree = true) (hr : s.rebuildHolds l = false) :
    execSealedListExecute s = .next (s.placeDue.runList l rest) := by
  simp only [execSealedListExecute, hl, hs, hb, hr, Bool.not_false, Bool.and_self, if_true]

theorem sealedListExecute_completes {l : SealedList} {rest : List SealedList} {s : State} (hs : s.ticks = true)
    (hl : s.seq.sealed = l :: rest) (hb : s.bankFree = true) (hr : s.rebuildHolds l = false) :
    completes .sealedListExecute s fun t =>
      t.seq.sealed = rest ∧ t.seq.executed = l.measure ∧ t.seq.overrunBy = 0 ∧ t.tb.measure = s.tb.measure ∧
      t.tb.persisted = s.tb.persisted ∧ t.durable = s.durable ∧
      (∃ j, t.snaps = s.snaps ++ [{ measure := l.measure, store := t.store, programming := false, journal := j, moves := [] }]) ∧
      (l.chorus = 0 → s.chorus.asks = [] → (∀ p ∈ s.store.effective, l.measure < p.1) →
        ∀ u, u = l.items.foldl (State.runItem l.measure false)
          ((s.placeDue.expire l.measure).modSeq fun q =>
            { q with sealed := rest, overrunBy := 0, late := s.tb.measure - (l.measure + 1) }) →
        t.store = { u.store with sysUse := t.store.sysUse, sysKeys := t.store.sysKeys } ∧ t.sessions = u.sessions) := by
  obtain ⟨j, f, ht⟩ := runList_eq s l rest
  have hk := listRan_steady s l rest
  simp only [steady, Prod.mk.injEq] at hk
  obtain ⟨hm, -, -, hp, -, hq, ho, hsn, hd⟩ := hk
  refine ⟨_, execSealedListExecute_runs hs hl hb hr, ?_⟩
  rw [ht]
  refine ⟨hq, rfl, ho, hm, hp, hd, ⟨j, by rw [hsn]; rfl⟩, ?_⟩
  intro hc ha he u hu
  obtain rfl : u = listRan s l rest := hu.trans (listRan_local rest hc ha he).symm
  exact ⟨rfl, rfl⟩

/-- A list that finds no bank free, or a table that it searches being rebuilt, waits. -/
theorem sealedListExecute_waits {l : SealedList} {rest : List SealedList} {s : State} (hl : s.seq.sealed = l :: rest)
    (h : s.bankFree = false ∨ s.rebuildHolds l = true) : exec .sealedListExecute s = .next s := by
  show execSealedListExecute s = _
  simp only [execSealedListExecute, hl]
  refine if_neg ?_
  obtain h | h := h <;> simp [h]

theorem ticks_modes {s : State} (h : s.ticks = true) : s.power.mode = .service ∨ s.power.mode = .quiesceCustody := by
  simp only [State.ticks, Bool.and_eq_true, Bool.or_eq_true, beq_iff_eq] at h
  exact h.2

/-- An overrun is counted, reported and pulsed (R45). -/
theorem executionWindowOverrun_completes {l : SealedList} {rest : List SealedList} {s : State} (hs : s.ticks = true)
    (hl : s.seq.sealed = l :: rest) :
    completes .executionWindowOverrun s fun t =>
      (((s.modTb fun b => { b with overrun := true, everOverrun := true }).modSeq fun q =>
        { q with overrunBy := s.seq.overrunBy + 1 }).report 0x0203 2 (be 2 (sat 16 (s.seq.overrunBy + 1)))).injects t
        fun c => s.takes 37 c = true := by
  have hrun : s.ticks = true ∧ (!s.seq.sealed.isEmpty) = true := ⟨hs, by simp [hl]⟩
  refine ⟨_, if_pos hrun, pulse_injects ?_⟩
  show s.producerAlive 37 = true
  obtain h | h := ticks_modes hs <;> simp [State.producerAlive, h]

end Sys2Proof.Laws
end

section
namespace Sys2Proof.Laws
open Sys2Proof Sys2Proof.Machine

/-! ## A staging bank becomes durable (R43, R190) -/

/-- What has become durable with bank `p`: its store, the measure, and no bank of its own. -/
def persistedBy (s : State) (p : Snap) (rest : List Snap) : State :=
  { s with durable := p.store, snaps := rest, tb := { s.tb with persisted := max s.tb.persisted p.measure } }

theorem bankDurable_still (s : State) (p : Snap) (rest : List Snap) : still (s.bankDurable p rest) = still (persistedBy s p rest) := by
  unfold State.bankDurable
  extract_lets s1 s2
  have h2 : still s2 = still s1 := by simp [s2]
  have h3 : still (s2.flashDurable p) = still s1 := (flashDurable_still s2 p).trans h2
  exact congrArg (fun t : State => { t with tb := { t.tb with persisted := max t.tb.persisted p.measure } }) h3

/-- A bank's measure and store, whether it programs or not. -/
def bankOf (q : Snap) : Nat × Store := (q.measure, q.store)

theorem startBank_still (s : State) (p : Snap) : still (s.startBank p).1 = still s ∧ bankOf (s.startBank p).2 = bankOf p := by
  unfold State.startBank
  split
  · exact ⟨rfl, rfl⟩
  · extract_lets new first
    cases hw : s.write false .slcHost .programFg (some p.measure) first new with
    | none => exact ⟨rfl, rfl⟩
    | some t => exact ⟨(modFlash_still ..).trans (write_still hw), rfl⟩

/-- Starting the banks' programs changes their progress alone, and the flash. -/
theorem startBanks_still (s : State) : ∃ l, still s.startBanks = still { s with snaps := l } ∧ l.map bankOf = s.snaps.map bankOf := by
  unfold State.startBanks
  split
  · exact ⟨s.snaps, rfl, rfl⟩
  · next p rest hl =>
    obtain ⟨hs, hb⟩ := startBank_still s p
    refine ⟨(s.startBank p).2 :: rest, congrArg (fun t : State => { t with snaps := (s.startBank p).2 :: rest }) hs, ?_⟩
    rw [hl, List.map_cons, List.map_cons, hb]

theorem confirmDurable_untried {s : State} (h : s.nor.bootState ≠ .trial) : s.confirmDurable = s :=
  if_neg fun hc => h hc.2.2

/-! ### The replies that are left -/

/-- A reply that waits for its window and its measure alone. -/
def Timely (q : Reply) : Prop := q.set = none ∧ q.bytes = 0 ∧ q.sliced = false ∧ q.reads = [] ∧ q.awaitsFuses = false

/-- No reply of the state that waits for these alone could leave. -/
def NoneDue (s : State) : Prop := ∀ q ∈ s.seq.replies, Timely q → s.tb.measure < q.due ∨ s.tb.persisted < q.durable

theorem Timely.mayLeave {q : Reply} (h : Timely q) (s : State) :
    s.mayLeave q = (decide (q.due ≤ s.tb.measure) && decide (q.durable ≤ s.tb.persisted)) := by
  obtain ⟨hset, hbytes, hsliced, hreads, hfuses⟩ := h
  simp [State.mayLeave, hset, hbytes, hsliced, hreads, hfuses]

/-- Placing a reply leaves the others, and at most a sliced rest of it. -/
theorem placeReply_replies (s : State) (r : Reply) :
    ∀ q ∈ (s.placeReply r).seq.replies, q ∈ s.seq.replies ∨ q.sliced = true := by
  intro q hq
  unfold State.placeReply at hq
  split at hq
  · rw [completeMailbox_seq] at hq
    exact .inl hq
  · split at hq
    · rw [replyDone_seq] at hq
      exact .inl hq
    · extract_lets slice s1 at hq
      split at hq
      · rw [replyDone_seq, sendPieces_seq] at hq
        exact .inl hq
      · rw [modSeq_seq, sendPieces_seq] at hq
        obtain hq | hq := List.mem_append.mp hq
        · exact .inl hq
        · obtain rfl := List.mem_singleton.mp hq
          exact .inr rfl

/-- After the replies have had their window, none that waits for the window and its measure alone could leave. -/
theorem placeDue_noneDue (s : State) : NoneDue s.placeDue := by
  have hstep (t : State) (r : Reply) (h : NoneDue t) : NoneDue
      (if t.muted r then t.replyDone r
       else if t.mayLeave r then t.placeReply r else t.modSeq fun q => { q with replies := q.replies ++ [r] }) := by
    split
    · have htb := tb_of_outside (replyDone_outside t r)
      intro q hq hT
      rw [replyDone_seq] at hq
      rw [htb]
      exact h q hq hT
    · split
      · have htb := tb_of_outside (placeReply_outside t r)
        intro q hq hT
        rw [htb]
        obtain hq | hq := placeReply_replies t r q hq
        · exact h q hq hT
        · rw [hT.2.2.1] at hq
          cases hq
      · next hm =>
        intro q hq hT
        obtain hq | hq := List.mem_append.mp hq
        · exact h q hq hT
        · obtain rfl := List.mem_singleton.mp hq
          rw [hT.mayLeave] at hm
          simp only [Bool.and_eq_true, decide_eq_true_eq, not_and_or, Nat.not_le] at hm
          exact hm
  have hfold (l : List Reply) (t : State) (h : NoneDue t) : NoneDue (l.foldl (fun t r =>
      if t.muted r then t.replyDone r
      else if t.mayLeave r then t.placeReply r else t.modSeq fun q => { q with replies := q.replies ++ [r] }) t) := by
    induction l generalizing t with
    | nil => exact h
    | cons r l ih => exact ih _ (hstep t r h)
  exact hfold s.seq.replies _ nofun

theorem stagingBankDurable_completes {p : Snap} {rest : List Snap} {s : State} (hl : s.snaps = p :: rest) (hf : s.flashRuns = true)
    (hp : p.programming = true) (hb : s.bankProgrammed p.measure = true) (hn : s.nor.bootState ≠ .trial) :
    completes .stagingBankDurable s fun t =>
      t.durable = p.store ∧ t.snaps.map (fun q => (q.measure, q.store)) = rest.map (fun q => (q.measure, q.store)) ∧
      t.tb.persisted = max s.tb.persisted p.measure ∧ t.tb.measure = s.tb.measure ∧ t.store = s.store ∧ t.nor = s.nor ∧
      (∀ q ∈ t.seq.replies, q.set = none → q.bytes = 0 → q.sliced = false → q.reads = [] → q.awaitsFuses = false →
        s.power.mode ≠ .quiesceStop → t.tb.measure < q.due ∨ t.tb.persisted < q.durable) := by
  have hk := bankDurable_still s p rest
  have hnor : (s.bankDurable p rest).nor = s.nor := (congrArg State.nor hk :)
  have hconf : (s.bankDurable p rest).confirmDurable = s.bankDurable p rest := confirmDurable_untried (by rw [hnor]; exact hn)
  have hexec : exec .stagingBankDurable s =
      .next (if s.power.mode = .quiesceStop then s.bankDurable p rest else (s.bankDurable p rest).startBanks.placeDue) := by
    show execStagingBankDurable s = _
    simp only [execStagingBankDurable, hl, hf, hp, hb, and_self, if_true, hconf]
  by_cases hq : s.power.mode = .quiesceStop
  · rw [if_pos hq] at hexec
    exact ⟨_, hexec, (congrArg State.durable hk :), (congrArg (fun t : State => t.snaps.map bankOf) hk :),
      (congrArg (fun t : State => t.tb.persisted) hk :), (congrArg (fun t : State => t.tb.measure) hk :), (store_of_still hk :), hnor,
      fun _ _ _ _ _ _ _ h => absurd hq h⟩
  · rw [if_neg hq] at hexec
    obtain ⟨l, hs, hbanks⟩ := startBanks_still (s.bankDurable p rest)
    have hsnaps : (s.bankDurable p rest).snaps = rest := (congrArg State.snaps hk :)
    have hs : still (s.bankDurable p rest).startBanks = still { persistedBy s p rest with snaps := l } :=
      hs.trans (congrArg (fun t : State => { t with snaps := l }) hk)
    have ho := placeDue_outside (s.bankDurable p rest).startBanks
    have htb : (s.bankDurable p rest).startBanks.placeDue.tb = (persistedBy s p rest).tb := (tb_of_outside ho).trans (tb_of_still hs :)
    refine ⟨_, hexec, (congrArg State.durable ho :).trans (congrArg State.durable hs :), ?_, by rw [htb]; rfl, by rw [htb]; rfl,
      (store_of_outside ho).trans (store_of_still hs :), (congrArg State.nor ho :).trans (congrArg State.nor hs :),
      fun q hq h1 h2 h3 h4 h5 _ => placeDue_noneDue _ q hq ⟨h1, h2, h3, h4, h5⟩⟩
    have hl : (s.bankDurable p rest).startBanks.placeDue.snaps = l := (congrArg State.snaps ho :).trans (congrArg State.snaps hs :)
    rw [hl]
    exact hbanks.trans (congrArg (List.map bankOf) hsnaps)

/-- Settles O52: a list runs as `runList_eq` says, and a bank becomes durable as `bankDurable_still` says. -/
theorem sealedListsComplete : Obligations.SealedListsComplete := by
  unfold Obligations.SealedListsComplete
  exact ⟨fun l rest s hs hl => ⟨sealedListExecute_completes hs hl, sealedListExecute_waits hl, executionWindowOverrun_completes hs hl⟩,
    fun p rest s hl hf hp hb hn => stagingBankDurable_completes hl hf hp hb hn⟩

end Sys2Proof.Laws
end

section
namespace Sys2Proof.Laws
open Sys2Proof Sys2Proof.Machine

/-! # What reports, events and unit views leave (R94, R285, R287) -/

/-- A state without what reports, events and the units' data-path views change. -/
def quiet (s : State) : State := { s with units := [], fabric := .reset, coda := .reset, fresh := 0 }

@[simp] theorem foldl_quiet {α : Type} {f : State → α → State} (h : ∀ t a, quiet (f t a) = quiet t) (l : List α) (s : State) :
    quiet (l.foldl f s) = quiet s := foldl_keeps h l s
@[simp] theorem ite_quiet {c : Prop} [Decidable c] {a b : State} : quiet (if c then a else b) = if c then quiet a else quiet b :=
  apply_ite ..
@[simp] theorem modCoda_quiet (s : State) (f : Coda → Coda) : quiet (s.modCoda f) = quiet s := by rfl
@[simp] theorem modFabric_quiet (s : State) (f : Fabric → Fabric) : quiet (s.modFabric f) = quiet s := by rfl
@[simp] theorem modChan_quiet (s : State) (c : Fin 32) (f : Chan → Chan) : quiet (s.modChan c f) = quiet s := by rfl
@[simp] theorem draw_quiet (s : State) (bits : Nat) : quiet (s.draw bits).2 = quiet s := by rfl
@[simp] theorem report_quiet (s : State) (code : Nat) (source : Nat) (payload : Bytes) (trigger : Option Nat) (secure : Bool) :
    quiet (s.report code source payload trigger secure) = quiet s := by
  rfl
@[simp] theorem inject_quiet (s : State) (c : Fin 32) : quiet (s.inject c) = quiet s := by rfl
@[simp] theorem injectAll_quiet (s : State) (cs : List (Fin 32)) : quiet (s.injectAll cs) = quiet s := by simp [State.injectAll]
@[simp] theorem pulseAll_quiet (s : State) (ps : List Nat) : quiet (s.pulseAll ps) = quiet s := by simp [State.pulseAll]
@[simp] theorem pulse_quiet (s : State) (p : Nat) : quiet (s.pulse p) = quiet s := by simp [State.pulse]
@[simp] theorem modUnit_quiet (s : State) (id : Nat) (f : HwUnit → HwUnit) : quiet (s.modUnit id f) = quiet s := by rfl
@[simp] theorem noteViews_quiet (s : State) (id : Nat) (age : Nat) : quiet (s.noteViews id age) = quiet s := by
  unfold State.noteViews
  split <;> simp
@[simp] theorem viewsMoved_quiet (s : State) (id : Nat) (age : Nat) : quiet (s.viewsMoved id age) = quiet s := by
  simp [State.viewsMoved]
@[simp] theorem lowerData_quiet (s : State) (id : Nat) (v : UnitState) : quiet (s.lowerData id v) = quiet s := by
  unfold State.lowerData
  split <;> simp
@[simp] theorem raiseData_quiet (s : State) (id : Nat) (v : UnitState) : quiet (s.raiseData id v) = quiet s := by
  unfold State.raiseData
  split <;> simp
@[simp] theorem degrade_quiet (s : State) (id : Nat) : quiet (s.degrade id) = quiet s := by simp [State.degrade]

section
variable {s t : State} (h : quiet t = quiet s)
include h
theorem lks_of_quiet : t.lks = s.lks := (congrArg State.lks h :)
theorem flash_of_quiet : t.flash = s.flash := (congrArg State.flash h :)
theorem store_of_quiet : t.store = s.store := (congrArg State.store h :)
theorem tb_of_quiet : t.tb = s.tb := (congrArg State.tb h :)
theorem seq_of_quiet : t.seq = s.seq := (congrArg State.seq h :)
theorem power_of_quiet : t.power = s.power := (congrArg State.power h :)
theorem ports_of_quiet : t.ports = s.ports := (congrArg State.ports h :)
theorem sessions_of_quiet : t.sessions = s.sessions := (congrArg State.sessions h :)
end

/-! ## Effective states that are above OFFLINE -/

theorem effective_ne_offline {s : State} {id : Nat} :
    s.effective id ≠ .offline ↔ s.mgmtView id ≠ .offline ∧ s.dataView id ≠ .offline := by
  rw [State.effective]
  cases s.mgmtView id <;> cases s.dataView id <;> simp [UnitState.lower, UnitState.num]

theorem mgmtView_of_store {s t : State} (h : t.store = s.store) (id : Nat) : t.mgmtView id = s.mgmtView id := by
  simp only [State.mgmtView, h]

/-- Lowering a unit to a state above OFFLINE takes no unit to OFFLINE. -/
theorem lowerData_ne_offline {s : State} {id : Nat} {v : UnitState} (hv : v ≠ .offline) (k : Nat) (h : s.dataView k ≠ .offline) :
    (s.lowerData id v).dataView k ≠ .offline := by
  by_cases hk : k = id
  · subst hk
    rw [lowerData_dataView]
    split
    · exact hv
    · exact h
  · rwa [lowerData_dataView_other s v hk]

theorem degrade_ne_offline {s : State} {id : Nat} (k : Nat) (h : s.dataView k ≠ .offline) : (s.degrade id).dataView k ≠ .offline := by
  have hd : (s.modUnit id fun u => { u with degradedAt := some s.tb.measure }).dataView k = s.dataView k :=
    modUnit_dataView_same s id k _ (fun _ => rfl) (fun _ => rfl)
  exact lowerData_ne_offline (v := .degraded) nofun k (hd ▸ h)

end Sys2Proof.Laws
end

section
namespace Sys2Proof.Laws
open Sys2Proof Sys2Proof.Machine

/-! # Larkspur's upkeep (R53, R221, R232, R238, R239, R241) -/

/-! ## Cells and shadow words -/

theorem cellFlips_setCell (a : LksArray) (pos flips : Nat) (q : Nat) :
    (a.setCell pos flips false).cellFlips q = if q = pos then flips else a.cellFlips q := by
  unfold LksArray.cellFlips LksArray.setCell
  by_cases hq : q = pos
  · subst hq
    have hrest : ((a.cells.filter fun f => f.pos != q).find? fun f => f.pos == q) = none :=
      List.find?_eq_none.mpr fun f hf => by simpa using (List.mem_filter.mp hf).2
    by_cases hf : flips = 0
    · simp only [hf, true_and, Bool.not_false, if_true, hrest, Option.map_none, Option.getD_none]
    · simp [hf]
  · have hrest : ((a.cells.filter fun f => f.pos != pos).find? fun f => f.pos == q) = a.cells.find? fun f => f.pos == q := by
      rw [List.find?_filter]
      congr 1
      funext f
      by_cases h : f.pos = q <;> simp [h, hq]
    by_cases hf : flips = 0
    · simp [hf, hq, hrest]
    · simp [hf, hq, hrest, Ne.symm hq]

theorem stuckAt_setCell (a : LksArray) (pos flips : Nat) (q : Nat) :
    (a.setCell pos flips false).stuckAt q = (decide (q ≠ pos) && a.stuckAt q) := by
  unfold LksArray.stuckAt LksArray.setCell
  have hrest : ((a.cells.filter fun f => f.pos != pos).any fun f => f.pos == q && f.stuck) =
      (decide (q ≠ pos) && a.cells.any fun f => f.pos == q && f.stuck) := by
    rw [List.any_filter]
    by_cases hq : q = pos
    · simp only [hq, ne_eq, not_true_eq_false, decide_false, Bool.false_and, List.any_eq_false]
      intro f _
      by_cases h : f.pos = pos <;> simp [h]
    · simp only [ne_eq, hq, not_false_eq_true, decide_true, Bool.true_and]
      congr 1
      funext f
      by_cases h : f.pos = q <;> simp [h, hq]
  by_cases hf : flips = 0
  · simp [hf, hrest]
  · simp [hf, hrest]

theorem cellFlips_rewrite (a : LksArray) (pos q : Nat) :
    (a.rewrite pos).cellFlips q = if q = pos ∧ a.stuckAt pos = false then a.shadowOff pos else a.cellFlips q := by
  unfold LksArray.rewrite
  split
  · next h => simp [h]
  · next h => simp [cellFlips_setCell, h]

theorem stuckAt_rewrite (a : LksArray) (pos q : Nat) : (a.rewrite pos).stuckAt q = a.stuckAt q := by
  unfold LksArray.rewrite
  split
  · rfl
  · next h =>
    rw [stuckAt_setCell]
    by_cases hq : q = pos <;> simp [hq, h]

@[simp] theorem rewrite_shadow (a : LksArray) (pos : Nat) : (a.rewrite pos).shadow = a.shadow := by
  unfold LksArray.rewrite
  split <;> rfl

theorem shadowOff_of_shadow {a b : LksArray} (h : b.shadow = a.shadow) (pos : Nat) : b.shadowOff pos = a.shadowOff pos := by
  simp only [LksArray.shadowOff, LksArray.shadowFault, h]

/-- Larkspur without what the scrub's walk changes: cells, shadow words, the repairs' log and the pairs to be rebuilt. -/
def walked (a : LksArray) : LksArray := { a with cells := [], shadow := [], repairs := 0, repaired := [], rebuild := [] }

@[simp] theorem rewrite_walked (a : LksArray) (pos : Nat) : walked (a.rewrite pos) = walked a := by
  unfold LksArray.rewrite
  split <;> rfl

@[simp] theorem rewrite_rebuild (a : LksArray) (pos : Nat) : (a.rewrite pos).rebuild = a.rebuild := by
  unfold LksArray.rewrite
  split <;> rfl

/-! ## One unit of the walk -/

/-- Larkspur after the repair of a unit. -/
def repairedAt (s : State) (pos : Nat) : LksArray :=
  { s.lks.rewrite pos with
    repairs := bump s.lks.repairs
    repaired := (pos, s.tb.measure) :: s.lks.repaired.filter fun r => decide (s.tb.measure < r.2 + 4096) }

theorem repairUnit_quiet (s : State) (pos : Nat) : quiet (s.repairUnit pos) = quiet { s with lks := repairedAt s pos } := by
  have h (t : State) (c d : Prop) [Decidable c] [Decidable d] (id : Nat) :
      quiet (if c then (if d then t.degrade id else t).lowerData id .fenced else if d then t.degrade id else t) = quiet t := by
    split <;> split <;> simp
  exact (h _ _ _ _).trans ((pulse_quiet ..).trans (report_quiet ..))

theorem repairUnit_ne_offline (s : State) (pos k : Nat) (h : s.dataView k ≠ .offline) : (s.repairUnit pos).dataView k ≠ .offline := by
  have hs (t : State) (c d : Prop) [Decidable c] [Decidable d] (id : Nat) (ht : t.dataView k ≠ .offline) :
      (if c then (if d then t.degrade id else t).lowerData id .fenced else if d then t.degrade id else t).dataView k ≠ .offline := by
    have hd : (if d then t.degrade id else t).dataView k ≠ .offline := by
      split
      · exact degrade_ne_offline k ht
      · exact ht
    split
    · exact lowerData_ne_offline (v := .fenced) nofun k hd
    · exact hd
  refine hs _ _ _ _ ?_
  rwa [dataView_of_units (s := s) (by simp)]

/-- What one unit of the walk leaves: the rest of Larkspur, the store and the clock. -/
def beyondWalk (s : State) : LksArray × Store × Timebase := (walked s.lks, s.store, s.tb)

theorem readShadow_beyondWalk (s : State) (pos : Nat) : beyondWalk (s.readShadow pos) = beyondWalk s := by
  unfold State.readShadow
  split
  · rfl
  · split
    · rfl
    · split
      · rfl
      · unfold State.startRebuild
        split <;> rfl

theorem compareUnit_beyondWalk (s : State) (pos : Nat) : beyondWalk (s.compareUnit pos) = beyondWalk s := by
  unfold State.compareUnit
  extract_lets s1
  have h1 : beyondWalk s1 = beyondWalk s := readShadow_beyondWalk s pos
  split
  · have hq := repairUnit_quiet s1 pos
    refine Eq.trans ?_ h1
    rw [beyondWalk, lks_of_quiet hq, store_of_quiet hq, tb_of_quiet hq]
    exact congrArg (·, s1.store, s1.tb) (rewrite_walked s1.lks pos)
  · exact h1

/-- A pair that is to be rebuilt stays so. -/
def toRebuild (s : State) (k : Nat) : Prop := (s.lks.rebuild.any fun r => r.1 == k) = true

theorem startRebuild_toRebuild (s : State) (k : Nat) : toRebuild (s.startRebuild k) k := by
  unfold State.startRebuild
  split
  · next h => exact h
  · simp [toRebuild, State.modLks]

theorem startRebuild_keeps {s : State} {k : Nat} (j : Nat) (h : toRebuild s k) : toRebuild (s.startRebuild j) k := by
  unfold State.startRebuild
  split
  · exact h
  · simp only [toRebuild, State.modLks, List.any_append, Bool.or_eq_true]
    exact .inl h

theorem readShadow_keeps {s : State} {k : Nat} (pos : Nat) (h : toRebuild s k) : toRebuild (s.readShadow pos) k := by
  unfold State.readShadow
  split
  · exact h
  · split
    · exact h
    · split
      · exact h
      · exact startRebuild_keeps _ h

theorem compareUnit_of_readShadow {s : State} {pos k : Nat} (h : toRebuild (s.readShadow pos) k) : toRebuild (s.compareUnit pos) k := by
  unfold State.compareUnit
  extract_lets s1
  split
  · rw [toRebuild, lks_of_quiet (repairUnit_quiet s1 pos)]
    show ((s1.lks.rewrite pos).rebuild.any fun r => r.1 == k) = true
    rw [rewrite_rebuild]
    exact h
  · exact h

/-- A walk keeps the pairs that are to be rebuilt. -/
theorem walk_keeps {s : State} {k : Nat} (l : List Nat) (h : toRebuild s k) : toRebuild (l.foldl State.compareUnit s) k := by
  induction l generalizing s with
  | nil => exact h
  | cons p l ih => exact ih (compareUnit_of_readShadow (readShadow_keeps p h))

/-! ## A walk over units whose shadow words are all correct -/

theorem readShadow_clean {s : State} (h : s.lks.shadow = []) (pos : Nat) : s.readShadow pos = s := by
  simp [State.readShadow, LksArray.shadowFault, h]

/-- From `s` to `t` units of `l` were compared with correct shadow words. -/
structure Walk (s t : State) (l : List Nat) : Prop where
  shadow : t.lks.shadow = []
  stuck : ∀ q, t.lks.stuckAt q = s.lks.stuckAt q
  mgmt : ∀ k, t.mgmtView k = s.mgmtView k
  data : ∀ k, s.dataView k ≠ .offline → t.dataView k ≠ .offline
  other : ∀ q, q ∉ l → t.lks.cellFlips q = s.lks.cellFlips q
  right : ∀ q, s.lks.cellFlips q = 0 → t.lks.cellFlips q = 0
  repaired : ∀ q ∈ l, s.effective (0x4000 + q / 8192) ≠ .offline → s.lks.stuckAt q = false → t.lks.cellFlips q = 0

theorem compareUnit_walk {s : State} (h : s.lks.shadow = []) (pos : Nat) : Walk s (s.compareUnit pos) [pos] := by
  have hoff : s.lks.shadowOff pos = 0 := by simp [LksArray.shadowOff, LksArray.shadowFault, h]
  have hdiff : s.lks.differs pos = (s.lks.cellFlips pos != 0) := by
    simp [LksArray.differs, LksArray.shadowFault, h, hoff]
  simp only [State.compareUnit, readShadow_clean h]
  split
  · next hc =>
    have hq := repairUnit_quiet s pos
    have hlks : (s.repairUnit pos).lks = repairedAt s pos := lks_of_quiet hq
    have hflips (q : Nat) : (s.repairUnit pos).lks.cellFlips q =
        if q = pos ∧ s.lks.stuckAt pos = false then 0 else s.lks.cellFlips q := by
      rw [hlks, ← hoff]
      exact cellFlips_rewrite s.lks pos q
    refine ⟨?_, fun q => ?_, mgmtView_of_store (store_of_quiet hq :), repairUnit_ne_offline s pos, fun q hne => ?_, fun q h0 => ?_,
      fun q hq' _ hstuck => ?_⟩
    · rw [hlks]
      exact (rewrite_shadow s.lks pos).trans h
    · rw [hlks]
      exact stuckAt_rewrite s.lks pos q
    · rw [hflips, if_neg fun hp => hne (List.mem_singleton.mpr hp.1)]
    · rw [hflips, h0, ite_self]
    · obtain rfl := List.mem_singleton.mp hq'
      rw [hflips, if_pos ⟨rfl, hstuck⟩]
  · next hc =>
    refine ⟨h, fun _ => rfl, fun _ => rfl, fun _ hk => hk, fun _ _ => rfl, fun _ h0 => h0, fun q hq he _ => ?_⟩
    obtain rfl := List.mem_singleton.mp hq
    by_contra hne
    exact hc ⟨by rw [hdiff]; simpa using hne, he⟩

theorem walk_clean {s : State} (h : s.lks.shadow = []) (l : List Nat) : Walk s (l.foldl State.compareUnit s) l := by
  induction l generalizing s with
  | nil => exact ⟨h, fun _ => rfl, fun _ => rfl, fun _ hk => hk, fun _ _ => rfl, fun _ h0 => h0, nofun⟩
  | cons p l ih =>
    have w := compareUnit_walk h p
    have v := ih w.shadow
    refine ⟨v.shadow, fun q => (v.stuck q).trans (w.stuck q), fun k => (v.mgmt k).trans (w.mgmt k), fun k hk => v.data k (w.data k hk),
      fun q hq => ?_, fun q h0 => v.right q (w.right q h0), fun q hq he hs => ?_⟩
    · obtain ⟨hp, hl⟩ := not_or.mp (mt List.mem_cons.mpr hq)
      exact (v.other q hl).trans (w.other q (mt List.mem_singleton.mp hp))
    · obtain rfl | hl := List.mem_cons.mp hq
      · exact v.right q (w.repaired q (List.mem_singleton_self q) he hs)
      · obtain ⟨hm, hd⟩ := effective_ne_offline.mp he
        refine v.repaired q hl (effective_ne_offline.mpr ⟨?_, w.data _ hd⟩) ((w.stuck q).trans hs)
        rwa [w.mgmt]

end Sys2Proof.Laws
end

section
namespace Sys2Proof.Laws
open Sys2Proof Sys2Proof.Machine

/-! ## The scrub of a measure (R221, R238, R239) -/

theorem walk_beyondWalk (s : State) (l : List Nat) : beyondWalk (l.foldl State.compareUnit s) = beyondWalk s :=
  foldl_keeps compareUnit_beyondWalk l s

theorem scrub_done {s : State} (h : s.lks.scrubbed = true) : s.scrub = s := if_pos h

/-- A measure's scrub walks the units that it reads, and moves on. -/
theorem scrub_walks {s : State} (h : s.lks.scrubbed = false) : s.scrub = (s.scrubReads.foldl State.compareUnit s).modLks fun a =>
    { a with
      scrubbed := true
      scrubAt := (a.scrubAt + if s.weakBanks.length = 0 then 256 else 128) % 131072
      weakAt := if s.weakBanks.length = 0 then 0 else (a.weakAt + 128) % (8192 * s.weakBanks.length) } :=
  if_neg (by simp [h])

theorem scrub_leaves (s : State) :
    s.scrub.lks.scrubbed = true ∧ s.scrub.store = s.store ∧ s.scrub.tb = s.tb ∧ s.scrub.lks.forced = s.lks.forced := by
  cases h : s.lks.scrubbed with
  | true => rw [scrub_done h]; exact ⟨h, rfl, rfl, rfl⟩
  | false =>
    have hb := walk_beyondWalk s s.scrubReads
    rw [scrub_walks h]
    exact ⟨rfl, (congrArg (fun p => p.2.1) hb :), (congrArg (fun p => p.2.2) hb :), (congrArg (fun p => p.1.forced) hb :)⟩

theorem scrub_moves {s : State} (h : s.lks.scrubbed = false) (hw : s.weakBanks = []) :
    s.scrub.lks.scrubAt = (s.lks.scrubAt + 256) % 131072 := by
  have hb := walk_beyondWalk s s.scrubReads
  rw [scrub_walks h, hw]
  exact congrArg (fun n => (n + 256) % 131072) (congrArg (fun p => p.1.scrubAt) hb :)

/-- The scrub rewrites every unit that it reads and that differs, and no other. -/
theorem scrub_repairs {s : State} (h : s.lks.scrubbed = false) (hs : s.lks.shadow = []) :
    (∀ pos ∈ s.scrubReads, s.effective (0x4000 + pos / 8192) ≠ .offline → s.lks.stuckAt pos = false → s.scrub.lks.cellFlips pos = 0) ∧
    (∀ pos, pos ∉ s.scrubReads → s.scrub.lks.cellFlips pos = s.lks.cellFlips pos) := by
  have w := walk_clean hs s.scrubReads
  rw [scrub_walks h]
  exact ⟨w.repaired, w.other⟩

theorem matePos_ne (pos : Nat) : matePos pos ≠ pos := by
  unfold matePos
  split <;> omega

/-- A unit that has no fault, in the cells or in its shadow word, is left. -/
theorem compareUnit_sound {s : State} {pos : Nat} (hc : s.lks.cellFlips pos = 0) (hs : s.lks.shadowFault pos = none) :
    s.compareUnit pos = s := by
  have hr : s.readShadow pos = s := by simp [State.readShadow, hs]
  have hd : s.lks.differs pos = false := by simp [LksArray.differs, LksArray.shadowOff, hs, hc]
  simp [State.compareUnit, hr, hd]

/-- An uncorrectable shadow word whose unit differs in the two banks has its pair rebuilt. -/
theorem readShadow_lost {s : State} {f : ShadowFault} (hs : s.lks.shadowFault f.pos = some f) (hl : f.lost = true)
    (hc : s.lks.cellFlips f.pos ≠ s.lks.cellFlips (matePos f.pos)) : toRebuild (s.readShadow f.pos) (f.pos / 16384) := by
  have : s.readShadow f.pos = s.startRebuild (f.pos / 16384) := by simp [State.readShadow, hs, hl, hc]
  rw [this]
  exact startRebuild_toRebuild ..

/-- A walk that reads the one unit with a lost shadow word has its pair rebuilt. -/
theorem walk_rebuilds {s : State} {f : ShadowFault} {v : Nat} (hcells : s.lks.cells = [⟨f.pos, v, false⟩]) (hv : v ≠ 0)
    (hshadow : s.lks.shadow = [f]) (hl : f.lost = true) {l : List Nat} (hm : f.pos ∈ l) :
    toRebuild (l.foldl State.compareUnit s) (f.pos / 16384) := by
  have hflips (q : Nat) (hq : q ≠ f.pos) : s.lks.cellFlips q = 0 := by
    simp [LksArray.cellFlips, hcells, Ne.symm hq]
  have hf : s.lks.shadowFault f.pos = some f := by simp [LksArray.shadowFault, hshadow]
  induction l with
  | nil => cases hm
  | cons p l ih =>
    rw [List.foldl_cons]
    by_cases hp : p = f.pos
    · subst hp
      refine walk_keeps l (compareUnit_of_readShadow (readShadow_lost hf hl ?_))
      rw [hflips _ (matePos_ne _)]
      simpa [LksArray.cellFlips, hcells] using hv
    · rw [compareUnit_sound (hflips p hp) (by simp [LksArray.shadowFault, hshadow, Ne.symm hp])]
      exact ih ((List.mem_cons.mp hm).resolve_left (Ne.symm hp))

@[simp] theorem strike_beyond (a : LksArray) (u : Upset) :
    ({ a.strike u with cells := [], shadow := [] } : LksArray) = { a with cells := [], shadow := [] } := by
  unfold LksArray.strike
  split <;> rfl

/-- Errors strike cells and shadow words alone. -/
theorem strikes_beyond (a : LksArray) (us : List Upset) :
    ({ us.foldl LksArray.strike a with cells := [], shadow := [] } : LksArray) = { a with cells := [], shadow := [] } :=
  foldl_keeps (p := fun b : LksArray => ({ b with cells := [], shadow := [] } : LksArray)) strike_beyond us a

theorem larkspurScrub_completes {s : State} (hr : s.larkspurRuns = true) (upsets : List Upset) :
    completes (.larkspurScrub upsets) s fun t =>
      t.lks.scrubbed = true ∧ t.lks.noIdle = 0 ∧ t.lks.forced = false ∧ t.store = s.store ∧ t.tb = s.tb ∧
      (s.lks.scrubbed = true → t.lks.scrubAt = s.lks.scrubAt ∧ t.lks.repairs = s.lks.repairs) ∧
      (s.lks.scrubbed = false → s.weakBanks = [] → t.lks.scrubAt = (s.lks.scrubAt + 256) % 131072) ∧
      (s.lks.scrubbed = false → s.lks.shadow = [] → upsets = [] →
        (∀ pos ∈ s.scrubReads, s.effective (0x4000 + pos / 8192) ≠ .offline → s.lks.stuckAt pos = false → t.lks.cellFlips pos = 0) ∧
        (∀ pos, pos ∉ s.scrubReads → t.lks.cellFlips pos = s.lks.cellFlips pos)) ∧
      (∀ f v, s.lks.scrubbed = false → upsets = [] → s.lks.cells = [⟨f.pos, v, false⟩] → v ≠ 0 → s.lks.shadow = [f] →
        f.lost = true → f.pos ∈ s.scrubReads → (t.lks.rebuild.any fun r => r.1 == f.pos / 16384) = true) := by
  have hstruck := strikes_beyond s.lks upsets
  have hscrubbed : (upsets.foldl LksArray.strike s.lks).scrubbed = s.lks.scrubbed := (congrArg LksArray.scrubbed hstruck :)
  have hat : (upsets.foldl LksArray.strike s.lks).scrubAt = s.lks.scrubAt := (congrArg LksArray.scrubAt hstruck :)
  obtain ⟨hdone, hstore, htb, -⟩ := scrub_leaves (s.modLks fun a => upsets.foldl LksArray.strike a)
  refine ⟨_, if_pos hr, hdone, rfl, rfl, hstore, htb, fun h => ?_, fun h hw => ?_, ?_, ?_⟩
  · rw [scrub_done (hscrubbed.trans h)]
    exact ⟨hat, (congrArg LksArray.repairs hstruck :)⟩
  · exact (scrub_moves (s := s.modLks fun a => upsets.foldl LksArray.strike a) (hscrubbed.trans h) hw).trans
      (congrArg (fun n => (n + 256) % 131072) hat)
  · rintro h hs rfl
    exact scrub_repairs h hs
  · rintro f v h rfl hcells hv hshadow hl hm
    show toRebuild s.scrub _
    rw [scrub_walks h]
    exact walk_rebuilds hcells hv hshadow hl hm

theorem larkspurForcedScrub_completes {s : State} (hr : s.larkspurRuns = true) (h64 : 64 ≤ s.lks.noIdle) :
    completes .larkspurForcedScrub s fun t =>
      t.lks.forced = true ∧ t.lks.scrubbed = true ∧ t.store = s.store ∧ t.tb = s.tb ∧
      (s.lks.scrubbed = false → s.lks.shadow = [] → ∀ pos ∈ s.scrubReads, s.effective (0x4000 + pos / 8192) ≠ .offline →
        s.lks.stuckAt pos = false → t.lks.cellFlips pos = 0) := by
  obtain ⟨hdone, hstore, htb, hforced⟩ := scrub_leaves (s.modLks fun a => { a with forced := true })
  exact ⟨_, congrArg Host.Outcome.next (if_pos ⟨hr, h64⟩), hforced, hdone, hstore, htb,
    fun h hs => (scrub_repairs (s := s.modLks fun a => { a with forced := true }) h hs).1⟩

end Sys2Proof.Laws
end

section
namespace Sys2Proof.Laws
open Sys2Proof Sys2Proof.Machine

/-! ## One-place moves (R232) -/

theorem used_of_noneFree {holes : Nat} {used : List Nat} {j : Nat} (h : freeIn holes used j = 0) {i : Nat} (hi : i < holes) :
    used.contains (j * holes + i) = true := by
  have := List.filter_eq_nil_iff.mp (List.length_eq_zero_iff.mp h) i (List.mem_range.mpr hi)
  simpa using this

/-- A one-place move goes to the free slot next to the one that it leaves. -/
theorem moveFor_neighbour {l : Slots} {holes : Nat} {used : List Nat} {a b : Nat} (hh : holes ≠ 0)
    (h : moveFor l holes used = some (a, b)) : (a + 1 = b ∨ b + 1 = a) ∧ used.contains b = false := by
  unfold moveFor at h
  extract_lets spare at h
  obtain ⟨j, hj, h⟩ := Option.bind_eq_some_iff.mp h
  have hfull : freeIn holes used j = 0 := by simpa using List.find?_some hj
  split at h
  · next _ _ k hk =>
    have hs := List.find?_some hk
    simp only [spare, Bool.and_eq_true, decide_eq_true_eq, Bool.not_eq_true'] at hs
    obtain ⟨hle, hfree, -⟩ := hs
    rw [Nat.succ_mul] at hle
    split at h
    · next hu =>
      simp only [Option.some.injEq, Prod.mk.injEq] at h
      obtain ⟨rfl, rfl⟩ := h
      exact ⟨.inl (by omega), hfree⟩
    · next hu =>
      simp only [Option.some.injEq, Prod.mk.injEq] at h
      obtain ⟨rfl, rfl⟩ := h
      have hne : k ≠ j * holes + holes := by
        rintro rfl
        have := used_of_noneFree hfull (i := holes - 1) (by omega)
        rw [← Nat.add_sub_assoc (by omega)] at this
        exact hu this
      exact ⟨.inl (by omega), by simpa using hu⟩
  · next k _ hk =>
    have hs := List.find?_some hk
    simp only [spare, Bool.and_eq_true, decide_eq_true_eq, Bool.not_eq_true'] at hs
    obtain ⟨hfree, -⟩ := hs
    split at h
    · simp only [Option.some.injEq, Prod.mk.injEq] at h
      obtain ⟨rfl, rfl⟩ := h
      exact ⟨.inr rfl, hfree⟩
    · next hu =>
      simp only [Option.some.injEq, Prod.mk.injEq] at h
      obtain ⟨rfl, rfl⟩ := h
      exact ⟨.inr rfl, by simpa using hu⟩
  · cases h

theorem mapAddr_entries (t : Tables) (tb : Table) (f : Nat → Nat) :
    (t.mapAddr tb f).entries tb = (t.entries tb).map fun e => { e with addr := f e.addr } := by
  cases tb with
  | automaton => simp [Tables.mapAddr, Tables.entries, List.flatMap_map, List.map_flatMap, Function.comp_def, Transition.entry]
  | _ => rfl

theorem mapAddr_entries_other (t : Tables) {tb x : Table} (f : Nat → Nat) (h : x ≠ tb) : (t.mapAddr tb f).entries x = t.entries x := by
  cases tb <;> cases x <;> simp [Tables.mapAddr, Tables.entries] at h ⊢

theorem onePlaceMove_completes {s : State} (hr : s.larkspurRuns = true) {k : Fin 5} {tb : Table} {a b : Nat}
    (ht : Table.ofNum k = some tb) (ho : (s.store.tables.shape tb).ordered = true) (hh : (s.store.tables.shape tb).holes ≠ 0)
    (hm : moveFor (s.store.tables.slots tb) (s.store.tables.shape tb).holes
      ((s.store.tables.entries tb).map fun e => (s.store.tables.slots tb).index e.addr) = some (a, b)) :
    (a + 1 = b ∨ b + 1 = a) ∧ (∀ e ∈ s.store.tables.entries tb, (s.store.tables.slots tb).index e.addr ≠ b) ∧
    completes (.onePlaceMove k) s fun t =>
      t.store.tables.entries tb = (s.store.tables.entries tb).map (fun e =>
        if (s.store.tables.slots tb).index e.addr = a then { e with addr := (s.store.tables.slots tb).addr b } else e) ∧
      (∀ x, x ≠ tb → t.store.tables.entries x = s.store.tables.entries x) ∧ t.lks.moves = bump s.lks.moves ∧
      t.store = { s.store with tables := t.store.tables } ∧ t = { s with store := t.store, lks := t.lks } := by
  obtain ⟨hnext, hfree⟩ := moveFor_neighbour hh hm
  refine ⟨hnext, fun e he hb => ?_, ?_⟩
  · have : b ∈ (s.store.tables.entries tb).map fun e => (s.store.tables.slots tb).index e.addr := List.mem_map.mpr ⟨e, he, hb⟩
    rw [← List.contains_iff_mem, hfree] at this
    cases this
  · have hexec : execOnePlaceMove k s = .next ((s.setTables (s.store.tables.mapAddr tb fun addr =>
        if (s.store.tables.slots tb).index addr = a then (s.store.tables.slots tb).addr b else addr)).modLks fun k =>
          { k with moves := bump k.moves }) := by
      have hgo : (!s.larkspurRuns || !(s.store.tables.shape tb).ordered || (s.store.tables.shape tb).holes == 0) = false := by
        simp [hr, ho, hh]
      simp only [execOnePlaceMove, ht, hgo, Bool.false_eq_true, if_false, hm]
    refine ⟨_, hexec, ?_, fun x hx => mapAddr_entries_other _ _ hx, rfl, rfl, rfl⟩
    refine (mapAddr_entries s.store.tables tb _).trans (List.map_congr_left fun e _ => ?_)
    split <;> rfl

/-! ## Rebuilt pairs (R239) -/

theorem shadowRebuild_completes {s : State} (hr : s.larkspurRuns = true) {k : Fin 8}
    (hk : (s.lks.rebuild.any fun r => r.1 == k.val) = true) : completes (.shadowRebuild k) s fun t =>
      (t.lks.rebuild.any fun r => r.1 == k.val) = false ∧ t.lks.rebuilds = bump s.lks.rebuilds ∧
      (∀ f ∈ t.lks.cells, f.pos / 16384 = k → f.stuck = true) ∧ (∀ f ∈ t.lks.shadow, f.pos / 16384 ≠ k) ∧
      (∃ e ∈ t.coda.queue, e.code = 0x0702 ∧ e.payload = be 1 k) ∧ t.store = s.store ∧ t.tb = s.tb := by
  refine ⟨_, congrArg Host.Outcome.next (if_pos (by simp [hr, hk])), ?_, rfl, ?_, ?_,
    ⟨_, List.mem_append_right _ (List.mem_singleton_self _), rfl, rfl⟩, rfl, rfl⟩
  · simp [State.modLks]
  · intro f hf hp
    have := (List.mem_filter.mp hf).2
    simpa [hp] using this
  · intro f hf
    have := (List.mem_filter.mp hf).2
    simpa using this

/-! ## Banks that are tested (R241) -/

/-- A bank with no stuck cell holds, once rewritten, what its shadow words say. -/
theorem rewriteAll (l : List Nat) (a : LksArray) (hs : ∀ p ∈ l, a.stuckAt p = false) :
    (l.foldl LksArray.rewrite a).shadow = a.shadow ∧
    ∀ q, (l.foldl LksArray.rewrite a).cellFlips q = if q ∈ l then a.shadowOff q else a.cellFlips q := by
  induction l generalizing a with
  | nil => exact ⟨rfl, fun q => by simp⟩
  | cons p l ih =>
    have hp := hs p List.mem_cons_self
    obtain ⟨hshadow, hflips⟩ := ih (a.rewrite p) fun q hq => (stuckAt_rewrite a p q).trans (hs q (List.mem_cons_of_mem _ hq))
    refine ⟨hshadow.trans (rewrite_shadow a p), fun q => ?_⟩
    rw [List.foldl_cons, hflips, shadowOff_of_shadow (rewrite_shadow a p), cellFlips_rewrite]
    by_cases hq : q = p
    · subst hq
      simp [hp]
    · simp [hq]

theorem cellFlips_none {a : LksArray} {q : Nat} (h : q ∉ a.cells.map (·.pos)) : a.cellFlips q = 0 := by
  have : (a.cells.find? fun f => f.pos == q) = none :=
    List.find?_eq_none.mpr fun f hf hq => h (List.mem_map.mpr ⟨f, hf, by simpa using hq⟩)
  simp [LksArray.cellFlips, this]

theorem shadowOff_none {a : LksArray} {q : Nat} (h : q ∉ a.shadow.map (·.pos)) : a.shadowOff q = 0 := by
  have : (a.shadow.find? fun f => f.pos == q) = none :=
    List.find?_eq_none.mpr fun f hf hq => h (List.mem_map.mpr ⟨f, hf, by simpa using hq⟩)
  simp [LksArray.shadowOff, LksArray.shadowFault, this]

theorem rewriteBank_right {a : LksArray} {bank : Nat} (hs : (a.cells.any fun f => f.stuck && f.pos / 8192 == bank) = false) :
    (a.rewriteBank bank).shadow = a.shadow ∧ ∀ pos, pos / 8192 = bank → (a.rewriteBank bank).cellFlips pos = a.shadowOff pos := by
  have hfree (p : Nat) (hp : p / 8192 = bank) : a.stuckAt p = false := by
    rw [LksArray.stuckAt, List.any_eq_false]
    intro f hf hc
    have := List.any_eq_false.mp hs f hf
    simp only [Bool.and_eq_true, beq_iff_eq] at hc this
    exact this ⟨hc.2, hc.1 ▸ hp⟩
  obtain ⟨hshadow, hflips⟩ := rewriteAll ((a.cells.map (·.pos) ++ a.shadow.map (·.pos)).filter fun p => p / 8192 == bank) a
    fun p hp => hfree p (by simpa using (List.mem_filter.mp hp).2)
  refine ⟨hshadow, fun pos hpos => (hflips pos).trans ?_⟩
  split
  · rfl
  · next hn =>
    have hn : pos ∉ a.cells.map (·.pos) ++ a.shadow.map (·.pos) := fun hm => hn (List.mem_filter.mpr ⟨hm, by simpa using hpos⟩)
    obtain ⟨hc, hsh⟩ := not_or.mp (mt List.mem_append.mpr hn)
    rw [cellFlips_none hc, shadowOff_none hsh]

/-- A position that the statement counts in `Fin 16` lies in bank 0. -/
theorem fin_div_bank {pos k : Fin 16} (h : pos / 8192 = k) : (pos : Nat) / 8192 = k := by
  revert pos k
  decide

theorem bankRequalify_passes {s : State} (hr : s.larkspurRuns = true) {k : Fin 16} {u : HwUnit} (hu : s.unit (0x4000 + k) = some u)
    (hd : u.data = .fenced) (hs : (s.lks.cells.any fun f => f.stuck && f.pos / 8192 == k.val) = false)
    (hc : s.store.tables.cascade = none ∨ s.lks.lost = false) : completes (.bankRequalify k true) s fun t =>
      (∃ w, t.unit (0x4000 + k) = some w ∧ w.qualified = true ∧ w.events2 = [] ∧ w.data = .fenced) ∧
      (∀ pos, pos / 8192 = k → t.lks.cellFlips pos = s.lks.shadowOff pos) ∧ t.lks.shadow = s.lks.shadow ∧
      t.store = s.store ∧ t.tb = s.tb := by
  have hexec : execBankRequalify k true s = .next ((s.modUnit (0x4000 + k) fun u =>
      { u with qualified := true, events2 := [] }).modLks fun a => a.rewriteBank k) := by
    have hgo : ¬ (s.dataView (0x4000 + k) ≠ .fenced ∨ (!s.larkspurRuns) = true) := by simp [dataView_eq hu, hd, hr]
    simp only [execBankRequalify, if_neg hgo, hs, Bool.not_false, Bool.and_self, if_true]
    obtain hc | hc := hc
    · simp [hc]
    · cases s.store.tables.cascade <;> simp [hc]
  obtain ⟨hshadow, hflips⟩ := rewriteBank_right hs
  have hunit : (s.modUnit (0x4000 + k) fun u => { u with qualified := true, events2 := [] }).unit (0x4000 + k) =
      some { u with qualified := true, events2 := [] } := modUnit_unit_some (fun _ => rfl) hu
  exact ⟨_, hexec, ⟨_, hunit, rfl, rfl, hd⟩, fun pos hp => hflips pos (fin_div_bank hp), hshadow, rfl, rfl⟩

theorem bankRequalify_fails {s : State} (hr : s.larkspurRuns = true) {k : Fin 16} {u : HwUnit} (hu : s.unit (0x4000 + k) = some u)
    (hd : u.data = .fenced) {passed : Bool}
    (hf : passed = false ∨ (s.lks.cells.any fun f => f.stuck && f.pos / 8192 == k.val) = true) :
    exec (.bankRequalify k passed) s =
      .next (if 2 ≤ u.events2.length + 1 then
        (s.modUnit (0x4000 + k) fun w => { w with events2 := s.tb.measure :: w.events2 }).lowerData (0x4000 + k) .offline
        else s.modUnit (0x4000 + k) fun w => { w with events2 := s.tb.measure :: w.events2 }) := by
  have hgo : ¬ (s.dataView (0x4000 + k) ≠ .fenced ∨ (!s.larkspurRuns) = true) := by simp [dataView_eq hu, hd, hr]
  have hfail : (passed && !s.lks.cells.any fun f => f.stuck && f.pos / 8192 == k.val) = false := by
    obtain hf | hf := hf <;> simp [hf]
  have hunit : (s.modUnit (0x4000 + k) fun w => { w with events2 := s.tb.measure :: w.events2 }).unit (0x4000 + k) =
      some { u with events2 := s.tb.measure :: u.events2 } := modUnit_unit_some (fun _ => rfl) hu
  show execBankRequalify k passed s = _
  simp only [execBankRequalify, if_neg hgo, hfail, Bool.false_eq_true, if_false, hunit, Option.map_some, Option.getD_some,
    List.length_cons]

/-- Settles O57: each upkeep is the walk, the move, the rebuild or the rewriting that its own lemma describes. -/
theorem larkspurUpkeepCompletes : Obligations.LarkspurUpkeepCompletes := by
  unfold Obligations.LarkspurUpkeepCompletes
  intro s hr
  refine ⟨larkspurScrub_completes hr, larkspurForcedScrub_completes hr, fun k tb a b ht ho hh hm => onePlaceMove_completes hr ht ho hh hm,
    fun k hk => shadowRebuild_completes hr hk,
    fun k u hu hd => ⟨bankRequalify_passes hr hu hd, fun passed hf => ⟨fun he => ?_, fun he => ?_⟩⟩⟩
  · rw [bankRequalify_fails hr hu hd hf, he]
    rfl
  · have h2 : 2 ≤ u.events2.length + 1 := by
      have := List.length_pos_iff.mpr he
      omega
    have hq := lowerData_quiet (s.modUnit (0x4000 + k) fun w => { w with events2 := s.tb.measure :: w.events2 }) (0x4000 + k) .offline
    exact ⟨_, (bankRequalify_fails hr hu hd hf).trans (congrArg Host.Outcome.next (if_pos h2)), lowerData_offline _ _,
      (store_of_quiet hq :), (tb_of_quiet hq :)⟩

end Sys2Proof.Laws
end

section
namespace Sys2Proof.Laws
open Sys2Proof Sys2Proof.Machine

/-! # What the flash layer leaves (R185, R189, R190, R202 to R209)

Queueing operations, placing pages, moving what was read and checking warnings change neither the store nor the clock, no operation
that a LUN has under way, and no count of the medium's failures. -/

/-- What LUN `id` has under way: its operation, the one that follows a suspend or reset, and the suspended one. -/
def engaged (id : Nat) (l : List Lun) : Option (Option NandOp × Option NandOp × Option NandOp) :=
  (l.find? fun x => x.id == id).map fun x => (x.op, x.next, x.held)

/-- The counts of the flash layer that its operations' ends change, with what LUN `id` has under way. -/
def booked (id : Nat) (f : Flash) : Option (Option NandOp × Option NandOp × Option NandOp) × Nat × Nat × Nat × Nat × Nat × Nat :=
  (engaged id f.luns, f.blocksRetired, f.nandBytes, f.unreadable, f.programFails, f.eraseFails, f.timeouts)

/-- The store, the clock and the books of the flash layer, of which LUN `id`'s. -/
def spared (id : Nat) (s : State) :
    Store × Timebase × Option (Option NandOp × Option NandOp × Option NandOp) × Nat × Nat × Nat × Nat × Nat × Nat :=
  (s.store, s.tb, booked id s.flash)

section
variable {lane : Nat}

@[simp] theorem foldl_spared {α : Type} {f : State → α → State} (h : ∀ t a, spared lane (f t a) = spared lane t) (l : List α) (s : State) :
    spared lane (l.foldl f s) = spared lane s := foldl_keeps h l s
@[simp] theorem ite_spared {c : Prop} [Decidable c] {a b : State} :
    spared lane (if c then a else b) = if c then spared lane a else spared lane b := apply_ite ..
@[simp] theorem modFlash_spared (s : State) (f : Flash → Flash) (h : ∀ g : Flash,
    (engaged lane (f g).luns, (f g).blocksRetired, (f g).nandBytes, (f g).unreadable, (f g).programFails, (f g).eraseFails,
      (f g).timeouts) =
    (engaged lane g.luns, g.blocksRetired, g.nandBytes, g.unreadable, g.programFails, g.eraseFails, g.timeouts)) :
    spared lane (s.modFlash f) = spared lane s := by
  have h : booked lane (f s.flash) = booked lane s.flash := h s.flash
  simp only [spared, modFlash_flash, modFlash_store, modFlash_tb, h]

theorem engaged_map {f : Lun → Lun} (hid : ∀ l, (f l).id = l.id)
    (h : ∀ l, ((f l).op, (f l).next, (f l).held) = (l.op, l.next, l.held)) (k : Nat) (l : List Lun) :
    engaged lane (l.map fun x => if x.id == k then f x else x) = engaged lane l := by
  induction l with
  | nil => rfl
  | cons x l ih =>
    have hx : (if x.id == k then f x else x).id = x.id := by split <;> simp [hid]
    have hb : (fun y : Lun => (y.op, y.next, y.held)) (if x.id == k then f x else x) = (x.op, x.next, x.held) := by
      split
      · exact h x
      · rfl
    simp only [engaged, List.map_cons, List.find?_cons, hx] at ih ⊢
    split
    · exact congrArg some hb
    · exact ih

@[simp] theorem modLun_spared (s : State) (k : Nat) (f : Lun → Lun) (hid : ∀ l, (f l).id = l.id)
    (h : ∀ l, ((f l).op, (f l).next, (f l).held) = (l.op, l.next, l.held)) : spared lane (s.modLun k f) = spared lane s :=
  modFlash_spared s _ fun g => by simp only [engaged_map hid h]
@[simp] theorem modSb_spared (s : State) (g n : Nat) (f : Superblock → Superblock) : spared lane (s.modSb g n f) = spared lane s := by rfl
@[simp] theorem modBus_spared (s : State) (ch : Fin 8) (f : Bus → Bus) : spared lane (s.modBus ch f) = spared lane s := by rfl
@[simp] theorem modSeq_spared (s : State) (f : Sequencer → Sequencer) : spared lane (s.modSeq f) = spared lane s := by rfl
@[simp] theorem modCoda_spared (s : State) (f : Coda → Coda) : spared lane (s.modCoda f) = spared lane s := by rfl
@[simp] theorem modFabric_spared (s : State) (f : Fabric → Fabric) : spared lane (s.modFabric f) = spared lane s := by rfl
@[simp] theorem modChan_spared (s : State) (c : Fin 32) (f : Chan → Chan) : spared lane (s.modChan c f) = spared lane s := by rfl
@[simp] theorem draw_spared (s : State) (bits : Nat) : spared lane (s.draw bits).2 = spared lane s := by rfl
@[simp] theorem report_spared (s : State) (code : Nat) (source : Nat) (payload : Bytes) (trigger : Option Nat) (secure : Bool) :
    spared lane (s.report code source payload trigger secure) = spared lane s := by
  rfl
@[simp] theorem inject_spared (s : State) (c : Fin 32) : spared lane (s.inject c) = spared lane s := by rfl
@[simp] theorem injectAll_spared (s : State) (cs : List (Fin 32)) : spared lane (s.injectAll cs) = spared lane s := by
  simp [State.injectAll]
@[simp] theorem pulseAll_spared (s : State) (ps : List Nat) : spared lane (s.pulseAll ps) = spared lane s := by simp [State.pulseAll]
@[simp] theorem pulse_spared (s : State) (p : Nat) : spared lane (s.pulse p) = spared lane s := by simp [State.pulse]
@[simp] theorem modUnit_spared (s : State) (id : Nat) (f : HwUnit → HwUnit) : spared lane (s.modUnit id f) = spared lane s := by rfl
@[simp] theorem noteViews_spared (s : State) (id : Nat) (age : Nat) : spared lane (s.noteViews id age) = spared lane s := by
  unfold State.noteViews
  split <;> simp
@[simp] theorem viewsMoved_spared (s : State) (id : Nat) (age : Nat) : spared lane (s.viewsMoved id age) = spared lane s := by
  simp [State.viewsMoved]
@[simp] theorem lowerData_spared (s : State) (id : Nat) (v : UnitState) : spared lane (s.lowerData id v) = spared lane s := by
  unfold State.lowerData
  split <;> simp
@[simp] theorem degrade_spared (s : State) (id : Nat) : spared lane (s.degrade id) = spared lane s := by simp [State.degrade]
@[simp] theorem modSession_spared (s : State) (id : Nat) (f : Session → Session) : spared lane (s.modSession id f) = spared lane s := by rfl
@[simp] theorem modReplay_spared (s : State) (id : Nat) (seq : Nat) (f : Replay → Replay) :
    spared lane (s.modReplay id seq f) = spared lane s := by
  rfl
@[simp] theorem push_spared (s : State) (k : Nat) (o : NandOp) : spared lane (s.modLun k (Lun.push o)) = spared lane s :=
  modLun_spared s k _ (fun l => by unfold Lun.push; split <;> rfl) (fun l => by unfold Lun.push; split <;> rfl)
@[simp] theorem submit_spared (s : State) (k : Nat) (o : NandOp) : spared lane (s.submit k o) = spared lane s := by
  simp [State.submit]
@[simp] theorem drainNand_spared (s : State) : spared lane (s.drainNand) = spared lane s := by simp [State.drainNand]
@[simp] theorem raiseWarn_spared (s : State) (w : Nat) (unit : Option Nat) : spared lane (s.raiseWarn w unit) = spared lane s := by
  simp only [State.raiseWarn, State.draw]
  split
  · rfl
  · cases unit
    · exact (pulse_spared _ _).trans rfl
    · simp
@[simp] theorem checkWarn_spared (s : State) (w : Nat) : spared lane (s.checkWarn w) = spared lane s := by simp [State.checkWarn]
@[simp] theorem checkWarns_spared (s : State) : spared lane (s.checkWarns) = spared lane s := by simp [State.checkWarns]
theorem openSb_spared {s : State} {group : Nat} {native : Bool} {stream : Stream} {y} (h : (s.openSb group native stream) = some y) :
    spared lane y.1 = spared lane s := by
  unfold State.openSb at h
  split at h
  · cases h
  · cases h; simp
theorem roomSb_spared {s : State} {group : Nat} {native : Bool} {stream : Stream} {y} (h : (s.roomSb group native stream) = some y) :
    spared lane y.1 = spared lane s := by
  unfold State.roomSb at h
  split at h
  · exact openSb_spared h
  · split at h
    · cases h; rfl
    · exact (openSb_spared h).trans (modSb_spared ..)
theorem placeIn_spared {s : State} {group : Nat} {native : Bool} {stream : Stream} {w : Codeword} {y} (h :
    (s.placeIn group native stream w) = some y) :
    spared lane y.1 = spared lane s := by
  simp only [State.placeIn, Option.map_eq_some_iff] at h
  obtain ⟨p, hp, rfl⟩ := h
  exact (modSb_spared ..).trans (roomSb_spared hp)
theorem placeAny_spared {s : State} {native : Bool} {stream : Stream} {w : Codeword} {l : List Nat} {y}
    (h : s.placeAny native stream w l = some y) : spared lane y.1 = spared lane s := by
  induction l with
  | nil => cases h
  | cons g l ih =>
    unfold State.placeAny at h
    split at h
    · rename_i hp
      cases h
      exact placeIn_spared hp
    · exact ih h
theorem placeAll_spared {s : State} {native : Bool} {stream : Stream} {first : Codeword → Nat} {l : List Codeword} {y}
    (h : s.placeAll native stream first l = some y) : spared lane y.1 = spared lane s := by
  induction l generalizing s y with
  | nil => cases h; rfl
  | cons w l ih =>
    simp only [State.placeAll, Option.bind_eq_some_iff, Option.map_eq_some_iff] at h
    obtain ⟨⟨t, p⟩, hp, ⟨u, q⟩, hq, rfl⟩ := h
    exact (ih hq).trans (placeAny_spared hp)
@[simp] theorem endStripes_spared (s : State) (pages : List Page) : spared lane (s.endStripes pages) = spared lane s := by
  simp [State.endStripes]
@[simp] theorem programPages_spared (s : State) (kind : NandKind) (bank : Option Nat) (pages : List Page) :
    spared lane (s.programPages kind bank pages) = spared lane s := by
  simp [State.programPages]
theorem write_spared {s : State} {native : Bool} {stream : Stream} {kind : NandKind} {bank : Option Nat} {first : Codeword → Nat}
    {l : List Codeword} {y} (h : s.write native stream kind bank first l = some y) :
    spared lane y = spared lane s := by
  simp only [State.write, Option.map_eq_some_iff] at h
  obtain ⟨p, hp, rfl⟩ := h
  simp [placeAll_spared hp]
@[simp] theorem statusError_spared (s : State) (lun : Nat) : spared lane (s.statusError lun) = spared lane s := by simp [State.statusError]
@[simp] theorem readServed_spared (s : State) (k : Nat × Nat) : spared lane (s.readServed k) = spared lane s := by rfl
@[simp] theorem readFailed_spared (s : State) (k : Nat × Nat) : spared lane (s.readFailed k) = spared lane s := by simp [State.readFailed]
@[simp] theorem reclaim_spared (s : State) (group : Nat) (num : Nat) : spared lane (s.reclaim group num) = spared lane s := by
  unfold State.reclaim
  split <;> simp
@[simp] theorem finishMove_spared (s : State) (m : Relocation) : spared lane (s.finishMove m) = spared lane s := by
  simp only [State.finishMove]
  split
  · rfl
  · split
    · simp
    · rename_i heq
      simp [write_spared heq]
@[simp] theorem finishMoves_spared (s : State) : spared lane (s.finishMoves) = spared lane s := by simp [State.finishMoves]
@[simp] theorem moveRead_spared (s : State) (group : Nat) (num : Nat) (k : Nat × Nat) (ok : Bool) :
    spared lane (s.moveRead group num k ok) = spared lane s := by
  simp [State.moveRead]
@[simp] theorem busNext_spared (s : State) (ch : Fin 8) : spared lane (s.busNext ch) = spared lane s := by
  unfold State.busNext
  split <;> simp
@[simp] theorem placeAgain_spared (s : State) (o : NandOp) (lun : Nat) : spared lane (s.placeAgain o lun) = spared lane s := by
  simp only [State.placeAgain]
  split
  · rfl
  · cases hw : State.write _ _ _ _ _ _ _ with
    | none => simp
    | some t => simp [write_spared hw]
@[simp] theorem mapMoves_spared (s : State) (b : Superblock) (l : List Codeword) : spared lane (s.mapMoves b l) = spared lane s := by
  unfold State.mapMoves
  refine foldl_spared (fun t w => ?_) _ _
  split <;> simp
end

end Sys2Proof.Laws
end

section
namespace Sys2Proof.Laws
open Sys2Proof Sys2Proof.Machine

/-! ## Warnings, queues and transfers -/

/-- A state without what warnings change: the warnings, the events and the entries that tell of them. -/
def unwarned (s : State) : State :=
  { s with fabric := .reset, coda := .reset, fresh := 0, flash := { s.flash with active := 0, latched := 0 } }

theorem report_unwarned (s : State) (code : Nat) (source : Nat) (payload : Bytes) (trigger : Option Nat) (secure : Bool) :
    unwarned (s.report code source payload trigger secure) = unwarned s := by
  rfl

theorem pulse_unwarned (s : State) (p : Nat) : unwarned (s.pulse p) = unwarned s :=
  foldl_keeps (p := unwarned) (f := State.inject) (fun _ _ => rfl) _ s

theorem raiseWarn_unwarned (s : State) (w : Nat) (unit : Option Nat) : unwarned (s.raiseWarn w unit) = unwarned s := by
  simp only [State.raiseWarn]
  split
  · rfl
  · cases unit <;> exact (pulse_unwarned ..).trans rfl

theorem checkWarns_unwarned (s : State) : unwarned s.checkWarns = unwarned s := by
  refine foldl_keeps (p := unwarned) (fun t w => ?_) _ s
  unfold State.checkWarn
  split
  · exact raiseWarn_unwarned ..
  · rfl

/-- A state without what operations' queues and transfers change too: LUNs, buses and the operations that wait for a place. -/
def offLanes (s : State) : State :=
  { s with
    fabric := .reset, coda := .reset, fresh := 0
    flash := { s.flash with luns := [], buses := Vector.replicate 8 .reset, waiting := [], active := 0, latched := 0 } }

theorem offLanes_of_unwarned {s t : State} (h : unwarned t = unwarned s) : offLanes t = offLanes s :=
  (congrArg (fun u : State =>
    { u with flash := { u.flash with luns := [], buses := Vector.replicate 8 .reset, waiting := [] } }) h :)

theorem submit_offLanes (s : State) (k : Nat) (o : NandOp) : offLanes (s.submit k o) = offLanes s := by
  unfold State.submit
  split <;> rfl

theorem drainNand_offLanes (s : State) : offLanes s.drainNand = offLanes s :=
  (foldl_keeps (p := offLanes) (fun t (p : Nat × NandOp) => submit_offLanes t p.1 p.2) s.flash.waiting
    (s.modFlash fun f => { f with waiting := [] })).trans rfl

theorem busNext_offLanes (s : State) (ch : Fin 8) : offLanes (s.busNext ch) = offLanes s := by
  unfold State.busNext
  extract_lets b
  split
  · rfl
  · split
    · split <;> rfl
    all_goals rfl

section
variable {s t : State} (h : offLanes t = offLanes s)
include h
theorem units_of_offLanes : t.units = s.units := (congrArg State.units h :)
theorem seq_of_offLanes : t.seq = s.seq := (congrArg State.seq h :)
theorem store_of_offLanes : t.store = s.store := (congrArg State.store h :)
theorem tb_of_offLanes : t.tb = s.tb := (congrArg State.tb h :)
theorem sbs_of_offLanes : t.flash.sbs = s.flash.sbs := (congrArg (fun u : State => u.flash.sbs) h :)
theorem unreadable_of_offLanes : t.flash.unreadable = s.flash.unreadable := (congrArg (fun u : State => u.flash.unreadable) h :)
theorem sb_of_offLanes (g n : Nat) : t.sb g n = s.sb g n := by simp only [State.sb, sbs_of_offLanes h]
end

/-! ## LUNs and superblocks by identity -/

theorem engaged_of_lun {s : State} {id : Nat} {l : Lun} (h : s.lun id = some l) :
    engaged id s.flash.luns = some (l.op, l.next, l.held) := by
  simp only [State.lun] at h
  simp only [engaged, h, Option.map_some]

theorem lun_of_engaged {s : State} {id : Nat} {o n k : Option NandOp} (h : engaged id s.flash.luns = some (o, n, k)) :
    ∃ m, s.lun id = some m ∧ m.op = o ∧ m.next = n ∧ m.held = k := by
  obtain ⟨m, hm, he⟩ := Option.map_eq_some_iff.mp h
  simp only [Prod.mk.injEq] at he
  exact ⟨m, hm, he⟩

theorem modLun_lun_some {s : State} {id : Nat} {l : Lun} {f : Lun → Lun} (hf : ∀ x, (f x).id = x.id) (h : s.lun id = some l) :
    (s.modLun id f).lun id = some (f l) := by
  rw [modLun_lun _ _ _ hf, h, Option.map_some]

theorem sb_ids {s : State} {g n : Nat} {b : Superblock} (h : s.sb g n = some b) : b.group = g ∧ b.num = n := by
  have := List.find?_some h
  simpa using this

theorem modSb_sb {s : State} {g n : Nat} {b : Superblock} {f : Superblock → Superblock}
    (hf : ∀ x, (f x).group = x.group ∧ (f x).num = x.num) (h : s.sb g n = some b) : (s.modSb g n f).sb g n = some (f b) := by
  have hk (x : Superblock) : ((if x.group == g && x.num == n then f x else x).group == g &&
      (if x.group == g && x.num == n then f x else x).num == n) = (x.group == g && x.num == n) := by
    split <;> simp [hf]
  simp only [State.sb] at h
  simp only [State.sb, State.modSb, Flash.modSb, modFlash_flash, List.find?_map, Function.comp_def, hk, h, Option.map_some]
  have := List.find?_some h
  rw [if_pos this]

theorem modSb_other {s : State} {g n h k : Nat} {f : Superblock → Superblock}
    (hf : ∀ x, (f x).group = x.group ∧ (f x).num = x.num) (hne : (h, k) ≠ (g, n)) : (s.modSb g n f).sb h k = s.sb h k := by
  have hk (x : Superblock) : ((if x.group == g && x.num == n then f x else x).group == h &&
      (if x.group == g && x.num == n then f x else x).num == k) = (x.group == h && x.num == k) := by
    split <;> simp [hf]
  simp only [State.sb, State.modSb, Flash.modSb, modFlash_flash, List.find?_map, Function.comp_def, hk]
  cases hx : s.flash.sbs.find? fun b => b.group == h && b.num == k with
  | none => rfl
  | some b =>
    have hb := List.find?_some hx
    simp only [Bool.and_eq_true, beq_iff_eq] at hb
    have : ¬ ((b.group == g && b.num == n) = true) := by
      simp only [Bool.and_eq_true, beq_iff_eq]
      rintro ⟨rfl, rfl⟩
      exact hne (by rw [← hb.1, ← hb.2])
    rw [Option.map_some, if_neg this]
end Sys2Proof.Laws
end

section
namespace Sys2Proof.Laws
open Sys2Proof Sys2Proof.Machine

/-! # Slots of LUNs and channel buses (R52, R202 to R204) -/

theorem modLun_turns {s : State} {id : Nat} {l : Lun} {f : Lun → Lun} (hf : ∀ x, (f x).id = x.id) (h : s.lun id = some l) :
    s.turnsLun (s.modLun id f) id (f l) :=
  ⟨modLun_lun_some hf h, fun _ hk => modLun_other _ _ _ _ hf hk, rfl⟩

theorem backgroundDenialExpiry_lun {s : State} {id : Nat} {l : Lun} (h : s.lun id = some l) (hid : id / 0x1000 ≠ 2) (hd : 7 ≤ l.denied) :
    completes (.backgroundDenialExpiry id) s fun t => s.turnsLun t id { l with bgFirst := true, denied := 0 } := by
  refine ⟨_, if_neg hid, ?_⟩
  have := modLun_turns (f := fun l => if 7 ≤ l.denied then { l with bgFirst := true, denied := 0 } else l)
    (fun x => by split <;> rfl) h
  rwa [if_pos hd] at this

theorem backgroundDenialExpiry_bus {s : State} {ch : Fin 8} (hd : 7 ≤ s.flash.buses[ch].denied) :
    exec (.backgroundDenialExpiry (0x2000 + ch)) s = .next (s.modBus ch fun b => { b with bgFirst := true, denied := 0 }) := by
  have hid : (0x2000 + ch.val) / 0x1000 = 2 := by omega
  have hch : Fin.ofNat 8 (0x2000 + ch.val) = ch := by
    apply Fin.ext
    show (0x2000 + ch.val) % 8 = ch.val
    omega
  refine (if_pos hid).trans ?_
  rw [hch]
  simp only [State.modBus, State.modFlash, hd, if_true]

/-! ## Who takes a slot of a LUN -/

theorem slot_id (l : Lun) (slotNs : Nat) (bg free : Bool) : (l.slot slotNs bg free).id = l.id := by
  have hbg (l : Lun) : l.takeBg.id = l.id := by unfold Lun.takeBg; split <;> rfl
  have hfg (l : Lun) : l.takeFg.id = l.id := by unfold Lun.takeFg; split <;> rfl
  unfold Lun.slot
  split
  · split
    · exact hbg l
    · split
      · exact hfg l
      · split
        · exact hbg l
        · rfl
  · extract_lets o1
    split
    · split <;> rfl
    · rfl

theorem slot_fg {l : Lun} {slotNs : Nat} {o : NandOp} {rest : List NandOp} (ho : l.op = none) (hf : l.bgFirst = false)
    (hq : l.fg = o :: rest) : l.slot slotNs true true = { l with op := some o, fg := rest, bgRefused := l.bgRefused || l.bgWork } := by
  simp [Lun.slot, ho, hf, hq, Lun.takeFg]

/-- Background work takes the slot where no foreground work waits, or where it comes first. -/
theorem slot_bg {l : Lun} {slotNs : Nat} (ho : l.op = none) (hw : l.bgWork = true) (hf : l.fg = [] ∨ l.bgFirst = true) :
    l.slot slotNs true true = l.takeBg := by
  obtain hf | hf := hf
  · cases hb : l.bgFirst <;> simp [Lun.slot, ho, hf, hb, hw]
  · simp [Lun.slot, ho, hf, hw]

theorem slot_held {l : Lun} {slotNs : Nat} {o : NandOp} (ho : l.op = none) (hh : l.held = some o) (hf : l.fg = [] ∨ l.bgFirst = true) :
    l.slot slotNs true true = { l with op := some { o with ran := 0 }, held := none, bgRan := true, bgFirst := false } := by
  rw [slot_bg ho (by simp [Lun.bgWork, hh]) hf]
  simp [Lun.takeBg, hh]

theorem slot_next_bg {l : Lun} {slotNs : Nat} {o : NandOp} {rest : List NandOp} (ho : l.op = none) (hh : l.held = none)
    (hb : l.bg = o :: rest) (hf : l.fg = [] ∨ l.bgFirst = true) :
    l.slot slotNs true true = { l with op := some o, bg := rest, bgRan := true, bgFirst := false } := by
  rw [slot_bg ho (by simp [Lun.bgWork, hb]) hf]
  simp [Lun.takeBg, hh, hb]

theorem slot_suspends {l : Lun} {slotNs : Nat} {o h : NandOp} {rest : List NandOp} (ho : l.op = some o) (hh : l.held = none)
    (hq : l.fg = h :: rest) (hk : h.kind = .readFg) (hs : NandOp.suspendable { o with ran := o.ran + 1 } slotNs = true) :
    l.slot slotNs true true = { l with
      op := some (.make .suspend o.group o.num 0), next := some h, fg := rest
      held := some { o with ran := o.ran + 1, suspends := o.suspends + 1 }, bgRefused := true } := by
  simp [Lun.slot, ho, hh, hq, hk, hs]

theorem slot_goesOn {l : Lun} {slotNs : Nat} {o : NandOp} (ho : l.op = some o)
    (h : ∀ h rest, l.fg = h :: rest → h.kind ≠ .readFg ∨
      NandOp.suspendable { o with ran := o.ran + 1 } slotNs = false ∨ l.held.isSome = true) :
    l.slot slotNs true true = { l with op := some { o with ran := o.ran + 1 } } := by
  simp only [Lun.slot, ho]
  split
  · next x rest hq =>
    refine if_neg ?_
    rintro ⟨hk, hs, hh⟩
    obtain h | h | h := h x rest hq
    · exact h hk
    · rw [hs] at h
      cases h
    · simp [Option.isNone_iff_eq_none.mp hh] at h
  · rfl

theorem busEnd_idle {s : State} {ch : Fin 8} (h : s.flash.buses[ch].moving = none) : s.busEnd ch = s := by
  simp only [State.busEnd, h]

theorem divert_sound {s : State} {id : Nat} (h : s.sound id = true) (again : State → NandOp → State) : s.divert id again = s := by
  unfold State.divert
  split
  · rfl
  · exact if_pos h

theorem bgMay_modes {s : State} (h : s.bgMay = true) : s.power.mode = .service ∧ s.power.inReset = false := by
  simp only [State.bgMay, State.inService, Bool.and_eq_true, beq_iff_eq, Bool.not_eq_true'] at h
  exact h.1.1

/-- A slot boundary of a sound LUN, the drive in Service and its bus idle: the LUN's slot, then the bus. -/
theorem lunSlotBoundary_turns {s : State} {id : Nat} {slot : Fin 16} {l : Lun} (hl : s.lun id = some l) (hb : s.bgMay = true)
    (hstep : s.power.step < 2) (hs : s.sound id = true) (hm : s.flash.buses[busOf id].moving = none) {m : Lun}
    (h : l.slot (s.lengthNs / 16) true true = m) :
    completes (.lunSlotBoundary id slot) s fun t => ∃ u, s.turnsLun u id m ∧ t = u.busNext (busOf id) := by
  obtain ⟨hmode, hreset⟩ := bgMay_modes hb
  have hruns : ¬ ((!s.flashRuns) = true) := by simp [State.flashRuns, hmode, hreset]
  refine ⟨_, if_neg hruns, _, ?_, rfl⟩
  have hcust : (s.power.mode == .quiesceCustody && !s.power.pwrFail) = false := by simp [hmode]
  simp only [busEnd_idle hm, divert_sound hs, hb, hcust, Bool.or_false, hstep, decide_true, Bool.false_eq_true, false_and, if_false]
  subst h
  exact modLun_turns (fun x => slot_id x _ _ _) hl

/-! ## The next transfer of a bus -/

theorem modBus_moving (s : State) (ch : Fin 8) (f : Bus → Bus) : (s.modBus ch f).flash.buses[ch] = f s.flash.buses[ch] := by
  simp [State.modBus]

theorem busNext_both {s : State} {ch : Fin 8} (h : s.flash.buses[ch].moving = none) {f g : Nat} {fs gs : List Nat}
    (hf : s.busWaits ch false = f :: fs) (hg : s.busWaits ch true = g :: gs) :
    (s.busNext ch).flash.buses[ch].moving = some (if s.flash.buses[ch].bgFirst then g else f) := by
  simp only [State.busNext, h, Option.isSome_none, Bool.false_eq_true, if_false, hf, hg]
  split <;> exact congrArg Bus.moving (modBus_moving ..)

theorem busNext_fg {s : State} {ch : Fin 8} (h : s.flash.buses[ch].moving = none) {f : Nat} {fs : List Nat}
    (hf : s.busWaits ch false = f :: fs) (hg : s.busWaits ch true = []) : (s.busNext ch).flash.buses[ch].moving = some f := by
  simp only [State.busNext, h, Option.isSome_none, Bool.false_eq_true, if_false, hf, hg]
  rw [modBus_moving]

theorem busNext_bg {s : State} {ch : Fin 8} (h : s.flash.buses[ch].moving = none) {g : Nat} {gs : List Nat}
    (hf : s.busWaits ch false = []) (hg : s.busWaits ch true = g :: gs) : (s.busNext ch).flash.buses[ch].moving = some g := by
  simp only [State.busNext, h, Option.isSome_none, Bool.false_eq_true, if_false, hf, hg]
  rw [modBus_moving]
  rfl

end Sys2Proof.Laws
end

section
namespace Sys2Proof.Laws
open Sys2Proof Sys2Proof.Machine

/-! # How NAND operations end (R185, R190, R205, R209) -/

section
variable {id : Nat} {s t : State} (h : spared id t = spared id s)
include h
theorem store_of_spared : t.store = s.store := congrArg Prod.fst h
theorem tb_of_spared : t.tb = s.tb := congrArg (fun p => p.2.1) h
theorem blocksRetired_of_spared : t.flash.blocksRetired = s.flash.blocksRetired := (congrArg (fun p => p.2.2.2.1) h :)
theorem nandBytes_of_spared : t.flash.nandBytes = s.flash.nandBytes := (congrArg (fun p => p.2.2.2.2.1) h :)
theorem programFails_of_spared : t.flash.programFails = s.flash.programFails := (congrArg (fun p => p.2.2.2.2.2.2.1) h :)
theorem eraseFails_of_spared : t.flash.eraseFails = s.flash.eraseFails := (congrArg (fun p => p.2.2.2.2.2.2.2.1) h :)
theorem timeouts_of_spared : t.flash.timeouts = s.flash.timeouts := (congrArg (fun p => p.2.2.2.2.2.2.2.2) h :)

/-- What LUN `id` has under way is as it was. -/
theorem lun_of_spared {l : Lun} (hl : s.lun id = some l) : ∃ m, t.lun id = some m ∧ m.op = l.op ∧ m.next = l.next ∧ m.held = l.held :=
  lun_of_engaged ((congrArg (fun p => p.2.2.1) h :).trans (engaged_of_lun hl))
end

/-- What follows the end of an operation: waiting operations are queued, the bus takes its next transfer, the warnings are checked. -/
def afterOp (s : State) (id : Nat) : State := ((s.drainNand).busNext (busOf id)).checkWarns

theorem afterOp_spared (s : State) (id lane : Nat) : spared lane (afterOp s id) = spared lane s := by simp [afterOp]

theorem afterOp_offLanes (s : State) (id : Nat) : offLanes (afterOp s id) = offLanes s :=
  (offLanes_of_unwarned (checkWarns_unwarned _)).trans ((busNext_offLanes _ _).trans (drainNand_offLanes s))

theorem afterOp_unit (s : State) (id k : Nat) : (afterOp s id).unit k = s.unit k := by
  simp only [State.unit, units_of_offLanes (afterOp_offLanes s id)]

theorem nandOpComplete_exec {s : State} {id : Nat} {l : Lun} {o : NandOp} (hf : s.flashRuns = true) (hl : s.lun id = some l)
    (ho : l.op = some o) (hp : o.phase = .array) (r : NandResult) :
    exec (.nandOpComplete id r) s = .next (afterOp (s.opDone id o r) id) := by
  show execNandOpComplete id r s = _
  simp only [execNandOpComplete, hf, Bool.not_true, Bool.false_eq_true, if_false, hl, Option.bind_some, ho, hp, if_true, afterOp]

/-! ## The events of a unit -/

/-- The events that a unit has counted. -/
def eventsOf (s : State) (k : Nat) : Option (List Nat) := (s.unit k).map (·.events)

theorem modUnit_events (s : State) (id k : Nat) {f : HwUnit → HwUnit} (hid : ∀ u, (f u).id = u.id) (he : ∀ u, (f u).events = u.events) :
    eventsOf (s.modUnit id f) k = eventsOf s k := by
  by_cases h : k = id
  · subst h
    simp [eventsOf, modUnit_unit _ _ _ hid, Function.comp_def, he]
  · simp [eventsOf, modUnit_other _ _ _ _ hid h]

theorem eventsOf_of_units {s t : State} (h : t.units = s.units) (k : Nat) : eventsOf t k = eventsOf s k := by
  simp only [eventsOf, State.unit, h]

theorem viewsMoved_events (s : State) (id age k : Nat) : eventsOf (s.viewsMoved id age) k = eventsOf s k := by
  unfold State.viewsMoved
  split
  · rfl
  · unfold State.noteViews
    split
    · rfl
    · split
      · have h := modUnit_events s id k (f := fun v => { v with apart := 0, pairAge := 0, noted := false }) (fun _ => rfl) (fun _ => rfl)
        split <;> exact h
      · exact modUnit_events s id k (fun _ => rfl) (fun _ => rfl)

theorem lowerData_events (s : State) (id : Nat) (v : UnitState) (k : Nat) : eventsOf (s.lowerData id v) k = eventsOf s k := by
  unfold State.lowerData
  split
  · rfl
  · split
    · rw [viewsMoved_events]
      exact (eventsOf_of_units (s := s.modUnit id fun w => { w with data := v, qualified := false }) (by simp) k).trans
        (modUnit_events s id k (fun _ => rfl) (fun _ => rfl))
    · rfl

theorem degrade_events (s : State) (id k : Nat) : eventsOf (s.degrade id) k = eventsOf s k :=
  (lowerData_events _ _ _ _).trans (modUnit_events s id k (fun _ => rfl) (fun _ => rfl))

theorem statusError_events {s : State} {id : Nat} {u : HwUnit} (h : s.unit (channelOf id) = some u) :
    eventsOf (s.statusError id) (channelOf id) = some (s.tb.measure :: recent s.tb.measure u.events) := by
  have h1 : eventsOf (s.modUnit (channelOf id) fun u => { u with events := s.tb.measure :: recent s.tb.measure u.events }) (channelOf id) =
      some (s.tb.measure :: recent s.tb.measure u.events) :=
    congrArg (Option.map HwUnit.events) (modUnit_unit_some (s := s)
      (f := fun u => { u with events := s.tb.measure :: recent s.tb.measure u.events }) (fun _ => rfl) h)
  unfold State.statusError
  extract_lets now ch s1
  split
  · exact (degrade_events _ _ _).trans h1
  · exact h1

theorem unit_of_eventsOf {s : State} {k : Nat} {l : List Nat} (h : eventsOf s k = some l) : ∃ v, s.unit k = some v ∧ v.events = l :=
  Option.map_eq_some_iff.mp h

/-! ## Passes -/

section
variable {id : Nat} {l : Lun} {o : NandOp} {s : State} (hf : s.flashRuns = true) (hl : s.lun id = some l) (ho : l.op = some o)
  (hp : o.phase = .array)
include hf hl ho hp

theorem nandOpComplete_reset (hk : o.kind = .suspend ∨ o.kind = .lunReset) : completes (.nandOpComplete id .pass) s fun t =>
    (∃ m, t.lun id = some m ∧ m.op = l.next ∧ m.next = none ∧ m.held = l.held) ∧ t.store = s.store ∧ t.tb = s.tb := by
  have hd : s.opDone id o .pass = s.modLun id fun l => { l with op := l.next, next := none } := by
    obtain hk | hk := hk <;> simp only [State.opDone, hk]
  have hs := afterOp_spared (s.modLun id fun l => { l with op := l.next, next := none }) id id
  refine ⟨_, nandOpComplete_exec hf hl ho hp .pass, ?_⟩
  rw [hd]
  exact ⟨lun_of_spared hs (modLun_lun_some (fun _ => rfl) hl), (store_of_spared hs).trans rfl, (tb_of_spared hs).trans rfl⟩

theorem nandOpComplete_read (hard : List (Option Bytes)) (soft : Option Bytes) (others : List Bytes)
    (hk : o.kind = .readFg ∨ o.kind = .readBg) : completes (.nandOpComplete id (.read hard soft others)) s fun t =>
      (∃ m, t.lun id = some m ∧ m.op = some { o with phase := .dataOut (.read hard soft others) } ∧ m.held = l.held) ∧
      t.store = s.store ∧ t.tb = s.tb := by
  have hd : s.opDone id o (.read hard soft others) =
      s.modLun id fun l => { l with op := some { o with phase := .dataOut (.read hard soft others) } } := by
    obtain hk | hk := hk <;> simp only [State.opDone, hk]
  have hs := afterOp_spared (s.modLun id fun l => { l with op := some { o with phase := .dataOut (.read hard soft others) } }) id id
  refine ⟨_, nandOpComplete_exec hf hl ho hp _, ?_⟩
  rw [hd]
  obtain ⟨m, hm, hop, -, hheld⟩ := lun_of_spared hs (modLun_lun_some (fun _ => rfl) hl)
  exact ⟨⟨m, hm, hop, hheld⟩, (store_of_spared hs).trans rfl, (tb_of_spared hs).trans rfl⟩

theorem nandOpComplete_statusError : completes (.nandOpComplete id .statusError) s fun t =>
    (∃ m, t.lun id = some m ∧ m.op = some o) ∧
    (∀ u, s.unit (channelOf id) = some u → ∃ v, t.unit (channelOf id) = some v ∧
      v.events = s.tb.measure :: recent s.tb.measure u.events) ∧ t.store = s.store ∧ t.tb = s.tb := by
  have hd : s.opDone id o .statusError = s.statusError id := by simp only [State.opDone]
  have hs := (afterOp_spared (s.statusError id) id id).trans (statusError_spared s id)
  refine ⟨_, nandOpComplete_exec hf hl ho hp _, ?_⟩
  rw [hd]
  obtain ⟨m, hm, hop, -⟩ := lun_of_spared hs hl
  refine ⟨⟨m, hm, hop.trans ho⟩, fun u hu => ?_, store_of_spared hs, tb_of_spared hs⟩
  rw [afterOp_unit]
  exact unit_of_eventsOf (statusError_events hu)

theorem nandOpComplete_erased {b : Superblock} (hb : s.sb o.group o.num = some b) (hk : o.kind = .eraseBg) :
    completes (.nandOpComplete id .pass) s fun t =>
      (∃ m, t.lun id = some m ∧ m.op = none) ∧
      t.sb o.group o.num = some (b.modBlocks id fun k => if k.state = .erasePending then { k with erased := true } else k) ∧
      t.store = s.store ∧ t.tb = s.tb := by
  have hd : s.opDone id o .pass = (s.free id).modSb o.group o.num fun b => b.modBlocks id fun k =>
      if k.state = .erasePending then { k with erased := true } else k := by simp only [State.opDone, hk]
  have hs : spared id (afterOp (s.opDone id o .pass) id) = spared id (s.free id) := by
    rw [hd]
    exact (afterOp_spared _ id id).trans (modSb_spared ..)
  refine ⟨_, nandOpComplete_exec hf hl ho hp .pass, ?_, ?_, (store_of_spared hs).trans rfl, (tb_of_spared hs).trans rfl⟩
  · obtain ⟨m, hm, hop, -⟩ := lun_of_spared hs (modLun_lun_some (fun _ => rfl) hl)
    exact ⟨m, hm, hop⟩
  · rw [sb_of_offLanes (afterOp_offLanes _ id), hd]
    exact modSb_sb (s := s.free id) (fun _ => ⟨rfl, rfl⟩) hb
end

end Sys2Proof.Laws
end

section
namespace Sys2Proof.Laws
open Sys2Proof Sys2Proof.Machine

/-! ## Programs that pass -/

/-- The codewords of a stripe on a LUN are on the medium. -/
def onMedium (s : State) (g n stripe id : Nat) : Prop :=
  ∃ c, s.sb g n = some c ∧ ∀ w ∈ c.words, w.stripe = stripe → w.lun = id → w.programmed = true

/-- Marking codewords live or dead leaves where they are, and what is on the medium. -/
theorem modWords_onMedium {s : State} {g n stripe id : Nat} (h : onMedium s g n stripe id) (g' n' : Nat) (p : Codeword → Bool) (v : Bool) :
    onMedium (s.modSb g' n' fun x => x.modWords p fun w => { w with live := v }) g n stripe id := by
  obtain ⟨c, hc, hw⟩ := h
  by_cases he : (g, n) = (g', n')
  · obtain ⟨rfl, rfl⟩ := Prod.mk.inj he
    refine ⟨_, modSb_sb (fun _ => ⟨rfl, rfl⟩) hc, fun w hm hs hl => ?_⟩
    obtain ⟨x, hx, rfl⟩ := List.mem_map.mp hm
    cases hpx : p x <;> simp only [hpx] at hs hl ⊢ <;> exact hw x hx hs hl
  · exact ⟨c, (modSb_other (f := fun x => x.modWords p fun w => { w with live := v }) (fun _ => ⟨rfl, rfl⟩) he).trans hc, hw⟩

theorem mapMoves_onMedium {s : State} {g n stripe id : Nat} (b : Superblock) (l : List Codeword) (h : onMedium s g n stripe id) :
    onMedium (s.mapMoves b l) g n stripe id := by
  unfold State.mapMoves
  induction l generalizing s with
  | nil => exact h
  | cons w l ih =>
    refine ih ?_
    beta_reduce
    split
    · exact h
    · dsimp only
      split
      · exact modWords_onMedium (modWords_onMedium h _ _ _ _) _ _ _ _
      · exact h

/-- The count of programmed bytes after a page of LUN `id`. -/
def pageCounted (s : State) : State := s.modFlash fun f => { f with nandBytes := sat 64 (f.nandBytes + 16384 * s.board.planes) }

/-- The page's codewords as programmed. -/
def pageProgrammed (s : State) (id : Nat) (o : NandOp) : State :=
  (pageCounted s).modSb o.group o.num fun x => x.modWords (fun w => w.stripe == o.stripe && w.lun == id) fun w =>
    { w with programmed := true }

theorem programmed_eq {s : State} {id : Nat} {o : NandOp} {b : Superblock} (hb : s.sb o.group o.num = some b) :
    ∃ c, (pageProgrammed s id o).sb o.group o.num = some c ∧
      s.programmed id o = (pageProgrammed s id o).mapMoves c (c.words.filter fun w => w.stripe == o.stripe && w.lun == id) := by
  have hc := modSb_sb (s := pageCounted s) (f := fun x => x.modWords (fun w => w.stripe == o.stripe && w.lun == id) fun w =>
    { w with programmed := true }) (fun _ => ⟨rfl, rfl⟩) hb
  refine ⟨_, hc, ?_⟩
  have hc' : ((s.modFlash fun f => { f with nandBytes := sat 64 (f.nandBytes + 16384 * s.board.planes) }).modSb o.group o.num fun x =>
    x.modWords (fun w => w.stripe == o.stripe && w.lun == id) fun w => { w with programmed := true }).sb o.group o.num = _ := hc
  simp only [State.programmed, hc']
  rfl

theorem programmed_spared (s : State) (id : Nat) (o : NandOp) (lane : Nat) :
    spared lane (s.programmed id o) = spared lane (pageCounted s) := by
  have hp : spared lane (pageProgrammed s id o) = spared lane (pageCounted s) := modSb_spared ..
  unfold State.programmed
  extract_lets s1 s2
  split
  · exact hp
  · exact (mapMoves_spared ..).trans hp

theorem programmed_onMedium {s : State} {id : Nat} {o : NandOp} {b : Superblock} (hb : s.sb o.group o.num = some b) :
    onMedium (s.programmed id o) o.group o.num o.stripe id := by
  obtain ⟨c, -, heq⟩ := programmed_eq (id := id) hb
  rw [heq]
  refine mapMoves_onMedium _ _ ⟨_, modSb_sb (s := pageCounted s) (fun _ => ⟨rfl, rfl⟩) hb, fun w hm hs hl => ?_⟩
  obtain ⟨x, -, rfl⟩ := List.mem_map.mp hm
  by_cases hx : (x.stripe == o.stripe && x.lun == id) = true
  · rw [if_pos hx]
  · rw [if_neg hx] at hs hl
    exact absurd (by simp [hs, hl]) hx

theorem nandOpComplete_programmed {id : Nat} {l : Lun} {o : NandOp} {s : State} (hf : s.flashRuns = true) (hl : s.lun id = some l)
    (ho : l.op = some o) (hp : o.phase = .array) {b : Superblock} (hb : s.sb o.group o.num = some b)
    (hk : o.kind = .programFg ∨ o.kind = .programBg) : completes (.nandOpComplete id .pass) s fun t =>
      (∃ m, t.lun id = some m ∧ m.op = none) ∧ t.flash.nandBytes = sat 64 (s.flash.nandBytes + 16384 * s.board.planes) ∧
      (∃ c, t.sb o.group o.num = some c ∧ ∀ w ∈ c.words, w.stripe = o.stripe → w.lun = id → w.programmed = true) ∧
      t.store = s.store ∧ t.tb = s.tb := by
  have hd : s.opDone id o .pass = (s.free id).programmed id o := by obtain hk | hk := hk <;> simp only [State.opDone, hk]
  have hs : spared id (afterOp (s.opDone id o .pass) id) = spared id (pageCounted (s.free id)) := by
    rw [hd]
    exact (afterOp_spared _ id id).trans (programmed_spared ..)
  have hlun : (pageCounted (s.free id)).lun id = some { l with op := none } := modLun_lun_some (fun _ => rfl) hl
  obtain ⟨m, hm, hop, -⟩ := lun_of_spared hs hlun
  refine ⟨_, nandOpComplete_exec hf hl ho hp .pass, ⟨m, hm, hop⟩, nandBytes_of_spared hs, ?_, (store_of_spared hs).trans rfl,
    (tb_of_spared hs).trans rfl⟩
  obtain ⟨c, hc, hw⟩ := programmed_onMedium (s := s.free id) (id := id) hb
  refine ⟨c, ?_, hw⟩
  rw [sb_of_offLanes (afterOp_offLanes _ id), hd]
  exact hc

/-! ## Programs and erases that fail (R209) -/

/-- A block that is there is retired and counted; what its LUN has under way goes on. -/
theorem retireBlock_spared {s : State} {b : Superblock} {id plane : Nat} {l : Lun} (hl : s.lun id = some l)
    (hb : (b.blocks.any fun k => k.lun == id && k.id % s.board.planes == plane) = true) (lane : Nat) :
    spared lane (s.retireBlock b id plane) = spared lane (s.modFlash fun f => { f with blocksRetired := bump f.blocksRetired }) := by
  obtain ⟨k, hk⟩ := Option.isSome_iff_exists.mp (List.find?_isSome.mpr (List.any_eq_true.mp hb))
  simp only [State.retireBlock, hl, hk]
  split
  · simp
  · split <;> simp

/-- An operation that fails is counted, and its block is retired. -/
def failCounted (s : State) (erase : Bool) : State :=
  s.modFlash fun f =>
    { f with
      eraseFails := if erase then bump f.eraseFails else f.eraseFails
      programFails := if erase then f.programFails else bump f.programFails
      blocksRetired := bump f.blocksRetired }

theorem opFailed_erase_spared {s : State} {id plane : Nat} {l : Lun} {o : NandOp} {b : Superblock} (hl : s.lun id = some l)
    (hb : s.sb o.group o.num = some b) (hp : (b.blocks.any fun k => k.lun == id && k.id % s.board.planes == plane) = true)
    (hk : o.kind = .eraseBg) (lane : Nat) : spared lane (s.opFailed id plane o) = spared lane (failCounted s true) := by
  have hr := retireBlock_spared (s := s.modFlash fun f => { f with eraseFails := bump f.eraseFails }) hl hp lane
  simp only [State.opFailed, hb, hk, if_true]
  split
  · exact (submit_spared ..).trans hr
  · exact hr

theorem opFailed_program_spared {s : State} {id plane : Nat} {l : Lun} {o : NandOp} {b : Superblock} (hl : s.lun id = some l)
    (hb : s.sb o.group o.num = some b) (hp : (b.blocks.any fun k => k.lun == id && k.id % s.board.planes == plane) = true)
    (hk : o.kind ≠ .eraseBg) (lane : Nat) : spared lane (s.opFailed id plane o) = spared lane (failCounted s false) := by
  have hr := retireBlock_spared (s := s.modFlash fun f => { f with programFails := bump f.programFails }) hl hp lane
  simp only [State.opFailed, hb, if_neg hk]
  exact (placeAgain_spared ..).trans hr

section
variable {id : Nat} {l : Lun} {o : NandOp} {s : State} (hf : s.flashRuns = true) (hl : s.lun id = some l) (ho : l.op = some o)
  (hp : o.phase = .array) {b : Superblock} (hb : s.sb o.group o.num = some b) {p : Nat}
  (hblock : (b.blocks.any fun k => k.lun == id && k.id % s.board.planes == p) = true)
include hf hl ho hp hb hblock

theorem nandOpComplete_eraseFails (hk : o.kind = .eraseBg) : completes (.nandOpComplete id (.fail p)) s fun t =>
    t.flash.eraseFails = bump s.flash.eraseFails ∧ t.flash.blocksRetired = bump s.flash.blocksRetired ∧
    (∃ m, t.lun id = some m ∧ m.op = none) ∧ t.store = s.store ∧ t.tb = s.tb := by
  have hfree : (s.free id).lun id = some { l with op := none } := modLun_lun_some (fun _ => rfl) hl
  have hd : s.opDone id o (.fail p) = (s.free id).opFailed id p o := by simp only [State.opDone, hk]
  have hs : spared id (afterOp (s.opDone id o (.fail p)) id) = spared id (failCounted (s.free id) true) := by
    rw [hd]
    exact (afterOp_spared _ id id).trans (opFailed_erase_spared hfree hb hblock hk id)
  obtain ⟨m, hm, hop, -⟩ := lun_of_spared hs hfree
  exact ⟨_, nandOpComplete_exec hf hl ho hp _, eraseFails_of_spared hs, blocksRetired_of_spared hs, ⟨m, hm, hop⟩,
    (store_of_spared hs).trans rfl, (tb_of_spared hs).trans rfl⟩

theorem nandOpComplete_programFails (hk : o.kind = .programFg ∨ o.kind = .programBg) :
    completes (.nandOpComplete id (.fail p)) s fun t =>
      t.flash.programFails = bump s.flash.programFails ∧ t.flash.blocksRetired = bump s.flash.blocksRetired ∧
      (∃ m, t.lun id = some m ∧ m.op = none) ∧ t.store = s.store ∧ t.tb = s.tb := by
  have hfree : (s.free id).lun id = some { l with op := none } := modLun_lun_some (fun _ => rfl) hl
  have hne : o.kind ≠ .eraseBg := by obtain hk | hk := hk <;> simp [hk]
  have hd : s.opDone id o (.fail p) = (s.free id).opFailed id p o := by obtain hk | hk := hk <;> simp only [State.opDone, hk]
  have hs : spared id (afterOp (s.opDone id o (.fail p)) id) = spared id (failCounted (s.free id) false) := by
    rw [hd]
    exact (afterOp_spared _ id id).trans (opFailed_program_spared hfree hb hblock hne id)
  obtain ⟨m, hm, hop, -⟩ := lun_of_spared hs hfree
  exact ⟨_, nandOpComplete_exec hf hl ho hp _, programFails_of_spared hs, blocksRetired_of_spared hs, ⟨m, hm, hop⟩,
    (store_of_spared hs).trans rfl, (tb_of_spared hs).trans rfl⟩
end

end Sys2Proof.Laws
end

section
namespace Sys2Proof.Laws
open Sys2Proof Sys2Proof.Machine

/-! ## Operations that time out (R185, Table 8.8) -/

/-- A LUN that timed out is counted, and its reset is under way. -/
def resetting (s : State) (id : Nat) : State :=
  (s.noteTimeout id).modLun id fun x => { x with op := some (.make .lunReset 0 0 0), next := none }

/-- What becomes of the operation that timed out: it is reissued once after the reset; a reissue ends as a failure. -/
def reissue (s : State) (id : Nat) (o : NandOp) : State :=
  if o.reissued then
    (match o.kind, o.word with
    | .readFg, some k | .readBg, some k => (s.readFailed k).moveRead o.group o.num k false
    | .eraseBg, _ | .programFg, _ | .programBg, _ => s.opFailed id 0 o
    | _, _ => s)
  else s.modLun id fun x =>
    { x with next := some { o with reissued := true, ran := 0, phase := (NandOp.make o.kind 0 0 0).phase } }

/-- The LUN is lowered, its channel too where all of the channel's LUNs timed out in this measure. -/
def lowered (s : State) (id now : Nat) (v : UnitState) : State :=
  let s1 := s.lowerData id v
  if ((s1.flash.luns.filter fun x => channelOf x.id == channelOf id).all fun x =>
    ((s1.unit x.id).map fun u => u.timeouts.contains now).getD false) = true then s1.lowerData (channelOf id) .offline else s1

theorem noteTimeout_unwarned (s : State) (id : Nat) : unwarned (s.noteTimeout id) =
    unwarned ((s.modFlash fun f => { f with timeouts := bump f.timeouts }).modUnit id fun u =>
      { u with timeouts := s.tb.measure :: recent s.tb.measure u.timeouts }) :=
  (raiseWarn_unwarned ..).trans rfl

theorem lun_of_unwarned {s t : State} (h : unwarned t = unwarned s) (id : Nat) : t.lun id = s.lun id := by
  have hl : t.flash.luns = s.flash.luns := (congrArg (fun u : State => u.flash.luns) h :)
  simp only [State.lun, hl]

theorem dropHeld_none {s : State} {id : Nat} {l : Lun} (hl : s.lun id = some l) (hh : l.held = none) : s.dropHeld id = s := by
  simp only [State.dropHeld, hl, Option.bind_some, hh]

theorem resetting_lun {s : State} {id : Nat} {l : Lun} (hl : s.lun id = some l) :
    (resetting s id).lun id = some { l with op := some (.make .lunReset 0 0 0), next := none } :=
  modLun_lun_some (fun _ => rfl) ((lun_of_unwarned (noteTimeout_unwarned s id) id).trans hl)

theorem nandOpTimeout_exec {s : State} {id : Nat} {l : Lun} {o : NandOp} (hf : s.flashRuns = true) (hl : s.lun id = some l)
    (ho : l.op = some o) (hs : o.kind ≠ .suspend) (hr : o.kind ≠ .lunReset) (hh : l.held = none) :
    exec (.nandOpTimeout id) s = .next (lowered (reissue (resetting s id) id o) id s.tb.measure
      (if (((s.unit id).map fun u => recent s.tb.measure u.timeouts).getD []).isEmpty then .fenced else .offline)).checkWarns := by
  have hd : (resetting s id).dropHeld id = resetting s id := dropHeld_none (resetting_lun hl) hh
  have hbase : ¬ (o.kind = .suspend ∨ o.kind = .lunReset) := not_or.mpr ⟨hs, hr⟩
  show execNandOpTimeout id s = _
  unfold resetting at hd
  simp only [execNandOpTimeout, hf, Bool.not_true, Bool.false_eq_true, if_false, hl, ho, Option.getD_some, if_neg hbase, hd]
  rfl

/-- The store, the clock, the count of timeouts, and what LUN `lane` has under way. -/
def timed (lane : Nat) (s : State) : Store × Timebase × Nat × Option (Option NandOp × Option NandOp × Option NandOp) :=
  (s.store, s.tb, s.flash.timeouts, engaged lane s.flash.luns)

theorem timed_of_spared {lane : Nat} {s t : State} (h : spared lane t = spared lane s) : timed lane t = timed lane s := by
  have hl : engaged lane t.flash.luns = engaged lane s.flash.luns := (congrArg (fun p => p.2.2.1) h :)
  simp only [timed, store_of_spared h, tb_of_spared h, timeouts_of_spared h, hl]

theorem retireBlock_timed (s : State) (b : Superblock) (id plane lane : Nat) : timed lane (s.retireBlock b id plane) = timed lane s := by
  cases hl : s.lun id with
  | none => simp only [State.retireBlock, hl]
  | some l =>
    by_cases hb : (b.blocks.any fun k => k.lun == id && k.id % s.board.planes == plane) = true
    · exact (timed_of_spared (retireBlock_spared hl hb lane)).trans rfl
    · have hn : (b.blocks.find? fun k => k.lun == id && k.id % s.board.planes == plane) = none := by
        simpa [List.find?_eq_none] using hb
      simp only [State.retireBlock, hl, hn]

theorem opFailed_timed (s : State) (id plane : Nat) (o : NandOp) (lane : Nat) : timed lane (s.opFailed id plane o) = timed lane s := by
  unfold State.opFailed
  split
  · rfl
  · next b _ =>
    split
    · extract_lets s1
      have h1 : timed lane s1 = timed lane s := (retireBlock_timed ..).trans rfl
      split
      · exact (timed_of_spared (submit_spared ..)).trans h1
      · exact h1
    · exact (timed_of_spared (placeAgain_spared ..)).trans ((retireBlock_timed ..).trans rfl)

theorem reissue_timed {s : State} {id : Nat} {o : NandOp} (h : o.reissued = true) (lane : Nat) :
    timed lane (reissue s id o) = timed lane s := by
  have hr (k : Nat × Nat) : timed lane ((s.readFailed k).moveRead o.group o.num k false) = timed lane s :=
    timed_of_spared ((moveRead_spared ..).trans (readFailed_spared s k))
  have hf := opFailed_timed s id 0 o lane
  unfold reissue
  rw [if_pos h]
  split
  · exact hr _
  · exact hr _
  · exact hf
  · exact hf
  · exact hf
  · rfl

theorem lowered_spared (s : State) (id now : Nat) (v : UnitState) (lane : Nat) : spared lane (lowered s id now v) = spared lane s := by
  unfold lowered
  extract_lets s1
  split
  · exact (lowerData_spared ..).trans (lowerData_spared ..)
  · exact lowerData_spared ..

/-- Lowering a unit raises none. -/
theorem lowerData_le (s : State) (id : Nat) (v : UnitState) (k : Nat) : ((s.lowerData id v).dataView k).num ≤ (s.dataView k).num := by
  by_cases hk : k = id
  · subst hk
    rw [lowerData_dataView]
    split
    · next h => exact h.le
    · exact le_rfl
  · rw [lowerData_dataView_other s v hk]

theorem lowerData_le_state (s : State) (id : Nat) (v : UnitState) : ((s.lowerData id v).dataView id).num ≤ v.num := by
  rw [lowerData_dataView]
  split
  · exact le_rfl
  · next h => exact Nat.not_lt.mp h

theorem lowered_le (s : State) (id now : Nat) (v : UnitState) : ((lowered s id now v).dataView id).num ≤ v.num := by
  unfold lowered
  extract_lets s1
  have h1 : (s1.dataView id).num ≤ v.num := lowerData_le_state s id v
  split
  · exact (lowerData_le ..).trans h1
  · exact h1

theorem offline_of_num {v : UnitState} (h : v.num ≤ 0) : v = .offline := by
  cases v <;> simp [UnitState.num] at h ⊢

theorem resetting_timed {s : State} {id : Nat} {l : Lun} (hl : s.lun id = some l) : timed id (resetting s id) =
    (s.store, s.tb, bump s.flash.timeouts, some (some (.make .lunReset 0 0 0), none, l.held)) := by
  have hw := noteTimeout_unwarned s id
  have hstore : (s.noteTimeout id).store = s.store := (congrArg State.store hw :)
  have htb : (s.noteTimeout id).tb = s.tb := (congrArg State.tb hw :)
  have ht : (s.noteTimeout id).flash.timeouts = bump s.flash.timeouts := (congrArg (fun u : State => u.flash.timeouts) hw :)
  simp only [timed, engaged_of_lun (resetting_lun hl)]
  exact Prod.ext hstore (Prod.ext htb (Prod.ext ht rfl))

theorem nandOpTimeout_completes {s : State} {id : Nat} {l : Lun} {o : NandOp} (hf : s.flashRuns = true) (hl : s.lun id = some l)
    (ho : l.op = some o) (hs : o.kind ≠ .suspend) (hr : o.kind ≠ .lunReset) (hh : l.held = none) :
    completes (.nandOpTimeout id) s fun t =>
      t.flash.timeouts = bump s.flash.timeouts ∧ (t.dataView id).num ≤ 1 ∧
      (∀ u, s.unit id = some u → recent s.tb.measure u.timeouts ≠ [] → t.dataView id = .offline) ∧
      (∃ m, t.lun id = some m ∧ m.op = some (.make .lunReset 0 0 0) ∧ m.next = if o.reissued then none else
        some { o with reissued := true, ran := 0, phase := (NandOp.make o.kind 0 0 0).phase }) ∧
      t.store = s.store ∧ t.tb = s.tb := by
  refine ⟨_, nandOpTimeout_exec hf hl ho hs hr hh, ?_⟩
  generalize hv : (if (((s.unit id).map fun u => recent s.tb.measure u.timeouts).getD []).isEmpty then UnitState.fenced else .offline) = v
  have hbefore := resetting_timed hl
  have hissue : timed id (reissue (resetting s id) id o) = (s.store, s.tb, bump s.flash.timeouts,
      some (some (.make .lunReset 0 0 0), if o.reissued then none else
        some { o with reissued := true, ran := 0, phase := (NandOp.make o.kind 0 0 0).phase }, l.held)) := by
    cases hre : o.reissued with
    | true => rw [reissue_timed hre, hbefore]; rfl
    | false =>
      have hlun := modLun_lun_some (f := fun x =>
        { x with next := some { o with reissued := true, ran := 0, phase := (NandOp.make o.kind 0 0 0).phase } })
        (fun _ => rfl) (resetting_lun hl)
      simp only [timed, Prod.mk.injEq] at hbefore
      obtain ⟨hstore, htb, ht, -⟩ := hbefore
      simp only [reissue, hre, Bool.false_eq_true, if_false, timed, engaged_of_lun hlun]
      exact Prod.ext hstore (Prod.ext htb (Prod.ext ht rfl))
  have hall := (timed_of_spared ((checkWarns_spared (lowered (reissue (resetting s id) id o) id s.tb.measure v)).trans
    (lowered_spared _ id s.tb.measure v id))).trans hissue
  have hunits : (lowered (reissue (resetting s id) id o) id s.tb.measure v).checkWarns.units =
      (lowered (reissue (resetting s id) id o) id s.tb.measure v).units := (congrArg State.units (checkWarns_unwarned _) :)
  have hle := lowered_le (reissue (resetting s id) id o) id s.tb.measure v
  simp only [timed, Prod.mk.injEq] at hall
  obtain ⟨hstore, htb, ht, he⟩ := hall
  obtain ⟨m, hm, hop, hnext, -⟩ := lun_of_engaged he
  rw [dataView_of_units hunits]
  refine ⟨ht, hle.trans ?_, fun u hu hrecent => ?_, ⟨m, hm, hop, hnext⟩, hstore, htb⟩
  · subst hv
    split <;> decide
  · have : v = .offline := by
      rw [← hv, hu, Option.map_some, Option.getD_some, if_neg (by simpa using hrecent)]
    exact offline_of_num (this ▸ hle)

end Sys2Proof.Laws
end

section
namespace Sys2Proof.Laws
open Sys2Proof Sys2Proof.Machine

/-! ## Erases that are done (R206) -/

theorem freed_eq (k : NandBlock) : k.freed = if k.erased = true ∧ k.state = .erasePending then
    { k with state := .free, erases := k.erases + 1, erased := false, indeterminate := false, reads := 0, rebuilt := 0 } else k := by
  simp only [NandBlock.freed, Bool.and_eq_true, beq_iff_eq]

/-- A superblock whose erased blocks on LUN `lun` are free. -/
def freedOn (lun : Nat) (x : Superblock) : Superblock :=
  { x.modBlocks lun NandBlock.freed with words := x.words.filter fun w => w.lun != lun }

/-- The erase of superblock (`g`, `n`) on LUN `lun` done, with its journal entry. -/
def erasedOn (s : State) (g n lun : Nat) : State :=
  (s.modSb g n (freedOn lun)).modFlash fun f => { f with journal := f.journal ++ [{ group := g, num := n, lun, done := true }] }

theorem eraseDone_completes {g n lun : Nat} {b : Superblock} {s : State} (hf : s.flashRuns = true) (hb : s.sb g n = some b)
    (hany : (b.blocks.any fun k => k.lun == lun && k.erased && k.state == .erasePending) = true) :
    completes (.eraseDone g ⟨n, lun⟩) s fun t =>
      (∃ c, t.sb g n = some c ∧ c.words = b.words.filter (fun w => w.lun != lun) ∧
        c.blocks = b.blocks.map fun k => if k.lun = lun ∧ k.erased = true ∧ k.state = .erasePending then
          { k with state := .free, erases := k.erases + 1, erased := false, indeterminate := false, reads := 0, rebuilt := 0 } else k) ∧
      (∀ h k, (h, k) ≠ (g, n) → t.sb h k = s.sb h k) ∧
      t.flash.journal = s.flash.journal ++ [{ group := g, num := n, lun, done := true }] ∧
      t.flash.luns = s.flash.luns ∧ t.store = s.store ∧ t.tb = s.tb := by
  have hids (x : Superblock) : (freedOn lun x).group = x.group ∧ (freedOn lun x).num = x.num := ⟨rfl, rfl⟩
  have hexec : exec (.eraseDone g ⟨n, lun⟩) s = .next (erasedOn s g n lun).checkWarns := by
    show execEraseDone g ⟨n, lun⟩ s = _
    simp only [execEraseDone, hb, hf, hany, Bool.not_true, Bool.or_self, Bool.false_eq_true, if_false]
    rfl
  have hw := checkWarns_unwarned (erasedOn s g n lun)
  have hsb (h k : Nat) : (erasedOn s g n lun).checkWarns.sb h k = (s.modSb g n (freedOn lun)).sb h k := by
    have hsbs : (erasedOn s g n lun).checkWarns.flash.sbs = (s.modSb g n (freedOn lun)).flash.sbs :=
      (congrArg (fun x : State => x.flash.sbs) hw :)
    simp only [State.sb, hsbs]
  refine ⟨_, hexec, ⟨freedOn lun b, (hsb g n).trans (modSb_sb hids hb), rfl, ?_⟩, fun h k hne => (hsb h k).trans (modSb_other hids hne),
    (congrArg (fun x : State => x.flash.journal) hw :), (congrArg (fun x : State => x.flash.luns) hw :), (congrArg State.store hw :),
    (congrArg State.tb hw :)⟩
  refine List.map_congr_left fun k _ => ?_
  by_cases hk : k.lun = lun
  · simp only [hk, beq_self_eq_true, if_true, true_and, freed_eq]
  · simp [hk]

/-! ## Reads that end with their transfer (R189) -/

theorem moveRead_none {s : State} (h : s.flash.moves = []) (g n : Nat) (k : Nat × Nat) (ok : Bool) : s.moveRead g n k ok = s := by
  have hs : (s.modFlash fun f => { f with moves := [] }) = s := by rw [State.modFlash, ← h]
  simp only [State.moveRead, State.finishMoves, State.modFlash, h, List.map_nil, List.foldl_nil]
  exact hs

/-- The bus and the LUN of a transfer that has ended. -/
def transferred (s : State) (ch : Fin 8) (k : Nat) : State :=
  (s.modBus ch fun b => { b with moving := none }).modLun k fun l => { l with op := none }

theorem sound_congr {s t : State} (hstore : t.store = s.store) (hunits : t.units = s.units) (id : Nat) : t.sound id = s.sound id := by
  have h (k : Nat) : t.effective k = s.effective k := by
    simp only [State.effective, State.mgmtView, State.dataView, State.unit, hstore, hunits]
  exact decide_eq_decide.mpr (by rw [State.reach, State.reach, h, h])

/-- The slot boundary at which a read's transfer ends: what the read's end leaves, but for LUNs and buses. -/
theorem lunSlotBoundary_ends {s : State} {id k : Nat} {slot : Fin 16} {l : Lun} {o : NandOp} {r : NandResult} (hf : s.flashRuns = true)
    (hs : s.sound id = true) (hm : s.flash.buses[busOf id].moving = some k) (hl : s.lun k = some l) (ho : l.op = some o)
    (hp : o.phase = .dataOut r) {x : State} (hx : (transferred s (busOf id) k).endRead o r = x) (hstore : x.store = s.store)
    (hunits : x.units = s.units) : completes (.lunSlotBoundary id slot) s fun t => offLanes t = offLanes x := by
  have hend : s.busEnd (busOf id) = x.drainNand := by
    have hlun : (s.modBus (busOf id) fun b => { b with moving := none }).lun k = some l := hl
    simp only [State.busEnd, hm, hlun, Option.bind_some, ho, hp]
    rw [← hx]
    rfl
  have hd := drainNand_offLanes x
  have hsound : x.drainNand.sound id = true :=
    (sound_congr ((store_of_offLanes hd).trans hstore) ((units_of_offLanes hd).trans hunits) id).trans hs
  refine ⟨_, if_neg (by simp [hf]), ?_⟩
  simp only [hend, divert_sound hsound]
  exact (busNext_offLanes _ _).trans ((rfl : offLanes (State.modLun ..) = offLanes x.drainNand).trans hd)

section
variable {s t : State} (h : unwarned t = unwarned s)
include h
theorem store_of_unwarned : t.store = s.store := (congrArg State.store h :)
theorem tb_of_unwarned : t.tb = s.tb := (congrArg State.tb h :)
theorem units_of_unwarned : t.units = s.units := (congrArg State.units h :)
theorem seq_of_unwarned : t.seq = s.seq := (congrArg State.seq h :)
theorem unreadable_of_unwarned : t.flash.unreadable = s.flash.unreadable := (congrArg (fun u : State => u.flash.unreadable) h :)
end

theorem units_of_outside {s t : State} (h : outside t = outside s) : t.units = s.units := (congrArg State.units h :)

theorem flash_of_outside {s t : State} (h : outside t = outside s) : t.flash = s.flash := (congrArg State.flash h :)

theorem readFailed_outside (s : State) (k : Nat × Nat) : outside (s.readFailed k) = outside s := by
  simp [State.readFailed]

theorem readFailed_seq (s : State) (k : Nat × Nat) : (s.readFailed k).seq =
    { s.seq with replies := s.seq.replies.map fun r => if r.reads.contains k then r.lost else r } := by
  refine (foldl_keeps (p := State.seq) ?_ _ _).trans rfl
  intro t r
  rfl

/-- A state after a read that found its codeword in superblock (`g`, `n`) unreadable, but for its warning. -/
def unreadAt (s : State) (g n : Nat) (w : Codeword) : State :=
  ((s.modSb g n fun x => x.modBlocks w.lun fun k => { k with reads := bump k.reads }).modSb g n fun x =>
    x.modWords (·.is (w.ext, w.idx)) fun v => { v with unread := true }).modFlash fun f =>
      { f with unreadable := sat 64 (f.unreadable + 1) }

section
variable {o : NandOp} {key : Nat × Nat} {b : Superblock} {w : Codeword} {s : State} {hard : List (Option Bytes)} {soft : Option Bytes}
  {others : List Bytes} (hmoves : s.flash.moves = []) (hw : o.word = some key) (hb : s.sb o.group o.num = some b)
  (hfind : b.words.find? (·.is key) = some w)
include hmoves hw hb hfind

theorem endRead_hard (hr : o.rebuild = false) (hd : decodes hard.head? = true) : s.endRead o (.read hard soft others) =
    (s.modSb o.group o.num fun x => x.modBlocks w.lun fun k => { k with reads := bump k.reads }).readServed key := by
  obtain ⟨hg, hn⟩ := sb_ids hb
  have hok : (Decoded.hard != Decoded.unreadable) = true := rfl
  simp only [State.endRead, hw, hb, hfind, hr, hd, readStages, Bool.not_false, Bool.and_self, Bool.true_or, if_true,
    Bool.false_eq_true, if_false, State.readFound, hg, hn, hok]
  refine moveRead_none ?_ _ _ _ _
  exact hmoves

theorem endRead_lost (hr : o.rebuild = true) (hd : wordSound (xorAll others) = false) : s.endRead o (.read hard soft others) =
    ((unreadAt s o.group o.num w).raiseWarn 7 (some w.lun)).readFailed key := by
  obtain ⟨hg, hn⟩ := sb_ids hb
  have hmoves' : (((unreadAt s o.group o.num w).raiseWarn 7 (some w.lun)).readFailed key).flash.moves = [] := by
    rw [flash_of_outside (readFailed_outside _ key)]
    exact (congrArg (fun x : State => x.flash.moves) (raiseWarn_unwarned (unreadAt s o.group o.num w) 7 (some w.lun)) :).trans hmoves
  have hbad : (Decoded.unreadable != Decoded.unreadable) = false := rfl
  simp only [State.endRead, hw, hb, hfind, hr, State.rebuilds, hd, Bool.and_false, Bool.or_true, if_true,
    Bool.false_eq_true, if_false, State.readFound, hg, hn, hbad]
  exact moveRead_none hmoves' _ _ _ _
end

section
variable {id k : Nat} {slot : Fin 16} {l : Lun} {o : NandOp} {key : Nat × Nat} {b : Superblock} {w : Codeword} {s : State}
  {hard : List (Option Bytes)} {soft : Option Bytes} {others : List Bytes}
  (hf : s.flashRuns = true) (hs : s.sound id = true) (hmoves : s.flash.moves = []) (hm : s.flash.buses[busOf id].moving = some k)
  (hl : s.lun k = some l) (ho : l.op = some o) (hp : o.phase = .dataOut (.read hard soft others)) (hw : o.word = some key)
  (hb : s.sb o.group o.num = some b) (hfind : b.words.find? (·.is key) = some w)
include hf hs hmoves hm hl ho hp hw hb hfind

theorem lunSlotBoundary_serves (hr : o.rebuild = false) (hd : decodes hard.head? = true) :
    completes (.lunSlotBoundary id slot) s fun t =>
      t.seq = { s.seq with replies := s.seq.replies.map fun r => { r with reads := r.reads.filter (· != key) } } ∧
      t.sb o.group o.num = some (b.modBlocks w.lun fun j => { j with reads := bump j.reads }) ∧ t.store = s.store ∧ t.tb = s.tb := by
  have hb' : (transferred s (busOf id) k).sb o.group o.num = some b := hb
  have hx := endRead_hard (s := transferred s (busOf id) k) (soft := soft) (others := others) hmoves hw hb' hfind hr hd
  obtain ⟨t, ht, hoff⟩ := lunSlotBoundary_ends (slot := slot) hf hs hm hl ho hp hx rfl rfl
  exact ⟨t, ht, (seq_of_offLanes hoff).trans rfl, (sb_of_offLanes hoff _ _).trans (modSb_sb (fun _ => ⟨rfl, rfl⟩) hb'),
    (store_of_offLanes hoff).trans rfl, (tb_of_offLanes hoff).trans rfl⟩

theorem lunSlotBoundary_loses (hr : o.rebuild = true) (hd : wordSound (xorAll others) = false) :
    completes (.lunSlotBoundary id slot) s fun t =>
      t.seq = { s.seq with replies := s.seq.replies.map fun r => if r.reads.contains key then r.lost else r } ∧
      t.flash.unreadable = sat 64 (s.flash.unreadable + 1) ∧ t.store = s.store ∧ t.tb = s.tb := by
  have hb' : (transferred s (busOf id) k).sb o.group o.num = some b := hb
  have hx := endRead_lost (s := transferred s (busOf id) k) (hard := hard) (soft := soft) hmoves hw hb' hfind hr hd
  generalize hz : unreadAt (transferred s (busOf id) k) o.group o.num w = z at hx
  have hwarn := raiseWarn_unwarned z 7 (some w.lun)
  have hout := readFailed_outside (z.raiseWarn 7 (some w.lun)) key
  have hstore : ((z.raiseWarn 7 (some w.lun)).readFailed key).store = s.store := by
    rw [store_of_outside hout, store_of_unwarned hwarn, ← hz]
    simp [unreadAt, transferred]
  have hunits : ((z.raiseWarn 7 (some w.lun)).readFailed key).units = s.units := by
    rw [units_of_outside hout, units_of_unwarned hwarn, ← hz]
    simp [unreadAt, transferred]
  obtain ⟨t, ht, hoff⟩ := lunSlotBoundary_ends (slot := slot) hf hs hm hl ho hp hx hstore hunits
  refine ⟨t, ht, ?_, ?_, (store_of_offLanes hoff).trans hstore, ?_⟩
  · rw [seq_of_offLanes hoff, readFailed_seq, seq_of_unwarned hwarn, ← hz]
    simp [unreadAt, transferred]
  · rw [unreadable_of_offLanes hoff, flash_of_outside hout, unreadable_of_unwarned hwarn, ← hz]
    simp [unreadAt, transferred, State.modSb, Flash.modSb, State.modLun, State.modBus]
  · rw [tb_of_offLanes hoff, tb_of_outside hout, tb_of_unwarned hwarn, ← hz]
    simp [unreadAt, transferred]
end

/-! ## The obligation -/

theorem lunSlotBoundary_offers {s : State} {id : Nat} {slot : Fin 16} {l : Lun} (hl : s.lun id = some l) (hb : s.bgMay = true)
    (hstep : s.power.step < 2) (hs : s.sound id = true) (hm : s.flash.buses[busOf id].moving = none) (becomes : Lun → Prop)
    (h : becomes = fun m => completes (.lunSlotBoundary id slot) s fun t => ∃ u, s.turnsLun u id m ∧ t = u.busNext (busOf id)) {m : Lun}
    (hm' : l.slot (s.lengthNs / 16) true true = m) : becomes m :=
  h ▸ lunSlotBoundary_turns hl hb hstep hs hm hm'

/-- Settles O54: who takes a slot, how a bus goes on, and how each operation ends are the lemmas of these files. -/
theorem lunsComplete : Obligations.LunsComplete := by
  unfold Obligations.LunsComplete
  refine ⟨fun id slot l s hl => ⟨backgroundDenialExpiry_lun hl, fun hb hstep hs hm becomes hbec => ?_⟩, fun ch s =>
      ⟨backgroundDenialExpiry_bus, fun h => ⟨fun f fs g gs => busNext_both h, fun f fs => busNext_fg h, fun g gs => busNext_bg h⟩⟩,
    fun id k slot l o key b w s hard soft others hf hs hmoves hm hl ho hp hw hb hfind =>
      ⟨lunSlotBoundary_serves hf hs hmoves hm hl ho hp hw hb hfind, lunSlotBoundary_loses hf hs hmoves hm hl ho hp hw hb hfind⟩,
    fun id l o s hf hl ho => ⟨fun hp => ⟨nandOpComplete_reset hf hl ho hp, fun hard soft others => nandOpComplete_read hf hl ho hp _ _ _,
      nandOpComplete_statusError hf hl ho hp, fun b hb => ⟨nandOpComplete_erased hf hl ho hp hb, nandOpComplete_programmed hf hl ho hp hb,
        fun p hblock => ⟨nandOpComplete_eraseFails hf hl ho hp hb hblock, nandOpComplete_programFails hf hl ho hp hb hblock⟩⟩⟩,
      fun hs hr hh => nandOpTimeout_completes hf hl ho hs hr hh⟩,
    fun g n lun b s hf hb hany => eraseDone_completes hf hb hany⟩
  have take {m : Lun} := lunSlotBoundary_offers (m := m) hl hb hstep hs hm becomes hbec
  exact ⟨fun o rest ho hf hq => take (slot_fg ho hf hq), fun o ho hh hf => take (slot_held ho hh hf),
    fun o rest ho hh hq hf => take (slot_next_bg ho hh hq hf), fun o h rest ho hh hq hk hsus => take (slot_suspends ho hh hq hk hsus),
    fun o ho h => take (slot_goesOn ho h)⟩

end Sys2Proof.Laws
end

section
namespace Sys2Proof.Laws
open Sys2Proof Sys2Proof.Machine

/-! # Answers of a port's control and gPTP classes (R142, R151) -/

/-- A frame handed to the urgent queue of a port is its last one, under the next descriptor number. -/
theorem sendUrgent_urgent (s : State) (p : Fin 2) (f : TxFrame) : ((s.sendUrgent p f).port p).urgent =
    (s.port p).urgent ++ [{ f with desc := (s.port p).nextDesc }] :=
  congrArg Port.urgent (modPort_port ..)

theorem sendUrgent_eq (s : State) (p : Fin 2) (f : TxFrame) : s.sendUrgent p f = { s with ports := (s.sendUrgent p f).ports } := rfl

/-- What a frame says whatever its descriptor is true of the frame that waits. -/
theorem sendUrgent_sends {P : TxFrame → Prop} (s : State) (p : Fin 2) (f : TxFrame) (h : ∀ d, P { f with desc := d }) :
    (∃ g, ((s.sendUrgent p f).port p).urgent = (s.port p).urgent ++ [g] ∧ P g) ∧
      s.sendUrgent p f = { s with ports := (s.sendUrgent p f).ports } :=
  ⟨⟨_, sendUrgent_urgent s p f, h _⟩, sendUrgent_eq s p f⟩

/-- A field of a message stands where what precedes it ends. -/
theorem sub_append_field {a b c : Bytes} {i n : Nat} (ha : a.length = i) (hb : b.length = n) : sub (a ++ (b ++ c)) i n = b := by
  subst ha hb
  simp [sub]

theorem arpRequest_completes {p : Fin 2} {s : State} {target : Nat} (vid ip mac : Nat) (hs : s.resolves p = true)
    (ht : (s.net p).ipv4 = some target) : completes (.arpRequestReceive p vid target ip mac) s fun t =>
      (∃ f, (t.port p).urgent = (s.port p).urgent ++ [f] ∧ f.cls = .control ∧ f.vid = vid ∧
        sub f.payload 8 6 = be 6 (s.net p).filter0 ∧ sub f.payload 14 4 = be 4 target) ∧ t = { s with ports := t.ports } := by
  refine ⟨_, congrArg Host.Outcome.next (if_pos ⟨hs, ht⟩), ?_⟩
  refine sendUrgent_sends s p _ fun d => ⟨rfl, rfl, ?_, ?_⟩
  · simp only [TxFrame.make, List.append_assoc]
    simpa only [List.append_assoc] using sub_append_field (a := be 2 1 ++ be 2 0x0800 ++ be 1 6 ++ be 1 4 ++ be 2 2)
      (c := be 4 target ++ (be 6 mac ++ be 4 ip)) (by simp) (length_be 6 _)
  · simp only [TxFrame.make, List.append_assoc]
    simpa only [List.append_assoc] using sub_append_field
      (a := be 2 1 ++ be 2 0x0800 ++ be 1 6 ++ be 1 4 ++ be 2 2 ++ be 6 (s.net p).filter0)
      (c := be 6 mac ++ be 4 ip) (by simp) (length_be 4 target)

theorem neighborSolicitation_completes {p : Fin 2} {s : State} {target : Nat} (vid source : Nat) (hs : s.resolves p = true)
    (ht : target ∈ s.addresses p) (h6 : isV4 target = false) : completes (.neighborSolicitationReceive p vid target source) s fun t =>
      (∃ f, (t.port p).urgent = (s.port p).urgent ++ [f] ∧ f.cls = .control ∧ f.vid = vid ∧ f.dstIp = source ∧
        sub f.payload 2 16 = be 16 target) ∧ t = { s with ports := t.ports } := by
  refine ⟨_, congrArg Host.Outcome.next (if_pos ⟨hs, ht, by simp [h6]⟩), ?_⟩
  refine sendUrgent_sends s p _ fun d => ⟨rfl, rfl, rfl, ?_⟩
  simp only [TxFrame.make, List.append_assoc]
  simpa only [List.append_assoc] using sub_append_field (a := be 1 136 ++ be 1 0)
    (c := be 1 2 ++ (be 1 1 ++ be 6 (s.net p).filter0)) (by simp) (length_be 16 target)

theorem echoRequest_completes {p : Fin 2} {s : State} {k : Packet} {payload : Bytes} (vid : Nat) (hs : s.inService = true)
    (hp : s.portUsable p = true) (hk : k.proto = .echo payload) (hlen : payload.length ≤ 256) (hip : k.dstIp ∈ s.addresses p) :
    completes (.echoRequestReceive p vid k) s fun t =>
      (∃ f, (t.port p).urgent = (s.port p).urgent ++ [f] ∧ f.cls = .control ∧ f.vid = vid ∧ f.dstIp = k.srcIp ∧
        f.payload.drop 2 = payload) ∧ t = { s with ports := t.ports } := by
  refine ⟨s.echoRx p vid k, rfl, ?_⟩
  unfold State.echoRx
  simp only [hk]
  rw [if_pos ⟨hs, hp, hlen, hip⟩]
  exact sendUrgent_sends s p _ fun d => ⟨rfl, rfl, rfl, rfl⟩

/-- An echo request of more than 256 bytes changes nothing. -/
theorem echoRequest_long {p : Fin 2} {s : State} {k : Packet} {payload : Bytes} (vid : Nat) (hk : k.proto = .echo payload)
    (hlen : 256 < payload.length) : exec (.echoRequestReceive p vid k) s = .next s := by
  show Host.Outcome.next (s.echoRx p vid k) = _
  unfold State.echoRx
  simp only [hk]
  rw [if_neg fun h => absurd h.2.2.1 (Nat.not_le.mpr hlen)]

/-! ## Peer delay (R151) -/

theorem pdelayReq_completes {p : Fin 2} {s : State} (seq t2 : Nat) (hs : s.ptpRuns p = true) :
    completes (.pdelayReqReceive p seq t2) s fun t =>
      (∃ f, (t.port p).urgent = (s.port p).urgent ++ [f] ∧ f.cls = .ptp ∧ sub f.payload 1 2 = be 2 seq ∧
        sub f.payload 3 8 = be 8 (t2 - (s.net p).set.ptpRx)) ∧ t = { s with ports := t.ports } := by
  refine ⟨_, congrArg Host.Outcome.next (if_pos hs), ?_⟩
  refine sendUrgent_sends s p _ fun d => ⟨rfl, rfl, ?_⟩
  simpa [TxFrame.make, State.rxStamp] using
    sub_append_field (a := be 1 3 ++ be 2 seq) (b := be 8 (s.rxStamp p t2)) (c := []) (by simp) (length_be 8 _)

theorem pdelayReqSend_completes {p : Fin 2} {s : State} (t1 : Nat) (hs : s.ptpRuns p = true) (hl : (s.port p).link = true) :
    completes (.pdelayReqSend p t1) s fun t =>
      (t.port p).pdelaySent = some ((s.port p).pdelaySeq, t1 + (s.net p).set.ptpTx) ∧
      (t.port p).pdelaySeq = ((s.port p).pdelaySeq + 1) % 65536 ∧
      (∃ f, (t.port p).urgent = (s.port p).urgent ++ [f] ∧ f.cls = .ptp) ∧ t = { s with ports := t.ports } := by
  refine ⟨_, congrArg Host.Outcome.next (if_pos (by simp [hs, hl])), ?_⟩
  have hq : (s.sendPtp p (be 1 2 ++ be 2 (s.port p).pdelaySeq)).port p = _ := modPort_port ..
  dsimp only
  rw [modPort_port, hq]
  exact ⟨rfl, rfl, ⟨_, rfl, rfl⟩, rfl⟩

theorem pdelayResp_exec {p : Fin 2} {s : State} {seq t1 : Nat} (t2 t3 t4 : Nat) (hs : s.ptpRuns p = true)
    (hp : (s.port p).pdelaySent = some (seq, t1)) : exec (.pdelayRespReceive p seq t2 t3 t4) s = .next (s.modPort p fun q =>
      { q with pdelaySent := none, peerDelay := ((t4 - (s.net p).set.ptpRx - t1) - (t3 - t2)) / 2 }) := by
  show Host.Outcome.next (s.pdelayRespRx p seq t2 t3 t4) = _
  unfold State.pdelayRespRx
  simp only [hp]
  rw [if_pos ⟨hs, trivial⟩]
  rfl

end Sys2Proof.Laws
end

section
namespace Sys2Proof.Laws
open Sys2Proof Sys2Proof.Machine

/-! # The timebase's states (R25, R151, R152) -/

/-- A valid Sync makes its port the source where there is none. -/
theorem nextSource_none (p : Fin 2) (count : Nat) : nextSource none p count = some p := rfl

theorem nextSource_same (p : Fin 2) (count : Nat) : nextSource (some p) p count = some p := by
  refine (if_neg fun h => ?_ :)
  exact absurd (h.1.symm.trans h.2.1) (by decide)

theorem gptpSync_completes {p : Fin 2} {s : State} {i : Int} (time : Nat) (hs : s.ptpRuns p = true) (hlo : -5 ≤ i) (hhi : i ≤ 0) :
    completes (.gptpSyncReceive p i time) s fun t =>
      (t.port p).synced = true ∧ (t.port p).syncInterval = i ∧
      (s.tb.source = none → t.tb.source = some p ∧ t.tb.gptp = time + (s.port p).peerDelay + (s.net p).set.ptpRx) ∧
      (s.tb.source = some p → t.tb.gptp = time + (s.port p).peerDelay + (s.net p).set.ptpRx) ∧
      t = { s with ports := t.ports, tb := { s.tb with source := t.tb.source, gptp := t.tb.gptp } } := by
  have hi : syncIntervalOk i = true := decide_eq_true ⟨hlo, hhi⟩
  have hq := modPort_port s p fun q => { q with synced := true, syncInterval := i, syncCount := q.syncCount + 1 }
  refine ⟨_, congrArg Host.Outcome.next (if_pos (by rw [hs, hi]; rfl)), ?_⟩
  refine ⟨congrArg Port.synced hq, congrArg Port.syncInterval hq, fun hn => ?_, fun hp => ?_, rfl⟩
  · simp [State.modTb, hn, nextSource_none]
  · simp [State.modTb, hp, nextSource_same]

/-! ## Changes of the timebase's state (Table 2.1) -/

/-- The timebase in another state: what `setTb` leaves of it. -/
def turned (v : TbState) (b : Timebase) : Timebase := { b with state := v, ppsOut := b.ppsOut && v.disciplined }

/-- A state that fences no unit: reports and events apart, only the timebase turns. -/
theorem setTb_quiet {s : State} {v : TbState} (hv : v.fences = false) (h : s.tb.state ≠ v) :
    quiet (s.setTb v) = quiet (s.modTb (turned v)) := by
  unfold State.setTb
  rw [if_neg h]
  simp only [hv, Bool.false_eq_true, ↓reduceIte, ite_quiet, pulse_quiet, report_quiet, ite_self]
  rfl

theorem setTb_units {s : State} {v : TbState} (hv : v.fences = false) : (s.setTb v).units = s.units := by
  unfold State.setTb
  split
  · rfl
  · simp only [hv, Bool.false_eq_true, ↓reduceIte]
    split
    · exact pulse_units ..
    · rfl

theorem fenceOwn_fields (s : State) (rule : Nat) :
    (s.fenceOwn rule).tb = s.tb ∧ (s.fenceOwn rule).store = s.store ∧ (s.fenceOwn rule).seq = s.seq := by
  unfold State.fenceOwn
  split
  · exact ⟨rfl, rfl, rfl⟩
  · next c _ =>
    extract_lets id s1
    split
    · have h : quiet ((s1.report 0x0801 3 (be 1 rule ++ be 6 s.tb.measure) (some 6)).pulse 45) = quiet s1 := by simp
      have hl : quiet (s.lowerData id .fenced) = quiet s := lowerData_quiet ..
      have h1 : s1.tb = s.tb ∧ s1.store = s.store ∧ s1.seq = s.seq := 
        ⟨(tb_of_quiet hl :), (store_of_quiet hl :), (seq_of_quiet hl :)⟩
      exact ⟨(tb_of_quiet h).trans h1.1, (store_of_quiet h).trans h1.2.1, (seq_of_quiet h).trans h1.2.2⟩
    · exact ⟨rfl, rfl, rfl⟩

/-- The drive's own member unit is FENCED or below once it is fenced. -/
theorem fenceOwn_fenced {s : State} {c : Chorus} (rule : Nat) (hc : s.store.chorus = some c) :
    ((s.fenceOwn rule).dataView (0x6000 + c.self)).num ≤ 1 := by
  unfold State.fenceOwn
  simp only [hc]
  split
  · rw [dataView_of_units (pulse_units ..)]
    exact lowerData_le_state s (0x6000 + c.self) .fenced
  · next h => exact Nat.not_lt.mp h

/-- HOLDOVER ends in FREERUN: PPS_OUT is low and the drive's member unit FENCED. -/
theorem holdoverExpiry_completes {s : State} (h : s.tb.state = .holdover) : completes .holdoverExpiry s fun t =>
    t.tb.state = .freerun ∧ t.tb.ppsOut = false ∧ t.tb.measure = s.tb.measure ∧
    (∀ c, s.store.chorus = some c → (t.dataView (0x6000 + c.self)).num ≤ 1) ∧ t.store = s.store ∧ t.seq = s.seq := by
  refine ⟨_, congrArg Host.Outcome.next (if_pos h), ?_⟩
  have heq : s.setTb .freerun =
      ((s.modTb (turned .freerun)).report 0x0201 2 (be 1 s.tb.state.num ++ be 1 TbState.freerun.num)).fenceOwn 3 := by
    unfold State.setTb
    rw [if_neg (by rw [h]; nofun)]
    simp only [h, reduceCtorEq, ↓reduceIte]
    rfl
  rw [heq]
  generalize hu : (s.modTb (turned .freerun)).report 0x0201 2 (be 1 s.tb.state.num ++ be 1 TbState.freerun.num) = u
  have htb : u.tb = turned .freerun s.tb := hu ▸ rfl
  have hst : u.store = s.store := hu ▸ rfl
  have hsq : u.seq = s.seq := hu ▸ rfl
  obtain ⟨h1, h2, h3⟩ := fenceOwn_fields u 3
  refine ⟨?_, ?_, ?_, fun c hc => fenceOwn_fenced 3 (hst ▸ hc), h2.trans hst, h3.trans hsq⟩
  · rw [h1, htb]; rfl
  · rw [h1, htb]; exact Bool.and_false _
  · rw [h1, htb]; rfl

/-! ## Loss of synchronisation (R25, R151) -/

theorem other_port {p o : Fin 2} (h : o ≠ p) : (if p = 0 then 1 else 0) = o := by
  revert h
  revert p o
  decide

/-- A port that lost its Syncs. -/
def unsynced (s : State) (p : Fin 2) : State := s.modPort p fun q => { q with synced := false, syncCount := 0 }

theorem syncLoss_exec {p o : Fin 2} {s : State} (ho : o ≠ p) (hp : s.tb.source = some p) : exec (.syncLoss p) s = .next
    (if (s.port o).synced then (unsynced s p).modTb fun t => { t with source := some o }
      else ((unsynced s p).modTb fun t => { t with source := none }).setTb s.tb.state.afterLoss) := by
  refine congrArg Host.Outcome.next ((if_pos hp).trans ?_)
  rw [other_port ho]
  rfl

/-- Another port that is synchronised becomes the source. -/
theorem syncLoss_turns {p o : Fin 2} {s : State} (ho : o ≠ p) (hp : s.tb.source = some p) (hs : (s.port o).synced = true) :
    completes (.syncLoss p) s fun t =>
      t.tb = { s.tb with source := some o } ∧ (t.port p).synced = false ∧ t = { s with ports := t.ports, tb := t.tb } := by
  refine ⟨_, (syncLoss_exec ho hp).trans (congrArg Host.Outcome.next (if_pos hs)), rfl, ?_, rfl⟩
  exact congrArg Port.synced (modPort_port s p fun q => { q with synced := false, syncCount := 0 })

/-- With no other port synchronised LOCKED goes to HOLDOVER. -/
theorem syncLoss_holds {p o : Fin 2} {s : State} (ho : o ≠ p) (hp : s.tb.source = some p) (hs : (s.port o).synced = false)
    (hl : s.tb.state = .locked) : completes (.syncLoss p) s fun t =>
      t.tb.state = .holdover ∧ t.tb.source = none ∧ t.tb.measure = s.tb.measure ∧ t.tb.ppsOut = s.tb.ppsOut ∧ t.units = s.units ∧
      t.store = s.store := by
  refine ⟨_, (syncLoss_exec ho hp).trans (congrArg Host.Outcome.next (if_neg (by simp [hs]))), ?_⟩
  rw [hl]
  have hq := setTb_quiet (s := (unsynced s p).modTb fun t => { t with source := none }) (v := .holdover) rfl
    (by show s.tb.state ≠ _; rw [hl]; nofun)
  have htb := tb_of_quiet hq
  refine ⟨?_, ?_, ?_, ?_, setTb_units rfl, (store_of_quiet hq :)⟩
  · exact congrArg Timebase.state htb
  · exact (congrArg Timebase.source htb :)
  · exact (congrArg Timebase.measure htb :)
  · exact (congrArg Timebase.ppsOut htb :).trans (Bool.and_true _)

/-! ## PPS (R29, R152) -/

theorem takes_service {s : State} (hm : s.power.mode = .service) (hr : s.power.inReset = false) (p : Nat) (c : Fin 32) :
    s.takes p c = true ↔ (s.chan c).cfg.enable = true ∧ (s.chan c).cfg.producers.getLsbD p = true := by
  simp [State.takes, State.channelRuns, hm, hr]

theorem ppsIn_completes {s : State} (time : Nat) (hr : s.power.inReset = false) (hm : s.power.mode = .service) :
    completes (.ppsInEdge time) s fun t =>
      (s.modTb fun x => { x with ppsTime := time, ppsCount := bump x.ppsCount }).injects t fun c =>
        (s.chan c).cfg.enable = true ∧ (s.chan c).cfg.producers.getLsbD 36 = true := by
  refine ⟨_, congrArg Host.Outcome.next (if_neg (by simp [hr, hm])), ?_⟩
  have h := pulse_injects (s := s.modTb fun x => { x with ppsTime := time, ppsCount := bump x.ppsCount }) (p := 36)
    (by simp [State.producerAlive, hm])
  have ht : (fun c => (s.modTb fun x => { x with ppsTime := time, ppsCount := bump x.ppsCount }).takes 36 c = true) =
      fun c => (s.chan c).cfg.enable = true ∧ (s.chan c).cfg.producers.getLsbD 36 = true :=
    funext fun c => propext (takes_service (s := s.modTb _) hm hr 36 c)
  rwa [ht] at h

theorem disciplined_of {v : TbState} (h : v = .locked ∨ v = .aligning ∨ v = .holdover) : v.disciplined = true := by
  rcases h with rfl | rfl | rfl <;> rfl

/-! ## The obligation -/

/-- Settles O40, from the answer of each frame and the change that each timing event makes. -/
theorem addressesAndTimeComplete : Obligations.AddressesAndTimeComplete := by
  refine ⟨fun p s vid => ⟨fun target ip mac hs => ⟨arpRequest_completes vid ip mac hs, fun h => ?_⟩,
    fun target source hs => ⟨neighborSolicitation_completes vid source hs, fun h => ?_⟩,
    fun k payload hs hp hk => ⟨echoRequest_completes vid hs hp hk, echoRequest_long vid hk⟩⟩,
    fun p s => ⟨?_, ?_, ?_, ?_, ?_, ?_, ?_, ?_, ?_, ?_⟩⟩
  · exact congrArg Host.Outcome.next (if_neg fun hc => h hc.2)
  · exact congrArg Host.Outcome.next (if_neg fun hc => h hc.2.1)
  · exact fun i time hs hlo hhi => gptpSync_completes time hs hlo hhi
  · exact fun o ho hp => ⟨syncLoss_turns ho hp, syncLoss_holds ho hp⟩
  · exact holdoverExpiry_completes
  · exact fun hm hr => if_pos ⟨hm, by simp [hr]⟩
  · exact fun seq t2 hs => pdelayReq_completes seq t2 hs
  · exact fun t1 hs hl => pdelayReqSend_completes t1 hs hl
  · exact fun seq t1 t2 t3 t4 hs hp => pdelayResp_exec t2 t3 t4 hs hp
  · exact fun time hr hm => ppsIn_completes time hr hm
  · exact fun h => congrArg Host.Outcome.next (if_pos (disciplined_of h))
  · rfl

end Sys2Proof.Laws
end

section
namespace Sys2Proof.Laws
open Sys2Proof Sys2Proof.Machine

/-! # What leaves the power controller and the timebase as they are (Tables 2.1, 12.2)

The effects of commands at a boundary, the change of views and the tests of the start-up. -/

/-- The power controller and the timebase, but for whether a tick is running. -/
def awake (s : State) : Power × Timebase := (s.power, { s.tb with ticking := false })

@[simp] theorem foldl_awake {α : Type} {f : State → α → State} (h : ∀ t a, awake (f t a) = awake t) (l : List α) (s : State) :
    awake (l.foldl f s) = awake s := foldl_keeps h l s
@[simp] theorem ite_awake {c : Prop} [Decidable c] {a b : State} : awake (if c then a else b) = if c then awake a else awake b :=
  apply_ite ..
@[simp] theorem ite_fst_awake {α : Type} {c : Prop} [Decidable c] {a b : State × α} :
    awake (if c then a else b).1 = if c then awake a.1 else awake b.1 := by split <;> rfl
@[simp] theorem ticking_awake (s : State) (b : Bool) : awake (s.modTb fun t => { t with ticking := b }) = awake s := by rfl
@[simp] theorem withFresh_awake (s : State) (n : Nat) : awake { s with fresh := n } = awake s := by rfl
@[simp] theorem modSeq_awake (s : State) (f : Sequencer → Sequencer) : awake (s.modSeq f) = awake s := by rfl
@[simp] theorem modNor_awake (s : State) (f : Nor → Nor) : awake (s.modNor f) = awake s := by rfl
@[simp] theorem modStore_awake (s : State) (f : Store → Store) : awake (s.modStore f) = awake s := by rfl
@[simp] theorem modSettings_awake (s : State) (f : Settings → Settings) : awake (s.modSettings f) = awake s := by rfl
@[simp] theorem modCoda_awake (s : State) (f : Coda → Coda) : awake (s.modCoda f) = awake s := by rfl
@[simp] theorem modFlash_awake (s : State) (f : Flash → Flash) : awake (s.modFlash f) = awake s := by rfl
@[simp] theorem modLks_awake (s : State) (f : LksArray → LksArray) : awake (s.modLks f) = awake s := by rfl
@[simp] theorem modFabric_awake (s : State) (f : Fabric → Fabric) : awake (s.modFabric f) = awake s := by rfl
@[simp] theorem modChorus_awake (s : State) (f : ChorusRun → ChorusRun) : awake (s.modChorus f) = awake s := by rfl
@[simp] theorem modPort_awake (s : State) (p : Fin 2) (f : Port → Port) : awake (s.modPort p f) = awake s := by rfl
@[simp] theorem modNet_awake (s : State) (p : Fin 2) (f : PortNet → PortNet) : awake (s.modNet p f) = awake s := by rfl
@[simp] theorem modMbx_awake (s : State) (m : Fin 8) (f : Mailbox → Mailbox) : awake (s.modMbx m f) = awake s := by rfl
@[simp] theorem modChan_awake (s : State) (c : Fin 32) (f : Chan → Chan) : awake (s.modChan c f) = awake s := by rfl
@[simp] theorem count_awake (s : State) (p : Fin 2) (c : Ctr) (n : Nat) : awake (s.count p c n) = awake s := by rfl
@[simp] theorem draw_awake (s : State) (bits : Nat) : awake (s.draw bits).2 = awake s := by rfl
@[simp] theorem drawn_awake (s : State) : awake (s.drawn) = awake s := by rfl
@[simp] theorem report_awake (s : State) (code : Nat) (source : Nat) (payload : Bytes) (trigger : Option Nat) (secure : Bool) :
    awake (s.report code source payload trigger secure) = awake s := by
  rfl
@[simp] theorem inject_awake (s : State) (c : Fin 32) : awake (s.inject c) = awake s := by rfl
@[simp] theorem injectAll_awake (s : State) (cs : List (Fin 32)) : awake (s.injectAll cs) = awake s := by simp [State.injectAll]
@[simp] theorem pulseAll_awake (s : State) (ps : List Nat) : awake (s.pulseAll ps) = awake s := by simp [State.pulseAll]
@[simp] theorem pulse_awake (s : State) (p : Nat) : awake (s.pulse p) = awake s := by simp [State.pulse]
@[simp] theorem modUnit_awake (s : State) (id : Nat) (f : HwUnit → HwUnit) : awake (s.modUnit id f) = awake s := by rfl
@[simp] theorem noteViews_awake (s : State) (id : Nat) (age : Nat) : awake (s.noteViews id age) = awake s := by
  unfold State.noteViews
  split <;> simp
@[simp] theorem viewsMoved_awake (s : State) (id : Nat) (age : Nat) : awake (s.viewsMoved id age) = awake s := by
  simp [State.viewsMoved]
@[simp] theorem lowerData_awake (s : State) (id : Nat) (v : UnitState) : awake (s.lowerData id v) = awake s := by
  unfold State.lowerData
  split <;> simp
@[simp] theorem raiseData_awake (s : State) (id : Nat) (v : UnitState) : awake (s.raiseData id v) = awake s := by
  unfold State.raiseData
  split <;> simp
@[simp] theorem enqueue_awake (s : State) (p : Fin 2) (f : TxFrame) : awake (s.enqueue p f) = awake s := by rfl
@[simp] theorem sendUrgent_awake (s : State) (p : Fin 2) (f : TxFrame) : awake (s.sendUrgent p f) = awake s := by rfl
@[simp] theorem sendTo_awake (s : State) (src : Source) (data : Bool) (session : Option Nat) (notify : Option Nat) (payload : Bytes) :
    awake (s.sendTo src data session notify payload) = awake s := by
  rfl
@[simp] theorem sendPause_awake (s : State) (p : Fin 2) (quanta : Nat) : awake (s.sendPause p quanta) = awake s := by rfl
@[simp] theorem flowCheck_awake (s old : State) (p : Fin 2) : awake (s.flowCheck old p) = awake s := by simp [State.flowCheck]
@[simp] theorem modSession_awake (s : State) (id : Nat) (f : Session → Session) : awake (s.modSession id f) = awake s := by rfl
@[simp] theorem modReplay_awake (s : State) (id : Nat) (seq : Nat) (f : Replay → Replay) :
    awake (s.modReplay id seq f) = awake s := by
  rfl
@[simp] theorem completeMailbox_awake (s : State) (m : Fin 8) (opcode : Nat) (sequence : Nat) (status : Status) (measure : Nat)
    (result : Bytes) :
    awake (s.completeMailbox m opcode sequence status measure result) = awake s := by
  unfold State.completeMailbox
  split <;> simp
@[simp] theorem sendPieces_awake (s : State) (r : Reply) (more : Bool) (k : Nat) (l : List (Nat × Nat × Bytes × Bytes)) :
    awake (s.sendPieces r more k l) = awake s := by
  induction l generalizing s k with
  | nil => rfl
  | cons pc l ih => simp [State.sendPieces, ih]
@[simp] theorem replyDone_awake (s : State) (r : Reply) : awake (s.replyDone r) = awake s := by simp [State.replyDone]
@[simp] theorem placeReply_awake (s : State) (r : Reply) : awake (s.placeReply r) = awake s := by
  unfold State.placeReply
  split <;> simp
@[simp] theorem dropReplies_awake (s : State) (p : Reply → Bool) : awake (s.dropReplies p) = awake s := by simp [State.dropReplies]
@[simp] theorem schedule_awake (s : State) (r : Reply) : awake (s.schedule r) = awake s := by simp [State.schedule]
@[simp] theorem refuse_awake (s : State) (st : Status) : awake (refuse s st).1 = awake s := by rfl
@[simp] theorem okay_awake (s : State) (result : Bytes) : awake (okay s result).1 = awake s := by rfl
@[simp] theorem linkChanged_awake (s : State) (p : Fin 2) (up : Bool) (rate : Nat) : awake (s.linkChanged p up rate) = awake s := by
  simp [State.linkChanged]
@[simp] theorem dropLink_awake (s : State) (p : Fin 2) : awake (s.dropLink p) = awake s := by simp [State.dropLink]
@[simp] theorem phySilent_awake (s : State) (p : Fin 2) : awake (s.phySilent p) = awake s := by simp [State.phySilent]
@[simp] theorem setTables_awake (s : State) (t : Tables) : awake (s.setTables t) = awake s := by rfl
@[simp] theorem endWatch_awake (s : State) (w : Watch) (reason : Nat) (m : Nat) : awake (s.endWatch w reason m) = awake s := by
  simp [State.endWatch]
@[simp] theorem removeNs_awake (s : State) (id : Nat) (m : Nat) : awake (s.removeNs id m) = awake s := by simp [State.removeNs]
@[simp] theorem modLun_awake (s : State) (id : Nat) (f : Lun → Lun) : awake (s.modLun id f) = awake s := by rfl
@[simp] theorem submit_awake (s : State) (lun : Nat) (o : NandOp) : awake (s.submit lun o) = awake s := by simp [State.submit]
@[simp] theorem nsDelete_awake (n : Namespace) (m : Nat) (s : State) : awake (nsDelete n m s).1 = awake s := by simp [nsDelete]
@[simp] theorem setQuota_awake (n : Namespace) (quota : Nat) (guarantee : Nat) (s : State) :
    awake (setQuota n quota guarantee s).1 = awake s := by
  simp [setQuota]
@[simp] theorem ledgerTrim_awake (n : Namespace) (r : Nat) (m : Nat) (s : State) : awake (ledgerTrim n r m s).1 = awake s := by
  simp [ledgerTrim]
@[simp] theorem setRetention_awake (n : Namespace) (r : Nat) (s : State) : awake (setRetention n r s).1 = awake s := by
  simp [setRetention]
@[simp] theorem loseCascade_awake (s : State) : awake (s.loseCascade) = awake s := by simp [State.loseCascade]
@[simp] theorem atE_awake (s : State) (f : Chorus → Res) (h : ∀ k, awake (f k).1 = awake s) : awake (atE s f).1 = awake s := by
  unfold atE
  split
  · simp
  · exact h _
@[simp] theorem formApply_awake (c : SealedCmd) (s : State) : awake (formApply c s).1 = awake s := by
  simp only [formApply]
  split
  · rfl
  · split
    · rfl
    · exact (drawn_awake _).trans (by simp)
@[simp] theorem leaveChorus_awake (s : State) (c : Chorus) : awake (s.leaveChorus c) = awake s := by
  unfold State.leaveChorus
  extract_lets s0 waiting s1 s2
  have h : awake s1 = awake s := by simp [s1, s0]
  exact h
@[simp] theorem checkpointApply_awake (c : SealedCmd) (s : State) : awake (checkpointApply c s).1 = awake s := by
  simp [checkpointApply]
@[simp] theorem restoreEndApply_awake (c : SealedCmd) (s : State) : awake (restoreEndApply c s).1 = awake s := by
  refine atE_awake _ _ fun k => ?_
  split <;> simp
@[simp] theorem chorusQuota_awake (k : Chorus) (n : Namespace) (quota : Nat) (s : State) :
    awake (chorusQuota k n quota s).1 = awake s := by
  simp [chorusQuota]
@[simp] theorem innerApply_awake (op : Nat) (b : Bytes) (m : Nat) (s : State) : awake (innerApply op b m s).1 = awake s := by
  unfold innerApply
  split
  · rfl
  · split
    · rfl
    · refine atE_awake _ _ fun k => ?_
      simp
@[simp] theorem onPort_awake (b : Bytes) (s : State) (f : Fin 2 → Res) (h : ∀ p, awake (f p).1 = awake s) :
    awake (onPort b s f).1 = awake s := by
  unfold onPort
  split
  · exact h _
  · simp
@[simp] theorem applyPort_awake (s : State) (p : Fin 2) (t : PortSettings) : awake (s.applyPort p t) = awake s := by
  simp [State.applyPort]
@[simp] theorem setChan_awake (s : State) (c : Fin 32) (f : ChanCfg → ChanCfg) : awake (s.setChan c f) = awake s := by rfl
@[simp] theorem configureApply_awake (c : SealedCmd) (s : State) : awake (configureApply c s).1 = awake s := by
  unfold configureApply
  split <;> simp
@[simp] theorem raiseWarn_awake (s : State) (w : Nat) (unit : Option Nat) : awake (s.raiseWarn w unit) = awake s := by
  simp only [State.raiseWarn, State.draw]
  split
  · rfl
  · cases unit
    · exact (pulse_awake _ _).trans rfl
    · simp
@[simp] theorem checkWarn_awake (s : State) (w : Nat) : awake (s.checkWarn w) = awake s := by simp [State.checkWarn]
@[simp] theorem checkWarns_awake (s : State) : awake (s.checkWarns) = awake s := by simp [State.checkWarns]
@[simp] theorem queueErases_awake (s : State) : awake (s.queueErases) = awake s := by simp [State.queueErases]
@[simp] theorem stillDegraded_awake (s : State) (id : Nat) : awake (s.stillDegraded id) = awake s := by rfl
@[simp] theorem raiseDegraded_awake (s : State) (id : Nat) : awake (s.raiseDegraded id) = awake s := by simp [State.raiseDegraded]
@[simp] theorem raiseMember_awake (s : State) (u : HwUnit) : awake (s.raiseMember u) = awake s := by simp [State.raiseMember]
@[simp] theorem raiseBank_awake (s : State) (u : HwUnit) : awake (s.raiseBank u) = awake s := by simp [State.raiseBank]
@[simp] theorem raiseRank_awake (s : State) (u : HwUnit) : awake (s.raiseRank u) = awake s := by simp [State.raiseRank]
@[simp] theorem raiseLun_awake (s : State) (u : HwUnit) : awake (s.raiseLun u) = awake s := by simp [State.raiseLun]
@[simp] theorem raiseChannel_awake (s : State) (u : HwUnit) : awake (s.raiseChannel u) = awake s := by
  simp only [State.raiseChannel, State.draw]
  split
  · rfl
  · split <;> simp
@[simp] theorem raisePort_awake (s : State) (p : Fin 2) (u : HwUnit) : awake (s.raisePort p u) = awake s := by simp [State.raisePort]
@[simp] theorem raiseUnit_awake (s : State) (u : HwUnit) : awake (s.raiseUnit u) = awake s := by
  unfold State.raiseUnit
  split <;> simp
@[simp] theorem raiseViews_awake (s : State) : awake (s.raiseViews) = awake s := by simp [State.raiseViews]
@[simp] theorem boundaryUnits_awake (s : State) : awake (s.boundaryUnits) = awake s := by simp [State.boundaryUnits]
@[simp] theorem endTick_awake (s : State) (before : List (Nat × UnitState × UnitState)) : awake (s.endTick before) = awake s := by
  simp [State.endTick]
@[simp] theorem tickPulses_awake (s : State) : awake (s.tickPulses) = awake s := by simp [State.tickPulses]
@[simp] theorem placeFixed_awake (s : State) : awake (s.placeFixed) = awake s := by
  unfold State.placeFixed
  split <;> simp
@[simp] theorem startLuns_awake (s : State) : awake (s.startLuns) = awake s := by
  unfold State.startLuns
  split <;> rfl
@[simp] theorem startTests_awake (s : State) (f : Found) : awake (s.startTests f) = awake s := by simp [State.startTests]
@[simp] theorem startMedia_awake (s : State) (f : Found) : awake (s.startMedia f) = awake s := by simp [State.startMedia]

@[simp] theorem discard_awake (s : State) (p : Fin 2) : awake (s.discard p) = awake s := by rfl
@[simp] theorem dropOnTime_awake (s : State) (e : Nat) : awake (s.dropOnTime e) = awake s := by simp [State.dropOnTime]

/-! ## The effect of a command at its boundary -/

/-- The effect of a command at the boundary leaves the power controller and the timebase. -/
def boundaryAwake (d : CmdDef) : Prop := ∀ (c : SealedCmd) (s : State), awake (d.later c s).1 = awake s

theorem commandsDevice_awake : ∀ d ∈ commandsDevice, boundaryAwake d := by
  simp [commandsDevice, boundaryAwake, CmdDef.base, cmdDeviceIdentify, cmdDeviceEcho, cmdDeviceStartupStatus, cmdDeviceEnterCustody,
    cmdDeviceSetThermal, cmdDeviceReset, cmdDevicePowerStatus, cmdTimeStatus, cmdTimeSetLength, cmdTimeSealLog, cmdUnitQuery,
    cmdUnitSetState, cmdUnitList]
theorem commandsNamespaces_awake : ∀ d ∈ commandsNamespaces, boundaryAwake d := by
  simp [commandsNamespaces, boundaryAwake, CmdDef.base, cmdNamespaceCreate, cmdNamespaceDelete, cmdNamespaceSetQuota, cmdNamespaceInfo,
    cmdNamespaceList, cmdNamespaceDigest, cmdNamespaceLedgerHead, cmdNamespaceLedgerTrim, cmdNamespaceSetRetention,
    cmdNamespaceLedgerExport, cmdNamespaceValueDigest]
theorem commandsLarkspur_awake : ∀ d ∈ commandsLarkspur, boundaryAwake d := by
  simp [commandsLarkspur, boundaryAwake, CmdDef.base, cmdSearchEntryWrite, cmdSearchEntryDelete, cmdSearchSetTables, cmdSearchPatternLoad,
    cmdSearchPatternUnload, cmdSearchCascadeSet, cmdSearchCascadeSwitch, cmdSearchProbe, cmdSearchStats]
theorem commandsNet_awake : ∀ d ∈ commandsNet, boundaryAwake d := by
  simp [commandsNet, boundaryAwake, CmdDef.base, cmdNetSetPort, cmdNetSetFilter, cmdNetSetAddress, cmdNetSetMgmtPeers, cmdNetSetHeartbeat,
    cmdNetMacsecPolicy, cmdNetMacsecInstallSa, cmdNetMacsecRemoveSa, cmdNetPhyReset, cmdNetMdioWrite, cmdNetMdioRead, cmdNetTxFlush,
    cmdNetPortStatus, cmdNetCounters]
theorem commandsMedia_awake : ∀ d ∈ commandsMedia, boundaryAwake d := by
  simp [commandsMedia, boundaryAwake, CmdDef.base, cmdMediaFormat, cmdMediaSetReadPolicy, cmdMediaSetWarn, cmdMediaAckWarnings,
    cmdMediaHealth, cmdMediaLunHealth]
theorem commandsChorus_awake : ∀ d ∈ commandsChorus, boundaryAwake d := by
  simp [commandsChorus, boundaryAwake, CmdDef.base, cmdChorusForm, cmdChorusLeave, cmdChorusStatus, cmdChorusCheckpoint,
    cmdChorusCheckpointEnd, cmdChorusRestoreEnd, cmdChorusNsCommand, cmdChorusPark, cmdChorusResume]
theorem commandsEvents_awake : ∀ d ∈ commandsEvents, boundaryAwake d := by
  simp [commandsEvents, boundaryAwake, CmdDef.base, cmdEventConfigure, cmdEventSetOwner, cmdEventLock, cmdEventEvioConfig,
    cmdEventSetParams, cmdEventTrigger, cmdEventQuery, cmdEventClear]
  intro c s
  split <;> simp
theorem commandsUpdate_awake : ∀ d ∈ commandsUpdate, boundaryAwake d := by
  simp [commandsUpdate, boundaryAwake, CmdDef.base, cmdUpdateStatus, cmdUpdateStage, cmdUpdateActivate, cmdUpdateConfirm,
    cmdUpdateRollback, cmdUpdateDiscard, cmdUpdateRdlBegin, cmdUpdateRdlData, cmdUpdateRdlEnd, CmdDef.recoveryOnly]
theorem commandsCoda_awake : ∀ d ∈ commandsCoda, boundaryAwake d := by
  simp [commandsCoda, boundaryAwake, CmdDef.base, cmdCodaRead, cmdCodaList, cmdCodaFreeze, cmdCodaSetTriggers, cmdCodaKeep]
theorem commandsSecurity_awake : ∀ d ∈ commandsSecurity, boundaryAwake d := by
  simp [commandsSecurity, boundaryAwake, CmdDef.base, cmdSecurityMrsUnlock, cmdSecurityMrsLock, cmdSecuritySetMailboxOwner,
    cmdSecurityLedgerKey, cmdSecurityProvision, cmdSecurityStatus]

theorem boundaryAwake_of_commandOf {op : Nat} {d : CmdDef} (h : commandOf op = some d) : boundaryAwake d := by
  have h := List.mem_of_find?_eq_some h
  simp only [commands, List.mem_append] at h
  obtain ((((((((h | h) | h) | h) | h) | h) | h) | h) | h) | h := h
  · exact commandsDevice_awake d h
  · exact commandsNamespaces_awake d h
  · exact commandsLarkspur_awake d h
  · exact commandsNet_awake d h
  · exact commandsMedia_awake d h
  · exact commandsChorus_awake d h
  · exact commandsEvents_awake d h
  · exact commandsUpdate_awake d h
  · exact commandsCoda_awake d h
  · exact commandsSecurity_awake d h

@[simp] theorem boundaryCommands_awake (s : State) : awake s.boundaryCommands = awake s := by
  refine (foldl_awake (fun t c => ?_) _ _).trans (by simp)
  cases hd : commandOf c.opcode with
  | none => rfl
  | some d => exact boundaryAwake_of_commandOf hd c t

end Sys2Proof.Laws
end

section
namespace Sys2Proof.Laws
open Sys2Proof Sys2Proof.Machine

/-! # The first measure (R28, R304, R308) -/

theorem awake_fields {s t : State} (h : awake t = awake s) : t.power = s.power ∧ t.tb.opened = s.tb.opened ∧
    t.tb.measure = s.tb.measure ∧ t.tb.highest = s.tb.highest ∧ t.tb.persisted = s.tb.persisted ∧ t.tb.source = s.tb.source ∧
    t.tb.state = s.tb.state := by
  obtain ⟨hp, htb⟩ := Prod.mk.inj h
  exact ⟨hp, (congrArg Timebase.opened htb :), (congrArg Timebase.measure htb :), (congrArg Timebase.highest htb :),
    (congrArg Timebase.persisted htb :), (congrArg Timebase.source htb :), (congrArg Timebase.state htb :)⟩

/-! ## The measure that opens -/

theorem fenceOwn_power (s : State) (rule : Nat) : (s.fenceOwn rule).power = s.power := by
  unfold State.fenceOwn
  split
  · rfl
  · next c _ =>
    extract_lets id s1
    split
    · have h : quiet ((s1.report 0x0801 3 (be 1 rule ++ be 6 s.tb.measure) (some 6)).pulse 45) = quiet s1 := by simp
      exact (power_of_quiet h).trans (power_of_quiet (lowerData_quiet s id .fenced) :)
    · rfl

/-- Entering a timebase state leaves the power controller; the state is then in force. -/
theorem setTb_enters (s : State) (v : TbState) : (s.setTb v).power = s.power ∧ (s.setTb v).tb.state = v := by
  unfold State.setTb
  split
  · next h => exact ⟨rfl, h⟩
  · extract_lets s1 s2 s3
    have hq : quiet s3 = quiet s1 := by
      simp only [s3, s2]
      split <;> simp
    have h3 : s3.power = s.power ∧ s3.tb.state = v := 
      ⟨(power_of_quiet hq :), (congrArg Timebase.state (tb_of_quiet hq) :)⟩
    split
    · exact ⟨(fenceOwn_power ..).trans h3.1, (congrArg Timebase.state (fenceOwn_fields s3 3).1).trans h3.2⟩
    · exact h3

theorem openMeasure_enters (s : State) (o : Opening) : (s.openMeasure o).power = s.power ∧ (s.openMeasure o).tb.state = o.state := by
  unfold State.openMeasure
  extract_lets m skip s1 s2
  have hp : s2.power = s.power := by
    simp only [s2]
    split
    · exact (power_of_quiet (pulse_quiet ..)).trans rfl
    · rfl
  exact ⟨(setTb_enters s2 o.state).1.trans hp, (setTb_enters s2 o.state).2⟩

/-- The number of the first measure is at least 8 above the last persisted one and above every number opened before. -/
theorem firstOpening_low (s : State) (time : Nat) :
    max (s.tb.persisted + 8) (s.tb.highest + 1) ≤ (s.firstOpening time).number := by
  unfold State.firstOpening
  extract_lets low a g n t v
  split
  · exact Nat.le_max_left ..
  · split
    · exact le_rfl
    · exact Nat.le_max_left ..

/-- Without gPTP and not after Custody it is the lowest such number, in FREERUN. -/
theorem firstOpening_alone {s : State} (time : Nat) (hf : s.power.flags.getLsbD 10 = false) (hs : s.tb.source = none) :
    (s.firstOpening time).number = max (s.tb.persisted + 8) (s.tb.highest + 1) ∧ (s.firstOpening time).state = .freerun := by
  unfold State.firstOpening
  simp only [hf, hs, Bool.false_eq_true, ↓reduceIte, Option.isNone_none, and_self]

/-! ## The boundary of the first measure -/

theorem migrate_awake (s : State) : awake s.migrate = awake s := by
  unfold State.migrate
  extract_lets i v old s1
  split <;> rfl

/-- What follows the opening of the first measure: its boundary, the watchdog and the tick's pulses. -/
def firstBoundary (s : State) (before : List (Nat × UnitState × UnitState)) : State :=
  (((s.modTb fun t => { t with ticking := true }).boundaryCommands.boundaryUnits.endTick before).checkWarns).serveWatchdog.tickPulses

/-- The watchdog changes ALIVE alone. -/
theorem serveWatchdog_awake (s : State) : ∃ a, awake s.serveWatchdog = ({ s.power with alive := a }, (awake s).2) := by
  unfold State.serveWatchdog
  split
  · exact ⟨_, rfl⟩
  · exact ⟨_, rfl⟩

theorem firstBoundary_awake (s : State) (before : List (Nat × UnitState × UnitState)) :
    ∃ a, awake (firstBoundary s before) = ({ s.power with alive := a }, (awake s).2) := by
  unfold firstBoundary
  generalize hu : (((s.modTb fun t => { t with ticking := true }).boundaryCommands.boundaryUnits.endTick before).checkWarns) = u
  have h : awake u = awake s := by simp [← hu]
  obtain ⟨a, ha⟩ := serveWatchdog_awake u
  refine ⟨a, ?_⟩
  rw [tickPulses_awake, ha, h, (awake_fields h).1]

/-- HOLDUP_OK low in Service sets HOLDUP_LOW, with its report; nothing else of the power controller or the timebase changes. -/
theorem noteHoldup_awake (s : State) : (s.noteHoldup).tb = s.tb ∧
    (s.noteHoldup).power = { s.power with holdupLow := s.power.holdupLow || (!s.power.holdupOk && s.inService) } := by
  unfold State.noteHoldup
  cases hc : !s.power.holdupOk && s.inService
  · simp
  · exact ⟨rfl, by simp [State.report, State.modPower, State.modCoda]⟩

/-- The first measure open in a state, before its boundary. -/
def entering (s : State) (o : Opening) (flags : BitVec 32) (ms : Nat) (heard : Vector Nat 8) (entry : Bytes) : State :=
  ((((s.modPower fun p => p.open flags ms).openMeasure o).modTb fun t => { t with opened := true }).modChorus fun k =>
    { k with lastHeard := heard }).report 0x0101 1 entry

theorem entering_fields (s : State) (o : Opening) (flags : BitVec 32) (ms : Nat) (heard : Vector Nat 8) (entry : Bytes) :
    ∀ t, t = entering s o flags ms heard entry → t.power = s.power.open flags ms ∧ t.tb.opened = true ∧ t.tb.measure = o.number ∧
      t.tb.highest = max s.tb.highest o.number ∧ t.tb.state = o.state := by
  rintro t rfl
  obtain ⟨hp, hs⟩ := openMeasure_enters (s.modPower fun p => p.open flags ms) o
  obtain ⟨hm, hh⟩ := openMeasure_numbers (s.modPower fun p => p.open flags ms) o
  exact ⟨hp, rfl, hm, hh, hs⟩

/-- The first measure opens in what the tests of the start-up leave. -/
theorem firstMeasure_eq (s : State) (time : Nat) (found : Found) : ∃ u flags ms heard entry before, awake u = awake s ∧
    s.firstMeasure time found = firstBoundary
      (entering u ((s.startMedia found).migrate.firstOpening time) flags ms heard entry).noteHoldup before := by
  have h : awake (s.startMedia found).migrate = awake s := (migrate_awake _).trans (startMedia_awake ..)
  exact ⟨((s.startMedia found).migrate.draw 16).2, _, ((s.startMedia found).migrate.draw 16).1, _, _, _, h, rfl⟩

theorem firstMeasureOpen_completes {s : State} (time : Nat) (found : Found) (hm : s.power.mode = .startup)
    (hr : s.power.inReset = false) (hh : s.power.held = false) (hl : s.power.loaded = true) (hn : s.nor.installing = false)
    (hw : s.tb.waitOver = true ∨ s.tb.source.isSome = true) :
    completes (.firstMeasureOpen ⟨time, found⟩) s fun t =>
      t.power.mode = .service ∧ t.power.present = true ∧ t.power.bootFails = 0 ∧ t.tb.opened = true ∧
      s.tb.persisted + 8 ≤ t.tb.measure ∧ s.tb.highest < t.tb.measure ∧ t.tb.highest = t.tb.measure ∧
      (s.power.holdupOk = false → t.power.holdupLow = true) ∧
      (s.tb.source = none → s.power.flags.getLsbD 10 = false →
        t.tb.measure = max (s.tb.persisted + 8) (s.tb.highest + 1) ∧ t.tb.state = .freerun) := by
  refine ⟨s.firstMeasure time found, if_pos ⟨hm, by simp [hr], by simp [hh], hl, by simp [hn], hw⟩, ?_⟩
  obtain ⟨u, flags, ms, heard, entry, before, hu, heq⟩ := firstMeasure_eq s time found
  rw [heq]
  have h1 : awake (s.startMedia found).migrate = awake s := (migrate_awake _).trans (startMedia_awake ..)
  obtain ⟨hp1, -, -, hh1, hk1, hs1, -⟩ := awake_fields h1
  generalize (s.startMedia found).migrate = v at *
  generalize ho : v.firstOpening time = o
  have hlow := firstOpening_low v time
  rw [ho, hk1, hh1] at hlow
  obtain ⟨hup, -, -, huh, -, -, -⟩ := awake_fields hu
  generalize ht : entering u o flags ms heard entry = t
  obtain ⟨htp, hto, htm, hth, hts⟩ := entering_fields u o flags ms heard entry t ht.symm
  obtain ⟨hnt, hnp⟩ := noteHoldup_awake t
  obtain ⟨a, ha⟩ := firstBoundary_awake t.noteHoldup before
  obtain ⟨hap, hat⟩ := Prod.mk.inj ha
  rw [show (awake t.noteHoldup).2 = (awake t).2 by simp only [awake, hnt]] at hat
  have hservice : t.inService = true := by simp [State.inService, htp, Power.open, hup, hr]
  have ho' : (firstBoundary t.noteHoldup before).tb.opened = true := (congrArg Timebase.opened hat :).trans hto
  have hm' : (firstBoundary t.noteHoldup before).tb.measure = o.number := (congrArg Timebase.measure hat :).trans htm
  have hh' : (firstBoundary t.noteHoldup before).tb.highest = max s.tb.highest o.number :=
    (congrArg Timebase.highest hat :).trans (huh ▸ hth)
  have hs' : (firstBoundary t.noteHoldup before).tb.state = o.state := (congrArg Timebase.state hat :).trans hts
  rw [ho', hm', hh', hs', hap, hnp, htp, hup]
  refine ⟨rfl, rfl, rfl, rfl, by omega, by omega, by omega, fun hok => ?_, fun hsrc hflag => ?_⟩
  · simp [Power.open, hok, hservice]
  · rw [← ho, ← hk1, ← hh1]
    exact firstOpening_alone time (hp1 ▸ hflag) (hs1 ▸ hsrc)

end Sys2Proof.Laws
end

section
namespace Sys2Proof.Laws
open Sys2Proof Sys2Proof.Machine

/-! # The release of the reset (R307 to R309, R311, R408) -/

/-- What the steps of a start before its own settings leave: power controller, chip number, running image, install, fuses, the last
persisted measure. -/
def booted (s : State) : Power × Nat × Image × Bool × Fuses × Nat :=
  (s.power, s.lks.chipId, s.nor.running, s.nor.installing, s.fuses, s.tb.persisted)

@[simp] theorem foldl_booted {α : Type} {f : State → α → State} (h : ∀ t a, booted (f t a) = booted t) (l : List α) (s : State) :
    booted (l.foldl f s) = booted s := foldl_keeps h l s
@[simp] theorem ite_booted {c : Prop} [Decidable c] {a b : State} : booted (if c then a else b) = if c then booted a else booted b :=
  apply_ite ..
@[simp] theorem modCoda_booted (s : State) (f : Coda → Coda) : booted (s.modCoda f) = booted s := by rfl
@[simp] theorem modFlash_booted (s : State) (f : Flash → Flash) : booted (s.modFlash f) = booted s := by rfl
@[simp] theorem modStore_booted (s : State) (f : Store → Store) : booted (s.modStore f) = booted s := by rfl
@[simp] theorem modFabric_booted (s : State) (f : Fabric → Fabric) : booted (s.modFabric f) = booted s := by rfl
@[simp] theorem modUnit_booted (s : State) (id : Nat) (f : HwUnit → HwUnit) : booted (s.modUnit id f) = booted s := by rfl
@[simp] theorem modReplay_booted (s : State) (id seq : Nat) (f : Replay → Replay) : booted (s.modReplay id seq f) = booted s := by rfl
@[simp] theorem draw_booted (s : State) (bits : Nat) : booted (s.draw bits).2 = booted s := by rfl
@[simp] theorem report_booted (s : State) (code source : Nat) (payload : Bytes) (trigger : Option Nat) (secure : Bool) :
    booted (s.report code source payload trigger secure) = booted s := by
  rfl
@[simp] theorem inject_booted (s : State) (c : Fin 32) : booted (s.inject c) = booted s := by rfl
@[simp] theorem pulse_booted (s : State) (p : Nat) : booted (s.pulse p) = booted s := by
  simp [State.pulse, State.pulseAll, State.injectAll]
theorem extrapolated_booted (s : State) (k : Nat) : booted (s.modTb fun t => { t with extrapolated := t.extrapolated + k }) = booted s := by
  rfl
@[simp] theorem extrapolate_booted (s : State) : booted s.extrapolate = booted s := by
  unfold State.extrapolate
  split
  · exact (extrapolated_booted (s.draw 48).2 _).trans (draw_booted ..)
  · rfl
@[simp] theorem writeEntry_booted (s : State) (code source : Nat) (secure trigger post : Bool) (payload : Bytes) :
    booted (s.writeEntry code source secure trigger post payload) = booted s := by
  unfold State.writeEntry
  exact ((modCoda_booted ..).trans (draw_booted _ 64)).trans (extrapolate_booted s)
@[simp] theorem ringStart_booted (s : State) (recovery : Bool) : booted (s.ringStart recovery) = booted s := by
  unfold State.ringStart
  split
  · exact (writeEntry_booted ..).trans rfl
  · rfl
@[simp] theorem startRanks_booted (s : State) : booted s.startRanks = booted s := by
  unfold State.startRanks
  split <;> simp
@[simp] theorem startLuns_booted (s : State) : booted s.startLuns = booted s := by
  unfold State.startLuns
  split <;> rfl
@[simp] theorem dropBatches_booted (s : State) : booted s.dropBatches = booted s := by simp [State.dropBatches]
@[simp] theorem applySettings_booted (s : State) : booted s.applySettings = booted s := by rfl
@[simp] theorem checkPending_booted (s : State) : booted s.checkPending = booted s := by
  unfold State.checkPending
  split <;> rfl
@[simp] theorem confirmDurable_booted (s : State) : booted s.confirmDurable = booted s := by
  unfold State.confirmDurable State.norWrite
  split
  · split
    · rfl
    · rfl
  · rfl
@[simp] theorem raiseWarn_booted (s : State) (w : Nat) (unit : Option Nat) : booted (s.raiseWarn w unit) = booted s := by
  simp only [State.raiseWarn, State.draw]
  split
  · rfl
  · cases unit
    · exact (pulse_booted _ _).trans rfl
    · simp
@[simp] theorem checkWarns_booted (s : State) : booted s.checkWarns = booted s := by simp [State.checkWarns, State.checkWarn]

/-- The fuses that a start finishes burning. -/
theorem burnProvision_fields (s : State) : s.burnProvision.power = s.power ∧ s.burnProvision.lks = s.lks ∧ s.burnProvision.nor = s.nor ∧
    s.burnProvision.tb = s.tb ∧ s.burnProvision.fuses.rollback = s.fuses.rollback := by
  unfold State.burnProvision
  split
  · exact ⟨rfl, rfl, rfl, rfl, rfl⟩
  · split <;> exact ⟨rfl, rfl, rfl, rfl, rfl⟩

/-- What a start that runs an image leaves. -/
theorem startUp_fields {s t : State} (h : t = s.startUp) (hn : s.nor.installing = false) :
    t.power.mode = s.power.mode ∧ t.power.inReset = s.power.inReset ∧ t.power.loaded = true ∧ t.power.starts = s.power.starts ∧
    t.power.mr = s.tb.persisted ∧ t.lks.chipId = s.lks.chipId ∧ t.nor.running = s.nor.running ∧
    s.fuses.rollback ≤ t.fuses.rollback := by
  unfold State.startUp at h
  generalize hc : ((s.ringStart false).startRanks.startLuns.dropBatches.applySettings).checkPending.confirmDurable = c at h
  have hb : booted c = booted s := by simp [← hc]
  extract_lets s1 s2 at h
  obtain ⟨hp1, hk1, hn1, ht1, hf1⟩ := burnProvision_fields c.burnRollback
  have ht : booted t = booted s2 := h ▸ checkWarns_booted s2
  simp only [booted, Prod.mk.injEq] at hb ht
  obtain ⟨hbp, hbk, hbr, hbi, hbf, hbt⟩ := hb
  obtain ⟨htp, htk, htr, -, htf, -⟩ := ht
  have hp : s1.power = s.power := hp1.trans hbp
  have hi : s1.nor.installing = false := (congrArg Nor.installing hn1 :).trans (hbi.trans hn)
  rw [htp, htk, htr, htf]
  refine ⟨?_, ?_, ?_, ?_, ?_, ?_, ?_, ?_⟩
  · exact (congrArg Power.mode hp :)
  · exact (congrArg Power.inReset hp :)
  · exact (congrArg not hi :)
  · exact (congrArg Power.starts hp :)
  · exact (congrArg Timebase.persisted ht1 :).trans hbt
  · exact (congrArg LksArray.chipId hk1 :).trans hbk
  · exact (congrArg Nor.running hn1 :).trans hbr
  · have hr : s1.fuses.rollback = max c.fuses.rollback (min 64 c.nor.confirmed) := hf1
    show s.fuses.rollback ≤ s1.fuses.rollback
    rw [hr, hbf]
    exact Nat.le_max_left ..

/-! ## What the loader decides -/

/-- A good image starts: no request for Recovery, a slot that passes, nothing to install and no failure to act on. -/
theorem boot_starts {s : State} (hrec : s.power.recoveryRequest = false) (hslot : s.slotPasses s.nor.activeSlot = true)
    (hrev : s.nor.bootState ≠ .reverting) (hready : s.nor.ready = false) (hinst : s.nor.installing = false)
    (hfail : s.power.failed = false) (hbad : s.imageBad = false) : s.boot false = (s, none) := by
  have hone : (!s.slotPasses 0 && !s.slotPasses 1) = false := by
    generalize hk : s.nor.activeSlot = k at hslot
    match k with
    | 0 => simp [hslot]
    | 1 => simp [hslot]
  unfold State.boot
  simp only [hrec, hone, hslot, hready, hinst, hfail, hbad, hrev, Bool.false_eq_true, ↓reduceIte, false_and, Bool.or_self]

/-- What the boot ROM changes before it decides. -/
theorem powerUp_fields (s : State) (chip : Nat) : (s.powerUp chip).nor = s.nor ∧ (s.powerUp chip).fuses = s.fuses ∧
    (s.powerUp chip).tb = s.tb ∧ (s.powerUp chip).lks.chipId = chip ∧
    (s.powerUp chip).power = { s.power with inReset := false, mode := .startup, starts := bump s.power.starts } := by
  simp only [State.powerUp, modCluster_nor, modPort_nor, modLks_nor, modPower_nor, modCluster_fuses, modPort_fuses, modLks_fuses,
    modPower_fuses, modCluster_tb, modPort_tb, modLks_tb, modPower_tb, modCluster_lks, modPort_lks, modLks_lks, modPower_lks,
    modCluster_power, modPort_power, modLks_power, modPower_power, and_self]

theorem slotPasses_of {s t : State} (hn : t.nor = s.nor) (hf : t.fuses = s.fuses) (i : Fin 2) : t.slotPasses i = s.slotPasses i := by
  simp only [State.slotPasses, hn, hf]

theorem imageBad_of {s t : State} (hn : t.nor = s.nor) (hf : t.fuses = s.fuses) : t.imageBad = s.imageBad := by
  simp only [State.imageBad, hn, hf]

/-- The image that the loader has chosen starts. -/
theorem releaseReset_of_boot {s u : State} {strap : Bool} {chip : Nat} (h : (s.powerUp chip).boot strap = (u, none)) :
    s.releaseReset strap chip = u.startUp := by
  unfold State.releaseReset
  rw [h]

theorem recovAsserted_of_ne : ∀ {v : Fin 8}, v ≠ 0 → recovAsserted v = false := by decide

section
variable {c0 c1 : Fin 8} {s : State} (hr : s.power.inReset = true) (hh : s.power.held = false) (ht : s.power.thermalHold = false)
  (hp : s.power.pwrFail = false)
include hr hh ht hp

theorem resetRelease_exec (v : Fin 8) : exec (.controllerResetRelease v c0 c1) s =
    .next (s.releaseReset (recovAsserted v) (strapBit c0 + 2 * strapBit c1)) := by
  refine (if_neg ?_).trans (if_neg ?_)
  · simp [hr, hh, ht]
  · simp [hp]

/-- MODE_RECOV_n low in all three samples leads to Recovery for reason 1. -/
theorem resetRelease_recovers : completes (.controllerResetRelease 0 c0 c1) s fun t =>
    t.power.mode = .recovery ∧ t.power.inReset = false ∧ t.power.recoveryReason = 1 ∧ t.fuses = s.fuses ∧
    t.lks.chipId = strapBit c0 + 2 * strapBit c1 := by
  refine ⟨_, resetRelease_exec hr hh ht hp 0, ?_⟩
  rw [show recovAsserted 0 = true by decide]
  generalize strapBit c0 + 2 * strapBit c1 = chip
  have heq : s.releaseReset true chip = ((s.powerUp chip).ringStart true).enterRecovery 1 := rfl
  rw [heq]
  have hb := ringStart_booted (s.powerUp chip) true
  generalize (s.powerUp chip).ringStart true = u at hb ⊢
  simp only [booted, Prod.mk.injEq] at hb
  obtain ⟨hbp, hbk, -, -, hbf, -⟩ := hb
  exact ⟨rfl, (congrArg Power.inReset hbp :), rfl, hbf, hbk⟩

/-- A good image starts. -/
theorem resetRelease_starts {v : Fin 8} (hv : v ≠ 0) (hrec : s.power.recoveryRequest = false)
    (hslot : s.slotPasses s.nor.activeSlot = true) (hrev : s.nor.bootState ≠ .reverting) (hready : s.nor.ready = false)
    (hinst : s.nor.installing = false) (hfail : s.power.failed = false) (hbad : s.imageBad = false) :
    completes (.controllerResetRelease v c0 c1) s fun t =>
      t.power.mode = .startup ∧ t.power.inReset = false ∧ t.power.loaded = true ∧ t.power.starts = bump s.power.starts ∧
      t.power.mr = s.tb.persisted ∧ t.lks.chipId = strapBit c0 + 2 * strapBit c1 ∧ t.nor.running = s.nor.running ∧
      s.fuses.rollback ≤ t.fuses.rollback := by
  refine ⟨_, resetRelease_exec hr hh ht hp v, ?_⟩
  rw [recovAsserted_of_ne hv]
  generalize strapBit c0 + 2 * strapBit c1 = chip
  obtain ⟨hn, hf, htb, hc, hpw⟩ := powerUp_fields s chip
  have hboot : (s.powerUp chip).boot false = (s.powerUp chip, none) := by
    generalize s.powerUp chip = u at hn hf hpw ⊢
    exact boot_starts (hpw ▸ hrec) (by rw [slotPasses_of hn hf, hn, hslot]) (hn ▸ hrev) (hn ▸ hready) (hn ▸ hinst) (hpw ▸ hfail)
      ((imageBad_of hn hf).trans hbad)
  rw [releaseReset_of_boot hboot]
  generalize s.powerUp chip = u at hn hf htb hc hpw ⊢
  have h := startUp_fields (s := u) rfl (hn ▸ hinst)
  rw [hpw, htb, hc, hn, hf] at h
  exact h

end

/-- Settles O45: the loader's decision by the straps and the image, and the first measure as the lowest number that is new. -/
theorem startUpCompletes : Obligations.StartUpCompletes :=
  ⟨fun _ _ _ _ hr hh ht hp => ⟨fun hv => hv ▸ resetRelease_recovers hr hh ht hp, resetRelease_starts hr hh ht hp⟩,
    fun time found _ hm hr hh hl hn hw => firstMeasureOpen_completes time found hm hr hh hl hn hw⟩

end Sys2Proof.Laws
end

section
namespace Sys2Proof.Laws
open Sys2Proof Sys2Proof.Machine

/-! # What a CANCEL leaves (R68, R69) -/

/-- A target below the session's next whose record is no longer kept: whether it was refused or came too late is drawn. -/
theorem opCancel_forgotten {s : State} {r : Request} {x : Session} (ht : fld r.body 0 4 < r.seq)
    (hx : s.session r.session = some x) (hp : x.record (fld r.body 0 4) = none) (hr : x.received (fld r.body 0 4) = true) :
    opCancel r s = ((s.drawSealed 1).2,
      .of (if (s.drawSealed 1).1 = 0 then .notFound else .cancelLate) (be 4 (fld r.body 0 4))) := by
  simp [opCancel, Nat.not_le.mpr ht, hx, hp, hr]

/-- Whatever became of its target, a CANCEL answers the target's sequence with one of three statuses, and at most draws a value. -/
theorem opCancel_draws (r : Request) (s : State) : ∃ st ∈ [Status.ok, .notFound, .cancelLate], ∃ t,
    opCancel r s = (t, .of st (be 4 (fld r.body 0 4))) ∧ t = { s with store := { s.store with draws := t.store.draws } } := by
  by_cases ht : r.seq ≤ fld r.body 0 4
  · exact ⟨.notFound, by simp, s, opCancel_notLower ht, rfl⟩
  rw [Nat.not_le] at ht
  cases hx : s.session r.session with
  | none => exact ⟨.notFound, by simp, s, by simp [opCancel, hx], rfl⟩
  | some x =>
    cases hp : x.record (fld r.body 0 4) with
    | some p => exact ⟨_, by split_ifs <;> simp, s, opCancel_record hx ht hp, rfl⟩
    | none =>
      cases hr : x.received (fld r.body 0 4) with
      | true => exact ⟨_, by split_ifs <;> simp, _, opCancel_forgotten ht hx hp hr, rfl⟩
      | false => exact ⟨.notFound, by simp, s, opCancel_never hx hp hr, rfl⟩

/-- Settles O34: the row takes its request, and at its place a CANCEL answers as a read does and writes nothing. -/
theorem cancelChangesNoNamespace : Obligations.CancelChangesNoNamespace := by
  refine ⟨fun r s x h ho => exec_entered h (by simp [rowOf, ho]), fun r s m h ho => ?_⟩
  obtain ⟨st, hst, t, hop, ht⟩ := opCancel_draws r s
  have hrun : opRun ⟨m, m, false⟩ r s = (t, .of st (be 4 (fld r.body 0 4))) := by
    simp only [opRun, ho]
    exact hop
  have hseq : t.seq = s.seq := by rw [ht]
  obtain ⟨-, hlate, hbehind, -⟩ := id h
  refine ⟨st, hst, servesWith_of_opRun h (by simp [joinsBatch, ho]) (by omega) (by omega) hrun rfl (hseq ▸ hlate) (hseq ▸ hbehind)
    (by simp [isWrite, isLoad, ho]) (by simp [isWrite, isLoad, ho]) fun l => ?_⟩
  rw [ht]
  exact ⟨rfl, rfl, sameRest_refl s⟩
end Sys2Proof.Laws
end

section
namespace Sys2Proof.Laws
open Sys2Proof Sys2Proof.Machine

/-! # What a port starts next (R147, Table 6.6) -/

/-! ## Classes in a list of frames -/

theorem takeClass_none {c : TxClass} {l : List TxFrame} (h : takeClass c l = none) : ∀ g ∈ l, g.cls ≠ c := by
  induction l with
  | nil => simp
  | cons g l ih =>
    unfold takeClass at h
    split at h
    · cases h
    · next hg =>
      rw [Option.map_eq_none_iff] at h
      simpa using ⟨hg, ih h⟩

theorem takeClass_some {c : TxClass} {l u : List TxFrame} {f : TxFrame} (h : takeClass c l = some (f, u)) :
    f.cls = c ∧ u.length + 1 = l.length := by
  induction l generalizing u with
  | nil => cases h
  | cons g l ih =>
    unfold takeClass at h
    split at h
    · next hg =>
      cases h
      exact ⟨hg, rfl⟩
    · obtain ⟨⟨f', u'⟩, hu, he⟩ := Option.map_eq_some_iff.1 h
      cases he
      obtain ⟨hc, hl⟩ := ih hu
      exact ⟨hc, by simpa using hl⟩

theorem takeQueue_some {b : Bool} {l u : List TxFrame} {f : TxFrame} (h : takeQueue b l = some (f, u)) :
    u.length + 1 = l.length := by
  induction l generalizing u with
  | nil => cases h
  | cons g l ih =>
    unfold takeQueue at h
    split at h
    · obtain ⟨⟨f', u'⟩, hu, he⟩ := Option.map_eq_some_iff.1 h
      cases he
      simpa using ih hu
    · cases h
      rfl

/-! ## What `Port.choose` can answer -/

/-- No frame of class `c` waits among the urgent ones. -/
def lacks (q : Port) (c : TxClass) : Prop := ∀ g ∈ q.urgent, g.cls ≠ c

/-- No heartbeat may leave: the port is FENCED, or none waits. -/
def beatless (q : Port) (eff : UnitState) : Prop := eff = .fenced ∨ q.hb = none

/-- The frame that leaves a port and the port without it, class by class: each class only where those before it do not wait. -/
inductive Chosen (q : Port) (eff : UnitState) (fits : TxFrame → Bool) : TxFrame → Port → Prop
  | pause {f u} (h : takeClass .pause q.urgent = some (f, u)) : Chosen q eff fits f { q with urgent := u }
  | ptp {f u} (h1 : lacks q .pause) (h : takeClass .ptp q.urgent = some (f, u)) : Chosen q eff fits f { q with urgent := u }
  | heartbeat {f d} (h1 : lacks q .pause) (h2 : lacks q .ptp) (he : eff ≠ .fenced) (h : q.hb = some (f, d)) :
      Chosen q eff fits f { q with hb := none }
  | control {f u} (h1 : lacks q .pause) (h2 : lacks q .ptp) (h3 : beatless q eff)
      (h : takeClass .control q.urgent = some (f, u)) : Chosen q eff fits f { q with urgent := u }
  | queue {f l} (h1 : lacks q .pause) (h2 : lacks q .ptp) (h3 : beatless q eff) (h4 : lacks q .control)
      (h : takeQueue (decide (eff = .fenced)) (q.queue.filter fits) = some (f, l)) : Chosen q eff fits f { q with queue := l }

theorem choose_chosen {q q' : Port} {eff : UnitState} {keyless : Bool} {fits : TxFrame → Bool} {f : TxFrame}
    (h : q.choose eff keyless fits = some (f, q')) : Chosen q eff fits f q' := by
  unfold Port.choose at h
  split at h
  · cases h
  split at h
  · next hp => cases h; exact .pause hp
  next h1 =>
  split at h
  · cases h
  split at h
  · next hp => cases h; exact .ptp (takeClass_none h1) hp
  next h2 =>
  split at h
  · cases h
  split at h
  · next hb =>
    cases h
    split at hb
    · cases hb
    · next he => exact .heartbeat (takeClass_none h1) (takeClass_none h2) he hb
  next hb =>
  have h3 : beatless q eff := by
    split at hb
    · next he => exact .inl he
    · exact .inr hb
  split at h
  · next hp => cases h; exact .control (takeClass_none h1) (takeClass_none h2) h3 hp
  next h4 =>
  obtain ⟨⟨f', l⟩, hl, he⟩ := Option.map_eq_some_iff.1 h
  cases he
  exact .queue (takeClass_none h1) (takeClass_none h2) h3 (takeClass_none h4) hl

section
variable {q q' : Port} {eff : UnitState} {fits : TxFrame → Bool} {f : TxFrame} (h : Chosen q eff fits f q')
include h

/-- The frame is of the first class of Table 6.6 that waits among the urgent ones. -/
theorem Chosen.first {g : TxFrame} (hg : g ∈ q.urgent) : (g.cls = .pause → f.cls = .pause) ∧
    (g.cls = .ptp → f.cls = .pause ∨ f.cls = .ptp) ∧
    (g.cls = .control → f.cls = .pause ∨ f.cls = .ptp ∨ f.cls = .control ∨ ∃ d, q.hb = some (f, d)) := by
  cases h with
  | pause h => simp [(takeClass_some h).1]
  | ptp h1 h => simp [(takeClass_some h).1, h1 g hg]
  | heartbeat h1 h2 he h => simp [h1 g hg, h2 g hg, h]
  | control h1 h2 h3 h => simp [(takeClass_some h).1, h1 g hg, h2 g hg]
  | queue h1 h2 h3 h4 h => simp [h1 g hg, h2 g hg, h4 g hg]

/-- Only a PAUSE or PTP frame leaves before a heartbeat that waits. -/
theorem Chosen.beforeBeat {b : TxFrame} {d : Bool} (hb : q.hb = some (b, d)) (he : eff ≠ .fenced) :
    f.cls = .pause ∨ f.cls = .ptp ∨ f = b := by
  cases h with
  | pause h => exact .inl (takeClass_some h).1
  | ptp h1 h => exact .inr (.inl (takeClass_some h).1)
  | heartbeat h1 h2 h3 h =>
    rw [hb] at h
    cases h
    exact .inr (.inr rfl)
  | control h1 h2 h3 h => simp [beatless, he, hb] at h3
  | queue h1 h2 h3 h4 h => simp [beatless, he, hb] at h3

theorem Chosen.counters : q'.counters = q.counters := by cases h <;> rfl

/-- Where all frames are within the limit, exactly one has left the port. -/
theorem Chosen.oneFewer (hf : ∀ g ∈ q.queue, fits g = true) :
    q'.queue.length + q'.urgent.length + (if q'.hb.isSome then 1 else 0) + 1 =
      q.queue.length + q.urgent.length + (if q.hb.isSome then 1 else 0) := by
  cases h with
  | pause h => have := (takeClass_some h).2; dsimp only; omega
  | ptp h1 h => have := (takeClass_some h).2; dsimp only; omega
  | heartbeat h1 h2 he h => simp [h]
  | control h1 h2 h3 h => have := (takeClass_some h).2; dsimp only; omega
  | queue h1 h2 h3 h4 h =>
    have := takeQueue_some h
    rw [List.filter_eq_self.2 hf] at this
    dsimp only
    omega
end

end Sys2Proof.Laws
end

section
namespace Sys2Proof.Laws
open Sys2Proof Sys2Proof.Machine

/-! # Transmission (R71, R147, R153) -/

/-! ## Changes of ports alone -/

/-- From `s` to `t` nothing has changed but ports. -/
def portsOnly (s t : State) : Prop := t = { s with ports := t.ports }

theorem portsOnly_trans {s t u : State} (h1 : portsOnly s t) (h2 : portsOnly t u) : portsOnly s u :=
  Eq.trans h2 (congrArg (fun v : State => { v with ports := u.ports }) h1)

theorem modPort_portsOnly (s : State) (p : Fin 2) (f : Port → Port) : portsOnly s (s.modPort p f) := rfl

/-- A port without its counters. -/
def uncounted (q : Port) : Port := { q with counters := Vector.replicate 30 0 }

@[simp] theorem count_uncounted (s : State) (p : Fin 2) (c : Ctr) (n : Nat) :
    uncounted ((s.count p c n).port p) = uncounted (s.port p) := by
  rw [State.count, modPort_port]
  rfl

theorem count_counter (s : State) (p : Fin 2) (c : Ctr) (n : Nat) :
    ((s.count p c n).port p).counters[c.idx] = sat 64 ((s.port p).counters[c.idx] + n) := by
  simp [State.count]

theorem count_counter_other (s : State) (p : Fin 2) {c d : Ctr} (n : Nat) (h : c.idx.val ≠ d.idx.val) :
    ((s.count p c n).port p).counters[d.idx] = (s.port p).counters[d.idx] := by
  simp [State.count, h]

/-! ## A frame that starts -/

/-- The counter of a frame's class, where it has one (Table 6.10). -/
def classCtr : TxClass → Option Ctr
  | .pause => some .txPauseFrames
  | .heartbeat => some .txHeartbeats
  | .ptp | .control | .queue => none

theorem classCtr_ne {k : TxClass} {c : Ctr} (h : classCtr k = some c) :
    c.idx.val ≠ Ctr.txFrames.idx.val ∧ c.idx.val ≠ Ctr.txBytes.idx.val := by
  cases k <;> cases h <;> decide

/-- A frame is counted in its class. -/
def inClass (s : State) (p : Fin 2) (f : TxFrame) : State :=
  match classCtr f.cls with
  | none => s
  | some c => s.count p c

theorem inClass_keeps (s : State) (p : Fin 2) (f : TxFrame) :
    portsOnly s (inClass s p f) ∧ uncounted ((inClass s p f).port p) = uncounted (s.port p) ∧
    ((inClass s p f).port p).counters[Ctr.txFrames.idx] = (s.port p).counters[Ctr.txFrames.idx] ∧
    ((inClass s p f).port p).counters[Ctr.txBytes.idx] = (s.port p).counters[Ctr.txBytes.idx] := by
  unfold inClass
  split
  · exact ⟨rfl, rfl, rfl, rfl⟩
  · next hc =>
    obtain ⟨hf, hb⟩ := classCtr_ne hc
    exact ⟨rfl, count_uncounted .., count_counter_other _ p 1 hf, count_counter_other _ p 1 hb⟩

/-- A frame that starts without MACsec is counted, with its bytes. -/
def tallied (s : State) (p : Fin 2) (f : TxFrame) : State :=
  (s.count p .txFrames).count p .txBytes (frameLen (f.vid != 0) false f.inner)

theorem tallied_frames (s : State) (p : Fin 2) (f : TxFrame) :
    ((tallied s p f).port p).counters[Ctr.txFrames.idx] = sat 64 ((s.port p).counters[Ctr.txFrames.idx] + 1) :=
  (count_counter_other _ p _ (by decide)).trans (count_counter s p .txFrames 1)

theorem tallied_bytes (s : State) (p : Fin 2) (f : TxFrame) : ((tallied s p f).port p).counters[Ctr.txBytes.idx] =
    sat 64 ((s.port p).counters[Ctr.txBytes.idx] + frameLen (f.vid != 0) false f.inner) := by
  rw [tallied, count_counter, count_counter_other _ p 1 (by decide)]

/-- Without MACsec a frame that starts is counted and in flight, and that is all. -/
theorem started_clear {s : State} {p : Fin 2} (f : TxFrame) (h : (s.net p).policy = .disabled) :
    s.started p f = (inClass (tallied s p f) p f).modPort p fun q => { q with inFlight := some { f with sa := none } } := by
  have hp : protects (s.net p) f.cls = false := by simp [protects, h]
  unfold State.started inClass tallied
  simp only [hp, Bool.false_eq_true, if_false]
  cases f.cls <;> rfl

/-- What a frame that starts without MACsec changes: its port's frame in flight and counters. -/
theorem started_keeps {s : State} {p : Fin 2} (f : TxFrame) (h : (s.net p).policy = .disabled) :
    portsOnly s (s.started p f) ∧
    uncounted ((s.started p f).port p) = uncounted { s.port p with inFlight := some { f with sa := none } } ∧
    ((s.started p f).port p).counters[Ctr.txFrames.idx] = sat 64 ((s.port p).counters[Ctr.txFrames.idx] + 1) ∧
    ((s.started p f).port p).counters[Ctr.txBytes.idx] =
      sat 64 ((s.port p).counters[Ctr.txBytes.idx] + frameLen (f.vid != 0) false f.inner) := by
  obtain ⟨honly, hrest, hframes, hbytes⟩ := inClass_keeps (tallied s p f) p f
  rw [started_clear f h, modPort_port]
  refine ⟨portsOnly_trans honly (modPort_portsOnly ..), ?_, hframes.trans (tallied_frames s p f), hbytes.trans (tallied_bytes s p f)⟩
  have hq : uncounted ((inClass (tallied s p f) p f).port p) = uncounted (s.port p) :=
    hrest.trans ((count_uncounted ..).trans (count_uncounted ..))
  exact congrArg (fun q : Port => { q with inFlight := some { f with sa := none } }) hq

/-- The chosen frame is in flight and counted, and the port is what `choose` left of it. -/
theorem frameTransmitStart_completes {p : Fin 2} {s : State} {f : TxFrame} {q : Port} (hs : s.transmits p = true)
    (hpol : (s.net p).policy = .disabled) (h : (s.port p).choose (s.portNow p) (s.net p).keyless (s.net p).fits = some (f, q)) :
    completes (.frameTransmitStart p) s fun t =>
      (∀ g ∈ (s.port p).urgent, (g.cls = .pause → f.cls = .pause) ∧ (g.cls = .ptp → f.cls = .pause ∨ f.cls = .ptp) ∧
        (g.cls = .control → f.cls = .pause ∨ f.cls = .ptp ∨ f.cls = .control ∨ ∃ d, (s.port p).hb = some (f, d))) ∧
      (∀ h d, (s.port p).hb = some (h, d) → s.portNow p ≠ .fenced → f.cls = .pause ∨ f.cls = .ptp ∨ f = h) ∧
      (t.port p).inFlight = some { f with sa := none } ∧ (t.port p).queue = q.queue ∧ (t.port p).urgent = q.urgent ∧
      (t.port p).counters[Ctr.txFrames.idx] = sat 64 (q.counters[Ctr.txFrames.idx] + 1) ∧
      (t.port p).counters[Ctr.txBytes.idx] = sat 64 (q.counters[Ctr.txBytes.idx] + frameLen (f.vid != 0) false f.inner) ∧
      ((∀ g ∈ (s.port p).queue, (s.net p).fits g = true) → q.queue.length + q.urgent.length + (if q.hb.isSome then 1 else 0) + 1 =
        (s.port p).queue.length + (s.port p).urgent.length + (if (s.port p).hb.isSome then 1 else 0)) ∧
      t = { s with ports := t.ports } := by
  have hchosen := choose_chosen h
  have hq : (s.modPort p fun _ => q).port p = q := modPort_port ..
  obtain ⟨honly, hport, hframes, hbytes⟩ := started_keeps (s := s.modPort p fun _ => q) (p := p) f hpol
  rw [hq] at hport hframes hbytes
  exact ⟨_, congrArg Host.Outcome.next ((if_pos hs).trans (by rw [h])), fun g hg => hchosen.first hg,
    fun b d hb he => hchosen.beforeBeat hb he, (congrArg Port.inFlight hport :), (congrArg Port.queue hport :),
    (congrArg Port.urgent hport :), hframes, hbytes, hchosen.oneFewer, portsOnly_trans (modPort_portsOnly ..) honly⟩

/-! ## Heartbeats -/

/-- A port's heartbeat does not look at the other ports. -/
theorem heartbeatFrame_of {s t : State} {p : Fin 2} (h : portsOnly s t) (hp : t.port p = s.port p) (mode : Nat) :
    t.heartbeatFrame p mode = s.heartbeatFrame p mode := by
  unfold State.heartbeatFrame
  rw [hp, h]
  rfl

theorem portUsable_of {s t : State} (h : portsOnly s t) (p : Fin 2) : t.portUsable p = s.portUsable p := by
  rw [h]
  rfl

theorem queueHeartbeat_portsOnly (s : State) (p : Fin 2) (mode : Nat) (d : Bool) : portsOnly s (s.queueHeartbeat p mode d) := by
  unfold State.queueHeartbeat
  split
  · split <;> rfl
  · rfl

theorem queueHeartbeat_other (s : State) {p o : Fin 2} (h : o ≠ p) (mode : Nat) (d : Bool) :
    (s.queueHeartbeat p mode d).port o = s.port o := by
  unfold State.queueHeartbeat
  split
  · split <;> simp [State.count, h]
  · rfl

/-- A port after a heartbeat of it was queued: one that waited is replaced and counted. -/
def beating (q : Port) (f : TxFrame) (d : Bool) : Port :=
  { q with
    hb := some (f, d), hbSeq := q.hbSeq + 1
    counters := if q.hb.isSome then q.counters.set Ctr.txHbReplaced.idx (sat 64 (q.counters[Ctr.txHbReplaced.idx] + 1))
      else q.counters }

theorem queueHeartbeat_port {s : State} {p : Fin 2} (h : s.portUsable p = true) (mode : Nat) (d : Bool) :
    (s.queueHeartbeat p mode d).port p = beating (s.port p) (s.heartbeatFrame p mode) d := by
  unfold State.queueHeartbeat beating
  rw [if_pos h]
  dsimp only
  split <;> simp [State.count]

theorem queueHeartbeats_portsOnly (s : State) (mode : Nat) (d : Bool) : portsOnly s (s.queueHeartbeats mode d) :=
  portsOnly_trans (queueHeartbeat_portsOnly s 0 mode d) (queueHeartbeat_portsOnly _ 1 mode d)

/-- Queueing a heartbeat on each port queues one on every usable port. -/
theorem queueHeartbeats_port {s : State} {p : Fin 2} (h : s.portUsable p = true) (mode : Nat) (d : Bool) :
    (s.queueHeartbeats mode d).port p = beating (s.port p) (s.heartbeatFrame p mode) d := by
  unfold State.queueHeartbeats
  match p with
  | 0 => rw [queueHeartbeat_other _ (by decide), queueHeartbeat_port h]
  | 1 =>
    have honly := queueHeartbeat_portsOnly s 0 mode d
    have hp : (s.queueHeartbeat 0 mode d).port 1 = s.port 1 := queueHeartbeat_other s (by decide) mode d
    rw [queueHeartbeat_port ((portUsable_of honly 1).trans h), hp, heartbeatFrame_of honly hp]

theorem heartbeatQueue_completes {p : Fin 2} {s : State} (hs : s.inService = true) (hm : s.tb.measure % 64 = 0)
    (hu : s.portUsable p = true) : completes .heartbeatQueue s fun t =>
      (t.port p).hb = some (s.heartbeatFrame p 1, false) ∧ (s.heartbeatFrame p 1).srcUdp = 47810 ∧
      (t.port p).hbSeq = (s.port p).hbSeq + 1 ∧
      (t.port p).counters[Ctr.txHbReplaced.idx] =
        (if (s.port p).hb.isSome then sat 64 ((s.port p).counters[Ctr.txHbReplaced.idx] + 1)
          else (s.port p).counters[Ctr.txHbReplaced.idx]) ∧
      t = { s with ports := t.ports } := by
  have hq := queueHeartbeats_port hu 1 false
  refine ⟨_, congrArg Host.Outcome.next (if_pos (by simp [hs, hm])), congrArg Port.hb hq, rfl, congrArg Port.hbSeq hq, ?_,
    queueHeartbeats_portsOnly s 1 false⟩
  rw [hq, beating]
  split <;> simp

theorem departureHeartbeatExpiry_completes (p : Fin 2) (s : State) : completes (.departureHeartbeatExpiry p) s fun t =>
    (∀ f, (s.port p).hb = some (f, true) → (t.port p).hb = none) ∧
    (∀ f, (s.port p).hb = some (f, false) → (t.port p).hb = some (f, false)) ∧ t = { s with ports := t.ports } := by
  exact ⟨_, rfl, fun f h => by simp [h], fun f h => by simp [h], rfl⟩

/-! ## Descriptors that are cancelled -/

theorem txDescriptorCancel_waiting {p : Fin 2} {s : State} {d : Nat} {f : TxFrame} (hf : f ∈ (s.port p).queue) (hd : f.desc = d) :
    completes (.txDescriptorCancel p d) s fun t =>
      (t.port p).queue = (s.port p).queue.filter (fun g => g.desc != d) ∧ (t.port p).urgent = (s.port p).urgent ∧
      (t.port p).counters[Ctr.txCancelled.idx] = sat 64 ((s.port p).counters[Ctr.txCancelled.idx] + 1) ∧
      (t.port p).txCancel = some (d, .ok) ∧ t = { s with ports := t.ports } := by
  have hq := modPort_port s p fun q => { q with queue := q.queue.filter (fun g => g.desc != d), txCancel := some (d, .ok) }
  have hc := (count_uncounted _ p .txCancelled 1).trans (congrArg uncounted hq)
  exact ⟨_, congrArg Host.Outcome.next (if_pos (List.any_eq_true.2 ⟨f, hf, by simp [hd]⟩)), (congrArg Port.queue hc :),
    (congrArg Port.urgent hc :), (count_counter _ p .txCancelled 1).trans (by rw [hq]), (congrArg Port.txCancel hc :), rfl⟩

theorem txDescriptorCancel_late {p : Fin 2} {s : State} {d : Nat} (hd : d < (s.port p).nextDesc)
    (hf : ∀ f ∈ (s.port p).queue, f.desc ≠ d) :
    exec (.txDescriptorCancel p d) s = .next (s.modPort p fun q => { q with txCancel := some (d, .cancelLate) }) := by
  refine congrArg Host.Outcome.next ((if_neg ?_).trans (if_pos hd))
  simpa using hf

end Sys2Proof.Laws
end

section
namespace Sys2Proof.Laws
open Sys2Proof Sys2Proof.Machine

/-! # Links and PHYs (R134, R138, R155, R156) -/

theorem port_of_quiet {s t : State} (h : quiet t = quiet s) (p : Fin 2) : t.port p = s.port p := by
  rw [State.port, ports_of_quiet h]
  rfl

/-! ## Links -/

/-- The state of a link that has changed: reports and events apart, only its port. -/
theorem linkChanged_quiet (s : State) (p : Fin 2) (up : Bool) (rate : Nat) : quiet (s.linkChanged p up rate) =
    quiet (s.modPort p fun q => { q with link := up, rate := rate, linkChange := true, cleanMeasure := false }) := by
  simp [State.linkChanged]

theorem linkChanged_units (s : State) (p : Fin 2) (up : Bool) (rate : Nat) : (s.linkChanged p up rate).units = s.units := by
  simp [State.linkChanged]

theorem linkChanged_port (s : State) (p : Fin 2) (up : Bool) (rate : Nat) : (s.linkChanged p up rate).port p =
    { s.port p with link := up, rate := rate, linkChange := true, cleanMeasure := false } :=
  (port_of_quiet (linkChanged_quiet s p up rate) p).trans (modPort_port ..)

/-- A lost link takes its port OFFLINE at once, and no other unit (R138). -/
theorem linkDown_completes {p : Fin 2} {s : State} (h : (s.port p).link = true) : completes (.linkDown p) s fun t =>
    t.dataView (portId p) = .offline ∧ (t.port p).link = false ∧ (t.port p).linkChange = true ∧
    (t.port p).counters[Ctr.linkDownEvents.idx] = sat 64 ((s.port p).counters[Ctr.linkDownEvents.idx] + 1) ∧
    (∀ k, k ≠ portId p → t.dataView k = s.dataView k) ∧ t.store = s.store ∧ t.seq = s.seq ∧ t.tb = s.tb := by
  have heq : s.dropLink p = ((s.linkChanged p false 0).count p .linkDownEvents).lowerData (portId p) .offline := by
    rw [State.dropLink, if_pos h]
  refine ⟨_, congrArg Host.Outcome.next ((if_pos h).trans heq), ?_⟩
  have hl := linkChanged_quiet s p false 0
  have hq := lowerData_quiet ((s.linkChanged p false 0).count p .linkDownEvents) (portId p) .offline
  have hport := (congrArg uncounted (port_of_quiet hq p)).trans
    ((count_uncounted ..).trans (congrArg uncounted (linkChanged_port s p false 0)))
  refine ⟨lowerData_offline .., (congrArg Port.link hport :), (congrArg Port.linkChange hport :), ?_, fun k hk => ?_,
    (store_of_quiet hq).trans (store_of_quiet hl :), (seq_of_quiet hq).trans (seq_of_quiet hl :),
    (tb_of_quiet hq).trans (tb_of_quiet hl :)⟩
  · rw [port_of_quiet hq, count_counter, linkChanged_port]
  · exact (lowerData_dataView_other _ _ hk).trans (dataView_of_units (linkChanged_units s p false 0) k)

section
variable {p : Fin 2} {s : State} {rate : Nat} (hr : s.power.inReset = false) (hc : s.power.mode ≠ .custody)
  (hp : p = 1 → s.board.port1 = true)
include hr hc hp

theorem linkUp_exec (full : Bool) : exec (.linkUp p rate full) s = .next
    (if !full ∨ (s.net p).set.maxRate < rate then s.count p .linkRefused
      else if (s.port p).link then s else s.linkChanged p true rate) := by
  refine congrArg Host.Outcome.next (if_neg ?_)
  simpa [hr, hc] using hp

theorem linkUp_completes (hm : rate ≤ (s.net p).set.maxRate) (hl : (s.port p).link = false) :
    completes (.linkUp p rate true) s fun t =>
      (t.port p).link = true ∧ (t.port p).rate = rate ∧ (t.port p).linkChange = true ∧ t.units = s.units ∧ t.store = s.store := by
  have hexec := linkUp_exec hr hc hp (rate := rate) true
  rw [if_neg (by simp [hm]), if_neg (by simp [hl])] at hexec
  have hport := linkChanged_port s p true rate
  exact ⟨_, hexec, congrArg Port.link hport, congrArg Port.rate hport, congrArg Port.linkChange hport, linkChanged_units ..,
    (store_of_quiet (linkChanged_quiet s p true rate) :)⟩

theorem linkUp_refused {full : Bool} (h : full = false ∨ (s.net p).set.maxRate < rate) :
    exec (.linkUp p rate full) s = .next (s.count p .linkRefused) := by
  rw [linkUp_exec hr hc hp, if_pos (by simpa using h)]
end

/-! ## PHYs -/

theorem phyIntPoll_completes {p : Fin 2} {s : State} (register : Nat) {value : Nat} (hs : s.inService = true) (hv : value ≠ 0) :
    completes (.phyIntPoll p register value) s fun t =>
      t.coda.queue = s.coda.queue ++ [{ code := 0x0502, source := 7 + p, secure := false
                                        payload := be 1 p ++ be 1 0 ++ be 2 register ++ be 2 value, trigger := none }] ∧
      (t.port p).phyInt = true ∧ t = { s with ports := t.ports, coda := { s.coda with queue := t.coda.queue } } := by
  have hq := congrArg Port.phyInt (modPort_port s p fun q => { q with phyInt := value != 0 })
  exact ⟨_, congrArg Host.Outcome.next ((if_pos hs).trans (if_neg hv)), rfl, hq.trans (by simpa using hv), rfl⟩

/-- A PHY that does not answer MDIO: reports and the unit's view apart, only its port. -/
theorem phySilent_quiet (s : State) (p : Fin 2) : quiet (s.phySilent p) =
    quiet (s.modPort p fun q => { q with phySilent := true, cleanMeasure := false }) :=
  (report_quiet ..).trans (lowerData_quiet ..)

theorem phySilent_port (s : State) (p : Fin 2) :
    (s.phySilent p).port p = { s.port p with phySilent := true, cleanMeasure := false } :=
  (port_of_quiet (phySilent_quiet s p) p).trans (modPort_port ..)

theorem phySilent_offline (s : State) (p : Fin 2) : (s.phySilent p).dataView (portId p) = .offline := lowerData_offline ..

theorem phySilent_reports (s : State) (p : Fin 2) :
    ∃ e ∈ (s.phySilent p).coda.queue, e.code = 0x0502 ∧ e.source = 7 + p :=
  ⟨_, List.mem_append_right _ (List.mem_singleton_self _), rfl, rfl⟩

section
variable {p : Fin 2} {s : State} (hr : s.power.inReset = false) (hc : s.power.mode ≠ .custody)
include hr hc

theorem phyResetRelease_exec (answers : Bool) : exec (.phyResetRelease ⟨p, answers⟩) s = .next
    (if answers || s.power.mode == .startup then s.modPort p fun q => { q with phyRun := true }
      else (s.modPort p fun q => { q with phyRun := true }).phySilent p) :=
  congrArg Host.Outcome.next (if_neg (by simp [hr, hc]))

theorem phyResetRelease_answers : exec (.phyResetRelease ⟨p, true⟩) s = .next (s.modPort p fun q => { q with phyRun := true }) := by
  rw [phyResetRelease_exec hr hc, if_pos (by simp)]

/-- A PHY that does not answer MDIO takes its port OFFLINE, with an entry (R156). -/
theorem phyResetRelease_silent (hm : s.power.mode ≠ .startup) : completes (.phyResetRelease ⟨p, false⟩) s fun t =>
    (t.port p).phyRun = true ∧ (t.port p).phySilent = true ∧ t.dataView (portId p) = .offline ∧
    (∃ e ∈ t.coda.queue, e.code = 0x0502 ∧ e.source = 7 + p) ∧ t.store = s.store ∧ t.seq = s.seq ∧ t.tb = s.tb := by
  have hexec := phyResetRelease_exec (p := p) hr hc false
  rw [if_neg (by simp [hm])] at hexec
  have hq := phySilent_quiet (s.modPort p fun q => { q with phyRun := true }) p
  have hport := phySilent_port (s.modPort p fun q => { q with phyRun := true }) p
  rw [modPort_port] at hport
  exact ⟨_, hexec, congrArg Port.phyRun hport, congrArg Port.phySilent hport, phySilent_offline .., phySilent_reports ..,
    (store_of_quiet hq :), (seq_of_quiet hq :), (tb_of_quiet hq :)⟩
end

/-- Settles O41, from what each row of transmission, links and PHYs leaves of its port. -/
theorem transmissionAndLinksComplete : Obligations.TransmissionAndLinksComplete := by
  refine ⟨fun p s => ⟨fun f q hs hpol => frameTransmitStart_completes hs hpol, heartbeatQueue_completes,
    departureHeartbeatExpiry_completes p s, fun d f => txDescriptorCancel_waiting, fun d => txDescriptorCancel_late⟩,
    fun p s => ⟨linkDown_completes, fun rate hr hc hp => ⟨linkUp_completes hr hc hp, fun full => linkUp_refused hr hc hp⟩,
      fun register value => phyIntPoll_completes register, fun hr hc => ⟨phyResetRelease_answers hr hc, phyResetRelease_silent hr hc⟩⟩⟩

end Sys2Proof.Laws
end

section
namespace Sys2Proof.Laws
open Sys2Proof Sys2Proof.Machine

/-! # The reading DEVICE, TIME and UNIT commands (R99, R329, R375, R376, R378, R379) -/

/-- The row of a reading command whose own definition answers the granted state with a result. -/
theorem exec_read {row : Cmd → Instr} (d : CmdDef) (hrow : ∀ c s, exec (row c) s = .next (d.run c s)) (hk : d.kind = .immediate)
    (hs : d.inService = true) {c : Cmd} {s : State} {result : Bytes} (h : s.ready c d.owner) (hl : d.len c.args.length = true)
    (h496 : c.args.length ≤ 496) (hp : d.pre s.board c.args = none)
    (ha : d.act { opcode := d.opcode, cmd := c, count := 0, adm := s.tb.measure } (s.granted c d.opcode) =
      okay (s.granted c d.opcode) result) :
    exec (row c) s = .next (s.answered c d.opcode result) := by
  rw [hrow, run_read h hk hs hl h496 hp ha]

section
variable {c : Cmd} {s : State} (h : s.ready c .rt)
include h

theorem deviceEcho_answers (hl : c.args.length ≤ 496) : exec (.deviceEcho c) s = .next (s.answered c 0x0102 c.args) :=
  exec_read cmdDeviceEcho (fun _ _ => rfl) rfl rfl h (decide_eq_true hl) hl rfl rfl

/-- The four commands without arguments show a part of the state that the grant of their mailbox leaves as it is. -/
theorem statusReads_answer (ha : c.args = []) :
    exec (.deviceIdentify c) s = .next (s.answered c 0x0101 s.identity) ∧
    exec (.deviceStartupStatus c) s = .next (s.answered c 0x0103 s.startupStatus) ∧
    exec (.devicePowerStatus c) s = .next (s.answered c 0x0107 s.powerStatus) ∧
    exec (.timeStatus c) s = .next (s.answered c 0x0201 s.timeStatus) := by
  have hl : c.args.length = 0 := by rw [ha]; rfl
  have hz : (c.args.length == 0) = true := beq_iff_eq.2 hl
  have h496 : c.args.length ≤ 496 := by omega
  exact ⟨exec_read cmdDeviceIdentify (fun _ _ => rfl) rfl rfl h hz h496 rfl rfl,
    exec_read cmdDeviceStartupStatus (fun _ _ => rfl) rfl rfl h hz h496 rfl rfl,
    exec_read cmdDevicePowerStatus (fun _ _ => rfl) rfl rfl h hz h496 rfl rfl,
    exec_read cmdTimeStatus (fun _ _ => rfl) rfl rfl h hz h496 rfl rfl⟩

/-- With `last` at the head of the log and `oldest` at its end, the digests from `first` on are shown. -/
theorem timeSealLog_answers {last oldest : Nat} {dLast dOldest : Bytes} (hl : c.args.length = 8) (h1 : 1 ≤ u8 c.args 6)
    (h15 : u8 c.args 6 ≤ 15) (hlast : s.tb.sealLog.head? = some (last, dLast)) (hold : s.tb.sealLog.getLast? = some (oldest, dOldest))
    (ho : oldest ≤ fld c.args 0 6) (hn : fld c.args 0 6 ≤ last) :
    exec (.timeSealLog c) s = .next (s.answered c 0x0203
      (be 6 (fld c.args 0 6) ++ be 1 (min (u8 c.args 6) (last - fld c.args 0 6 + 1)) ++ be 1 0 ++
        (List.range (min (u8 c.args 6) (last - fld c.args 0 6 + 1))).flatMap fun i =>
          (getKey (fld c.args 0 6 + i) s.tb.sealLog).getD (zeros 32))) := by
  have hpre : ¬ (u8 c.args 6 = 0 ∨ 15 < u8 c.args 6) := by omega
  have hin : ¬ (last < fld c.args 0 6 ∨ fld c.args 0 6 < oldest) := by omega
  refine exec_read cmdTimeSealLog (fun _ _ => rfl) rfl rfl h (beq_iff_eq.2 hl) (by omega) (if_neg hpre) ?_
  obtain ⟨rest, hlog⟩ := List.head?_eq_some_iff.1 hlast
  have hg : (s.granted c 0x0203).tb = s.tb := rfl
  show sealLog _ (s.granted c 0x0203) = okay (s.granted c 0x0203) _
  rw [hlog] at hold
  simp only [sealLog, hg, hlog, hold, if_neg hin, Timebase.sealDigest]

theorem unitQuery_answers {u : HwUnit} (hl : c.args.length = 2) (hu : s.unit (fld c.args 0 2) = some u) :
    exec (.unitQuery c) s = .next (s.answered c 0x0301 (s.unitRecord u)) := by
  refine exec_read cmdUnitQuery (fun _ _ => rfl) rfl rfl h (beq_iff_eq.2 hl) (by omega) rfl ?_
  have hg : (s.granted c 0x0301).unit (fld c.args 0 2) = some u := hu
  simp only [cmdUnitQuery, CmdDef.base, hg]
  rfl

theorem unitList_answers (hl : c.args.length = 4) : exec (.unitList c) s = .next (s.answered c 0x0303
    (be 1 ((s.units.filter fun u => decide (fld c.args 0 2 ≤ u.id)).take 61).length ++ be 1 0 ++
      be 2 ((((s.units.filter fun u => decide (fld c.args 0 2 ≤ u.id)).drop 61).head?.map (·.id)).getD 0) ++
      ((s.units.filter fun u => decide (fld c.args 0 2 ≤ u.id)).take 61).flatMap s.unitRecord)) :=
  exec_read cmdUnitList (fun _ _ => rfl) rfl rfl h (beq_iff_eq.2 hl) (by omega) rfl rfl
end

/-- Settles O6: each command shows a part of the state that the grant of its mailbox leaves as it is. -/
theorem deviceTimeUnitReadsAnswer : Obligations.DeviceTimeUnitReadsAnswer := fun _ _ h =>
  ⟨statusReads_answer h, deviceEcho_answers h, fun _ _ _ _ => timeSealLog_answers h, fun _ => unitQuery_answers h, unitList_answers h⟩

end Sys2Proof.Laws
end

section
namespace Sys2Proof.Laws
open Sys2Proof Sys2Proof.Machine

/-! # What a controller reset leaves of the boot NOR (R305, R332, R354)

The reset ends XIP and clears LAST_NOR_STATUS (`State.clearSwitched`); `State.resetBy` keeps the boot NOR whole but for a Recovery
download. -/

theorem controllerReset_xip (s : State) (cause : ResetCause) : (s.controllerReset cause).nor.xip = false := rfl

theorem fatal_xip (s : State) (reason core : Nat) (causing : Option (Nat × Nat × Bytes)) :
    (s.fatal reason core causing).nor.xip = false := controllerReset_xip _ .fatal

/-- `resetBy` keeps XIP as it was, so nothing that ends XIP is such a reset. -/
theorem not_resetBy_of_xip {s t : State} {cause : ResetCause} (hs : s.nor.xip = true) (ht : t.nor.xip = false) :
    ¬ s.resetBy t cause := by
  rintro ⟨-, -, -, -, -, -, -, -, -, -, -, -, -, -, -, -, hnor, -⟩
  have hkept : t.nor.xip = s.nor.xip := (congrArg Nor.xip hnor :)
  exact absurd (ht.symm.trans (hkept.trans hs)) nofun

/-- The drive at its reset, with XIP enabled for the device. -/
def xipReset : State := { State.reset with nor := { State.reset.nor with xip := true } }

/-- The same out of reset, in Start-up with no protection region set: Cantor runs, and every access is forbidden. -/
def xipStartup : State := xipReset.modPower fun p => { p with inReset := false }

theorem xipStartup_cantorRuns : xipStartup.cantorRuns = true := rfl

/-- Refutes O42: PORST_n in a state in which XIP is enabled ends XIP, and so does not keep the boot NOR as it was. -/
theorem not_resetsAndStopsComplete : ¬ Obligations.ResetsAndStopsComplete := by
  intro ⟨h, _⟩
  obtain ⟨⟨t, hexec, hreset⟩, -⟩ := h xipReset
  obtain rfl : xipReset.controllerReset .porst = t := Host.Outcome.next.inj hexec
  exact not_resetBy_of_xip rfl (controllerReset_xip xipReset .porst) hreset

/-- Refutes O43: core 0 loads a byte that no region permits while XIP is enabled; the reset for the fatal error ends XIP, and so
does not keep the boot NOR as it was. -/
theorem not_accessesAreCheckedWhole : ¬ Obligations.AccessesAreCheckedWhole := by
  intro h
  obtain ⟨hforbidden, -⟩ := h 0 .load 0 1 xipStartup xipStartup_cantorRuns nofun
  obtain ⟨t, hexec, hreset⟩ := hforbidden ⟨0, le_rfl, Nat.one_pos, nofun⟩
  obtain rfl : xipStartup.fatal 1 0 (some (0x0401, 3, be 1 0 ++ be 1 (accessNum .load) ++ zeros 2 ++ be 4 0 ++ be 4 0 ++ be 4 1)) = t :=
    Host.Outcome.next.inj hexec
  exact not_resetBy_of_xip rfl (fatal_xip ..) hreset

end Sys2Proof.Laws
end

section
namespace Sys2Proof.Laws
open Sys2Proof Sys2Proof.Machine

/-! # The directory of L2 lines (R72) -/

theorem find_insertLine_same (d : DirLine) (l : List DirLine) (h : ∀ x ∈ l, x.line ≠ d.line) :
    (insertLine d l).find? (fun x => x.line == d.line) = some d := by
  induction l with
  | nil => simp [insertLine]
  | cons x l ih =>
    obtain ⟨hx, hl⟩ := List.forall_mem_cons.1 h
    rw [insertLine]
    split
    · simp
    · simp [hx, ih hl]

theorem find_insertLine_other (d : DirLine) (l : List DirLine) {k : Nat} (h : k ≠ d.line) :
    (insertLine d l).find? (fun x => x.line == k) = l.find? fun x => x.line == k := by
  induction l with
  | nil => simp [insertLine, h.symm]
  | cons x l ih =>
    rw [insertLine]
    split
    · simp [h.symm]
    · rw [List.find?_cons, List.find?_cons, ih]

/-- The entries of the other lines, found by their line, are what they were. -/
theorem find_rest_other {l : List DirLine} {k n : Nat} (h : k ≠ n) :
    (l.filter fun x => x.line != n).find? (fun x => x.line == k) = l.find? fun x => x.line == k := by
  rw [List.find?_filter]
  congr 1
  funext x
  by_cases hx : x.line = k <;> simp [hx, h]

theorem setLine_dirLine (s : State) (d : DirLine) : (s.setLine d).dirLine d.line = d := by
  simp only [State.setLine, State.dirLine, State.modCluster]
  split
  · next h =>
    obtain ⟨hn, hw⟩ : d.owner = none ∧ d.waiting = [] := by simpa using h
    have hnone : (s.cluster.dir.filter fun x => x.line != d.line).find? (fun x => x.line == d.line) = none := by simp
    rw [hnone, Option.getD_none, ← hn, ← hw]
  · rw [find_insertLine_same _ _ (by simp), Option.getD_some]

theorem setLine_dirLine_other (s : State) (d : DirLine) {k : Nat} (h : k ≠ d.line) : (s.setLine d).dirLine k = s.dirLine k := by
  simp only [State.setLine, State.dirLine, State.modCluster]
  split
  · rw [find_rest_other h]
  · rw [find_insertLine_other _ _ h, find_rest_other h]

theorem dirLine_line (s : State) (line : Nat) : (s.dirLine line).line = line := by
  rw [State.dirLine]
  cases h : s.cluster.dir.find? fun d => d.line == line with
  | none => rfl
  | some d => simpa using List.find?_some h

/-! # Who is granted a line (R73) -/

/-- The earlier in the rotating order of the best so far and one more core. -/
def earlier (start : Nat) (best : Option (Fin 4)) (c : Fin 4) : Option (Fin 4) :=
  match best with
  | none => some c
  | some b => if turnOf start c < turnOf start b then some c else some b

theorem earlier_some (start : Nat) (b c : Fin 4) : ∃ d, earlier start (some b) c = some d ∧ (d = b ∨ d = c) ∧
    turnOf start d ≤ turnOf start b ∧ turnOf start d ≤ turnOf start c := by
  rw [earlier]
  split
  · next h => exact ⟨c, rfl, .inr rfl, h.le, le_rfl⟩
  · next h => exact ⟨b, rfl, .inl rfl, le_rfl, not_lt.1 h⟩

/-- The first in the rotating order of a core and a list of them. -/
theorem foldl_earlier (start : Nat) (l : List (Fin 4)) (b : Fin 4) : ∃ d ∈ b :: l,
    l.foldl (earlier start) (some b) = some d ∧ ∀ c ∈ b :: l, turnOf start d ≤ turnOf start c := by
  induction l generalizing b with
  | nil => exact ⟨b, List.mem_singleton_self b, rfl, fun c hc => List.mem_singleton.1 hc ▸ le_rfl⟩
  | cons x l ih =>
    obtain ⟨e, he, hmem, hb, hx⟩ := earlier_some start b x
    obtain ⟨d, hd, hfold, hmin⟩ := ih e
    obtain ⟨hde, hl⟩ := List.forall_mem_cons.1 hmin
    refine ⟨d, ?_, by rw [List.foldl_cons, he, hfold],
      List.forall_mem_cons.2 ⟨hde.trans hb, List.forall_mem_cons.2 ⟨hde.trans hx, hl⟩⟩⟩
    rcases List.mem_cons.1 hd with rfl | hd
    · rcases hmem with rfl | rfl <;> simp
    · exact List.mem_cons_of_mem _ (List.mem_cons_of_mem _ hd)

/-- `c`, which has waited behind `k` grants, goes first among the waiting requests. -/
def goesFirst (start : Nat) (l : List (Fin 4 × Nat)) (c : Fin 4) (k : Nat) : Prop :=
  (c, k) ∈ l ∧ ∀ b j, (b, j) ∈ l → j ≤ k ∧ (j = k → turnOf start c ≤ turnOf start b)

/-- The most grants that a waiting request has waited behind. -/
theorem most_waited {l : List (Fin 4 × Nat)} (h : l ≠ []) :
    (∃ a, (a, (l.map (·.2)).foldl max 0) ∈ l) ∧ ∀ b j, (b, j) ∈ l → j ≤ (l.map (·.2)).foldl max 0 := by
  obtain ⟨hmem, hle⟩ := List.max?_eq_some_iff.1 (List.max?_cons' (x := 0) (xs := l.map (·.2)))
  have hle (b : Fin 4) (j : Nat) (hj : (b, j) ∈ l) : j ≤ (l.map (·.2)).foldl max 0 :=
    hle j (List.mem_cons_of_mem _ (List.mem_map.2 ⟨_, hj, rfl⟩))
  refine ⟨?_, hle⟩
  rcases List.mem_cons.1 hmem with h0 | hmem
  · obtain ⟨⟨a, j⟩, ha⟩ := List.exists_mem_of_ne_nil l h
    have hj : j = (l.map (·.2)).foldl max 0 := Nat.le_antisymm (hle a j ha) (by omega)
    exact ⟨a, hj ▸ ha⟩
  · obtain ⟨⟨a, j⟩, ha, hj⟩ := List.mem_map.1 hmem
    exact ⟨a, hj ▸ ha⟩

theorem nextOwner_eq (start : Nat) (l : List (Fin 4 × Nat)) : nextOwner start l =
    ((l.filter fun p => p.2 == (l.map (·.2)).foldl max 0).map (·.1)).foldl (earlier start) none := rfl

/-- Of the waiting requests one is granted: one that goes first. -/
theorem nextOwner_first (start : Nat) {l : List (Fin 4 × Nat)} (h : l ≠ []) :
    ∃ c k, nextOwner start l = some c ∧ goesFirst start l c k := by
  obtain ⟨⟨a, ha⟩, hle⟩ := most_waited h
  rw [nextOwner_eq]
  generalize (l.map (·.2)).foldl max 0 = k at ha hle ⊢
  have hmem (c : Fin 4) : c ∈ (l.filter fun p => p.2 == k).map (·.1) ↔ (c, k) ∈ l := by simp
  cases hl : (l.filter fun p => p.2 == k).map (·.1) with
  | nil => exact absurd ((hmem a).2 ha) (by simp [hl])
  | cons b rest =>
    obtain ⟨c, hc, hfold, hmin⟩ := foldl_earlier start rest b
    exact ⟨c, k, hfold, (hmem c).1 (hl ▸ hc), fun b j hb => ⟨hle b j hb, fun hj => hmin b (hl ▸ (hmem b).2 (hj ▸ hb))⟩⟩

/-- The other requests once `c` is granted: each has waited behind one grant more. -/
def losers (c : Fin 4) (l : List (Fin 4 × Nat)) : List (Fin 4 × Nat) := (l.filter fun p => p.1 != c).map fun p => (p.1, p.2 + 1)

theorem grant_nil (start : Nat) {d : DirLine} (h : d.waiting = []) : d.grant start = d := by
  rw [DirLine.grant, h]
  rfl

theorem grant_line (start : Nat) (d : DirLine) : (d.grant start).line = d.line := by
  unfold DirLine.grant
  split <;> rfl

/-- A grant with requests waiting. -/
theorem grant_first (start : Nat) {d : DirLine} (h : d.waiting ≠ []) : ∃ c k, goesFirst start d.waiting c k ∧
    d.grant start = { d with owner := some c, waiting := losers c d.waiting } := by
  obtain ⟨c, k, hnext, hfirst⟩ := nextOwner_first start h
  refine ⟨c, k, hfirst, ?_⟩
  rw [DirLine.grant, hnext]
  rfl

/-! # No request waits behind more than three grants (R73) -/

/-- The requests that have waited behind `j` grants or more. -/
def waitedBehind (j : Nat) (l : List (Fin 4 × Nat)) : List (Fin 4 × Nat) := l.filter fun p => decide (j ≤ p.2)

/-- At most 4 − j requests have waited behind `j` grants or more. -/
def fewBehind (l : List (Fin 4 × Nat)) (j : Nat) : Prop := l.all (fun p => decide (p.2 < j)) = true ∨ (waitedBehind j l).length + j ≤ 4

theorem fewBehind_losers_succ {start : Nat} {l : List (Fin 4 × Nat)} {c : Fin 4} {k j : Nat} (h : goesFirst start l c k)
    (hf : fewBehind l j) : fewBehind (losers c l) (j + 1) := by
  by_cases hk : k < j
  · refine .inl ?_
    rw [losers, List.all_map, List.all_eq_true]
    intro p hp
    have hle := (h.2 p.1 p.2 (List.mem_filter.1 hp).1).1
    exact decide_eq_true (show p.2 + 1 < j + 1 by omega)
  · refine .inr ?_
    have hlen : (waitedBehind (j + 1) (losers c l)).length = ((waitedBehind j l).filter fun p => p.1 != c).length := by
      simp [waitedBehind, losers, List.filter_map, Function.comp_def, List.filter_filter, Bool.and_comm]
    have hlt : ((waitedBehind j l).filter fun p => p.1 != c).length < (waitedBehind j l).length :=
      List.length_filter_lt_length_iff_exists.2 ⟨(c, k), List.mem_filter.2 ⟨h.1, by simpa using hk⟩, by simp⟩
    rcases hf with hf | hf
    · exact absurd (List.all_eq_true.1 hf _ h.1) (by simpa using hk)
    · omega

theorem fewBehind_losers_zero {l : List (Fin 4 × Nat)} (c : Fin 4) (hf : fewBehind l 0) : fewBehind (losers c l) 0 := by
  rcases hf with hf | hf
  · cases l with
    | nil => exact .inl rfl
    | cons p l => simp at hf
  · have hle : (waitedBehind 0 (losers c l)).length ≤ (waitedBehind 0 l).length := by
      simpa [waitedBehind, losers] using List.length_filter_le (fun p : Fin 4 × Nat => p.1 != c) l
    exact .inr (by omega)

theorem losers_nodup {l : List (Fin 4 × Nat)} (c : Fin 4) (h : (l.map (·.1)).Nodup) : ((losers c l).map (·.1)).Nodup := by
  rw [losers, List.map_map]
  exact h.sublist (List.filter_sublist.map _)

/-- A grant keeps the line fair. -/
theorem grant_fair (start : Nat) {d : DirLine} (h : d.fair) : (d.grant start).fair := by
  by_cases hw : d.waiting = []
  · rwa [grant_nil start hw]
  · obtain ⟨c, k, hfirst, hd⟩ := grant_first start hw
    rw [hd]
    refine ⟨losers_nodup c h.1, fun j => ?_⟩
    match j with
    | 0 => exact fewBehind_losers_zero c (h.2 0)
    | j + 1 => exact fewBehind_losers_succ hfirst (h.2 j)

/-- On a fair line no request has waited behind more than three grants. -/
theorem fair_three {d : DirLine} (h : d.fair) : ∀ p ∈ d.waiting, p.2 ≤ 3 := by
  intro p hp
  rcases h.2 4 with h4 | h4
  · have hlt : p.2 < 4 := of_decide_eq_true (List.all_eq_true.1 h4 p hp)
    omega
  · have hnil : (d.waiting.filter fun p => decide (4 ≤ p.2)) = [] := List.length_eq_zero_iff.1 (by omega)
    have hlt : ¬ 4 ≤ p.2 := by simpa using List.filter_eq_nil_iff.1 hnil p hp
    omega

/-! # The rows (R72) -/

/-- The line's entry once the requests of `cores` have arrived, behind those that wait. -/
def requested (d : DirLine) (cores : List (Fin 4)) (wb : Bool) : DirLine :=
  { d with
    owner := if wb then none else d.owner
    waiting := d.waiting ++ (cores.filter fun c => !d.waiting.any fun p => p.1 == c).map (·, 0) }

/-- New requests keep the line fair: there are four cores, and the new ones have waited behind no grant. -/
theorem requested_fair {d : DirLine} (h : d.fair) {cores : List (Fin 4)} (hc : cores.Nodup) (wb : Bool) : (requested d cores wb).fair := by
  have hnodup : ((requested d cores wb).waiting.map (·.1)).Nodup := by
    rw [requested, List.map_append, List.map_map]
    refine List.Nodup.append h.1 (by simpa [Function.comp_def] using hc.filter _) ?_
    intro c hold hnew
    obtain ⟨p, hp, rfl⟩ := List.mem_map.1 hold
    obtain ⟨_, hb, rfl⟩ := List.mem_map.1 hnew
    have hany : (d.waiting.any fun q => q.1 == p.1) = true := List.any_eq_true.2 ⟨p, hp, beq_self_eq_true p.1⟩
    exact absurd (List.mem_filter.1 hb).2 (by simp [hany])
  refine ⟨hnodup, fun j => ?_⟩
  match j with
  | 0 =>
    have hlen := hnodup.length_le_card
    exact .inr (by simpa using hlen)
  | j + 1 =>
    refine (h.2 (j + 1)).imp (fun hall => ?_) (fun hfew => ?_)
    · simpa [requested] using hall
    · simpa [requested, List.filter_map, Function.comp_def] using hfew

section
variable {line : Nat} {s : State} (hs : s.cantorRuns = true)
include hs

theorem ownershipRequest_exec (cores : List (Fin 4)) (wb : Bool) : exec (.ownershipRequest line cores wb) s =
    .next (s.setLine ((requested (s.dirLine line) cores wb).grant s.tb.measure)) :=
  if_pos hs

theorem ownershipRetry_exec : exec (.ownershipRetry line) s = .next (s.setLine ((s.dirLine line).grant s.tb.measure)) := if_pos hs
end

/-- What putting a line's new entry into the directory makes of the state. -/
theorem setLine_leaves (s : State) {line : Nat} {d : DirLine} (h : d.line = line) :
    (s.setLine d).dirLine line = d ∧ (∀ l, l ≠ line → (s.setLine d).dirLine l = s.dirLine l) ∧
    s.setLine d = { s with cluster := { s.cluster with dir := (s.setLine d).cluster.dir } } := by
  subst h
  exact ⟨setLine_dirLine s d, fun l hl => setLine_dirLine_other s d hl, rfl⟩

theorem ownershipRequest_completes {line : Nat} {s : State} (hs : s.cantorRuns = true) {cores : List (Fin 4)} (wb : Bool)
    (hc : cores ≠ []) (hw : (s.dirLine line).waiting = []) :
    completes (.ownershipRequest line cores wb) s fun t =>
      ∃ c ∈ cores, (t.dirLine line).owner = some c ∧ (t.dirLine line).waiting = (cores.filter (· != c)).map (·, 1) ∧
        (∀ b ∈ cores, turnOf s.tb.measure c ≤ turnOf s.tb.measure b) ∧ (∀ l, l ≠ line → t.dirLine l = s.dirLine l) ∧
        t = { s with cluster := { s.cluster with dir := t.cluster.dir } } := by
  have hreq : (requested (s.dirLine line) cores wb).waiting = cores.map (·, 0) := by simp [requested, hw]
  obtain ⟨c, k, ⟨hmem, hfirst⟩, hgrant⟩ := grant_first s.tb.measure (d := requested (s.dirLine line) cores wb) (by simpa [hreq] using hc)
  obtain ⟨hline, hother, honly⟩ := setLine_leaves s (line := line) ((grant_line s.tb.measure (requested (s.dirLine line) cores wb)).trans
    (dirLine_line s line))
  rw [hreq] at hmem hfirst
  obtain ⟨_, hcore, hpair⟩ := List.mem_map.1 hmem
  obtain ⟨rfl, rfl⟩ := Prod.mk.inj hpair
  refine ⟨_, ownershipRequest_exec hs cores wb, _, hcore, ?_, ?_, ?_, hother, honly⟩
  · rw [hline, hgrant]
  · rw [hline, hgrant, hreq]
    simp [losers, List.filter_map, Function.comp_def]
  · exact fun b hb => (hfirst b 0 (List.mem_map.2 ⟨b, hb, rfl⟩)).2 rfl

theorem ownershipRetry_completes {line : Nat} {s : State} (hs : s.cantorRuns = true) (hw : (s.dirLine line).waiting ≠ []) :
    completes (.ownershipRetry line) s fun t =>
      ∃ c k, (c, k) ∈ (s.dirLine line).waiting ∧ (t.dirLine line).owner = some c ∧
        (t.dirLine line).waiting = ((s.dirLine line).waiting.filter fun p => p.1 != c).map (fun p => (p.1, p.2 + 1)) ∧
        (∀ b j, (b, j) ∈ (s.dirLine line).waiting → j ≤ k ∧ (j = k → turnOf s.tb.measure c ≤ turnOf s.tb.measure b)) ∧
        (∀ l, l ≠ line → t.dirLine l = s.dirLine l) ∧ t = { s with cluster := { s.cluster with dir := t.cluster.dir } } := by
  obtain ⟨c, k, ⟨hmem, hfirst⟩, hgrant⟩ := grant_first s.tb.measure hw
  obtain ⟨hline, hother, honly⟩ := setLine_leaves s ((grant_line s.tb.measure _).trans (dirLine_line s line))
  refine ⟨_, ownershipRetry_exec hs, c, k, hmem, ?_, ?_, hfirst, hother, honly⟩
  · rw [hline, hgrant]
  · rw [hline, hgrant]
    rfl

/-- Granting a fair line leaves it fair. -/
theorem setLine_grant_fair (s : State) {line : Nat} {d : DirLine} (hline : d.line = line) (h : d.fair) :
    ((s.setLine (d.grant s.tb.measure)).dirLine line).fair ∧
    ∀ p ∈ ((s.setLine (d.grant s.tb.measure)).dirLine line).waiting, p.2 ≤ 3 := by
  obtain ⟨hset, -, -⟩ := setLine_leaves s ((grant_line s.tb.measure d).trans hline)
  rw [hset]
  exact ⟨grant_fair _ h, fair_three (grant_fair _ h)⟩

/-- Settles O47: a grant goes to one that goes first, and takes one request from those that have waited behind most grants. -/
theorem ownershipCompletes : Obligations.OwnershipCompletes := fun line s hs =>
  ⟨fun _ wb => ownershipRequest_completes hs wb, ownershipRetry_completes hs, fun hfair cores wb hc =>
    ⟨⟨_, ownershipRequest_exec hs cores wb, setLine_grant_fair s (dirLine_line s line) (requested_fair hfair hc wb)⟩,
      ⟨_, ownershipRetry_exec hs, setLine_grant_fair s (dirLine_line s line) hfair⟩⟩⟩

end Sys2Proof.Laws
end

section
namespace Sys2Proof.Laws
open Sys2Proof Sys2Proof.Machine

/-! # SPI frames of any words (R79 to R81) -/

/-- Some word fails a check. -/
def someFails (l : List (Nat × WordErr)) : Prop := ∃ p ∈ l, p.2 ≠ ⟨false, false, false, false⟩

/-- The status byte of a frame that is refused has DONE clear. -/
theorem statusByte_refused {l : List (Nat × WordErr)} {frame : Bool} (h : frame = true ∨ someFails l) (irq : Bool) :
    bit (statusByte l frame irq) 0 = false := by
  have hflag : frame = true ∨ l.any (fun p => p.2.addr) = true ∨ l.any (fun p => p.2.secure) = true ∨
      l.any (fun p => p.2.busy) = true ∨ l.any (fun p => p.2.mode) = true := by
    refine h.imp_right fun ⟨p, hp, hne⟩ => ?_
    have hbit : ∀ e : WordErr, e ≠ ⟨false, false, false, false⟩ → e.addr = true ∨ e.secure = true ∨ e.busy = true ∨ e.mode = true := by
      rintro ⟨_ | _, _ | _, _ | _, _ | _⟩ <;> simp
    have hany {f : Nat × WordErr → Bool} (hf : f p = true) : l.any f = true := List.any_eq_true.2 ⟨p, hp, hf⟩
    exact (hbit p.2 hne).imp hany (Or.imp hany (Or.imp hany hany))
  rw [statusByte]
  generalize l.any (fun p => p.2.addr) = a at hflag ⊢
  generalize l.any (fun p => p.2.secure) = b at hflag ⊢
  generalize l.any (fun p => p.2.busy) = c at hflag ⊢
  generalize l.any (fun p => p.2.mode) = d at hflag ⊢
  clear h
  revert frame a b c d irq
  decide

theorem bit_done (irq : Bool) : bit (spiDone + if irq then spiIrq else 0) 0 = true := by cases irq <;> rfl

/-- The record of a frame: the port's own, and nothing else. -/
theorem frameDone_leaves (s : State) (start st : Nat) (l : List (Nat × WordErr)) (miso : Bytes) :
    s.frameDone start st l miso = { s with spi := (s.frameDone start st l miso).spi } ∧
    (s.frameDone start st l miso).spi.portStat = st ∧ (s.frameDone start st l miso).spi.miso = miso ∧
    (s.frameDone start st l miso).spi.winsel = s.spi.winsel ∧ (s.frameDone start st l miso).spi.unlocked = s.spi.unlocked := by
  unfold State.frameDone State.modSpi
  refine ⟨rfl, ?_⟩
  dsimp only
  split <;> exact ⟨rfl, rfl, rfl, rfl⟩

/-! ## Write frames -/

section
variable {s : State} {m : Bytes} (hs : s.spiAlive = true) (hok : headerOk 0x02 m = true)
include hs hok

/-- A write frame that is whole and whose words all pass is applied. -/
theorem writeFrame_applied (hlen : (sub m 6 (4 * fld m 4 2)).length = 4 * fld m 4 2)
    (h : allPass (s.checkBurst (some (sub m 6 (4 * fld m 4 2))) (fld m 4 2) (fld m 1 3))) :
    s.writeFrame m = (s.writeWords (fld m 4 2) (fld m 1 3) (sub m 6 (4 * fld m 4 2))).modSpi fun p =>
      { p with
        portStat := spiDone + (if (s.writeWords (fld m 4 2) (fld m 1 3) (sub m 6 (4 * fld m 4 2))).mirq then spiIrq else 0)
        miso := (zeros (4 * fld m 4 2) ++ be 1 (spiDone +
          (if (s.writeWords (fld m 4 2) (fld m 1 3) (sub m 6 (4 * fld m 4 2))).mirq then spiIrq else 0))).take (m.length - 6) } := by
  simp only [State.writeFrame, hs, hok, hlen, lt_irrefl, decide_false, statusByte_allPass h, bit_done, frameDone_clean h.clean,
    Bool.not_true, Bool.false_eq_true, if_false, if_true]

/-- A write frame that is cut short, or of which a word fails a check, is recorded in the port, with DONE clear. -/
theorem writeFrame_refused (h : (sub m 6 (4 * fld m 4 2)).length < 4 * fld m 4 2 ∨
      someFails (s.checkBurst (some (sub m 6 (4 * fld m 4 2))) (fld m 4 2) (fld m 1 3))) :
    s.writeFrame m = { s with spi := (s.writeFrame m).spi } ∧ bit (s.writeFrame m).spi.portStat 0 = false ∧
    (s.writeFrame m).spi.winsel = s.spi.winsel ∧ (s.writeFrame m).spi.unlocked = s.spi.unlocked := by
  have hbit := statusByte_refused (h.imp_left decide_eq_true) s.mirq
  simp only [State.writeFrame, hs, hok, hbit, Bool.not_true, Bool.false_eq_true, if_false]
  obtain ⟨honly, hstat, -, hwin, hunl⟩ := frameDone_leaves s (fld m 1 3) _ (s.checkBurst (some (sub m 6 (4 * fld m 4 2))) (fld m 4 2)
    (fld m 1 3)) _
  exact ⟨honly, (congrArg (bit · 0) hstat).trans hbit, hwin, hunl⟩
end

/-! ## Read frames -/

theorem readEffect_leaves (s : State) (b : Block) (a : Nat) : s.readEffect b a =
    { s with tb := (s.readEffect b a).tb, fabric := (s.readEffect b a).fabric, ports := (s.readEffect b a).ports } := by
  unfold State.readEffect
  dsimp only
  split
  · split <;> rfl
  · split <;> rfl
  · split
    · split <;> rfl
    · split <;> rfl
  all_goals rfl

/-- Reads copy high words into the registers beside their low words (R32, R158, R300), and change nothing else. -/
theorem readWords_leaves (s : State) (n a : Nat) : (s.readWords n a).1 =
    { s with tb := (s.readWords n a).1.tb, fabric := (s.readWords n a).1.fabric, ports := (s.readWords n a).1.ports } := by
  induction n generalizing s a with
  | zero => rfl
  | succ n ih =>
    unfold State.readWords
    split
    · exact ih s (a + 4)
    · next b _ =>
      have hread := readEffect_leaves s b a
      generalize s.readEffect b a = u at hread
      have hrest := ih u (a + 4)
      dsimp only
      generalize (u.readWords n (a + 4)).1 = v at hrest
      rw [hrest, hread]

section
variable {s : State} {m : Bytes} (hs : s.spiAlive = true) (hok : headerOk 0x0B m = true)
include hs hok

/-- A read frame whose words all pass answers them after the turnaround and the status byte. -/
theorem readFrame_answers (h : allPass (s.checkBurst none (fld m 4 2) (fld m 1 3))) :
    s.readFrame m = (s.readWords (fld m 4 2) (fld m 1 3)).1.modSpi fun p =>
      { p with
        portStat := spiDone + (if s.mirq then spiIrq else 0)
        miso := (0xFF#8 :: be 1 (spiDone + (if s.mirq then spiIrq else 0)) ++ (s.readWords (fld m 4 2) (fld m 1 3)).2).take
          (m.length - 6) } := by
  simp only [State.readFrame, hs, hok, statusByte_allPass h, bit_done, frameDone_clean h.clean, Bool.not_true, Bool.false_eq_true,
    if_false, if_true]

/-- A read frame of which a word fails a check answers zeros, with DONE clear. -/
theorem readFrame_refused (h : someFails (s.checkBurst none (fld m 4 2) (fld m 1 3))) :
    s.readFrame m = { s with spi := (s.readFrame m).spi } ∧ bit (s.readFrame m).spi.portStat 0 = false ∧
    (s.readFrame m).spi.miso = (0xFF#8 :: be 1 (s.readFrame m).spi.portStat ++ zeros (4 * fld m 4 2)).take (m.length - 6) := by
  have hbit := statusByte_refused (frame := false) (.inr h) s.mirq
  simp only [State.readFrame, hs, hok, hbit, Bool.not_true, Bool.false_eq_true, if_false]
  obtain ⟨honly, hstat, hmiso, -, -⟩ := frameDone_leaves s (fld m 1 3) _ (s.checkBurst none (fld m 4 2) (fld m 1 3)) _
  exact ⟨honly, (congrArg (bit · 0) hstat).trans hbit, by rw [hstat]; exact hmiso⟩
end

end Sys2Proof.Laws
end

section
namespace Sys2Proof.Laws
open Sys2Proof Sys2Proof.Machine

/-! # Mailbox fetches (R83, R86, R87) -/

/-- Mailbox `m` runs the command of its buffer. -/
def grantedIn (s : State) (m : Fin 8) : State := s.modMbx m fun x => x.grant ((s.mb m).command m).sequence

theorem grantedIn_mb (s : State) (m : Fin 8) : (grantedIn s m).mb m = (s.mb m).grant ((s.mb m).command m).sequence := modMbx_mb ..

theorem grantedIn_other (s : State) (m : Fin 8) : ∀ k, k ≠ m → (grantedIn s m).mb k = s.mb k := fun k hk => modMbx_other s m k _ hk

theorem grantedIn_check (s : State) (m : Fin 8) (d : CmdDef) (c : Cmd) : d.check c (grantedIn s m) = d.check c s :=
  check_congr d c rfl rfl rfl

section
variable {s : State} {m : Fin 8} (hf : s.fetches = true) (hn : s.nextPosted = some m)
  (hr : (s.mb m).repeats (fld (s.mb m).request 4 4) = false) (hfit : (s.mb m).misfit m = false)
include hf hn hr hfit

/-- A fetch runs the command that the next mailbox's opcode names. -/
theorem mailboxFetch_command {d : CmdDef} (hd : commandOf (fld (s.mb m).request 0 2) = some d) :
    exec .mailboxFetch s = .next (d.granted ((s.mb m).command m) (grantedIn s m)) := by
  have hr' : (s.mb m).repeats ((s.mb m).command m).sequence = false := hr
  show execMailboxFetch s = .next (d.granted ((s.mb m).command m) (grantedIn s m))
  simp only [execMailboxFetch, hf, hn, State.fetch, hr', hfit, hd, grantedIn, if_true, Bool.false_eq_true, if_false]

/-- A command that no opcode names is answered RANGE. -/
theorem mailboxFetch_unnamed (hd : commandOf (fld (s.mb m).request 0 2) = none) : exec .mailboxFetch s =
    .next ((grantedIn s m).answerCmd ((s.mb m).command m) (fld (s.mb m).request 0 2) .range []) := by
  have hr' : (s.mb m).repeats ((s.mb m).command m).sequence = false := hr
  show execMailboxFetch s = .next ((grantedIn s m).answerCmd ((s.mb m).command m) (fld (s.mb m).request 0 2) .range [])
  simp only [execMailboxFetch, hf, hn, State.fetch, hr', hfit, hd, grantedIn, if_true, Bool.false_eq_true, if_false]
end

theorem loadingTimeout_releases {m : Fin 8} {s : State} (h : (s.mb m).state = .loading) :
    exec (.mailboxLoadingTimeout m) s = .next (s.modMbx m fun b => { b with state := .idle, eth := false, abandoned := true }) :=
  if_pos h

/-- A sealed command that passes its checks and finds a slot. -/
theorem granted_slot {d : CmdDef} {c : Cmd} {s : State} (hc : d.check c s = none) (hk : d.kind ≠ .immediate) (hf : s.slotFree = true) :
    d.granted c s = (s.modStore fun t => { t with admCount := t.admCount.set c.mailbox (s.store.admCount[c.mailbox] + 1) }).modSeq
      fun q => { q with slots := q.slots + 1, admitted := q.admitted ++ [.cmd (s.asSealed c d.opcode)] } := by
  simp only [CmdDef.granted, hc, if_neg hk, hf, if_true]
  rfl

/-- A sealed command that passes its checks and finds no slot waits for one. -/
theorem granted_waits {d : CmdDef} {c : Cmd} {s : State} (hc : d.check c s = none) (hk : d.kind ≠ .immediate) (hf : s.slotFree = false) :
    d.granted c s = s.modSeq fun q => { q with waiting := q.waiting ++ [.cmd { opcode := d.opcode, cmd := c, count := 0, adm := 0 }] } := by
  simp only [CmdDef.granted, hc, if_neg hk, hf, Bool.false_eq_true, if_false]

theorem granted_refused {d : CmdDef} {c : Cmd} {s : State} {st : Status} (hc : d.check c s = some st) :
    d.granted c s = s.answerCmd c d.opcode st [] := by
  simp only [CmdDef.granted, hc]

/-- Over SPI the answer to the granted command stays in its mailbox, which is DONE. -/
theorem answerCmd_grantedIn {s : State} {m : Fin 8} (he : (s.mb m).eth = false) (op : Nat) (st : Status) :
    ∃ envelope, (grantedIn s m).answerCmd ((s.mb m).command m) op st [] =
      s.modMbx m fun x => (x.grant ((s.mb m).command m).sequence).complete ((s.mb m).command m).sequence st envelope := by
  have he' : ((grantedIn s m).mb m).eth = false := by rw [grantedIn_mb]; exact he
  have hm : ((s.mb m).command m).mailbox = m := rfl
  simp only [State.answerCmd, State.completeMailbox, hm, he']
  exact ⟨_, modMbx_modMbx ..⟩

/-- A mailbox whose granted command has been answered over SPI. -/
theorem complete_grant {b : Mailbox} (he : b.eth = false) (q : Nat) (st : Status) (envelope : Bytes) :
    ((b.grant q).complete q st envelope).state = .done ∧ ((b.grant q).complete q st envelope).code = st.num ∧
    ((b.grant q).complete q st envelope).seqReg = q ∧ ((b.grant q).complete q st envelope).prevSeq = some q ∧
    ((b.grant q).complete q st envelope).stored = true := by
  simp [Mailbox.complete, Mailbox.grant, he]

section
variable {m : Fin 8} {s : State} (hf : s.fetches = true) (hn : s.nextPosted = some m)
  (hr : (s.mb m).repeats (fld (s.mb m).request 4 4) = false) (hfit : (s.mb m).misfit m = false)
include hf hn hr hfit

section
variable {d : CmdDef} (hd : commandOf (fld (s.mb m).request 0 2) = some d) (hc : d.check ((s.mb m).command m) s = none)
  (hk : d.kind ≠ .immediate)
include hd hc hk

theorem mailboxFetch_enters (hs : s.slotFree = true) : completes .mailboxFetch s fun t =>
    t.mb m = (s.mb m).grant ((s.mb m).command m).sequence ∧ (∀ k, k ≠ m → t.mb k = s.mb k) ∧
    t.seq = { s.seq with
      slots := s.seq.slots + 1, admitted := s.seq.admitted ++ [.cmd (s.asSealed ((s.mb m).command m) d.opcode)] } ∧
    t.store = { s.store with admCount := s.store.admCount.set m (s.store.admCount[m] + 1) } ∧
    t = { s with mbx := t.mbx, seq := t.seq, store := t.store } := by
  refine ⟨_, mailboxFetch_command hf hn hr hfit hd, ?_⟩
  rw [granted_slot ((grantedIn_check s m d _).trans hc) hk (hs :)]
  exact ⟨grantedIn_mb s m, grantedIn_other s m, rfl, rfl, rfl⟩

theorem mailboxFetch_waits (hs : s.slotFree = false) : completes .mailboxFetch s fun t =>
    t.mb m = (s.mb m).grant ((s.mb m).command m).sequence ∧ (∀ k, k ≠ m → t.mb k = s.mb k) ∧
    (∃ w, t.seq = { s.seq with waiting := s.seq.waiting ++ [.cmd w] } ∧ w.cmd = (s.mb m).command m ∧ w.opcode = d.opcode) ∧
    t = { s with mbx := t.mbx, seq := t.seq } := by
  refine ⟨_, mailboxFetch_command hf hn hr hfit hd, ?_⟩
  rw [granted_waits ((grantedIn_check s m d _).trans hc) hk (hs :)]
  exact ⟨grantedIn_mb s m, grantedIn_other s m, ⟨_, rfl, rfl, rfl⟩, rfl⟩
end

/-- A command that fails a check, or that no opcode names, is answered with that check's status. -/
theorem mailboxFetch_refuses {st : Status} (he : (s.mb m).eth = false)
    (h : (∃ d, commandOf (fld (s.mb m).request 0 2) = some d ∧ d.check ((s.mb m).command m) s = some st) ∨
      (commandOf (fld (s.mb m).request 0 2) = none ∧ st = .range)) :
    completes .mailboxFetch s fun t =>
      (t.mb m).state = .done ∧ (t.mb m).code = st.num ∧ (t.mb m).seqReg = ((s.mb m).command m).sequence ∧
      (t.mb m).prevSeq = some ((s.mb m).command m).sequence ∧ (t.mb m).stored = true ∧ (∀ k, k ≠ m → t.mb k = s.mb k) ∧
      t = { s with mbx := t.mbx } := by
  obtain ⟨op, hexec⟩ : ∃ op, exec .mailboxFetch s = .next ((grantedIn s m).answerCmd ((s.mb m).command m) op st []) := by
    rcases h with ⟨d, hd, hc⟩ | ⟨hd, rfl⟩
    · rw [mailboxFetch_command hf hn hr hfit hd, granted_refused ((grantedIn_check s m d _).trans hc)]
      exact ⟨_, rfl⟩
    · exact ⟨_, mailboxFetch_unnamed hf hn hr hfit hd⟩
  obtain ⟨envelope, hanswer⟩ := answerCmd_grantedIn he op st
  obtain ⟨hstate, hcode, hseq, hprev, hstored⟩ := complete_grant he ((s.mb m).command m).sequence st envelope
  rw [hanswer] at hexec
  refine ⟨_, hexec, ?_⟩
  dsimp only
  rw [modMbx_mb]
  exact ⟨hstate, hcode, hseq, hprev, hstored, fun k hk => modMbx_other s m k _ hk, rfl⟩
end

/-- Settles O49: a frame is applied or answered whole or recorded as refused, and a fetch grants the mailbox that is next. -/
theorem spiFramesAndFetchComplete : Obligations.SpiFramesAndFetchComplete := by
  refine ⟨?_, fun m s => ⟨loadingTimeout_releases, ?_⟩⟩
  · rintro m _ _ _ s hs rfl rfl rfl
    refine ⟨fun hok hlen h => ⟨_, rfl, ?_⟩, fun hok h => ⟨_, rfl, writeFrame_refused hs hok h⟩, fun hok h => ⟨_, rfl, ?_⟩,
      fun hok h => ⟨_, rfl, readFrame_refused hs hok h⟩⟩
    · rw [writeFrame_applied hs hok hlen h]
      exact ⟨rfl, rfl, rfl⟩
    · rw [readFrame_answers hs hok h]
      have hread := readWords_leaves s (fld m 4 2) (fld m 1 3)
      exact ⟨rfl, rfl, (congrArg State.store hread :), (congrArg State.mbx hread :), (congrArg State.seq hread :),
        (congrArg State.power hread :), (congrArg State.coda hread :)⟩
  · rintro hf hn hr hfit _ rfl
    exact ⟨fun d hd hc hk => ⟨mailboxFetch_enters hf hn hr hfit hd hc hk, mailboxFetch_waits hf hn hr hfit hd hc hk⟩,
      fun st he h => mailboxFetch_refuses hf hn hr hfit he h⟩

end Sys2Proof.Laws
end

section
namespace Sys2Proof.Laws
open Sys2Proof Sys2Proof.Machine

/-! # Management messages (R82, R90 to R92) -/

/-- The way of a message that the drive accepts, from the mailbox that its envelope names. -/
theorem mgmtRx_accepted {s : State} {src : Source} {p : Bytes} (hs : s.inService = true)
    (heff : s.effective (portId src.port) ≠ .offline) (h : s.mgmtAccepts src p = true) : s.mgmtRx src p =
    if s.ownerOf (mailboxOf (p.drop 40)) = .sec ∧ !src.verified then s.mgmtAnswer src (p.drop 40) .denied
    else if bit (u8 (p.drop 40) 3) 1 then s.mgmtCancel src (mailboxOf (p.drop 40)) (p.drop 40)
    else s.mgmtPost src (mailboxOf (p.drop 40)) (p.drop 40) := by
  have hon : ¬ (s.power.inReset ∨ s.power.mode = .custody) := by
    simp only [State.inService, Bool.and_eq_true, beq_iff_eq, Bool.not_eq_true'] at hs
    simp [hs]
  simp only [State.mgmtRx, State.mgmtRxIn, if_neg hon, hs, if_neg heff, h, Bool.not_true, Bool.false_eq_true, if_false]

/-- A message that the mailbox's owner lets pass is a cancel or a command for its mailbox. -/
theorem mgmtRx_owned {s : State} {src : Source} {p : Bytes} (hs : s.inService = true)
    (heff : s.effective (portId src.port) ≠ .offline) (h : s.mgmtAccepts src p = true)
    (ho : s.ownerOf (mailboxOf (p.drop 40)) = .sec → src.verified = true) : s.mgmtRx src p =
    if bit (u8 (p.drop 40) 3) 1 then s.mgmtCancel src (mailboxOf (p.drop 40)) (p.drop 40)
    else s.mgmtPost src (mailboxOf (p.drop 40)) (p.drop 40) := by
  rw [mgmtRx_accepted hs heff h, if_neg]
  rintro ⟨hsec, hv⟩
  simp [ho hsec] at hv

/-! ## A command for its mailbox -/

theorem mgmtPost_idle {s : State} {m : Fin 8} (src : Source) (e : Bytes) (h : (s.mb m).state = .idle) : s.mgmtPost src m e =
    s.modMbx m fun b => { b with state := .posted, eth := true, peer := some src, request := padTo 512 e } := if_pos h

theorem mgmtPost_duplicate {s : State} {m : Fin 8} (src : Source) {e : Bytes} (h : (s.mb m).state ≠ .idle) (he : (s.mb m).eth = true)
    (hq : fld (s.mb m).request 4 4 = fld e 4 4) : s.mgmtPost src m e = s := by
  simp only [State.mgmtPost, if_neg h, he, hq, beq_self_eq_true, Bool.and_self, if_true]

/-! ## A cancel of a command that came over Ethernet -/

section
variable {s : State} {m : Fin 8} {src : Source} {e : Bytes} (he : (s.mb m).eth = true)
include he

theorem mgmtCancel_posted (hq : fld (s.mb m).request 4 4 = fld e 4 4) (h : (s.mb m).state = .posted) : s.mgmtCancel src m e =
    (s.modMbx m fun b => { b with state := .idle, eth := false, peer := none, seqReg := fld e 4 4 }).mgmtAnswer src e .ok := by
  simp [State.mgmtCancel, he, hq, h]

theorem mgmtCancel_running (hq : fld (s.mb m).request 4 4 = fld e 4 4) (h : (s.mb m).state = .running) :
    s.mgmtCancel src m e = s.mgmtAnswer src e .cancelLate := by
  simp [State.mgmtCancel, he, hq, h]

/-- A cancel of a command that the mailbox does not hold. -/
theorem mgmtCancel_other (hq : fld (s.mb m).request 4 4 ≠ fld e 4 4) : s.mgmtCancel src m e =
    if (s.mb m).lastDone = some (fld e 4 4) then s.mgmtAnswer src e .cancelLate else s.mgmtAnswer src e .notFound := by
  simp [State.mgmtCancel, he, hq]
end

/-- Settles O50: a message is denied, posted, discarded or answered by the mailbox that its envelope names. -/
theorem managementMessagesComplete : Obligations.ManagementMessagesComplete := by
  intro src p e s hs heff
  refine ⟨?_, ?_⟩
  · rintro hacc rfl hbit
    refine ⟨fun hsec hv => congrArg Host.Outcome.next ?_, fun ho => ?_⟩
    · rw [mgmtRx_accepted hs heff hacc, if_pos ⟨hsec, by simp [hv]⟩]
    · have hpost := mgmtRx_owned hs heff hacc ho
      rw [if_neg (by simp [hbit])] at hpost
      exact ⟨fun hi => congrArg Host.Outcome.next (hpost.trans (mgmtPost_idle src _ hi)),
        fun hi he hq => congrArg Host.Outcome.next (hpost.trans (mgmtPost_duplicate src hi he hq))⟩
  · rintro hacc rfl hbit ho he
    have hcancel := mgmtRx_owned hs heff hacc ho
    rw [if_pos hbit] at hcancel
    exact ⟨fun hq => ⟨fun h => congrArg Host.Outcome.next (hcancel.trans (mgmtCancel_posted he hq h)),
        fun h => congrArg Host.Outcome.next (hcancel.trans (mgmtCancel_running he hq h))⟩,
      fun hq => ⟨fun h => congrArg Host.Outcome.next (hcancel.trans ((mgmtCancel_other he hq).trans (if_pos h))),
        fun h => congrArg Host.Outcome.next (hcancel.trans ((mgmtCancel_other he hq).trans (if_neg h)))⟩⟩

end Sys2Proof.Laws
end

section
namespace Sys2Proof.Laws
open Sys2Proof Sys2Proof.Machine

/-! # Writing and removing keys (R120, R121, R164) -/

/-! ## The keys of a namespace -/

theorem find_cons (e : KeyEnt) (l : List KeyEnt) (k : Bytes) :
    (e :: l).find? (fun x => x.key == k) = if k = e.key then some e else l.find? fun x => x.key == k := by
  by_cases h : k = e.key
  · simp [h]
  · simp [h, Ne.symm h]

theorem find_putEnt (e : KeyEnt) (l : List KeyEnt) (k : Bytes) :
    (putEnt e l).find? (fun x => x.key == k) = if k = e.key then some e else l.find? fun x => x.key == k := by
  induction l with
  | nil => exact find_cons e [] k
  | cons x l ih =>
    unfold putEnt
    split
    · exact find_cons ..
    · split
      · next hx =>
        rw [find_cons, find_cons, ← beq_iff_eq.1 hx]
        split <;> rfl
      · next hx =>
        rw [find_cons, find_cons, ih]
        by_cases h : k = e.key
        · have hkx : k ≠ x.key := fun hk => hx (beq_iff_eq.2 (h.symm.trans hk))
          simp only [if_neg hkx, if_pos h]
        · simp only [if_neg h]

theorem key_of_find {n : Namespace} {key : Bytes} {e : KeyEnt} (h : n.find key = some e) : e.key = key := by
  simpa using List.find?_some h

theorem drop_find (n : Namespace) (key k : Bytes) : (n.drop key).find k = if k = key then none else n.find k := by
  simp only [Namespace.find, Namespace.drop, List.find?_filter]
  split
  · next h => simp [h]
  · next h =>
    congr 1
    funext e
    by_cases hk : e.key = k <;> simp [hk, h]

/-! ## Namespaces by id -/

theorem modNs_ns (t : Store) (id : Nat) (f : Namespace → Namespace) (hf : ∀ n, (f n).id = n.id) :
    (t.modNs id f).ns id = (t.ns id).map f := find_map_same Namespace.id f hf id t.nss

theorem modNs_other (t : Store) (id k : Nat) (f : Namespace → Namespace) (hf : ∀ n, (f n).id = n.id) (h : k ≠ id) :
    (t.modNs id f).ns k = t.ns k := find_map_other Namespace.id f hf h t.nss

/-! ## Versions -/

theorem stamp_fst (t : Store) (ns : Nat) (key : Bytes) : (t.stamp ns key).1 = t.counter ns key + 1 := by
  unfold Store.stamp
  split <;> rfl

theorem stamp_ns (t : Store) (ns : Nat) (key : Bytes) (k : Nat) : (t.stamp ns key).2.ns k = t.ns k := by
  unfold Store.stamp
  split <;> rfl

theorem counter_local {t : Store} {ns : Nat} (h : t.chorusNs ns = none) (key : Bytes) :
    t.counter ns key = (getKey ns t.counters).getD 0 := by
  unfold Store.counter
  split
  · next h1 => rw [h] at h1; cases h1
  · rfl

theorem stamp_local {t : Store} {ns : Nat} (h : t.chorusNs ns = none) (key : Bytes) : t.stamp ns key =
    (t.counter ns key + 1, { t with counters := insertKey ns (t.counter ns key + 1) t.counters }) := by
  unfold Store.stamp
  split
  · next h1 => rw [h] at h1; cases h1
  · rfl

/-! ## A value written -/

/-- The entry that a write leaves under its key. -/
def writtenEnt (t : Store) (n : Namespace) (key value : Bytes) (adm : Nat) : KeyEnt :=
  { key, value, version := t.counter n.id key + 1, adm, sha384 := if n.typ = .staging then sha384 value else []
    extent := (t.stamp n.id key).2.nextExtent }

theorem write_fst (t : Store) (n : Namespace) (key value : Bytes) (adm : Nat) :
    (t.write n key value adm).1 = t.counter n.id key + 1 := stamp_fst ..

theorem write_snd (t : Store) (n : Namespace) (key value : Bytes) (adm : Nat) : (t.write n key value adm).2 =
    { (t.stamp n.id key).2.modNs n.id fun m => { m with keys := putEnt (writtenEnt t n key value adm) m.keys } with
      nextExtent := ((t.stamp n.id key).2.nextExtent + 1) % 2 ^ 40 } := by
  rw [writtenEnt, ← stamp_fst]
  rfl

/-- The namespace after a write: the value stands under the key, every other key is as it was. -/
theorem write_ns {t : Store} {n : Namespace} (h : t.ns n.id = some n) (key value : Bytes) (adm : Nat) :
    ∃ n1, (t.write n key value adm).2.ns n.id = some n1 ∧ (∀ k, k ≠ key → n1.find k = n.find k) ∧
      n1.find key = some (writtenEnt t n key value adm) := by
  have hfind := find_putEnt (writtenEnt t n key value adm) n.keys
  refine ⟨{ n with keys := putEnt (writtenEnt t n key value adm) n.keys }, ?_, fun k hk => ?_, ?_⟩
  · rw [write_snd]
    refine (modNs_ns (t.stamp n.id key).2 n.id _ fun _ => ?_).trans ?_
    · rfl
    · rw [stamp_ns, h]
      rfl
  · exact (hfind k).trans (if_neg hk)
  · exact (hfind key).trans (if_pos rfl)

/-- A write to a namespace of no Chorus changes that namespace, its version counter and the next extent alone. -/
theorem write_sameBut {t : Store} {n : Namespace} (h : t.chorusNs n.id = none) (key value : Bytes) (adm : Nat) :
    getKey n.id (t.write n key value adm).2.counters = some (t.counter n.id key + 1) ∧
    t.sameBut (t.write n key value adm).2 n.id := by
  rw [write_snd, stamp_local h]
  refine ⟨(getKey_insertKey ..).trans (if_pos rfl), fun k hk => ⟨?_, ?_⟩, rfl⟩
  · exact modNs_other _ n.id k _ (fun _ => rfl) hk
  · exact (getKey_insertKey ..).trans (if_neg (Ne.symm hk))

/-! ## A key removed -/

/-- The namespace after a removal: the key is gone, every other key is as it was. -/
theorem remove_ns {t : Store} {n : Namespace} {id : Nat} (h : t.ns id = some n) (key : Bytes) :
    ∃ n1, (t.remove id key).ns id = some n1 ∧ n1.find key = none ∧ ∀ k, k ≠ key → n1.find k = n.find k := by
  refine ⟨n.drop key, ?_, (drop_find ..).trans (if_pos rfl), fun k hk => (drop_find ..).trans (if_neg hk)⟩
  refine (modNs_ns (t.stamp id key).2 id (fun n => n.drop key) fun _ => rfl).trans ?_
  rw [stamp_ns, h]
  rfl

/-- A removal from a namespace of no Chorus changes that namespace and its version counter alone. -/
theorem remove_sameBut {t : Store} {id : Nat} (h : t.chorusNs id = none) (key : Bytes) :
    getKey id (t.remove id key).counters = some (t.counter id key + 1) ∧ t.sameBut (t.remove id key) id := by
  rw [Store.remove, stamp_local h]
  refine ⟨(getKey_insertKey ..).trans (if_pos rfl), fun k hk => ⟨?_, ?_⟩, rfl⟩
  · exact modNs_other _ id k _ (fun _ => rfl) hk
  · exact (getKey_insertKey ..).trans (if_neg (Ne.symm hk))

/-! # What the watches of a change leave (R124, R125, R237) -/

theorem tell_store (s : State) (ns : Nat) (key : Bytes) (kind version len m : Nat) (w : Watch) :
    (s.tell ns key kind version len m w).store = s.store := by
  unfold State.tell
  refine store_ite (store_ite ?_ ?_) rfl
  · exact (schedule_store ..).trans (schedule_store ..)
  · exact schedule_store ..

theorem watchPatterns_still (s : State) (ns : Nat) (key : Bytes) (m : Nat) :
    still ((s.watchPatterns ns key m).foldl (fun t slot => t.ranOn slot key) s) = still s :=
  foldl_still (fun t slot => ranOn_still t slot key) _ s

@[simp] theorem observe_store (s : State) (ns : Nat) (key : Bytes) (kind version len m : Nat) :
    (s.observe ns key kind version len m).store = s.store :=
  (foldl_keeps (fun t w => tell_store t ns key kind version len m w) _ _).trans (store_of_still (watchPatterns_still s ns key m))

theorem sameRest_schedule {s : State} {r : Reply} (h : s.tb.measure < r.due) : s.sameRest (s.schedule r) := by
  rw [schedule_later h]
  exact sameRest_refl s

/-- The acknowledgement of an item sealed in `m` leaves in `m + 3` or later. -/
theorem ackAt_late (q : Sequencer) (m : Nat) : m + 3 ≤ (q.ackAt m).1 := by
  simp only [Sequencer.ackAt]
  omega

theorem sameRest_tell {s : State} {m : Nat} (h : s.tb.measure < m + 3) (ns : Nat) (key : Bytes) (kind version len : Nat) (w : Watch) :
    s.sameRest (s.tell ns key kind version len m w) := by
  unfold State.tell
  split
  · extract_lets w1 s1
    have h1 : s.sameRest s1 := sameRest_schedule (h.trans_le (ackAt_late ..))
    split
    · exact sameRest_trans h1 (sameRest_schedule (((sameRest_tb h1) ▸ h).trans_le (ackAt_late ..)))
    · exact h1
  · exact sameRest_refl s

theorem sameRest_foldl {α : Type} {p : State → Prop} {f : State → α → State} (hp : ∀ t u, t.sameRest u → p t → p u)
    (hf : ∀ t a, p t → t.sameRest (f t a)) (l : List α) {s : State} (h : p s) : s.sameRest (l.foldl f s) := by
  induction l generalizing s with
  | nil => exact sameRest_refl s
  | cons a l ih => exact sameRest_trans (hf s a h) (ih (hp _ _ (hf s a h) h))

/-- Before the acknowledgement of `m` may leave, the watches of a change sealed in `m` only queue their notifications. -/
theorem sameRest_observe {s : State} {m : Nat} (h : s.tb.measure < m + 3) (ns : Nat) (key : Bytes) (kind version len : Nat) :
    s.sameRest (s.observe ns key kind version len m) := by
  have hstill := watchPatterns_still s ns key m
  refine sameRest_trans (sameRest_of_still hstill) (sameRest_foldl (p := fun t => t.tb.measure < m + 3) ?_ ?_ _ ?_)
  · exact fun t u htu ht => (sameRest_tb htu).symm ▸ ht
  · exact fun t w ht => sameRest_tell ht ns key kind version len w
  · exact (tb_of_still hstill).symm ▸ h

/-! ## Values put and dropped -/

theorem putValue_fst (s : State) (n : Namespace) (key value : Bytes) (m : Nat) :
    (s.putValue n key value m).1 = s.store.counter n.id key + 1 := write_fst s.store n key value m

theorem putValue_store (s : State) (n : Namespace) (key value : Bytes) (m : Nat) :
    (s.putValue n key value m).2.store = (s.store.write n key value m).2 := observe_store ..

theorem sameRest_putValue {s : State} {m : Nat} (h : s.tb.measure < m + 3) (n : Namespace) (key value : Bytes) :
    s.sameRest (s.putValue n key value m).2 :=
  sameRest_observe (s := ({ s with store := (s.store.write n key value m).2 } : State).hostWrote value.length) h ..

theorem dropValue_store (s : State) (n : Namespace) (e : KeyEnt) (m : Nat) :
    (s.dropValue n e m).store = s.store.remove n.id e.key := observe_store ..

theorem sameRest_dropValue {s : State} {m : Nat} (h : s.tb.measure < m + 3) (n : Namespace) (e : KeyEnt) :
    s.sameRest (s.dropValue n e m) := sameRest_observe (s := { s with store := s.store.remove n.id e.key }) h ..

end Sys2Proof.Laws
end

section
namespace Sys2Proof.Laws
open Sys2Proof Sys2Proof.Machine

/-! # DELETE, CAS and segmented values at their places (R116 to R121) -/

/-! ## From the gate to the operation -/

theorem gated_of_gate {s s1 : State} {k : Ctx} {r : Request} {n : Namespace} (h : s.gate k r = (s1, .ok n))
    (f : State → Namespace → OpRes) : s.gated k r f = f s1 n := by rw [State.gated, h]

theorem nsGate_ok {s : State} {r : Request} {n : Namespace} (h : s.nsGate r = .ok n) : s.store.ns r.ns = some n := by
  unfold State.nsGate at h
  split at h
  · cases h
  · split at h
    · cases h
    · split at h
      · cases h
      · next hn =>
        split at h
        · cases h
        · exact (Except.ok.inj h) ▸ hn

/-- A gate that lets a request pass names the request's namespace and leaves the store. -/
theorem gate_ok {s s1 : State} {k : Ctx} {r : Request} {n : Namespace} (h : s.gate k r = (s1, .ok n)) :
    s.store.ns r.ns = some n ∧ n.id = r.ns ∧ s1.store = s.store := by
  have hst := store_of_still (fst_still h (gate_still s k r))
  have hns : s.store.ns r.ns = some n := by
    unfold State.gate at h
    split at h
    · cases h
    · next n1 hg =>
      have hn1 : n1 = n := by
        split at h
        · cases h
        · dsimp only at h
          split at h
          · cases h
          · cases h
          · split at h <;> cases h
            rfl
      exact hn1 ▸ nsGate_ok hg
  exact ⟨hns, ns_id hns, hst⟩

theorem mayAccess_id {s : State} {m : Nat} {r : Request} {n : Namespace} (h : s.mayAccess m r n) : n.id = r.ns := by
  obtain ⟨-, -, hns, -⟩ := h
  exact ns_id hns

theorem opRun_put (x : Ctx) {r : Request} (s : State) (h : r.op = 2) : opRun x r s = opPut x r s := by simp only [opRun, h]
theorem opRun_delete (x : Ctx) {r : Request} (s : State) (h : r.op = 3) : opRun x r s = opDelete x r s := by simp only [opRun, h]
theorem opRun_cas (x : Ctx) {r : Request} (s : State) (h : r.op = 4) : opRun x r s = opCas x r s := by simp only [opRun, h]
theorem opRun_segment (x : Ctx) {r : Request} (s : State) (h : r.op = 0x0B) : opRun x r s = opSegment x r s := by
  simp only [opRun, h]

theorem putOrFull_room {x : Ctx} {n : Namespace} {key value : Bytes} {s : State}
    (h : s.store.roomFor n key (charge value.length) (((n.find key).map fun e => charge e.value.length).getD 0)
      (b2n (n.find key).isNone) = true) :
    putOrFull x n key value s = ((s.putValue n key value x.m).2, .ok (be 8 (s.store.counter n.id key + 1))) := by
  rw [← putValue_fst s n key value x.m]
  exact if_pos h

theorem putOrFull_full {x : Ctx} {n : Namespace} {key value : Bytes} {s : State}
    (h : ¬ s.store.roomFor n key (charge value.length) (((n.find key).map fun e => charge e.value.length).getD 0)
      (b2n (n.find key).isNone) = true) : putOrFull x n key value s = (s, .no .noSpace) := if_neg h

section
variable {s s1 : State} {k : Ctx} {r : Request} {n : Namespace} (hg : s.gate k r = (s1, .ok n))
  (hh : s.store.isHeld n.id r.key = false)
include hg hh

theorem delete_present (ho : r.op = 3) {e : KeyEnt} (he : n.find r.key = some e) :
    opRun k r s = (s1.dropValue n e k.m, .ok (be 8 e.version)) := by
  rw [opRun_delete k s ho, opDelete, gated_of_gate hg]
  simp only [hh, Bool.false_eq_true, if_false, he]

theorem delete_absent (ho : r.op = 3) (he : n.find r.key = none) : opRun k r s = (s1, .no .notFound) := by
  rw [opRun_delete k s ho, opDelete, gated_of_gate hg]
  simp only [hh, Bool.false_eq_true, if_false, he]
  rfl

theorem cas_mismatch (ho : r.op = 4) (hs : opensSeg r = false) (hv : fld r.body 0 8 ≠ ((n.find r.key).map (·.version)).getD 0) :
    opRun k r s = (s1, .of .versionMismatch (be 8 (((n.find r.key).map (·.version)).getD 0))) := by
  rw [opRun_cas k s ho, opCas, gated_of_gate hg]
  simp only [hs, hh, Bool.false_eq_true, if_false, if_pos hv]

theorem cas_expected (ho : r.op = 4) (hs : opensSeg r = false) (hv : fld r.body 0 8 = ((n.find r.key).map (·.version)).getD 0) :
    opRun k r s = putOrFull k n r.key (r.body.drop 8) s1 := by
  rw [opRun_cas k s ho, opCas, gated_of_gate hg]
  simp only [hs, hh, Bool.false_eq_true, if_false, hv, ne_eq, not_true_eq_false]

theorem put_opens (ho : r.op = 2) (hs : opensSeg r = true) (hb : s.store.batch r.session = none)
    (hseg : s.store.seg r.session = none) (hr : s.store.roomFor n r.key (charge r.length) 0 1 = true) :
    opRun k r s = (s1.modStore fun t => t.openSeg k r, .ok []) := by
  obtain ⟨-, -, hst⟩ := gate_ok hg
  rw [opRun_put k s ho, opPut, gated_of_gate hg]
  simp only [hs, if_true, opOpen, hst, hh, hb, hseg, hr, Option.isSome_none, Bool.not_true, Bool.false_eq_true, if_false]
end

/-! ## The commit of a segmented value -/

section
variable {k : Ctx} {r : Request} {g : OpenSeg} {s : State} {n : Namespace} (hn : s.store.ns g.ns = some n)
  (hh : s.store.holds g.ns g.key = true)
include hn hh

theorem commitSeg_mismatch {v : Nat} (hv : g.expected = some v) (hne : v ≠ ((n.find g.key).map (·.version)).getD 0) :
    commitSeg k r g s = (s.modStore fun t => t.dropSeg r.session,
      .of .versionMismatch (be 8 (((n.find g.key).map (·.version)).getD 0))) := by
  have hexp : g.expected.isSome ∧ g.expected ≠ some (((n.find g.key).map (·.version)).getD 0) := by simp [hv, hne]
  simp only [commitSeg, hn, hh, Bool.not_true, Bool.false_eq_true, if_false, if_pos hexp]

theorem commitSeg_expected (hv : g.expected = none ∨ g.expected = some (((n.find g.key).map (·.version)).getD 0)) :
    commitSeg k r g s = (((s.modStore fun t => t.dropSeg r.session).putValue n g.key (g.data ++ r.body) k.m).2,
      .ok (be 8 ((s.store.dropSeg r.session).counter n.id g.key + 1))) := by
  have hexp : ¬ (g.expected.isSome ∧ g.expected ≠ some (((n.find g.key).map (·.version)).getD 0)) := by
    rcases hv with hv | hv <;> simp [hv]
  simp only [commitSeg, hn, hh, Bool.not_true, Bool.false_eq_true, if_false, if_neg hexp, putValue_fst]
  rfl
end

/-! ## Segments -/

theorem holds_local {t : Store} {ns : Nat} (h : t.chorusNs ns = none) (key : Bytes) : t.holds ns key = true := by
  unfold Store.holds
  split
  · next h1 => rw [h] at h1; cases h1
  · rfl

/-- An open value with one segment more (R117). -/
def grown (r : Request) (g : OpenSeg) : OpenSeg := { g with count := g.count + 1, data := g.data ++ r.body }

section
variable {s : State} {k : Ctx} {r : Request} {g : OpenSeg} (ho : r.op = 0x0B) (hok : ∃ n, s.nsGate r = .ok n)
  (hseg : s.store.seg r.session = some g) (hc : s.store.chorusNs g.ns = none) (hb : s.store.batch r.session = none)
include ho hok hseg hc hb

theorem segment_abort (h3 : bit r.flags 3 = true) : opRun k r s = (s.modStore fun t => t.dropSeg r.session, .ok []) := by
  obtain ⟨n, hn⟩ := hok
  rw [opRun_segment k s ho, opSegment]
  simp only [hn, hseg, hb, h3, holds_local hc, Option.isSome_none, Bool.not_true, Bool.false_and, Bool.and_false,
    Bool.false_eq_true, if_false, if_true]

theorem segment_adds (h2 : bit r.flags 2 = false) (h3 : bit r.flags 3 = false) (ht : g.takes r = true) :
    opRun k r s = (s.modStore fun t => t.modSeg r.session (grown r), .ok []) := by
  obtain ⟨n, hn⟩ := hok
  rw [opRun_segment k s ho, opSegment]
  simp only [hn, hseg, hb, h2, h3, ht, hc, holds_local hc, Option.isSome_none, Bool.not_true, Bool.false_and, Bool.and_false,
    Bool.false_eq_true, if_false, if_true]
  rfl

theorem segment_commits (h2 : bit r.flags 2 = true) (h3 : bit r.flags 3 = false) (ht : g.takes r = true)
    (hh : s.store.isHeld g.ns g.key = false) : opRun k r s = commitSeg k r g s := by
  obtain ⟨n, hn⟩ := hok
  rw [opRun_segment k s ho, opSegment]
  simp only [hn, hseg, hb, h2, h3, ht, hc, hh, Option.isSome_none, Bool.not_true, Bool.and_false,
    Bool.false_eq_true, if_false, if_true]
end

/-- The session's value grows, no other session's does. -/
theorem modSeg_seg (t : Store) (id : Nat) (f : OpenSeg → OpenSeg) (hf : ∀ g, (f g).session = g.session) :
    (t.modSeg id f).seg id = (t.seg id).map f := find_map_same OpenSeg.session f hf id t.segs

theorem modSeg_other (t : Store) (id k : Nat) (f : OpenSeg → OpenSeg) (hf : ∀ g, (f g).session = g.session) (h : k ≠ id) :
    (t.modSeg id f).seg k = t.seg k := find_map_other OpenSeg.session f hf h t.segs

/-! ## From the operation to its acknowledgement -/

theorem servesWith_mono {s : State} {m : Nat} {r : Request} {st : Status} {pieces : List (Nat × Nat × Bytes × Bytes)}
    {due durable : Nat} {P Q : State → Prop} (h : s.servesWith m r st pieces due durable P) (hPQ : ∀ u, P u → Q u) :
    s.servesWith m r st pieces due durable Q := by
  obtain ⟨u, hu, hp⟩ := h
  exact ⟨u, hu, hPQ u hp⟩

/-- A writing operation that has its turn outside a batch is answered two measures after its list's. -/
theorem servesWith_ack {s t : State} {m : Nat} {r : Request} {a : Ans} (h : s.reachesSkp m) (hw : isWrite r = true) (h9 : r.op ≠ 9)
    (hb : s.store.batch r.session = none) (hop : opRun ⟨m, m, false⟩ r s = (t, a)) (ha : answersNow s (t, a)) (hr : s.sameRest t) :
    s.servesWith m r a.status a.pieces (m + 3) m fun u => u.store = t.store ∧ s.sameRest u := by
  obtain ⟨hl, hbe⟩ := calm_of_lag (ha.1.trans (lag_of_reaches h))
  have h6 : r.op ≠ 6 := fun h6 => by simp [isWrite, isLoad, h6] at hw
  exact servesWith_of_opRun h (by simp [hb]) h9 (.inl h6) hop ha.2 hl hbe (by simp [hw]) (by simp [hw]) fun l => ⟨rfl, hr⟩

/-- A writing request that leaves after its ACL check is answered, and nothing else comes of it. -/
theorem servesWith_unwritten {s : State} {m : Nat} {r : Request} {a : Ans} (h : s.reachesSkp m) (hw : isWrite r = true) (h9 : r.op ≠ 9)
    (hb : s.store.batch r.session = none) (hop : opRun ⟨m, m, false⟩ r s = ((s.checkAcl ⟨m, m, false⟩ r).1, a))
    (ha : a.silent = false) :
    s.servesWith m r a.status a.pieces (m + 3) m fun u => u.store = s.store ∧ s.sameRest u := by
  have hstill : still (s.checkAcl ⟨m, m, false⟩ r).1 = still s := checkAcl_still ..
  refine servesWith_mono (servesWith_ack h hw h9 hb hop ⟨lag_of_still hstill, ha⟩ (sameRest_of_still hstill)) ?_
  rintro u ⟨hu, hre⟩
  exact ⟨hu.trans (store_of_still hstill), hre⟩

theorem reaches_early {s : State} {m : Nat} (h : s.reachesSkp m) : s.tb.measure < m + 3 := by
  obtain ⟨hm, -⟩ := h
  omega

/-- A value put in a local namespace by an operation that left the rest alone until then. -/
theorem servesWith_put {s t : State} {m : Nat} {r : Request} {n : Namespace} {key value : Bytes} {v : Nat} (h : s.reachesSkp m)
    (hw : isWrite r = true) (h9 : r.op ≠ 9) (hb : s.store.batch r.session = none) (hns : t.store.ns n.id = some n)
    (hc : t.store.chorusNs n.id = none) (hl : lag t = lag s) (hr : s.sameRest t)
    (hv : v = (getKey n.id t.store.counters).getD 0 + 1)
    (hop : opRun ⟨m, m, false⟩ r s = ((t.putValue n key value m).2, .ok (be 8 (t.store.counter n.id key + 1)))) :
    s.servesWith m r .ok [(0, 0, [], be 8 v)] (m + 3) m fun u =>
      (∃ n1, u.store.ns n.id = some n1 ∧ (∀ k, k ≠ key → n1.find k = n.find k) ∧ ∃ e, n1.find key = some e ∧ e.value = value ∧
        e.version = v ∧ e.adm = m) ∧
      getKey n.id u.store.counters = some v ∧ t.store.sameBut u.store n.id ∧ s.sameRest u := by
  rw [← counter_local hc key] at hv
  subst hv
  have hearly : t.tb.measure < m + 3 := (sameRest_tb hr).symm ▸ reaches_early h
  refine servesWith_mono (servesWith_ack h hw h9 hb hop ⟨(putValue_lag ..).trans hl, rfl⟩
    (sameRest_trans hr (sameRest_putValue hearly n key value))) ?_
  rintro u ⟨hu, hre⟩
  rw [hu, putValue_store]
  obtain ⟨n1, hn1, hother, hkey⟩ := write_ns hns key value m
  obtain ⟨hcount, hbut⟩ := write_sameBut hc key value m
  exact ⟨⟨n1, hn1, hother, _, hkey, rfl, rfl, rfl⟩, hcount, hbut, hre⟩

end Sys2Proof.Laws
end

section
namespace Sys2Proof.Laws
open Sys2Proof Sys2Proof.Machine

/-! ## DELETE (R120) -/

section
variable {s : State} {m : Nat} {r : Request} {n : Namespace} (h : s.reachesSkp m) (ha : s.mayAccess m r n)
  (hb : s.store.batch r.session = none) (hh : s.store.isHeld r.ns r.key = false)
include h ha hb hh

theorem delete_serves {e : KeyEnt} (ho : r.op = 3) (he : n.find r.key = some e) :
    s.servesWith m r .ok [(0, 0, [], be 8 e.version)] (m + 3) m fun u =>
      (∃ n1, u.store.ns r.ns = some n1 ∧ n1.find r.key = none ∧ ∀ k, k ≠ r.key → n1.find k = n.find k) ∧
      getKey r.ns u.store.counters = some ((getKey r.ns s.store.counters).getD 0 + 1) ∧ s.store.sameBut u.store r.ns ∧
      s.sameRest u := by
  have hg := gate_of_mayAccess ha
  obtain ⟨-, -, hns, hc, -, -⟩ := ha
  have hid := ns_id hns
  have hop := delete_present hg (hid.symm ▸ hh) ho he
  have hstill : still (s.checkAcl ⟨m, m, false⟩ r).1 = still s := checkAcl_still ..
  generalize (s.checkAcl ⟨m, m, false⟩ r).1 = s1 at hop hstill
  have hrest := sameRest_of_still hstill
  have hearly : s1.tb.measure < m + 3 := (sameRest_tb hrest).symm ▸ reaches_early h
  have hans := opDelete_answers ⟨m, m, false⟩ r s
  rw [← opRun_delete _ _ ho, hop] at hans
  refine servesWith_mono (servesWith_ack h (by simp [isWrite, ho]) (by omega) hb hop hans
    (sameRest_trans hrest (sameRest_dropValue hearly n e))) ?_
  rintro u ⟨hu, hre⟩
  rw [hu, dropValue_store, store_of_still hstill, hid, key_of_find he, ← counter_local hc r.key]
  obtain ⟨hcount, hbut⟩ := remove_sameBut hc r.key
  exact ⟨remove_ns hns r.key, hcount, hbut, hre⟩

theorem delete_absent_serves (ho : r.op = 3) (he : n.find r.key = none) :
    s.servesWith m r .notFound [(0, 0, [], [])] (m + 3) m fun u => u.store = s.store ∧ s.sameRest u :=
  servesWith_unwritten h (by simp [isWrite, ho]) (by omega) hb
    (delete_absent (gate_of_mayAccess ha) (mayAccess_id ha ▸ hh) ho he) rfl
end

/-- Settles O30: behind its gate DELETE drops the key it finds, and its watches leave the store. -/
theorem deleteRemovesTheKey : Obligations.DeleteRemovesTheKey := by
  refine ⟨fun k r s s1 n ho hg hh => ⟨fun e he => ?_, fun he => ?_⟩, fun r s x h ho => exec_entered h (by simp [rowOf, ho]),
    fun r s m n h ho ha hb hh => ⟨fun e he => delete_serves h ha hb hh ho he, fun he => delete_absent_serves h ha hb hh ho he⟩⟩
  · obtain ⟨hns, hid, hst⟩ := gate_ok hg
    obtain ⟨n1, hn1, hgone, hother⟩ := remove_ns hns r.key
    refine ⟨_, n1, delete_present hg hh ho he, ?_, hgone, hother⟩
    rw [dropValue_store, hst, hid, key_of_find he]
    exact hn1
  · exact ⟨delete_absent hg hh ho he, (gate_ok hg).2.2⟩

/-! ## CAS (R121) -/

section
variable {s : State} {m : Nat} {r : Request} {n : Namespace} {now : Nat} (h : s.reachesSkp m) (ha : s.mayAccess m r n)
  (hb : s.store.batch r.session = none) (hh : s.store.isHeld r.ns r.key = false) (ho : r.op = 4) (hs : opensSeg r = false)
  (hnow : now = ((n.find r.key).map (·.version)).getD 0)
include h ha hb hh ho hs hnow

theorem cas_mismatch_serves (hv : fld r.body 0 8 ≠ now) :
    s.servesWith m r .versionMismatch [(0, 0, [], be 8 now)] (m + 3) m fun u => u.store = s.store ∧ s.sameRest u := by
  subst hnow
  exact servesWith_unwritten h (by simp [isWrite, ho]) (by omega) hb
    (cas_mismatch (gate_of_mayAccess ha) (mayAccess_id ha ▸ hh) ho hs hv) rfl

theorem cas_expected_serves {v : Nat} (hv : fld r.body 0 8 = now) (hver : v = (getKey r.ns s.store.counters).getD 0 + 1)
    (hroom : s.store.roomFor n r.key (charge (r.body.drop 8).length) (((n.find r.key).map fun e => charge e.value.length).getD 0)
      (b2n (n.find r.key).isNone) = true) :
    s.servesWith m r .ok [(0, 0, [], be 8 v)] (m + 3) m fun u =>
      (∃ n1, u.store.ns r.ns = some n1 ∧ (∀ k, k ≠ r.key → n1.find k = n.find k) ∧ ∃ e, n1.find r.key = some e ∧
        e.value = r.body.drop 8 ∧ e.version = v ∧ e.adm = m) ∧
      getKey r.ns u.store.counters = some v ∧ s.store.sameBut u.store r.ns ∧ s.sameRest u := by
  have hg := gate_of_mayAccess ha
  obtain ⟨-, -, hns, hc, -, -⟩ := ha
  have hid := ns_id hns
  have hop := cas_expected hg (hid.symm ▸ hh) ho hs (hv.trans hnow)
  have hstill : still (s.checkAcl ⟨m, m, false⟩ r).1 = still s := checkAcl_still ..
  generalize (s.checkAcl ⟨m, m, false⟩ r).1 = s1 at hop hstill
  have hst := store_of_still hstill
  rw [← hst] at hroom hns hc hver
  rw [putOrFull_room hroom] at hop
  rw [← hid] at hns hc hver
  have hput := servesWith_put h (by simp [isWrite, ho]) (by omega) hb hns hc (lag_of_still hstill) (sameRest_of_still hstill) hver hop
  rwa [hid, hst] at hput
end

/-- Settles O31: CAS compares the expected version with the one it finds; only where they agree it comes to the write. -/
theorem casWritesOnlyTheExpected : Obligations.CasWritesOnlyTheExpected := by
  refine ⟨fun k r s s1 n now ho hg hh hs hnow => ⟨fun hv => ⟨?_, (gate_ok hg).2.2⟩, fun hv => ?_⟩,
    fun k r g s n v now hns hholds _ hexp hnow => ⟨fun hv => ?_, fun hv => ?_⟩, fun r s x h ho => exec_entered h (by simp [rowOf, ho]),
    fun r s m n now h ho ha hb hh hs hnow => ⟨cas_mismatch_serves h ha hb hh ho hs hnow, fun v hv hver hroom =>
      cas_expected_serves h ha hb hh ho hs hnow hv hver hroom⟩⟩
  · rw [cas_mismatch hg hh ho hs (hnow ▸ hv), hnow]
  · obtain ⟨hns, hid, hst⟩ := gate_ok hg
    rw [cas_expected hg hh ho hs (hv.trans hnow)]
    by_cases hroom : s1.store.roomFor n r.key (charge (r.body.drop 8).length)
        (((n.find r.key).map fun e => charge e.value.length).getD 0) (b2n (n.find r.key).isNone) = true
    · rw [← hst, ← hid] at hns
      obtain ⟨n1, hn1, hother, hkey⟩ := write_ns hns r.key (r.body.drop 8) k.m
      refine .inr ⟨_, n1, _, putOrFull_room hroom, ?_, hkey, rfl, hother⟩
      rw [putValue_store, ← hid]
      exact hn1
    · rw [putOrFull_full hroom]
      exact .inl rfl
  · rw [commitSeg_mismatch hns hholds hexp (hnow ▸ hv), hnow]
  · have hdrop : (s.store.dropSeg r.session).ns n.id = some n := (ns_id hns).symm ▸ hns
    obtain ⟨n1, hn1, -, hkey⟩ := write_ns hdrop g.key (g.data ++ r.body) k.m
    refine ⟨_, n1, _, commitSeg_expected hns hholds (.inr (hexp.trans (congrArg some (hv.trans hnow)))), ?_, hkey, rfl⟩
    rw [putValue_store, ← ns_id hns]
    exact hn1

/-! ## Segmented values (R116 to R119) -/

theorem put_opens_serves {s : State} {m : Nat} {r : Request} {n : Namespace} (h : s.reachesSkp m)
    (hb : s.store.batch r.session = none) (ho : r.op = 2) (hs : opensSeg r = true) (ha : s.mayAccess m r n)
    (hh : s.store.isHeld r.ns r.key = false) (hseg : s.store.seg r.session = none)
    (hroom : s.store.roomFor n r.key (charge r.length) 0 1 = true) :
    s.servesWith m r .ok [(0, 0, [], [])] (m + 3) m fun u =>
      u.store = { s.store with segs := s.store.segs ++ [{ session := r.session, ns := r.ns, key := r.key, total := r.length
                                                          count := 0, data := [], expected := none, adm := m }] } ∧
      s.sameRest u := by
  have hop := put_opens (gate_of_mayAccess ha) (mayAccess_id ha ▸ hh) ho hs hb hseg hroom
  have hstill : still (s.checkAcl ⟨m, m, false⟩ r).1 = still s := checkAcl_still ..
  have hlag := lag_of_still hstill
  have hrest := sameRest_of_still hstill
  refine servesWith_mono (servesWith_ack h (by simp [isWrite, ho]) (by omega) hb hop ⟨hlag, rfl⟩ hrest) ?_
  rintro u ⟨hu, hre⟩
  refine ⟨?_, hre⟩
  rw [hu, modStore_store, store_of_still hstill, Store.openSeg, ho]
  rfl

section
variable {s : State} {m : Nat} {r : Request} {g : OpenSeg} (h : s.reachesSkp m) (hb : s.store.batch r.session = none)
  (ho : r.op = 0x0B) (hok : ∃ n, s.nsGate r = .ok n) (hseg : s.store.seg r.session = some g) (hc : s.store.chorusNs g.ns = none)
include h hb ho hok hseg hc

theorem segment_adds_serves (h2 : bit r.flags 2 = false) (h3 : bit r.flags 3 = false) (ht : g.takes r = true) :
    s.servesWith m r .ok [(0, 0, [], [])] (m + 3) m fun u =>
      u.store.seg r.session = some { g with count := g.count + 1, data := g.data ++ r.body } ∧
      (∀ k, k ≠ r.session → u.store.seg k = s.store.seg k) ∧ u.store = { s.store with segs := u.store.segs } ∧ s.sameRest u := by
  refine servesWith_mono (servesWith_ack h (by simp [isWrite, ho]) (by omega) hb (segment_adds ho hok hseg hc hb h2 h3 ht)
    ⟨rfl, rfl⟩ (sameRest_refl s)) ?_
  rintro u ⟨hu, hre⟩
  rw [hu]
  refine ⟨?_, fun k hk => modSeg_other s.store r.session k (grown r) (fun _ => rfl) hk, rfl, hre⟩
  exact (modSeg_seg s.store r.session (grown r) fun _ => rfl).trans (congrArg _ hseg)

theorem segment_abort_serves (h3 : bit r.flags 3 = true) :
    s.servesWith m r .ok [(0, 0, [], [])] (m + 3) m fun u =>
      u.store = { s.store with segs := s.store.segs.filter fun h => h.session != r.session } ∧ s.sameRest u :=
  servesWith_ack h (by simp [isWrite, ho]) (by omega) hb (segment_abort ho hok hseg hc hb h3) ⟨rfl, rfl⟩ (sameRest_refl s)

theorem segment_commits_serves {n : Namespace} {v : Nat} (h2 : bit r.flags 2 = true) (h3 : bit r.flags 3 = false)
    (ht : g.takes r = true) (hns : s.store.ns g.ns = some n) (hh : s.store.isHeld g.ns g.key = false)
    (hexp : g.expected = none ∨ g.expected = some (((n.find g.key).map (·.version)).getD 0))
    (hv : v = (getKey g.ns s.store.counters).getD 0 + 1) :
    s.servesWith m r .ok [(0, 0, [], be 8 v)] (m + 3) m fun u =>
      (∃ n2, u.store.ns g.ns = some n2 ∧ (∀ k, k ≠ g.key → n2.find k = n.find k) ∧ ∃ e, n2.find g.key = some e ∧
        e.value = g.data ++ r.body ∧ e.version = v) ∧
      u.store.segs = s.store.segs.filter (fun h => h.session != r.session) ∧ (∀ k, k ≠ g.ns → u.store.ns k = s.store.ns k) ∧
      s.sameRest u := by
  have hid := ns_id hns
  have hop := (segment_commits (k := ⟨m, m, false⟩) ho hok hseg hc hb h2 h3 ht hh).trans
    (commitSeg_expected hns (holds_local hc g.key) hexp)
  rw [← hid] at hns hc hv
  refine servesWith_mono (servesWith_put (t := s.modStore fun t => t.dropSeg r.session) h (by simp [isWrite, ho]) (by omega) hb hns hc
    rfl (sameRest_refl s) hv hop) ?_
  rintro u ⟨⟨n2, hn2, hother, e, hkey, hval, hver, -⟩, -, ⟨hbut, hrest⟩, hre⟩
  rw [← hid]
  exact ⟨⟨n2, hn2, hother, e, hkey, hval, hver⟩, (congrArg Store.segs hrest :), fun k hk => (hbut k hk).1, hre⟩
end

/-- Settles O32: the rows take their requests; each form of PUT and SEGMENT has its own effect on the open value. -/
theorem skpSegmentsComplete : Obligations.SkpSegmentsComplete := by
  refine ⟨fun r s x h => ⟨fun ho => ?_, fun ho h2 h3 => ?_, fun ho h2 h3 => ?_, fun ho h3 => ?_⟩, fun r s m n h hb => ⟨?_, ?_⟩⟩
  · exact exec_entered h (by simp [rowOf, ho])
  · exact exec_entered h (by simp [rowOf, ho, h2, h3])
  · exact exec_entered h (by simp [rowOf, ho, h2, h3])
  · exact exec_entered h (by simp [rowOf, ho, h3])
  · exact put_opens_serves h hb
  · intro g ho hr h0 hn hl hseg hc
    have hok : ∃ n, s.nsGate r = .ok n := ⟨n, by simp [State.nsGate, hr, h0, hn, hl]⟩
    exact ⟨segment_adds_serves h hb ho hok hseg hc, segment_abort_serves h hb ho hok hseg hc, fun n1 v h2 h3 ht hns hh hexp hv =>
      segment_commits_serves h hb ho hok hseg hc h2 h3 ht hns hh hexp hv⟩

end Sys2Proof.Laws
end

section
namespace Sys2Proof.Laws
open Sys2Proof Sys2Proof.Machine

/-! # The deadlines of sessions (R107, R112, R119, R130) -/

/-! ## A gap (R112) -/

/-- A request behind the gap of session `id` is answered BUSY with GAP. -/
def gapRefused (id : Nat) (t : State) (q : Request × Nat) : State :=
  (t.modSession id (Session.returnCredit q.1.seq)).answerNow q.1 .busy (2 ^ 12) 0 []

theorem gapTimeout_over {s : State} {id : Nat} {x : Session} (hx : s.session id = some x) (h : s.gapOver x = true) :
    s.gapTimeout id = (s.behindGap x).foldl (gapRefused id)
      (s.modSeq fun q => { q with reorder := q.reorder.filter fun p => !(s.behindGap x).contains p }) := by
  simp only [State.gapTimeout, hx, h, if_true]
  rfl

/-- What of a session says which requests it has consumed. -/
def consumed (x : Session) : Nat × List Replay := (x.next, x.replay)

@[simp] theorem returnCredit_consumed (q : Nat) (x : Session) : consumed (x.returnCredit q) = consumed x := by
  unfold Session.returnCredit
  split <;> rfl

theorem gapRefused_consumed (id : Nat) (t : State) (q : Request × Nat) :
    ((gapRefused id t q).session id).map consumed = (t.session id).map consumed := by
  have h : (gapRefused id t q).session id = (t.session id).map (Session.returnCredit q.1.seq) :=
    modSession_session t id _ (returnCredit_id _)
  rw [h, Option.map_map]
  congr 1
  funext x
  exact returnCredit_consumed _ x

/-- A gap that has stood too long consumes no sequence: the requests behind it leave the reorder window, and that is all. -/
theorem gapTimeout_completes {s : State} {id : Nat} {x : Session} (hx : s.session id = some x) (h : s.gapOver x = true) :
    completes (.gapTimeout id) s fun t =>
      t.seq = { s.seq with reorder := s.seq.reorder.filter fun p => !(s.behindGap x).contains p } ∧
      (∃ y, t.session id = some y ∧ y.next = x.next ∧ y.replay = x.replay) ∧ t.store = s.store ∧ t.tb = s.tb := by
  refine ⟨_, rfl, ?_⟩
  rw [gapTimeout_over hx h]
  generalize hu : (s.modSeq fun q => { q with reorder := q.reorder.filter fun p => !(s.behindGap x).contains p }) = u
  have hkeeps := foldl_keeps (p := fun t : State => (t.seq, t.store, t.tb)) (f := gapRefused id) (fun _ _ => rfl) (s.behindGap x) u
  have hcons := foldl_keeps (p := fun t : State => (t.session id).map consumed) (gapRefused_consumed id) (s.behindGap x) u
  generalize (s.behindGap x).foldl (gapRefused id) u = t at hkeeps hcons
  subst hu
  simp only [Prod.mk.injEq] at hkeeps
  obtain ⟨hseq, hstore, htb⟩ := hkeeps
  have hsession : (s.modSeq fun q => { q with reorder := q.reorder.filter fun p => !(s.behindGap x).contains p }).session id = some x := hx
  rw [hsession] at hcons
  obtain ⟨y, hy, hyx⟩ := Option.map_eq_some_iff.1 hcons
  exact ⟨hseq, ⟨y, hy, congrArg Prod.fst hyx, congrArg Prod.snd hyx⟩, hstore, htb⟩

theorem gapTimeout_single {s : State} {id : Nat} {x : Session} {r : Request} {a : Nat} (hx : s.session id = some x)
    (h : s.gapOver x = true) (hl : s.behindGap x = [(r, a)]) :
    exec (.gapTimeout id) s = .next (((s.modSeq fun q => { q with reorder := q.reorder.filter (· != (r, a)) }).modSession id
      (Session.returnCredit r.seq)).answerNow r .busy (2 ^ 12) 0 []) := by
  have hne (p : Request × Nat) : (!([(r, a)] : List (Request × Nat)).contains p) = (p != (r, a)) := by
    rw [List.contains_cons, List.contains_nil, Bool.or_false]
    rfl
  refine congrArg Host.Outcome.next ?_
  rw [gapTimeout_over hx h, hl]
  simp only [hne]
  rfl

/-! ## A batch (R130) -/

/-- What replay records tell of the outcome of their requests, session by session. -/
def outcomes (s : State) : List (Nat × List (Nat × Option Status × Bool × Bytes)) :=
  s.sessions.map fun x => (x.id, x.replay.map fun p => (p.seq, p.status, p.aborted, p.body))

theorem modSession_outcomes (s : State) (id : Nat) (f : Session → Session) (hid : ∀ x, (f x).id = x.id)
    (hf : ∀ x, (f x).replay.map (fun p => (p.seq, p.status, p.aborted, p.body)) =
      x.replay.map fun p => (p.seq, p.status, p.aborted, p.body)) : outcomes (s.modSession id f) = outcomes s := by
  simp only [outcomes, State.modSession, List.map_map]
  refine List.map_congr_left fun x _ => ?_
  simp only [Function.comp_apply]
  split
  · rw [hid, hf]
  · rfl

theorem sendPieces_outcomes (s : State) (r : Reply) (more : Bool) (k : Nat) (l : List (Nat × Nat × Bytes × Bytes)) :
    outcomes (s.sendPieces r more k l) = outcomes s := by
  induction l generalizing s k with
  | nil => rfl
  | cons pc l ih =>
    rw [State.sendPieces, ih]
    split <;> rfl

theorem replyDone_outcomes (s : State) (r : Reply) : outcomes (s.replyDone r) = outcomes s := by
  have hcredit (t : State) : outcomes (t.modSession r.session (Session.returnCredit r.seq)) = outcomes t :=
    modSession_outcomes _ _ _ (returnCredit_id _) fun x => by rw [returnCredit_replay]
  have hplaced (t : State) : outcomes (t.modReplay r.session r.seq fun x => { x with placed := true }) = outcomes t := by
    refine modSession_outcomes _ _ _ (fun _ => rfl) fun x => ?_
    rw [List.map_map]
    refine List.map_congr_left fun p _ => ?_
    simp only [Function.comp_apply]
    split <;> rfl
  unfold State.replyDone
  extract_lets s1
  have h1 : outcomes s1 = outcomes s := by
    simp only [s1]
    split
    · exact hcredit s
    · rfl
  split
  · exact h1
  · exact (hplaced s1).trans h1

theorem outcomes_ite {c : Prop} [Decidable c] {a b : State} {o : List (Nat × List (Nat × Option Status × Bool × Bytes))}
    (ha : outcomes a = o) (hb : outcomes b = o) : outcomes (if c then a else b) = o := by split <;> assumption

theorem placeReply_outcomes {s : State} {r : Reply} (h : r.mailbox = none) : outcomes (s.placeReply r) = outcomes s := by
  unfold State.placeReply
  rw [h]
  refine outcomes_ite (replyDone_outcomes ..) (outcomes_ite ?_ ?_)
  · exact (replyDone_outcomes ..).trans (sendPieces_outcomes ..)
  · exact sendPieces_outcomes ..

theorem schedule_outcomes {s : State} {r : Reply} (h : r.mailbox = none) : outcomes (s.schedule r) = outcomes s := by
  unfold State.schedule
  split
  · exact placeReply_outcomes h
  · rfl

/-- The records of the sequence in the session read LATE with ABORTED. -/
def readsLate (id seq : Nat) (s : State) : Prop :=
  ∀ o ∈ outcomes s, o.1 = id → ∀ p ∈ o.2, p.1 = seq → p.2 = (some .late, true, [])

theorem readsLate_session {id seq : Nat} {s : State} (h : readsLate id seq s) {x : Session} (hx : s.session id = some x) {p : Replay}
    (hp : p ∈ x.replay) (hs : p.seq = seq) : p.status = some .late ∧ p.aborted = true ∧ p.body = [] := by
  have hid : x.id = id := by simpa using List.find?_some hx
  have hlate := h _ (List.mem_map_of_mem (List.mem_of_find?_eq_some hx)) hid _ (List.mem_map_of_mem hp) hs
  simpa only [Prod.mk.injEq] using hlate

/-- A member of a discarded batch is answered. -/
theorem settle_late (s : State) (b : Batch) (k : Request × Nat) :
    s.settle { m := b.adm + 64, adm := k.2, chorus := false } k.1 (.no .late) true =
      (recorded s k.1 (.no .late) true).schedule
        (s.replyOf { m := b.adm + 64, adm := k.2, chorus := false } k.1 (.no .late) true) := by
  have h6 : ¬ (k.1.op = 6 ∧ (Ans.no .late).status = .ok) := fun h => nomatch h.2
  have ha : (Ans.no .late).silent = false := rfl
  simp only [State.settle, ha, Bool.false_and, Bool.or_self, Bool.false_eq_true, if_false, if_neg h6]
  rfl

theorem recorded_readsLate {s : State} {r : Request} {id seq : Nat} (h : readsLate id seq s ∨ (id = r.session ∧ seq = r.seq)) :
    readsLate id seq (recorded s r (.no .late) true) := by
  intro o ho hid p hp hs
  simp only [outcomes, recorded, State.modReplay, State.modSession, List.map_map, List.mem_map, Function.comp_apply] at ho
  obtain ⟨x, hx, rfl⟩ := ho
  by_cases hxr : x.id = r.session
  · simp only [hxr, beq_self_eq_true, if_true, List.map_map, List.mem_map, Function.comp_apply] at hp hid
    obtain ⟨q, hq, rfl⟩ := hp
    by_cases hqr : q.seq = r.seq
    · simp only [hqr, beq_self_eq_true, if_true]
      rfl
    · simp only [beq_iff_eq, hqr, if_false] at hs ⊢
      rcases h with h | ⟨-, h⟩
      · exact h _ (List.mem_map_of_mem hx) (hxr.trans hid) _ (List.mem_map_of_mem hq) hs
      · exact absurd (hs.trans h) hqr
  · simp only [beq_iff_eq, hxr, if_false] at hp hid
    rcases h with h | ⟨h, -⟩
    · exact h _ (List.mem_map_of_mem hx) hid _ hp hs
    · exact absurd (hid.trans h) hxr

theorem settle_readsLate {s : State} {b : Batch} {k : Request × Nat} {id seq : Nat}
    (h : readsLate id seq s ∨ (id = k.1.session ∧ seq = k.1.seq)) :
    readsLate id seq (s.settle { m := b.adm + 64, adm := k.2, chorus := false } k.1 (.no .late) true) := by
  rw [settle_late, readsLate, schedule_outcomes rfl]
  exact recorded_readsLate h

/-- Every member of a discarded batch reads LATE with ABORTED once the members are answered. -/
theorem failed_readsLate (b : Batch) (l : List (Request × Nat)) {s : State} {id seq : Nat}
    (h : readsLate id seq s ∨ ∃ k ∈ l, id = k.1.session ∧ seq = k.1.seq) : readsLate id seq
      (l.foldl (fun t k => t.settle { m := b.adm + 64, adm := k.2, chorus := false } k.1 (.no .late) true) s) := by
  induction l generalizing s with
  | nil => simpa using h
  | cons k l ih =>
    refine ih ?_
    rcases h with h | ⟨j, hj, hjs⟩
    · exact .inl (settle_readsLate (.inl h))
    · rcases List.mem_cons.1 hj with rfl | hj
      · exact .inl (settle_readsLate (.inr hjs))
      · exact .inr ⟨j, hj, hjs⟩

theorem failBatch_outside (s : State) (b : Batch) : outside (s.failBatch b) =
    outside (s.modStore fun t => { t with batches := t.batches.filter fun y => y.session != b.session }) :=
  foldl_outside (fun _ _ => settle_outside ..) _ _

theorem batchDeadline_completes {s : State} {id : Nat} {b : Batch} (hb : s.store.batch id = some b) (hm : b.adm + 64 < s.tb.measure)
    (hr : s.ranTo (b.adm + 64) = true) : completes (.batchDeadline id) s fun t =>
      t.store = { s.store with batches := s.store.batches.filter fun y => y.session != b.session } ∧
      (∀ m ∈ b.members, ∀ x, t.session m.1.session = some x → ∀ p ∈ x.replay, p.seq = m.1.seq →
        p.status = some .late ∧ p.aborted = true ∧ p.body = []) ∧ t.tb = s.tb := by
  have hexec : s.batchDeadline id = s.failBatch b := by simp [State.batchDeadline, hb, hm, hr]
  refine ⟨_, rfl, ?_⟩
  rw [hexec]
  refine ⟨store_of_outside (failBatch_outside s b), fun k hk x hx p hp hs => ?_, (tb_of_outside (failBatch_outside s b) :)⟩
  exact readsLate_session (failed_readsLate b b.members (.inr ⟨k, hk, rfl, rfl⟩)) hx hp hs

/-! ## Silence (R107) -/

/-- What a closed session's spilled responses leave. -/
theorem releaseSession_keeps (s : State) (id : Nat) :
    (s.releaseSession id).sessions = s.sessions ∧ (s.releaseSession id).store = s.store ∧ (s.releaseSession id).tb = s.tb := by
  have h : ((s.releaseSession id).sessions, (s.releaseSession id).store, (s.releaseSession id).tb) = (s.sessions, s.store, s.tb) := by
    unfold State.releaseSession
    refine foldl_keeps (p := fun t : State => (t.sessions, t.store, t.tb)) (fun t p => ?_) (List.finRange 2) s
    dsimp only
    split <;> rfl
  simpa only [Prod.mk.injEq] using h

@[simp] theorem shut_id (x : Session) : x.shut.id = x.id := rfl

theorem idleClose_completes {s : State} {id : Nat} {x : Session} (hx : s.session id = some x) (ho : x.opened = true)
    (hm : x.lastSeen + 65536 < s.tb.measure) : completes (.sessionIdleClose id) s fun t =>
      (∃ y, t.session id = some y ∧ y.opened = false ∧ y.next = x.next ∧ y.replay = x.replay) ∧
      (∀ k, k ≠ id → t.session k = s.session k) ∧ t.store = s.store ∧ t.tb = s.tb := by
  have hexec : s.idleClose id = s.closeSession id := by simp only [State.idleClose, hx, if_pos (And.intro ho hm)]
  obtain ⟨hsess, hstore, htb⟩ := releaseSession_keeps (s.modSession id Session.shut) id
  have hsession (k : Nat) : (s.closeSession id).session k = (s.modSession id Session.shut).session k := by
    rw [State.session, State.closeSession, hsess, State.session]
  refine ⟨_, rfl, ?_⟩
  rw [hexec]
  refine ⟨⟨x.shut, ?_, rfl, rfl, rfl⟩, fun k hk => ?_, hstore, htb⟩
  · rw [hsession, modSession_session _ _ _ shut_id, hx]
    rfl
  · rw [hsession, modSession_other _ _ _ _ shut_id hk]

/-! ## The ends of watches (R124 to R126) -/

/-- A watch is gone from the Sequencer. -/
def unwatched (s : State) (w : Watch) : State :=
  s.modSeq fun q => { q with watches := q.watches.filter fun v => !v.is w.session w.seq }

theorem endWatch_eq {s : State} (hl : s.seq.late = 0) (hb : s.seq.behind = 0) (w : Watch) (reason m : Nat) :
    s.endWatch w reason m = (unwatched s w).schedule (w.notify (w.count + 1) 3 reason 0 0 [] true (m + 3, m)) := by
  have hack : s.seq.ackAt m = (m + 3, m) := by simp [Sequencer.ackAt, hl, hb]
  rw [State.endWatch, hack]
  rfl

/-- The END NOTIFY of a closed session is not sent; its credit returns. -/
theorem schedule_notify_closed {s : State} {w : Watch} {ordinal kind reason version len m : Nat} {key : Bytes}
    (ho : s.isOpen w.session = false) (hm : m + 3 ≤ s.tb.measure) (hp : m ≤ s.tb.persisted) :
    s.schedule (w.notify ordinal kind reason version len key true (m + 3, m)) =
      s.modSession w.session (Session.returnCredit w.seq) := by
  have hleave : s.mayLeave (w.notify ordinal kind reason version len key true (m + 3, m)) = true := by
    simp [State.mayLeave, Watch.notify, Reply.awaitsFuses, hm, hp]
  have hclosed : ((w.notify ordinal kind reason version len key true (m + 3, m)).notify &&
      !s.isOpen (w.notify ordinal kind reason version len key true (m + 3, m)).session) = true := by
    simp [Watch.notify, ho]
  rw [State.schedule, if_pos hleave]
  exact if_pos hclosed

/-- How the row that ends watch `w` does so, where it ends it for `reason` with the acknowledgement of measure `last`. -/
theorem watch_ends {s : State} (hl : s.seq.late = 0) (hb : s.seq.behind = 0) {w : Watch} {i : Instr} {reason last : Nat}
    (hi : exec i s = .next (s.endWatch w reason last)) :
    (s.tb.measure < last + 3 → exec i s = .next ((unwatched s w).modSeq fun q =>
      { q with replies := q.replies ++ [w.notify (w.count + 1) 3 reason 0 0 [] true (last + 3, last)] })) ∧
    (s.isOpen w.session = false → last + 3 ≤ s.tb.measure → last ≤ s.tb.persisted →
      exec i s = .next ((unwatched s w).modSession w.session (Session.returnCredit w.seq))) := by
  rw [hi, endWatch_eq hl hb]
  exact ⟨fun h => congrArg Host.Outcome.next (schedule_later h),
    fun ho hm hp => congrArg Host.Outcome.next (schedule_notify_closed ho hm hp)⟩

theorem watchDurationEnd_exec {s : State} {id seq : Nat} {w : Watch} (hw : s.seq.watches.find? (fun v => v.is id seq) = some w)
    (hm : w.from_ + w.duration < s.tb.measure) (hs : ∀ l ∈ s.seq.sealed, w.from_ + w.duration < l.measure) :
    exec (.watchDurationEnd id seq) s = .next (s.endWatch w 1 (w.from_ + w.duration)) := by
  have hnone : (s.seq.sealed.any fun l => decide (l.measure ≤ w.from_ + w.duration)) = false :=
    List.any_eq_false.2 fun l hl => by simpa using hs l hl
  refine congrArg Host.Outcome.next ?_
  simp only [State.watchOver, hw, hnone, hm, Bool.not_false, and_self, if_true]

theorem watchLimitReached_exec {s : State} {id seq : Nat} {w : Watch} (hw : s.seq.watches.find? (fun v => v.is id seq) = some w)
    (h0 : w.limit ≠ 0) (hc : w.limit ≤ w.count) :
    exec (.watchLimitReached id seq) s = .next (s.endWatch w 2 s.seq.executed) := by
  refine congrArg Host.Outcome.next ?_
  simp only [State.watchFull, hw, if_pos (And.intro h0 hc)]

/-- Settles O53: each row finds its deadline past and is its own closing operation. -/
theorem deadlinesComplete : Obligations.DeadlinesComplete := by
  refine ⟨fun id s => ⟨fun x hx hgap => ⟨gapTimeout_completes hx hgap, fun r a => gapTimeout_single hx hgap⟩,
    fun b => batchDeadline_completes, fun g hg hm hr => congrArg Host.Outcome.next ?_, fun x => idleClose_completes⟩, ?_⟩
  · simp [State.segDeadline, hg, hm, hr]
  · rintro id seq w s hw hl hb u rfl ends rfl
    exact ⟨fun hm hs => watch_ends hl hb (watchDurationEnd_exec hw hm hs),
      fun h0 hc => watch_ends hl hb (watchLimitReached_exec hw h0 hc)⟩

end Sys2Proof.Laws
end

section
namespace Sys2Proof.Laws
open Sys2Proof Sys2Proof.Machine

/-! # What the receive path is made of (R139, R143, R144, Tables 6.4, 6.10) -/

/-! ## Counters -/

/-- A counter is known by its position in Table 6.10. -/
theorem ctr_of_idx (c : Ctr) : Ctr.ofNat c.idx.val = c := by cases c <;> rfl

theorem idx_injective {c d : Ctr} (h : c.idx.val = d.idx.val) : c = d := by rw [← ctr_of_idx c, h, ctr_of_idx]

/-- Counting raises its own counter of the port alone. -/
theorem count_counters (s : State) (p : Fin 2) (c : Ctr) (n : Nat) (d : Ctr) : ((s.count p c n).port p).counters[d.idx] =
    if d = c then sat 64 ((s.port p).counters[d.idx] + n) else (s.port p).counters[d.idx] := by
  split
  · next h =>
    subst h
    exact count_counter s p d n
  · next h => exact count_counter_other s p n fun he => h (idx_injective he).symm

/-! ## PAUSE frames (R144) -/

/-- A port without what one more PAUSE frame that waits changes of it. -/
def unsignalled (q : Port) : Port := { q with urgent := [], nextDesc := 0, xoff := false }

theorem sendPause_port (s : State) (p : Fin 2) (quanta : Nat) : (s.sendPause p quanta).port p =
    { (s.sendUrgent p { TxFrame.make .pause 0 0 0 0 (be 2 1 ++ be 2 quanta) with dstMac := some 0x0180C2000001 }).port p with
      xoff := quanta != 0 } := modPort_port ..

theorem sendPause_unsignalled (s : State) (p : Fin 2) (quanta : Nat) :
    unsignalled ((s.sendPause p quanta).port p) = unsignalled (s.port p) := by
  rw [sendPause_port, State.sendUrgent, modPort_port]
  rfl

/-- From `s` to `t` an XOFF frame has joined those that wait at port `p`. -/
def xoffSent (s t : State) (p : Fin 2) : Prop :=
  ∃ f : TxFrame, (t.port p).urgent = (s.port p).urgent ++ [f] ∧ f.cls = .pause ∧ f.dstMac = some 0x0180C2000001 ∧
    f.payload = be 2 1 ++ be 2 0xFFFF

theorem sendPause_xoffSent (s : State) (p : Fin 2) : xoffSent s (s.sendPause p 0xFFFF) p := by
  rw [xoffSent, sendPause_port]
  exact ⟨_, sendUrgent_urgent .., rfl, rfl, rfl⟩

/-- The port's status shows it. -/
theorem sendPause_xoff (s : State) (p : Fin 2) : ((s.sendPause p 0xFFFF).port p).xoff = true := by
  rw [sendPause_port]
  rfl

theorem flowCheck_cases (s old : State) (p : Fin 2) : s.flowCheck old p = s ∨ ∃ quanta, s.flowCheck old p = s.sendPause p quanta := by
  simp only [State.flowCheck]
  split
  · exact .inl rfl
  · split
    · exact .inr ⟨_, rfl⟩
    · split
      · exact .inr ⟨_, rfl⟩
      · exact .inl rfl

theorem flowCheck_portsOnly (s old : State) (p : Fin 2) : portsOnly s (s.flowCheck old p) := by
  rcases flowCheck_cases s old p with h | ⟨quanta, h⟩ <;> rw [h] <;> rfl

/-- The check of the marks keeps everything but ports. -/
theorem flowCheck_rest (s old : State) (p : Fin 2) :
    (s.flowCheck old p).store = s.store ∧ (s.flowCheck old p).seq = s.seq ∧ (s.flowCheck old p).sessions = s.sessions ∧
    (s.flowCheck old p).mbx = s.mbx := by
  rw [flowCheck_portsOnly s old p]
  exact ⟨rfl, rfl, rfl, rfl⟩

theorem flowCheck_unsignalled (s old : State) (p : Fin 2) :
    unsignalled ((s.flowCheck old p).port p) = unsignalled (s.port p) := by
  rcases flowCheck_cases s old p with h | ⟨quanta, h⟩ <;> rw [h]
  exact sendPause_unsignalled ..

theorem flowCheck_port (s old : State) (p : Fin 2) :
    ((s.flowCheck old p).port p).counters = (s.port p).counters ∧ ((s.flowCheck old p).port p).parser = (s.port p).parser ∧
    ((s.flowCheck old p).port p).rxBytes = (s.port p).rxBytes ∧ ((s.flowCheck old p).port p).rxDesc = (s.port p).rxDesc ∧
    ((s.flowCheck old p).port p).rxPending = (s.port p).rxPending := by
  have h := flowCheck_unsignalled s old p
  exact ⟨(congrArg Port.counters h :), (congrArg Port.parser h :), (congrArg Port.rxBytes h :), (congrArg Port.rxDesc h :),
    (congrArg Port.rxPending h :)⟩

/-- Outside RX_MODE FLOW no PAUSE frame is sent. -/
theorem flowCheck_off {s : State} (old : State) {p : Fin 2} (h : (s.net p).set.flow = false) : s.flowCheck old p = s := by
  simp [State.flowCheck, h]

/-- A rise above the high mark sends XOFF. -/
theorem flowCheck_rise {s old : State} {p : Fin 2} (h : s.above p = true) (hold : old.above p = false) :
    s.flowCheck old p = s.sendPause p 0xFFFF := by
  have hf : (s.net p).set.flow = true := by
    rw [State.above, Bool.and_eq_true] at h
    exact h.1
  simp [State.flowCheck, hf, h, hold]

/-! ## Settings of a port -/

/-- A port's configuration with the settings `t` in force (R135). -/
def inForce (t : PortSettings) (n : PortNet) : PortNet := { n with set := t }

theorem modNet_self {s : State} {p : Fin 2} {f : PortNet → PortNet} (h : f (s.net p) = s.net p) : s.modNet p f = s := by
  have hp : s.store.settings.ports.set p (f s.store.settings.ports[p]) = s.store.settings.ports := by
    rw [show f s.store.settings.ports[p] = s.store.settings.ports[p] from h]
    exact Vector.set_getElem_self _
  simp only [State.modNet, State.modSettings, hp]

theorem modNet_port (s : State) (p q : Fin 2) (f : PortNet → PortNet) : (s.modNet p f).port q = s.port q := rfl

theorem modNet_modNet (s : State) (p : Fin 2) (f g : PortNet → PortNet) :
    (s.modNet p f).modNet p g = s.modNet p fun n => g (f n) := by
  simp [State.modNet, State.modSettings]

theorem modNet_store_of {s t : State} (h : t.store = s.store) (p : Fin 2) (f : PortNet → PortNet) :
    (t.modNet p f).store = (s.modNet p f).store := by
  simp only [State.modNet, State.modSettings, h]

/-- Settings that are put in force for a while leave nothing in the store. -/
theorem modNet_restored {s t : State} {p : Fin 2} {f g : PortNet → PortNet} (h : t.store = (s.modNet p f).store)
    (hg : g (f (s.net p)) = s.net p) : (t.modNet p g).store = s.store := by
  rw [modNet_store_of h, modNet_modNet, modNet_self hg]

/-! ## Ports that receive -/

theorem receives_mode {s : State} {p : Fin 2} (h : s.receives p = true) :
    ¬ (s.power.inReset = true ∨ s.power.mode = .custody) := by
  rintro (hr | hc)
  · simp [State.receives, hr] at h
  · simp [State.receives, State.portNow, hc] at h

/-- In Service a port's state is its effective one, and a usable port is not OFFLINE. -/
theorem serves_portNow {s : State} {src : Source} (h : s.serves src) :
    s.portNow src.port = s.effective (portId src.port) ∧ s.portNow src.port ≠ .offline := by
  obtain ⟨hm, -, hp, -⟩ := h
  have hnow : s.portNow src.port = s.effective (portId src.port) := by simp [State.portNow, hm]
  refine ⟨hnow, fun ho => ?_⟩
  rw [State.portUsable, ← hnow, ho] at hp
  exact absurd hp (by decide)

theorem serves_inService {s : State} {src : Source} (h : s.serves src) : s.inService = true := by
  obtain ⟨hm, hr, -, -⟩ := h
  simp [State.inService, hm, hr]

end Sys2Proof.Laws
end

section
namespace Sys2Proof.Laws
open Sys2Proof Sys2Proof.Machine

/-! # The receive path of a port (R139, R143 to R146, R426) -/

/-! ## Admission at the first byte (R143, R144) -/

/-- A port with one more frame in its receive buffer, which holds the bytes reserved for it and a descriptor. -/
def admitted (x : RxSlot) (q : Port) : Port :=
  { q with rxBytes := q.rxBytes + x.bytes, rxDesc := q.rxDesc + 1, rxPending := q.rxPending ++ [x] }

/-- Port `p` has admitted a frame: the longest one's bytes are reserved, under the settings and in the port's state of now. -/
def reserved (s : State) (p : Fin 2) : State := s.modPort p (admitted ⟨(s.net p).set, s.portNow p, (s.net p).maxFrame⟩)

theorem reserved_port (s : State) (p : Fin 2) :
    (reserved s p).port p = admitted ⟨(s.net p).set, s.portNow p, (s.net p).maxFrame⟩ (s.port p) := modPort_port ..

/-- The buffer with another longest frame is above the high mark where its bytes or its descriptors are. -/
theorem reserved_above {s : State} {p : Fin 2} (hf : (s.net p).set.flow = true)
    (hm : (s.net p).set.highWm * 1024 < (s.port p).rxBytes + (s.net p).maxFrame ∨ 48 ≤ (s.port p).rxDesc) :
    (reserved s p).above p = true := by
  have hnet : (reserved s p).net p = s.net p := rfl
  rw [State.above, hnet, hf, reserved_port]
  simp only [Port.high, Bool.true_and, Bool.or_eq_true, decide_eq_true_eq]
  exact hm.imp id Nat.lt_succ_of_le

section
variable {p : Fin 2} {s : State} (hs : s.receives p = true)
include hs

theorem rxFrameAdmit_room (hr : s.rxRoom p = true) : exec (.rxFrameAdmit p) s = .next ((reserved s p).flowCheck s p) :=
  congrArg Host.Outcome.next ((if_pos hs).trans (if_pos hr))

/-- A frame that takes the buffer above its high mark is stored, and XOFF sent. -/
theorem rxFrameAdmit_rises (hr : s.rxRoom p = true) (hf : (s.net p).set.flow = true) (ha : s.above p = false)
    (hm : (s.net p).set.highWm * 1024 < (s.port p).rxBytes + (s.net p).maxFrame ∨ 48 ≤ (s.port p).rxDesc) :
    completes (.rxFrameAdmit p) s fun t =>
      xoffSent s t p ∧ (t.port p).xoff = true ∧ (t.port p).rxDesc = (s.port p).rxDesc + 1 ∧ t = { s with ports := t.ports } := by
  have hsent := sendPause_xoffSent (reserved s p) p
  have hkept := sendPause_unsignalled (reserved s p) p 0xFFFF
  rw [xoffSent, reserved_port] at hsent
  rw [reserved_port] at hkept
  exact ⟨_, (rxFrameAdmit_room hs hr).trans (congrArg Host.Outcome.next (flowCheck_rise (reserved_above hf hm) ha)),
    hsent, sendPause_xoff .., (congrArg Port.rxDesc hkept :), rfl⟩

/-- A frame without room is counted, with a pulse, and takes nothing. -/
theorem rxFrameAdmit_overflow (hr : s.rxRoom p = false) : completes (.rxFrameAdmit p) s fun t =>
    (∀ c : Ctr, (t.port p).counters[c.idx] = if c = .rxOverflow then sat 64 ((s.port p).counters[c.idx] + 1)
      else (s.port p).counters[c.idx]) ∧
    (t.port p).rxBytes = (s.port p).rxBytes ∧ (t.port p).rxDesc = (s.port p).rxDesc ∧ t.store = s.store ∧ t.seq = s.seq := by
  have hq := pulse_quiet (s.count p .rxOverflow) (42 + p)
  have hport := port_of_quiet hq p
  have hrest := count_uncounted s p .rxOverflow 1
  refine ⟨_, congrArg Host.Outcome.next ((if_pos hs).trans (if_neg (by simp [hr]))), fun c => ?_, ?_, ?_, (store_of_quiet hq :),
    (seq_of_quiet hq :)⟩
  · rw [hport]
    exact count_counters ..
  · rw [hport]
    exact (congrArg Port.rxBytes hrest :)
  · rw [hport]
    exact (congrArg Port.rxDesc hrest :)

end

/-! ## PAUSE (R144, R146) -/

section
variable {p : Fin 2} {s : State}

/-- A PAUSE that is honoured is counted, and its quanta are in force. -/
theorem pauseReceive_pauses {quanta : Nat} (hs : s.receives p = true) (hh : (s.net p).set.honourPause = true) (hq : quanta ≠ 0) :
    completes (.pauseReceive p quanta) s fun t =>
      (t.port p).paused = true ∧ (t.port p).pauseQuanta = quanta ∧
      (t.port p).counters[Ctr.rxPauseFrames.idx] = sat 64 ((s.port p).counters[Ctr.rxPauseFrames.idx] + 1) ∧
      t = { s with ports := t.ports } := by
  have hexec : s.pauseRx p quanta =
      (s.count p .rxPauseFrames).modPort p fun q => { q with paused := true, pauseQuanta := quanta } := by
    simp [State.pauseRx, hh, hq]
  have hport := modPort_port (s.count p .rxPauseFrames) p fun q => { q with paused := true, pauseQuanta := quanta }
  exact ⟨_, congrArg Host.Outcome.next ((if_pos hs).trans hexec), congrArg Port.paused hport, congrArg Port.pauseQuanta hport,
    (congrArg (fun q : Port => q.counters[Ctr.rxPauseFrames.idx]) hport).trans (count_counter s p .rxPauseFrames 1), rfl⟩

/-- Quanta 0 ends the pause. -/
theorem pauseReceive_ends (hs : s.receives p = true) (hh : (s.net p).set.honourPause = true) (hp : (s.port p).paused = true) :
    completes (.pauseReceive p 0) s fun t =>
      (t.port p).paused = false ∧ t = { s with ports := t.ports, fresh := t.fresh } := by
  have hexec : s.pauseRx p 0 = (((s.count p .rxPauseFrames).draw 32).2.count p .txPausedUs
      ((s.count p .rxPauseFrames).draw 32).1).modPort p fun q => { q with paused := false, pauseQuanta := 0 } := by
    simp [State.pauseRx, hh, hp]
  exact ⟨_, congrArg Host.Outcome.next ((if_pos hs).trans hexec), congrArg Port.paused (modPort_port ..), rfl⟩

theorem receivedPauseExpiry_completes (us : Nat) (hp : (s.port p).paused = true) : completes (.receivedPauseExpiry p us) s fun t =>
    (t.port p).paused = false ∧
    (t.port p).counters[Ctr.txPausedUs.idx] = sat 64 ((s.port p).counters[Ctr.txPausedUs.idx] + us) ∧
    t = { s with ports := t.ports } := by
  have hport := modPort_port s p fun q => { q with paused := false, pauseQuanta := 0 }
  refine ⟨_, congrArg Host.Outcome.next (if_pos hp), ?_, ?_, rfl⟩
  · exact (congrArg Port.paused (count_uncounted _ p .txPausedUs us) :).trans (congrArg Port.paused hport)
  · rw [count_counter, hport]

theorem pauseRepeat_completes (hf : (s.net p).set.flow = true) (hx : (s.port p).xoff = true)
    (hh : (s.port p).high (s.net p).set = true) : completes (.pauseRepeat p) s fun t =>
      xoffSent s t p ∧ (t.port p).xoff = true ∧ t = { s with ports := t.ports } :=
  ⟨_, congrArg Host.Outcome.next (if_pos (by simp [hf, hx, hh])), sendPause_xoffSent s p, sendPause_xoff s p, rfl⟩

end

/-! ## The check of a stored frame (R139, Table 6.4) -/

theorem rxFrameCheck_exec {p : Fin 2} {s : State} {x : RxSlot} {xs : List RxSlot} (f : Frame) (hs : s.receives p = true)
    (hx : (s.port p).rxPending = x :: xs) : exec (.rxFrameCheck p f) s = .next (s.checkStored p x xs f) := by
  show execRxFrameCheck p f s = _
  rw [execRxFrameCheck, if_neg (receives_mode hs), hx]

/-- Port `p` with its oldest stored frame taken for its check: what its admission reserved is given back. -/
def fetched (s : State) (p : Fin 2) (x : RxSlot) (xs : List RxSlot) : State :=
  s.modPort p fun q => { q with rxPending := xs, rxBytes := q.rxBytes - x.bytes }

theorem fetched_port (s : State) (p : Fin 2) (x : RxSlot) (xs : List RxSlot) : (fetched s p x xs).port p =
    { s.port p with rxPending := xs, rxBytes := (s.port p).rxBytes - x.bytes } := modPort_port ..

/-- A stored frame is checked under the settings of its arrival, and then those of now are in force again (R135). -/
theorem checkStored_eq (s : State) (p : Fin 2) (x : RxSlot) (xs : List RxSlot) (f : Frame) : s.checkStored p x xs f =
    ((((fetched s p x xs).modNet p (inForce x.set)).rxChecks p f x.bytes
      (if s.portNow p = .offline then x.state else s.portNow p)).modNet p (inForce (s.net p).set)).flowCheck s p := rfl

/-- An FCS error: reports, events and units apart, it spoils the port's measure. -/
theorem fcsError_quiet (s : State) (p : Fin 2) :
    quiet (s.fcsError p) = quiet (s.modPort p fun q => { q with cleanMeasure := false }) := by
  simp only [State.fcsError]
  split <;> simp

theorem fcsError_port (s : State) (p : Fin 2) : (s.fcsError p).port p = { s.port p with cleanMeasure := false } :=
  (port_of_quiet (fcsError_quiet s p) p).trans (modPort_port ..)

theorem mbx_of_quiet {s t : State} (h : quiet t = quiet s) : t.mbx = s.mbx := (congrArg State.mbx h :)

theorem rxFail_portsOnly (s : State) (p : Fin 2) (c : Ctr) : portsOnly s (s.rxFail p c) := rfl

/-- A frame in error is counted as such alone, and frees its descriptor. -/
theorem rxFail_port (s : State) (p : Fin 2) (c : Ctr) :
    ((s.rxFail p c).port p).parser = (s.port p).parser ∧ ((s.rxFail p c).port p).rxDesc = (s.port p).rxDesc - 1 ∧
    ∀ d : Ctr, ((s.rxFail p c).port p).counters[d.idx] = if d = c then sat 64 ((s.port p).counters[d.idx] + 1)
      else (s.port p).counters[d.idx] := by
  have hrest := count_uncounted s p c 1
  have hfree : (s.rxFail p c).port p = { (s.count p c).port p with
      rxBytes := ((s.count p c).port p).rxBytes - 0, rxDesc := ((s.count p c).port p).rxDesc - 1 } := modPort_port ..
  rw [hfree]
  exact ⟨(congrArg Port.parser hrest :), congrArg (· - 1) (congrArg Port.rxDesc hrest :), count_counters s p c 1⟩

/-- The oldest stored frame of port `p`, under the settings `x.set` of its arrival, has failed its FCS. -/
def fcsFailed (s : State) (p : Fin 2) (x : RxSlot) (xs : List RxSlot) : State :=
  (((fetched s p x xs).modNet p (inForce x.set)).fcsError p).rxFail p .rxFcsErr

theorem fcsFailed_rest (s : State) (p : Fin 2) (x : RxSlot) (xs : List RxSlot) :
    (fcsFailed s p x xs).store = ((fetched s p x xs).modNet p (inForce x.set)).store ∧
    (fcsFailed s p x xs).seq = s.seq ∧ (fcsFailed s p x xs).sessions = s.sessions ∧ (fcsFailed s p x xs).mbx = s.mbx := by
  have h := fcsError_quiet ((fetched s p x xs).modNet p (inForce x.set)) p
  rw [fcsFailed, rxFail_portsOnly]
  exact ⟨(store_of_quiet h :), (seq_of_quiet h :), (sessions_of_quiet h :), (mbx_of_quiet h :)⟩

theorem fcsFailed_port (s : State) (p : Fin 2) (x : RxSlot) (xs : List RxSlot) :
    ((fcsFailed s p x xs).port p).parser = (s.port p).parser ∧ ((fcsFailed s p x xs).port p).rxDesc = (s.port p).rxDesc - 1 ∧
    ∀ c : Ctr, ((fcsFailed s p x xs).port p).counters[c.idx] = if c = .rxFcsErr then sat 64 ((s.port p).counters[c.idx] + 1)
      else (s.port p).counters[c.idx] := by
  have h := rxFail_port (((fetched s p x xs).modNet p (inForce x.set)).fcsError p) p .rxFcsErr
  have hu : ((fetched s p x xs).modNet p (inForce x.set)).port p = _ := fetched_port s p x xs
  rw [fcsError_port, hu] at h
  exact h

theorem checkStored_fcs {p : Fin 2} {s : State} {f : Frame} {x : RxSlot} {xs : List RxSlot} (hf : f.fcsOk = false) :
    s.checkStored p x xs f = ((fcsFailed s p x xs).modNet p (inForce (s.net p).set)).flowCheck s p := by
  simp only [checkStored_eq, State.rxChecks, hf, Bool.not_false, if_true, fcsFailed]

/-- A frame that fails its FCS is counted there alone, and goes. -/
theorem rxFrameCheck_fcs {p : Fin 2} {s : State} {f : Frame} {x : RxSlot} {xs : List RxSlot} (hs : s.receives p = true)
    (hx : (s.port p).rxPending = x :: xs) (hf : f.fcsOk = false) : completes (.rxFrameCheck p f) s fun t =>
      (∀ c : Ctr, (t.port p).counters[c.idx] = if c = .rxFcsErr then sat 64 ((s.port p).counters[c.idx] + 1)
        else (s.port p).counters[c.idx]) ∧
      (t.port p).parser = (s.port p).parser ∧ (t.port p).rxDesc = (s.port p).rxDesc - 1 ∧ t.store = s.store ∧ t.seq = s.seq ∧
      t.sessions = s.sessions ∧ t.mbx = s.mbx := by
  refine ⟨_, (rxFrameCheck_exec f hs hx).trans (congrArg Host.Outcome.next (checkStored_fcs hf)), ?_⟩
  obtain ⟨hst, hseq, hsess, hmbx⟩ := fcsFailed_rest s p x xs
  obtain ⟨hparser, hdesc, hcount⟩ := fcsFailed_port s p x xs
  have hstore := modNet_restored (s := fetched s p x xs) (g := inForce (s.net p).set) hst rfl
  obtain ⟨hcount1, hparser1, -, hdesc1, -⟩ :=
    flowCheck_port ((fcsFailed s p x xs).modNet p (inForce (s.net p).set)) s p
  rw [modNet_port] at hcount1 hparser1 hdesc1
  obtain ⟨hst1, hseq1, hsess1, hmbx1⟩ :=
    flowCheck_rest ((fcsFailed s p x xs).modNet p (inForce (s.net p).set)) s p
  refine ⟨fun c => ?_, hparser1.trans hparser, hdesc1.trans hdesc, hst1.trans hstore, hseq1.trans hseq, hsess1.trans hsess,
    hmbx1.trans hmbx⟩
  rw [hcount1]
  exact hcount c

/-! ## A datagram for the parser (R100, R104, R139) -/

/-- The datagrams that steps 1 to 3 of R104 let through. -/
theorem skpCheck_inr {s : State} {src : Source} {payload : Bytes} {r : Request} : s.skpCheck src payload = .inr r ↔
    ¬ (payload.length < 40 ∨ sub payload 0 2 ≠ [0x53, 0x4B]) ∧ u8 payload 2 = 3 ∧
    (stepThree payload (parseRequest src payload) || s.isPullAnswer (parseRequest src payload)) = true ∧
    parseRequest src payload = r := by
  simp only [State.skpCheck]
  split
  · next h => exact ⟨nofun, fun hc => absurd h hc.1⟩
  · next h =>
    split
    · next h3 => exact ⟨nofun, fun hc => absurd hc.2.1 h3⟩
    · next h3 =>
      split
      · next hok => exact ⟨fun he => ⟨h, not_not.mp h3, hok, Sum.inr.inj he⟩, fun ⟨_, _, _, hr⟩ => congrArg Sum.inr hr⟩
      · next hok => split <;> exact ⟨nofun, fun ⟨_, _, hc, _⟩ => absurd hc hok⟩

/-- What they let through depends on the store alone. -/
theorem skpCheck_inr_of {s t : State} {src : Source} {payload : Bytes} {r : Request} (h : s.skpCheck src payload = .inr r)
    (hst : t.store = s.store) : t.skpCheck src payload = .inr r := by
  have hpull (q : Request) : t.isPullAnswer q = s.isPullAnswer q := by simp only [State.isPullAnswer, hst]
  rw [skpCheck_inr] at h ⊢
  rwa [hpull]

/-- A frame for the parser is counted as good, and keeps its own bytes and its descriptor until the parser passes it on. -/
def parsing (s : State) (p : Fin 2) (n : Nat) (r : Request) : State :=
  ((s.count p .rxFramesOk).count p .rxBytesOk n).modPort p fun q =>
    { q with rxBytes := q.rxBytes + n, parser := q.parser ++ [(n, r)] }

theorem parsing_portsOnly (s : State) (p : Fin 2) (n : Nat) (r : Request) : portsOnly s (parsing s p n r) := rfl

theorem parsing_uncounted (s : State) (p : Fin 2) (n : Nat) (r : Request) : uncounted ((parsing s p n r).port p) =
    uncounted { s.port p with rxBytes := (s.port p).rxBytes + n, parser := (s.port p).parser ++ [(n, r)] } := by
  have hcounted := (count_uncounted (s.count p .rxFramesOk) p .rxBytesOk n).trans (count_uncounted s p .rxFramesOk 1)
  rw [parsing, modPort_port]
  exact congrArg (fun q : Port => { q with rxBytes := q.rxBytes + n, parser := q.parser ++ [(n, r)] }) hcounted

theorem parsing_counters (s : State) (p : Fin 2) (n : Nat) (r : Request) (c : Ctr) : ((parsing s p n r).port p).counters[c.idx] =
    if c = .rxFramesOk then sat 64 ((s.port p).counters[c.idx] + 1)
    else if c = .rxBytesOk then sat 64 ((s.port p).counters[c.idx] + n) else (s.port p).counters[c.idx] := by
  rw [parsing, modPort_port]
  show (((s.count p .rxFramesOk).count p .rxBytesOk n).port p).counters[c.idx] = _
  rw [count_counters, count_counters]
  by_cases h : c = .rxFramesOk
  · subst h
    rfl
  · rw [if_neg h, if_neg h]

section
variable {s : State} {p : Fin 2} {f : Frame} {k : Packet} {st : UnitState} {src : Source} {sp : Nat} {ok zero : Bool}
  {payload : Bytes} {r : Request}

theorem dataFrame_taken (hgate : s.skpGateIn st src = none) (hcheck : s.skpCheck src payload = .inr r) :
    s.dataFrame p f st src payload = parsing s p f.len r := by
  have hcheck1 : (s.rxOk p f).skpCheck src payload = .inr r := skpCheck_inr_of hcheck rfl
  simp only [State.dataFrame, hgate, hcheck1]
  rfl

/-- An unprotected IP frame on the data VLAN passes steps 2 to 9 where its port asks for no more (Table 6.4). -/
theorem rxChecks_ip {limit : Nat} (hfcs : f.fcsOk = true) (hmin : 64 ≤ f.len) (hmax : f.len ≤ limit)
    (hfilter : s.filterPass p f = true) (hsec : f.sec = none) (hpol : (s.net p).policy ≠ .strict) (hk : f.content = .ip k)
    (hm : s.power.mode = .service) (hv : f.vid = (s.net p).set.dataVid) (hip : s.ipCheck p k = none) :
    s.rxChecks p f limit st = s.ipFrame p f st false k := by
  have hmac : (s.net p).macsec f = .ok (false, s.net p) := by
    simp [PortNet.macsec, hsec, hpol]
  have hvlan : s.vlanPass p f = true := by simp [State.vlanPass, hk, Content.exempt, hm, hv]
  have hcontent : s.rxContent p f st false = s.ipFrame p f st false k := by
    simp [State.rxContent, hk, hip, hm]
  have hsecured : s.rxSecured p f st = s.ipFrame p f st false k := by
    simp only [State.rxSecured, hmac, modNet_self (s := s) (p := p) (f := fun _ => s.net p) rfl, hvlan, if_true, hcontent]
  simp only [State.rxChecks, hfcs, Bool.not_true, Bool.false_eq_true, if_false, Nat.not_lt.mpr hmax, Nat.not_lt.mpr hmin, hfilter, hk,
    hsecured]

/-- A datagram to the data port goes to `dataFrame` with its source. -/
theorem ipFrame_data (hk : k.proto = .udp sp 47810 ok zero payload)
    (hsrc : src = { port := p, vid := f.vid, ip := k.srcIp, udp := sp, group := s.groupIps.contains k.dstIp, verified := false }) :
    s.ipFrame p f st false k = s.dataFrame p f st src payload := by
  subst hsrc
  simp only [State.ipFrame, hk, if_true]

end

section
variable {s : State} {p : Fin 2} {f : Frame} {x : RxSlot} {xs : List RxSlot} {k : Packet} {sp : Nat} {ok zero : Bool}
  {payload : Bytes} {src : Source} {r : Request} (hset : x.set = (s.net p).set) (hfcs : f.fcsOk = true) (hmin : 64 ≤ f.len)
  (hmax : f.len ≤ x.bytes) (hfilter : s.filterPass p f = true) (hsec : f.sec = none) (hpol : (s.net p).policy ≠ .strict)
  (hk : f.content = .ip k) (hproto : k.proto = .udp sp 47810 ok zero payload) (hip : s.ipCheck p k = none)
  (hsrc : src = { port := p, vid := f.vid, ip := k.srcIp, udp := sp, group := s.groupIps.contains k.dstIp, verified := false })
  (hserves : s.serves src) (hcheck : s.skpCheck src payload = .inr r)
include hset hfcs hmin hmax hfilter hsec hpol hk hproto hip hsrc hserves hcheck

/-- A datagram that passes every check goes to the parser, under the settings in force. -/
theorem checkStored_skp : s.checkStored p x xs f = (parsing (fetched s p x xs) p f.len r).flowCheck s p := by
  let u := fetched s p x xs
  have hport : src.port = p := by rw [hsrc]
  have hvid : src.vid = f.vid := by rw [hsrc]
  have hgate : u.skpGate src = none := serves_gate (s := u) hserves
  obtain ⟨hnow, hon⟩ := serves_portNow hserves
  obtain ⟨hm, -, -, hv⟩ := hserves
  have hgatein : u.skpGateIn (s.portNow p) src = none := by
    rw [← hport, hnow]
    exact hgate
  rw [hport] at hon hv
  have hu : u.modNet p (inForce x.set) = u := modNet_self (by rw [hset]; rfl)
  have hback : (parsing u p f.len r).modNet p (inForce (s.net p).set) = parsing u p f.len r := modNet_self rfl
  have hchecks : u.rxChecks p f x.bytes (s.portNow p) = parsing u p f.len r :=
    calc u.rxChecks p f x.bytes (s.portNow p)
      _ = u.ipFrame p f (s.portNow p) false k :=
        rxChecks_ip (s := u) hfcs hmin hmax hfilter hsec hpol hk hm (hvid ▸ hv) hip
      _ = u.dataFrame p f (s.portNow p) src payload := ipFrame_data (s := u) hproto hsrc
      _ = parsing u p f.len r := dataFrame_taken hgatein (skpCheck_inr_of hcheck rfl)
  rw [checkStored_eq, hu, if_neg hon, hchecks, hback]

/-- An SKP datagram that passes every check stands with the parser. -/
theorem rxFrameCheck_skp (hs : s.receives p = true) (hx : (s.port p).rxPending = x :: xs) :
    completes (.rxFrameCheck p f) s fun t =>
      (t.port p).parser = (s.port p).parser ++ [(f.len, r)] ∧
      (t.port p).rxBytes = (s.port p).rxBytes - x.bytes + f.len ∧
      (t.port p).rxPending = xs ∧ (t.port p).rxDesc = (s.port p).rxDesc ∧
      (∀ c : Ctr, (t.port p).counters[c.idx] = if c = .rxFramesOk then sat 64 ((s.port p).counters[c.idx] + 1)
        else if c = .rxBytesOk then sat 64 ((s.port p).counters[c.idx] + f.len) else (s.port p).counters[c.idx]) ∧
      t = { s with ports := t.ports } := by
  have hexec : s.checkStored p x xs f = (parsing (fetched s p x xs) p f.len r).flowCheck s p :=
    checkStored_skp hset hfcs hmin hmax hfilter hsec hpol hk hproto hip hsrc hserves hcheck
  obtain ⟨hcounters, hparser, hbytes, hdesc, hpending⟩ := flowCheck_port (parsing (fetched s p x xs) p f.len r) s p
  have hrest := parsing_uncounted (fetched s p x xs) p f.len r
  have hcount := parsing_counters (fetched s p x xs) p f.len r
  rw [fetched_port] at hrest hcount
  refine ⟨_, (rxFrameCheck_exec f hs hx).trans (congrArg Host.Outcome.next hexec), hparser.trans (congrArg Port.parser hrest :),
    hbytes.trans (congrArg Port.rxBytes hrest :), hpending.trans (congrArg Port.rxPending hrest :),
    hdesc.trans (congrArg Port.rxDesc hrest :), fun c => ?_,
    portsOnly_trans (parsing_portsOnly (fetched s p x xs) p f.len r) (flowCheck_portsOnly _ s p)⟩
  rw [hcounters]
  exact hcount c

end

/-! ## The parser (R426) -/

theorem parsed_sequenced {r : Request} (s : State) (h1 : 1 ≤ r.op) (hb : r.op ≤ 0x0B) : s.parsed r = s.arrive r := by
  unfold State.parsed
  split
  case h_8 => rfl
  all_goals omega

/-- Whether a request is ready does not depend on the ports' queues. -/
theorem readySkp_of {s t : State} {r : Request} {x : Session} (h : portsOnly s t) (hr : s.readySkp r x) : t.readySkp r x := by
  rw [h]
  exact hr

/-- A ready request that the parser passes on enters the open measure. -/
theorem parsed_entered {s : State} {r : Request} {x : Session} (h1 : 1 ≤ r.op) (hb : r.op ≤ 0x0B) (hr : s.readySkp r x) :
    s.parsed r = s.entered r := by
  rw [parsed_sequenced s h1 hb, ← request_entered hr, State.request, serves_gate hr.1]

theorem keepReplay_head (m : Nat) (p : Replay) (l : List Replay) : (keepReplay m (p :: l)).head? = some p := by
  rw [keepReplay, List.head?_take, if_neg (by omega)]
  rfl

/-- The session of a request that has entered the open measure holds a credit for it and its replay record. -/
theorem entered_session {s : State} {r : Request} {x : Session} (hx : s.session r.session = some x) :
    ∃ y, (s.entered r).session r.session = some y ∧ r.seq ∈ y.holding ∧ (y.replay.head?.map (·.seq)) = some r.seq := by
  have h := modSession_session s r.session (fun y => Session.consume s.tb.persisted (.taken r s.tb.measure)
    (Session.takeCredit r.seq { y with lastSeen := s.tb.measure })) (by simp)
  rw [hx] at h
  refine ⟨_, h, ?_, ?_⟩
  · simp [Session.takeCredit]
  · rw [consume_replay, keepReplay_head]
    rfl

/-- The buffer and the parser of port `p` without the parser's oldest datagram, of `n` bytes. -/
def passed (s : State) (p : Fin 2) (n : Nat) (rest : List (Nat × Request)) : State :=
  (s.modPort p fun q => { q with parser := rest }).rxFree p n

theorem passed_port (s : State) (p : Fin 2) (n : Nat) (rest : List (Nat × Request)) : (passed s p n rest).port p =
    { s.port p with parser := rest, rxBytes := (s.port p).rxBytes - n, rxDesc := (s.port p).rxDesc - 1 } := by
  rw [passed, State.rxFree, modPort_port, modPort_port]

theorem passed_portsOnly (s : State) (p : Fin 2) (n : Nat) (rest : List (Nat × Request)) : portsOnly s (passed s p n rest) := rfl

theorem requestToAdmissionPort_exec {p : Fin 2} {s : State} {n : Nat} {r : Request} {rest : List (Nat × Request)}
    (hp : (s.port p).parser = (n, r) :: rest) (hs : s.inService = true) :
    exec (.requestToAdmissionPort p) s = .next (((passed s p n rest).flowCheck s p).parsed r) := by
  show execRequestToAdmissionPort p s = _
  simp only [execRequestToAdmissionPort, hp]
  exact congrArg Host.Outcome.next (if_pos hs)

/-- The parser passes its oldest datagram on, and frees its place in the buffer. -/
theorem requestToAdmissionPort_completes {p : Fin 2} {s : State} {n : Nat} {r : Request} {rest : List (Nat × Request)} {x : Session}
    (hp : (s.port p).parser = (n, r) :: rest) (h1 : 1 ≤ r.op) (hb : r.op ≤ 0x0B) (hr : s.readySkp r x) :
    completes (.requestToAdmissionPort p) s fun t =>
      (t.port p).parser = rest ∧ (t.port p).rxBytes = (s.port p).rxBytes - n ∧ t.seq.admitted = s.seq.admitted ++ [Item.skp r] ∧
      t.seq.slots = s.seq.slots + 1 ∧ t.seq.bytes = s.seq.bytes + valueBytesOf r ∧ t.seq.replies = s.seq.replies ∧
      (∃ y, t.session r.session = some y ∧ r.seq ∈ y.holding ∧ (y.replay.head?.map (·.seq)) = some r.seq) ∧
      t = { s with ports := t.ports, seq := t.seq, sessions := t.sessions } := by
  have hexec := requestToAdmissionPort_exec hp (serves_inService hr.1)
  have hflow := flowCheck_unsignalled (passed s p n rest) s p
  have honly := portsOnly_trans (passed_portsOnly s p n rest) (flowCheck_portsOnly _ s p)
  rw [passed_port] at hflow
  generalize (passed s p n rest).flowCheck s p = u at hexec hflow honly
  have hready : u.readySkp r x := readySkp_of honly hr
  have ⟨_, hx, _⟩ := hready
  have hsession := entered_session (s := u) hx
  rw [parsed_entered h1 hb hready] at hexec
  have hseq : u.seq = s.seq := by rw [honly]
  refine ⟨_, hexec, (congrArg Port.parser hflow :), (congrArg Port.rxBytes hflow :), ?_, ?_, ?_, ?_, hsession, ?_⟩
  · exact congrArg (·.admitted ++ [.skp r]) hseq
  · exact congrArg (·.slots + 1) hseq
  · exact congrArg (·.bytes + valueBytesOf r) hseq
  · exact congrArg (·.replies) hseq
  · exact congrArg (fun v : State => { v with seq := (u.entered r).seq, sessions := (u.entered r).sessions }) honly

/-- Settles O39, from what each row of the receive path makes of its port's buffer, counters and PAUSE state. -/
theorem ethernetReceiveCompletes : Obligations.EthernetReceiveCompletes := by
  intro p s hs
  refine ⟨fun hr hf => ?_, rxFrameAdmit_rises hs, rxFrameAdmit_overflow hs, fun f x xs => rxFrameCheck_fcs hs, ?_,
    fun n r rest x => requestToAdmissionPort_completes,
    fun hh => ⟨fun quanta => pauseReceive_pauses hs hh, pauseReceive_ends hs hh⟩, receivedPauseExpiry_completes,
    pauseRepeat_completes⟩
  · rw [rxFrameAdmit_room hs hr, flowCheck_off (s := reserved s p) s hf]
    rfl
  · exact fun f x xs k sp ok zero payload src r hx hset hfcs hmin hmax hfilter hsec hpol hk hproto hip hsrc hserves hcheck =>
      rxFrameCheck_skp hset hfcs hmin hmax hfilter hsec hpol hk hproto hip hsrc hserves hcheck hs hx

end Sys2Proof.Laws
end

section
namespace Sys2Proof.Laws
open Sys2Proof Sys2Proof.Machine

/-! # The SECURITY commands (R399 to R402) -/

section
variable {c : Cmd} {s : State} (ha : c.args = [])
include ha

theorem mrsUnlock_exec (h : s.ready c .sec) :
    exec (.securityMrsUnlock c) s = .next ((s.answered c 0x0C01 []).modSpi fun p => { p with unlocked := true }) :=
  congrArg Host.Outcome.next (run_immediate (d := cmdSecurityMrsUnlock) h rfl rfl (by simp [ha, cmdSecurityMrsUnlock, CmdDef.base])
    (by simp [ha]) rfl rfl rfl)

theorem mrsLock_exec (h : s.ready c .rt) :
    exec (.securityMrsLock c) s = .next ((s.answered c 0x0C02 []).modSpi fun p => { p with unlocked := false }) :=
  congrArg Host.Outcome.next (run_immediate (d := cmdSecurityMrsLock) h rfl rfl (by simp [ha, cmdSecurityMrsLock, CmdDef.base])
    (by simp [ha]) rfl rfl rfl)

theorem ledgerKey_exec (h : s.ready c .rt) {k : Nat} (hk : s.store.ledgerKey = some k) :
    exec (.securityLedgerKey c) s = .next (s.answered c 0x0C04
      (ecdsaPublic (ledgerPrivate k) ++ be 2 ((Config.ledgerCertificate k).take 428).length ++ be 2 0 ++
        (Config.ledgerCertificate k).take 428)) := by
  have hgranted : (s.granted c 0x0C04).store.ledgerKey = some k := hk
  refine congrArg Host.Outcome.next (run_read (d := cmdSecurityLedgerKey) h rfl rfl
    (by simp [ha, cmdSecurityLedgerKey, CmdDef.base]) (by simp [ha]) rfl ?_)
  simp only [cmdSecurityLedgerKey, CmdDef.base, hgranted]
  rfl

theorem securityStatus_exec (h : s.ready c .rt) :
    exec (.securityStatus c) s = .next (s.answered c 0x0C06
      (be 1 s.fuses.bits ++ be 1 (b2n (s.spi.unlocked || !s.fuses.provisioned)) ++ be 2 0 ++
        ((List.finRange 8).flatMap fun m => be 1 (s.ownerOf m).num) ++ be 1 s.fuses.rollback ++ be 3 0)) :=
  congrArg Host.Outcome.next (run_read (d := cmdSecurityStatus) h rfl rfl (by simp [ha, cmdSecurityStatus, CmdDef.base])
    (by simp [ha]) rfl rfl)

end

section
variable {c : SealedCmd} {s : State}

theorem find_finRange (m : Fin 8) : ((List.finRange 8).find? fun k => k.val == m.val) = some m := by
  fin_cases m <;> rfl

theorem setMailboxOwner_atPlace {m : Fin 8} {o : Owner} (h : s.reaches c 0x0C03) (hm : u8 c.cmd.args 0 = m)
    (ho : Owner.ofNum (u8 c.cmd.args 1) = some o) :
    s.atPlace c = (s.sealedOk c (be 1 (s.store.settings.owners[m]).num ++ be 3 0)).modSettings fun x =>
      { x with owners := x.owners.set m o } := by
  refine atPlace_sealedNow (d := cmdSecuritySetMailboxOwner)
    (t := s.modSettings fun x => { x with owners := x.owners.set m o }) h rfl rfl ?_ rfl (reaches_calm h)
  show setMailboxOwner c s = _
  simp only [setMailboxOwner, hm, find_finRange, ho]
  rfl

/-- What PROVISION asks of the fuses: the OEM key, the debug lock, the OEM hash and the OEM firmware key (R402). -/
def provisionAsks (a : Bytes) : Bool × Bool × Bytes × Bytes :=
  (bit (u8 a 0) 0, bit (u8 a 0) 1, sub a 4 48,
    padTo 32 ((Config.gcmOpen Config.fleetKey (sub a 52 12) [] (sub a 64 32) (sub a 96 16)).getD []))

theorem provision_atPlace (h : s.reaches c 0x0C05) (hp : s.fuses.provisioned = false) (hn : s.store.provision = none)
    (hk : bit (u8 c.cmd.args 0) 0 = true →
      (Config.gcmOpen Config.fleetKey (sub c.cmd.args 52 12) [] (sub c.cmd.args 64 32) (sub c.cmd.args 96 16)).isSome) :
    s.atPlace c = (s.sealedOk c []).modStore fun x =>
      { x with ledgerKey := some x.draws, provision := some (provisionAsks c.cmd.args), draws := x.draws + 1 } := by
  refine atPlace_sealedNow (d := cmdSecurityProvision) h rfl rfl (t := s.modStore fun x =>
    { x with ledgerKey := some x.draws, provision := some (provisionAsks c.cmd.args), draws := x.draws + 1 }) ?_ rfl (reaches_calm h)
  show provision c s = _
  have hopen : ¬ (bit (u8 c.cmd.args 0) 0 = true ∧
      (Config.gcmOpen Config.fleetKey (sub c.cmd.args 52 12) [] (sub c.cmd.args 64 32) (sub c.cmd.args 96 16)).isNone = true) := by
    rintro ⟨ho, hnone⟩
    rw [Option.isNone_iff_eq_none.1 hnone] at hk
    exact absurd (hk ho) nofun
  simp only [provision, hp, hn, Option.isSome_none, Bool.false_eq_true, or_self, if_false, if_neg hopen]
  rfl

end

/-- Settles O26: what is immediate shows or sets its part of the granted state, and at its place a sealed command does what its own
checks let it. -/
theorem securityCommandsComplete : Obligations.SecurityCommandsComplete := by
  refine ⟨fun c s => ⟨fun h ha => mrsUnlock_exec ha h, fun h ha =>
      ⟨mrsLock_exec ha h, fun k => ledgerKey_exec ha h, securityStatus_exec ha h⟩⟩,
    entersMeasure_of cmdSecuritySetMailboxOwner (fun _ _ => rfl) nofun rfl ?_,
    entersMeasure_of cmdSecurityProvision (fun _ _ => rfl) nofun rfl ?_, ?_⟩
  · rintro b a ⟨hl, h1, h7, h2⟩
    exact ⟨by simp [cmdSecuritySetMailboxOwner, CmdDef.base, hl], by omega, if_neg (by omega)⟩
  · rintro b a hl
    exact ⟨by simp [cmdSecurityProvision, CmdDef.base, hl], by omega, rfl⟩
  · rintro c s t a rfl rfl
    refine ⟨fun m o h hm _ ho => setMailboxOwner_atPlace h hm ho, fun h hp hn hk => ?_⟩
    rw [provision_atPlace h hp hn hk]
    exact ⟨⟨_, rfl⟩, rfl, rfl⟩

end Sys2Proof.Laws
end

section
namespace Sys2Proof.Laws
open Sys2Proof Sys2Proof.Machine

/-! # The NAMESPACE commands that change something (R166 to R168, R177, R380 to R382, R385) -/

/-- R380's checks pass for a namespace that is there, of the type asked for, and local where it has to be. -/
theorem nsArg_of {s : State} {id : Nat} {n : Namespace} {local_ : Bool} {need : Option NsType} (h0 : id ≠ 0)
    (hn : s.store.ns id = some n) (hl : local_ = false ∨ s.store.chorusNs id = none) (ht : need = none ∨ need = some n.typ) :
    s.nsArg id local_ need = .ok n := by
  have hlocal : ¬ (local_ = true ∧ (s.store.chorusNs id).isSome = true) := by
    obtain hl | hl := hl <;> simp [hl]
  have hneed : ¬ (need.isSome = true ∧ need ≠ some n.typ) := by
    obtain rfl | rfl := ht <;> simp
  simp only [State.nsArg, if_neg h0, hn, if_neg hlocal, if_neg hneed]

/-- Once R380's checks pass, a NAMESPACE command goes on with the namespace of byte 0. -/
theorem onNs_of {c : SealedCmd} {s : State} {n : Namespace} {local_ : Bool} {need : Option NsType} (h0 : u8 c.cmd.args 0 ≠ 0)
    (hn : s.store.ns (u8 c.cmd.args 0) = some n) (hl : local_ = false ∨ s.store.chorusNs (u8 c.cmd.args 0) = none)
    (ht : need = none ∨ need = some n.typ) (f : Namespace → Res) : onNs c s local_ need f = f n := by
  simp only [onNs, nsArg_of h0 hn hl ht]

theorem nsZero_of {a : Bytes} (h : u8 a 0 ≠ 0) : nsZero a = none := if_neg h

theorem namespaceChangeRows_enter :
    entersMeasure .namespaceCreate 0x0401 .mgmt (fun _ a => a.length = 36 ∧ u8 a 0 ≠ 0 ∧ u8 a 1 ∈ [1, 2, 3] ∧
      (fld a 4 8 = 0 ∨ fld a 12 8 ≤ fld a 4 8) ∧
      (NsType.ofNum (u8 a 1) = some .ledger → 1 ≤ fld a 20 8 ∧ fld a 20 8 ≤ 2 ^ 47)) ∧
    entersMeasure .namespaceDelete 0x0402 .mgmt (fun _ a => a.length = 4 ∧ u8 a 0 ≠ 0) ∧
    entersMeasure .namespaceSetQuota 0x0403 .mgmt (fun _ a => a.length = 20 ∧ u8 a 0 ≠ 0) ∧
    entersMeasure .namespaceLedgerTrim 0x0408 .mgmt (fun _ a => a.length = 12 ∧ u8 a 0 ≠ 0) ∧
    entersMeasure .namespaceSetRetention 0x0409 .mgmt (fun _ a => a.length = 12 ∧ u8 a 0 ≠ 0) := by
  refine ⟨entersMeasure_of cmdNamespaceCreate (fun _ _ => rfl) nofun rfl ?_,
    entersMeasure_of cmdNamespaceDelete (fun _ _ => rfl) nofun rfl ?_,
    entersMeasure_of cmdNamespaceSetQuota (fun _ _ => rfl) nofun rfl ?_,
    entersMeasure_of cmdNamespaceLedgerTrim (fun _ _ => rfl) nofun rfl ?_,
    entersMeasure_of cmdNamespaceSetRetention (fun _ _ => rfl) nofun rfl ?_⟩
  · rintro b a ⟨hl, h0, h1, hq, hr⟩
    refine ⟨by simp [cmdNamespaceCreate, CmdDef.base, hl], by omega, ?_⟩
    have htyp : ∃ typ, NsType.ofNum (u8 a 1) = some typ := by
      simp only [List.mem_cons, List.not_mem_nil, or_false] at h1
      obtain h1 | h1 | h1 := h1 <;> exact ⟨_, by rw [h1]; rfl⟩
    obtain ⟨typ, htyp⟩ := htyp
    rw [htyp] at hr
    have hrange : ¬ (u8 a 0 = 0 ∨ (fld a 4 8 ≠ 0 ∧ fld a 4 8 < fld a 12 8) ∨ (typ = .ledger ∧ !retentionOk (fld a 20 8))) := by
      rintro (h | h | ⟨rfl, h⟩)
      · exact h0 h
      · omega
      · obtain ⟨hmin, hmax⟩ := hr rfl
        simp only [retentionOk, hmin, hmax, and_self, decide_true, Bool.not_true, Bool.false_eq_true] at h
    show createPre a = none
    simp only [createPre, htyp, if_neg hrange]
  · rintro b a ⟨hl, h0⟩
    exact ⟨by simp [cmdNamespaceDelete, CmdDef.base, hl], by omega, nsZero_of h0⟩
  · rintro b a ⟨hl, h0⟩
    exact ⟨by simp [cmdNamespaceSetQuota, CmdDef.base, hl], by omega, nsZero_of h0⟩
  · rintro b a ⟨hl, h0⟩
    exact ⟨by simp [cmdNamespaceLedgerTrim, CmdDef.base, hl], by omega, nsZero_of h0⟩
  · rintro b a ⟨hl, h0⟩
    exact ⟨by simp [cmdNamespaceSetRetention, CmdDef.base, hl], by omega, nsZero_of h0⟩

/-! ## The watches of a namespace that is removed (R125, R382) -/

theorem endWatch_under (s : State) (w : Watch) (reason m : Nat) : under (s.endWatch w reason m).seq =
    { under s.seq with watches := s.seq.watches.filter fun v => !v.is w.session w.seq } := schedule_under _ _

/-- Of the Sequencer, ending watches changes the watches that are left, and what waits to be sent. -/
theorem endWatches_under (reason m : Nat) (l : List Watch) (s : State) :
    under (l.foldl (fun t w => t.endWatch w reason m) s).seq =
      { under s.seq with watches := s.seq.watches.filter fun v => l.all fun w => !v.is w.session w.seq } := by
  induction l generalizing s with
  | nil => simp [under]
  | cons w l ih =>
    have hw := endWatch_under s w reason m
    have hwatches : (s.endWatch w reason m).seq.watches = s.seq.watches.filter fun v => !v.is w.session w.seq :=
      congrArg Sequencer.watches hw
    rw [List.foldl_cons, ih, hw, hwatches, List.filter_filter]
    simp [Bool.and_comm]

theorem endWatch_store (s : State) (w : Watch) (reason m : Nat) : (s.endWatch w reason m).store = s.store := schedule_store _ _

theorem sameRest_endWatch {s : State} {m : Nat} (h : s.tb.measure < m + 3) (w : Watch) (reason : Nat) :
    s.sameRest (s.endWatch w reason m) :=
  sameRest_schedule (s := unwatched s w) (h.trans_le (ackAt_late ..))

/-- The store without a namespace, its open segmented values and its holds (R168, R382). -/
def withoutNs (t : Store) (id : Nat) : Store :=
  { t with nss := t.nss.filter fun n => n.id != id, segs := t.segs.filter fun g => g.ns != id
           held := t.held.filter fun h => h.1 != id }

theorem removeNs_eq (s : State) (id m : Nat) : s.removeNs id m =
    (s.seq.watches.filter fun w => w.ns == id).foldl (fun t w => t.endWatch w 3 m) (s.modStore (withoutNs · id)) := rfl

theorem removeNs_store (s : State) (id m : Nat) : (s.removeNs id m).store = withoutNs s.store id := by
  rw [removeNs_eq]
  exact foldl_keeps (p := State.store) (fun t w => endWatch_store t w 3 m) _ _

theorem removeNs_under (s : State) (id m : Nat) : under (s.removeNs id m).seq = { under s.seq with
    watches := s.seq.watches.filter fun v => (s.seq.watches.filter fun w => w.ns == id).all fun w => !v.is w.session w.seq } := by
  rw [removeNs_eq]
  exact endWatches_under ..

/-- No watch of the namespace is left, and none is new. -/
theorem removeNs_watches {s : State} {id m : Nat} {w : Watch} (h : w ∈ (s.removeNs id m).seq.watches) :
    w.ns ≠ id ∧ w ∈ s.seq.watches := by
  have hw : (s.removeNs id m).seq.watches = s.seq.watches.filter fun v =>
      (s.seq.watches.filter fun w => w.ns == id).all fun w => !v.is w.session w.seq :=
    (congrArg Sequencer.watches (removeNs_under s id m) :)
  rw [hw, List.mem_filter] at h
  obtain ⟨hmem, hall⟩ := h
  refine ⟨fun hns => ?_, hmem⟩
  have hself := List.all_eq_true.1 hall w (List.mem_filter.2 ⟨hmem, beq_iff_eq.2 hns⟩)
  simp [Watch.is] at hself

theorem removeNs_calm {s : State} (h : calm s.seq) (id m : Nat) : calm (s.removeNs id m).seq := by
  have hu := removeNs_under s id m
  obtain ⟨hlate, hbehind, hscans⟩ := h
  exact ⟨(congrArg Sequencer.late hu :).trans hlate, (congrArg Sequencer.behind hu :).trans hbehind,
    (congrArg Sequencer.scans hu :).trans hscans⟩

theorem removeNs_tb {s : State} {m : Nat} (h : s.tb.measure < m + 3) (id : Nat) : (s.removeNs id m).tb = s.tb := by
  rw [removeNs_eq]
  refine sameRest_tb (sameRest_foldl (s := s.modStore (withoutNs · id)) (p := fun t => t.tb.measure < m + 3) ?_ ?_ _ h)
  · exact fun t u htu ht => (sameRest_tb htu).symm ▸ ht
  · exact fun t w ht => sameRest_endWatch ht w 3

/-! ## At their places -/

/-- A command has its turn before the acknowledgement of its measure may leave. -/
theorem reaches_beforeAck {s : State} {c : SealedCmd} {op : Nat} (h : s.reaches c op) : s.tb.measure < c.adm + 3 := by
  obtain ⟨-, htb, -⟩ := h
  omega

/-- The namespace that CREATE's arguments describe (R166, R174). -/
def createdNs (a : Bytes) (typ : NsType) : Namespace :=
  { id := u8 a 0, typ, quota := fld a 4 8, guarantee := fld a 12 8
    retention := if typ = .ledger then fld a 20 8 else 0, epoch := if typ = .ledger then fld a 28 8 else 0
    keys := [], record := 0, oldest := 0
    head := if typ = .ledger then genesis (u8 a 0) (fld a 28 8) else [] }

section
variable {c : SealedCmd} {s : State}

theorem create_atPlace {typ : NsType} (h : s.reaches c 0x0401) (ht : NsType.ofNum (u8 c.cmd.args 1) = some typ)
    (hn : s.store.ns (u8 c.cmd.args 0) = none)
    (hg : fld c.cmd.args 12 8 = 0 ∨ s.store.committed + fld c.cmd.args 12 8 ≤ s.store.limit typ) :
    s.atPlace c = (s.modStore fun x => { x with nss := insertNs (createdNs c.cmd.args typ) x.nss }).sealedOk c
      (({ s.store with nss := insertNs (createdNs c.cmd.args typ) s.store.nss } : Store).accounting typ) := by
  refine atPlace_sealedNow (d := cmdNamespaceCreate)
    (t := s.modStore fun x => { x with nss := insertNs (createdNs c.cmd.args typ) x.nss }) h rfl rfl ?_ rfl (reaches_calm h)
  show nsCreate c s = _
  have hroom : ¬ (fld c.cmd.args 12 8 ≠ 0 ∧ s.store.limit typ < s.store.committed + fld c.cmd.args 12 8) := by omega
  simp only [nsCreate, ht, Option.getD_some, hn, Option.isSome_none, Bool.false_eq_true, if_false, if_neg hroom]
  by_cases hl : typ = .ledger
  · simp only [createdNs, hl, if_true]
    rfl
  · simp only [createdNs, if_neg hl]
    rfl

variable {n : Namespace} (h0 : u8 c.cmd.args 0 ≠ 0) (hn : s.store.ns (u8 c.cmd.args 0) = some n)
  (hc : s.store.chorusNs (u8 c.cmd.args 0) = none)
include h0 hn hc

theorem delete_atPlace (h : s.reaches c 0x0402) (hu : n.unexpired c.adm = false) (hh : s.store.anyHeld n.id = false) :
    s.atPlace c = (s.removeNs (u8 c.cmd.args 0) c.adm).sealedOk c (be 8 n.keys.length ++ be 8 (s.store.use n)) := by
  refine atPlace_sealedNow (d := cmdNamespaceDelete) h rfl rfl ?_ (removeNs_tb (reaches_beforeAck h) _) (removeNs_calm (reaches_calm h) _ _)
  refine (onNs_of h0 hn (.inr hc) (.inl rfl) _).trans ?_
  simp only [nsDelete, hu, hh, Bool.or_self, Bool.false_eq_true, if_false]
  rw [ns_id hn]
  rfl

theorem setQuota_atPlace (h : s.reaches c 0x0403) (hq : fld c.cmd.args 4 8 = 0 ∨ fld c.cmd.args 12 8 ≤ fld c.cmd.args 4 8)
    (hr : max (s.store.use n) (fld c.cmd.args 12 8) ≤ max (s.store.use n) n.guarantee ∨
      s.store.committed - max (s.store.use n) n.guarantee + max (s.store.use n) (fld c.cmd.args 12 8) ≤ s.store.limit n.typ) :
    s.atPlace c = (s.modStore fun t =>
        t.modNs n.id fun m => { m with quota := fld c.cmd.args 4 8, guarantee := fld c.cmd.args 12 8 }).sealedOk c
      ((s.store.modNs n.id fun m => { m with quota := fld c.cmd.args 4 8, guarantee := fld c.cmd.args 12 8 }).accounting n.typ) := by
  refine atPlace_sealedNow (d := cmdNamespaceSetQuota) (t := s.modStore fun t =>
    t.modNs n.id fun m => { m with quota := fld c.cmd.args 4 8, guarantee := fld c.cmd.args 12 8 }) h rfl rfl ?_ rfl (reaches_calm h)
  refine (onNs_of h0 hn (.inr hc) (.inl rfl) _).trans ?_
  have hform : ¬ (fld c.cmd.args 4 8 ≠ 0 ∧ fld c.cmd.args 4 8 < fld c.cmd.args 12 8) := by omega
  have hroom : ¬ (commitment (s.store.use n) n.guarantee < commitment (s.store.use n) (fld c.cmd.args 12 8) ∧ s.store.limit n.typ <
      s.store.committed - commitment (s.store.use n) n.guarantee + commitment (s.store.use n) (fld c.cmd.args 12 8)) := by
    rintro ⟨hgrows, hover⟩
    exact hr.elim (Nat.not_le.2 hgrows) (Nat.not_le.2 hover)
  simp only [setQuota, if_neg hform, if_neg hroom]
  rfl

theorem setRetention_atPlace (h : s.reaches c 0x0409) (ht : n.typ = .ledger) (h1 : 1 ≤ fld c.cmd.args 4 8)
    (h47 : fld c.cmd.args 4 8 ≤ 2 ^ 47) (hr : n.retention ≤ fld c.cmd.args 4 8) :
    s.atPlace c = (s.sealedOk c (be 8 n.retention)).modStore fun t =>
      t.modNs n.id fun m => { m with retention := fld c.cmd.args 4 8 } := by
  refine atPlace_sealedNow (d := cmdNamespaceSetRetention)
    (t := s.modStore fun t => t.modNs n.id fun m => { m with retention := fld c.cmd.args 4 8 }) h rfl rfl ?_ rfl (reaches_calm h)
  refine (onNs_of h0 hn (.inr hc) (.inr (by rw [ht])) _).trans ?_
  have hok : (!retentionOk (fld c.cmd.args 4 8) || decide (fld c.cmd.args 4 8 < n.retention)) = false := by
    simp only [retentionOk, h1, h47, and_self, Nat.not_lt.2 hr, decide_true, decide_false, Bool.not_true, Bool.or_self]
  simp only [setRetention, hok, Bool.false_eq_true, if_false]
  rfl

theorem ledgerTrim_atPlace {oldest : Nat} (h : s.reaches c 0x0408) (ht : n.typ = .ledger) (hr : fld c.cmd.args 4 8 ≤ n.record)
    (he : ∀ e ∈ n.keys, fld e.key 0 8 ≤ fld c.cmd.args 4 8 → e.adm + n.retention ≤ c.adm)
    (ho : oldest = if n.oldest = 0 ∨ fld c.cmd.args 4 8 < n.oldest then n.oldest else fld c.cmd.args 4 8 + 1) :
    s.atPlace c = (s.sealedOk c (be 8 oldest ++
        be 8 (n.keys.filter fun e => decide (fld e.key 0 8 ≤ fld c.cmd.args 4 8)).length)).modStore fun x =>
      x.modNs n.id fun m => { m with keys := m.keys.filter fun e => decide (fld c.cmd.args 4 8 < fld e.key 0 8), oldest } := by
  refine atPlace_sealedNow (d := cmdNamespaceLedgerTrim) (t := s.modStore fun x => x.modNs n.id fun m =>
    { m with keys := m.keys.filter fun e => decide (fld c.cmd.args 4 8 < fld e.key 0 8), oldest }) h rfl rfl ?_ rfl (reaches_calm h)
  refine (onNs_of h0 hn (.inr hc) (.inr (by rw [ht])) _).trans ?_
  have hexp : ((n.keys.filter fun e => decide (fld e.key 0 8 ≤ fld c.cmd.args 4 8)).any fun e =>
      !e.expired n.retention c.adm) = false := by
    simp only [List.any_eq_false, List.mem_filter, decide_eq_true_eq, KeyEnt.expired, Bool.not_eq_true', decide_eq_false_iff_not,
      Decidable.not_not]
    exact fun e ⟨hmem, hle⟩ => he e hmem hle
  simp only [ledgerTrim, if_neg (Nat.not_lt.2 hr), hexp, Bool.false_eq_true, if_false, ← ho]
  rfl

end

/-- Settles O8: each row enters the open measure, and at its place each command makes of the store what its own definition says. -/
theorem namespaceChangesComplete : Obligations.NamespaceChangesComplete := by
  obtain ⟨e1, e2, e3, e4, e5⟩ := namespaceChangeRows_enter
  refine ⟨e1, e2, e3, e4, e5, ?_⟩
  rintro c s a rfl h0
  refine ⟨?_, fun n hn hc => ⟨?_, ?_, fun h => setRetention_atPlace h0 hn hc h,
    fun h ht hr he => ledgerTrim_atPlace h0 hn hc h ht hr he rfl⟩⟩
  · rintro typ h ht hn hg t rfl
    rw [create_atPlace h ht hn hg]
    exact ⟨rfl, rfl⟩
  · rintro h hu hh t rfl
    have hstore : (s.atPlace c).store = withoutNs s.store (u8 c.cmd.args 0) := by
      rw [delete_atPlace h0 hn hc h hu hh]
      exact removeNs_store ..
    rw [hstore]
    refine ⟨rfl, rfl, rfl, rfl, rfl, rfl, ?_⟩
    rw [delete_atPlace h0 hn hc h hu hh]
    exact ⟨fun w hw => removeNs_watches hw, List.mem_append_right _ (List.mem_singleton_self _)⟩
  · rintro h hq hr t rfl
    rw [setQuota_atPlace h0 hn hc h hq hr]
    exact ⟨rfl, rfl⟩

end Sys2Proof.Laws
end

section
namespace Sys2Proof.Laws
open Sys2Proof Sys2Proof.Machine

/-! # The NAMESPACE commands that read, and LEDGER_EXPORT (R169, R176, R178, R180, R383 to R387) -/

theorem namespaceReadRows_enter :
    entersMeasure .namespaceDigest 0x0406 .rt (fun _ a => 8 ≤ a.length ∧ a.length ≤ 248 ∧ u8 a 0 ≠ 0) ∧
    entersMeasure .namespaceLedgerHead 0x0407 .rt (fun _ a => a.length = 4 ∧ u8 a 0 ≠ 0) ∧
    entersMeasure .namespaceLedgerExport 0x040A .mgmt (fun _ a => 21 ≤ a.length ∧ a.length ≤ 260 ∧ u8 a 0 ≠ 0) ∧
    entersMeasure .namespaceValueDigest 0x040B .rt (fun _ a => 5 ≤ a.length ∧ a.length ≤ 244 ∧ u8 a 0 ≠ 0) := by
  refine ⟨entersMeasure_of cmdNamespaceDigest (fun _ _ => rfl) nofun rfl ?_,
    entersMeasure_of cmdNamespaceLedgerHead (fun _ _ => rfl) nofun rfl ?_,
    entersMeasure_of cmdNamespaceLedgerExport (fun _ _ => rfl) nofun rfl ?_,
    entersMeasure_of cmdNamespaceValueDigest (fun _ _ => rfl) nofun rfl ?_⟩
  · rintro b a ⟨hmin, hmax, h0⟩
    exact ⟨by simp [cmdNamespaceDigest, CmdDef.base, hmin, hmax], by omega, nsZero_of h0⟩
  · rintro b a ⟨hl, h0⟩
    exact ⟨by simp [cmdNamespaceLedgerHead, CmdDef.base, hl], by omega, nsZero_of h0⟩
  · rintro b a ⟨hmin, hmax, h0⟩
    exact ⟨by simp [cmdNamespaceLedgerExport, CmdDef.base, hmin, hmax], by omega, nsZero_of h0⟩
  · rintro b a ⟨hmin, hmax, h0⟩
    exact ⟨by simp [cmdNamespaceValueDigest, CmdDef.base, hmin, hmax], by omega, nsZero_of h0⟩

/-! ## The immediate ones -/

theorem namespaceList_exec {c : Cmd} {s : State} (h : s.ready c .rt) (ha : c.args = []) :
    exec (.namespaceList c) s = .next (s.answered c 0x0405 s.store.nsBitmap) :=
  congrArg Host.Outcome.next (run_read (d := cmdNamespaceList) h rfl rfl (by simp [ha, cmdNamespaceList, CmdDef.base])
    (by simp [ha]) rfl rfl)

theorem namespaceInfo_exec {c : Cmd} {s : State} {n : Namespace} (h0 : u8 c.args 0 ≠ 0) (hn : s.store.ns (u8 c.args 0) = some n)
    (h : s.ready c .rt) (hl : c.args.length = 4) : exec (.namespaceInfo c) s = .next (s.answered c 0x0404 (s.nsInfo n)) := by
  refine congrArg Host.Outcome.next (run_read (d := cmdNamespaceInfo) h rfl rfl (by simp [hl, cmdNamespaceInfo, CmdDef.base])
    (by omega) (nsZero_of h0) ?_)
  exact onNs_of (c := ⟨0x0404, c, 0, s.tb.measure⟩) (s := s.granted c 0x0404) h0 hn (.inl rfl) (.inl rfl) fun n =>
    okay (s.granted c 0x0404) ((s.granted c 0x0404).nsInfo n)

/-! ## Sliced commands (R46, R47) -/

theorem hold_nil (s : State) (f : Nat) : s.hold [] f = s := by
  simp [State.hold, State.modSeq]

theorem readSlices_pos (s : State) (n : Nat) : 1 ≤ s.readSlices n := Nat.le_max_left ..

/-- A sliced command at its place with status OK, in `n` slices: it holds what it writes to until its final measure, and its
answer waits for the second measure after that (R46, R47, R371). -/
theorem atPlace_sliced {d : CmdDef} {c : SealedCmd} {s t : State} {op n : Nat} {result : Bytes} (h : s.reaches c op)
    (hd : commandOf op = some d) (hk : d.kind = .sliced) (ha : d.act c s = (t, .ok, result)) (hm : t.tb = s.tb)
    (hn : d.slices c s = n) (h1 : 1 ≤ n) : s.atPlace c =
      ((t.hold (if 1 < n then d.holds c.cmd.args else []) (c.adm + n)).drawn.replying c .ok result (c.adm + n + 2)
        (c.adm + n - 1)).modSeq fun q => { q with behind := 0 } := by
  rw [atPlace_eq h hd]
  obtain ⟨-, htb, hlate, hbehind, -, -, hold⟩ := h
  have hfinal : max (c.adm + 1 + s.seq.late) s.seq.behind + n - 1 = c.adm + n := by rw [hlate, hbehind]; omega
  have hheld : (if 1 < n then t.hold (d.holds c.cmd.args) (c.adm + n) else t) =
      t.hold (if 1 < n then d.holds c.cmd.args else []) (c.adm + n) := by
    split
    · rfl
    · exact (hold_nil t _).symm
  simp only [CmdDef.atPlace, answer_eq hold, hk, ha, if_true, hn, hfinal, hheld]
  rw [schedule_later]
  · rfl
  · show t.tb.measure < c.adm + n + 2
    rw [hm, htb]; omega

/-! ## At their places -/

section
variable {c : SealedCmd} {s : State} {n : Namespace} (h0 : u8 c.cmd.args 0 ≠ 0) (hn : s.store.ns (u8 c.cmd.args 0) = some n)
  (hr : s.noRank = false)
include h0 hn hr

theorem digest_atPlace (h : s.reaches c 0x0406) (hl : c.cmd.args.length = 8) (h1 : u8 c.cmd.args 1 = 0) (h4 : fld c.cmd.args 4 4 = 0)
    (hkeys : n.keys.length ≤ 262144) (hbytes : valueBytes n.keys ≤ 256 * 2 ^ 20) (hpage : s.pageLost 2 n.id = false)
    (hlost : ∀ e ∈ n.keys, s.valueLost e = false) :
    s.atPlace c = s.drawn.replying c .ok
      (s.store.nsDigest n ++ be 4 n.keys.length ++ be 1 0 ++ be 1 (((n.keys.getLast?).map (·.key)).getD []).length ++ be 2 0 ++
        ((n.keys.getLast?).map (·.key)).getD [])
      (c.adm + s.readSlices (valueBytes n.keys) + 2) (c.adm + s.readSlices (valueBytes n.keys) - 1) := by
  have hargs : digestArgs c.cmd.args n = some (true, n.keys, []) := by
    have hform : ¬ (240 < u8 c.cmd.args 1 ∨ c.cmd.args.length ≠ 8 + u8 c.cmd.args 1 ∨ 262144 < fld c.cmd.args 4 4 ∨
        (fld c.cmd.args 4 4 = 0 ∧ u8 c.cmd.args 1 ≠ 0)) := by omega
    simp only [digestArgs, if_neg hform, if_pos h4]
    exact if_neg (by omega)
  have hany : n.keys.any s.valueLost = false := by simpa using hlost
  obtain ⟨-, hbehind, -⟩ := reaches_calm h
  rw [atPlace_sliced (d := cmdNamespaceDigest) (t := s) (n := s.readSlices (valueBytes n.keys)) h rfl rfl ?_ rfl ?_ (readSlices_pos _ _)]
  · have hholds : (if 1 < s.readSlices (valueBytes n.keys) then cmdNamespaceDigest.holds c.cmd.args else []) = [] := ite_self _
    rw [hholds, hold_nil]
    exact modSeq_behind hbehind
  · refine (onNs_of h0 hn (.inl rfl) (.inl rfl) _).trans ?_
    simp only [hargs, hr, hpage, hany, Bool.or_self, Bool.false_eq_true, if_false, if_true]
    rfl
  · simp only [cmdNamespaceDigest, CmdDef.base, nsArg_of h0 hn (.inl rfl) (.inl rfl), hargs]

theorem ledgerHead_atPlace {k : Nat} (h : s.reaches c 0x0407) (ht : n.typ = .ledger) (hk : s.store.ledgerKey = some k) :
    s.atPlace c = s.sealedOk c (signHead (some k) (ledgerHead n n.record n.head n.oldest)) := by
  refine atPlace_sealedNow (d := cmdNamespaceLedgerHead) h rfl rfl ?_ rfl (reaches_calm h)
  refine (onNs_of h0 hn (.inl rfl) (.inr (by rw [ht])) _).trans ?_
  simp only [hr, hk, Option.isNone_some, Bool.false_eq_true, if_false]
  rfl

theorem valueDigest_atPlace {e : KeyEnt} (h : s.reaches c 0x040B) (h1 : 1 ≤ u8 c.cmd.args 1) (h240 : u8 c.cmd.args 1 ≤ 240)
    (hl : c.cmd.args.length = 4 + u8 c.cmd.args 1) (ht : n.typ = .staging)
    (hv : (s.checkKey none c.adm .read n.id (c.cmd.args.drop 4)).2 = .permitted) (he : n.find (c.cmd.args.drop 4) = some e)
    (hpage : s.pageLost 3 e.extent = false) :
    s.atPlace c = (s.checkKey none c.adm .read n.id (c.cmd.args.drop 4)).1.sealedOk c (be 8 e.version ++ e.sha384) := by
  have hstill := checkKey_still s none c.adm .read n.id (c.cmd.args.drop 4)
  have hform : ¬ (u8 c.cmd.args 1 = 0 ∨ 240 < u8 c.cmd.args 1 ∨ c.cmd.args.length ≠ 4 + u8 c.cmd.args 1) := by omega
  refine atPlace_sealedNow (d := cmdNamespaceValueDigest) h rfl rfl ?_ (tb_of_still hstill) (seq_of_still hstill ▸ reaches_calm h)
  refine (onNs_of h0 hn (.inl rfl) (.inr (by rw [ht])) _).trans ?_
  simp only [hr, Bool.false_eq_true, if_false, if_neg hform, hv, Verdict.refusal, he, hpage]
  rfl

end

/-! ## LEDGER_EXPORT -/

/-- The records that LEDGER_EXPORT's arguments name. -/
def exportedRecords (a : Bytes) (n : Namespace) : List KeyEnt := n.recordsIn (fld a 4 8) (fld a 12 8)

/-- What LEDGER_EXPORT asks of its arguments, of ledger `n` and of the key of `target` that it writes (R178, R386). -/
structure Exportable (c : SealedCmd) (s : State) (n target : Namespace) : Prop where
  ledger : u8 c.cmd.args 0 ≠ 0 ∧ s.store.ns (u8 c.cmd.args 0) = some n ∧ n.typ = .ledger
  ordinary : u8 c.cmd.args 1 ≠ 0 ∧ s.store.ns (u8 c.cmd.args 1) = some target ∧ target.typ = .ordinary
  unshared : s.store.chorus = none
  keyed : s.store.ledgerKey.isSome = true
  keyForm : 1 ≤ u8 c.cmd.args 2 ∧ u8 c.cmd.args 2 ≤ 240 ∧ c.cmd.args.length = 20 + u8 c.cmd.args 2
  inRange : 1 ≤ fld c.cmd.args 4 8 ∧ fld c.cmd.args 4 8 ≤ fld c.cmd.args 12 8 ∧ n.oldest ≠ 0 ∧ n.oldest ≤ fld c.cmd.args 4 8 ∧
    fld c.cmd.args 12 8 ≤ n.record
  mayRead : (s.checkAll none c.adm .read n.id []).2 = .permitted
  mayWrite : ((s.checkAll none c.adm .read n.id []).1.checkKey none c.adm .write target.id (c.cmd.args.drop 20)).2 = .permitted
  size : imageLength (exportedRecords c.cmd.args n) ≤ 64 * 2 ^ 20
  room : s.store.roomFor target (c.cmd.args.drop 20) (charge (imageLength (exportedRecords c.cmd.args n)))
    (((target.find (c.cmd.args.drop 20)).map fun e => charge e.value.length).getD 0)
    (b2n (target.find (c.cmd.args.drop 20)).isNone) = true
  rank : s.noRank = false
  readable : ∀ e ∈ exportedRecords c.cmd.args n, s.valueLost e = false

/-- The state once LEDGER_EXPORT's two verdicts are found: on the whole ledger, then on the target key (R386). -/
def exportChecked (c : SealedCmd) (s : State) (n target : Namespace) : State :=
  ((s.checkAll none c.adm .read n.id []).1.checkKey none c.adm .write target.id (c.cmd.args.drop 20)).1

/-- The image stands under the target key: its version, and the state. -/
def exportWritten (c : SealedCmd) (s : State) (n target : Namespace) : Nat × State :=
  (exportChecked c s n target).putValue target (c.cmd.args.drop 20)
    (exportImage s.store.ledgerKey n (fld c.cmd.args 4 8) (fld c.cmd.args 12 8) (exportedRecords c.cmd.args n)) c.adm

theorem exportChecked_still (c : SealedCmd) (s : State) (n target : Namespace) : still (exportChecked c s n target) = still s :=
  (checkKey_still ..).trans (checkAll_still ..)

theorem exportWritten_store (c : SealedCmd) (s : State) (n target : Namespace) : (exportWritten c s n target).2.store =
    (s.store.write target (c.cmd.args.drop 20)
      (exportImage s.store.ledgerKey n (fld c.cmd.args 4 8) (fld c.cmd.args 12 8) (exportedRecords c.cmd.args n)) c.adm).2 :=
  (putValue_store ..).trans (by rw [store_of_still (exportChecked_still c s n target)])

theorem exportWritten_tb {c : SealedCmd} {s : State} (h : s.tb.measure < c.adm + 3) (n target : Namespace) :
    (exportWritten c s n target).2.tb = s.tb := by
  have htb := tb_of_still (exportChecked_still c s n target)
  exact (sameRest_tb (sameRest_putValue (s := exportChecked c s n target) (htb.symm ▸ h) ..)).trans htb

section
variable {c : SealedCmd} {s : State} {n target : Namespace} (hx : Exportable c s n target)
include hx

theorem ledgerExport_eq : ledgerExport c s = okay (exportWritten c s n target).2
    (be 8 (exportWritten c s n target).1 ++ be 4 (imageLength (exportedRecords c.cmd.args n)) ++ be 4 0) := by
  obtain ⟨⟨h0, hn, ht⟩, ⟨h1, hg, hgt⟩, hc, hkey, hform, hrange, hread, hwrite, hsize, hroom, hr, hlost⟩ := hx
  have hform : ¬ (u8 c.cmd.args 2 = 0 ∨ 240 < u8 c.cmd.args 2 ∨ c.cmd.args.length ≠ 20 + u8 c.cmd.args 2 ∨ fld c.cmd.args 4 8 = 0 ∨
      fld c.cmd.args 12 8 < fld c.cmd.args 4 8) := by omega
  have hfound : ¬ (s.store.ledgerKey.isNone = true ∨ (!s.store.holds n.id (be 8 (fld c.cmd.args 4 8))) = true ∨ n.oldest = 0 ∨
      fld c.cmd.args 4 8 < n.oldest ∨ n.record < fld c.cmd.args 12 8) := by
    have hnone : s.store.ledgerKey.isNone = false := by simpa using hkey
    have hholds : s.store.holds n.id (be 8 (fld c.cmd.args 4 8)) = true := by simp only [Store.holds, hc]
    simp only [hnone, hholds, Bool.not_true, Bool.false_eq_true, false_or]
    omega
  have hlocal : (s.store.chorusNs target.id).isSome = false := by simp [Store.chorusNs, hc]
  have hany : (exportedRecords c.cmd.args n).any s.valueLost = false := by simpa using hlost
  rw [exportedRecords] at hsize hroom hany
  refine (onNs_of h0 hn (.inl rfl) (.inr (by rw [ht])) _).trans ?_
  simp only [nsArg_of h1 hg (.inl rfl) (.inr (by rw [hgt])), if_neg hform, if_neg hfound, hread, hwrite, Verdict.refusal, hlocal, hr,
    hany, hroom, if_neg (Nat.not_lt.2 hsize), Bool.not_true, Bool.or_self, Bool.false_eq_true, if_false]
  rfl

theorem ledgerExport_atPlace {k : Nat} (h : s.reaches c 0x040A) (hk : k = s.readSlices (imageLength (exportedRecords c.cmd.args n))) :
    s.atPlace c = (((exportWritten c s n target).2.hold
      (if 1 < k then [onKey (u8 c.cmd.args 1) (c.cmd.args.drop 20)] else []) (c.adm + k)).drawn.replying c .ok
        (be 8 (exportWritten c s n target).1 ++ be 4 (imageLength (exportedRecords c.cmd.args n)) ++ be 4 0)
        (c.adm + k + 2) (c.adm + k - 1)).modSeq fun q => { q with behind := 0 } := by
  refine atPlace_sliced (d := cmdNamespaceLedgerExport) h rfl rfl (ledgerExport_eq hx) (exportWritten_tb (reaches_beforeAck h) n target) ?_
    (hk ▸ readSlices_pos ..)
  obtain ⟨-, hn, -⟩ := hx.ledger
  simp only [cmdNamespaceLedgerExport, CmdDef.base, hn]
  exact hk.symm

/-- The target key holds the image, and no other namespace has changed (R178). -/
theorem exportWritten_ns :
    (∃ m, (exportWritten c s n target).2.store.ns (u8 c.cmd.args 1) = some m ∧ ∃ e, m.find (c.cmd.args.drop 20) = some e ∧
      e.value = exportImage s.store.ledgerKey n (fld c.cmd.args 4 8) (fld c.cmd.args 12 8) (exportedRecords c.cmd.args n) ∧
      e.version = (getKey (u8 c.cmd.args 1) s.store.counters).getD 0 + 1 ∧ e.adm = c.adm) ∧
    ∀ k, k ≠ u8 c.cmd.args 1 → (exportWritten c s n target).2.store.ns k = s.store.ns k := by
  obtain ⟨-, hg, -⟩ := hx.ordinary
  have hid := ns_id hg
  have hlocal : s.store.chorusNs target.id = none := by simp [Store.chorusNs, hx.unshared]
  rw [exportWritten_store, ← hid]
  rw [← hid] at hg
  obtain ⟨m, hm, -, he⟩ := write_ns hg (c.cmd.args.drop 20)
    (exportImage s.store.ledgerKey n (fld c.cmd.args 4 8) (fld c.cmd.args 12 8) (exportedRecords c.cmd.args n)) c.adm
  refine ⟨⟨m, hm, _, he, rfl, ?_, rfl⟩, fun k hk => ?_⟩
  · exact congrArg (· + 1) (counter_local hlocal _)
  · obtain ⟨-, hothers, -⟩ := write_sameBut hlocal (c.cmd.args.drop 20)
      (exportImage s.store.ledgerKey n (fld c.cmd.args 4 8) (fld c.cmd.args 12 8) (exportedRecords c.cmd.args n)) c.adm
    exact (hothers k hk).1

end

/-- Settles O9: the immediate commands show the granted state; at their places the digests and the head read,
and LEDGER_EXPORT writes its image. -/
theorem namespaceReadsComplete : Obligations.NamespaceReadsComplete := by
  obtain ⟨e1, e2, e3, e4⟩ := namespaceReadRows_enter
  refine ⟨e1, e2, e3, e4, fun c s => ⟨namespaceList_exec, fun n => namespaceInfo_exec⟩, ?_⟩
  rintro c s a n rfl h0 hn hr
  refine ⟨digest_atPlace h0 hn hr, fun k => ledgerHead_atPlace h0 hn hr, fun e => valueDigest_atPlace h0 hn hr, ?_⟩
  rintro target h ht h1 hg hgt hc hkey hk1 hk240 hl hf1 hfl ho hof hlr recs rfl hread hwrite hsize hroom hlost t rfl
  have hx : Exportable c s n target :=
    ⟨⟨h0, hn, ht⟩, ⟨h1, hg, hgt⟩, hc, hkey, ⟨hk1, hk240, hl⟩, ⟨hf1, hfl, ho, hof, hlr⟩, hread,
      hwrite, hsize, hroom, hr, hlost⟩
  have hns := exportWritten_ns hx
  rw [ledgerExport_atPlace hx h rfl]
  generalize exportWritten c s n target = w at hns ⊢
  obtain ⟨htarget, hothers⟩ := hns
  exact ⟨htarget, hothers, w.1, List.mem_append_right _ (List.mem_singleton_self _)⟩

end Sys2Proof.Laws
end

section
namespace Sys2Proof.Laws
open Sys2Proof Sys2Proof.Machine

/-! # The MEDIA commands (R87, R194, R200, R213, R214, R394) -/

theorem mediaFormatPre_false {a : Bytes} (hmin : 16 ≤ fld a 4 2) (hmax : fld a 4 2 ≤ 256) (hcap : 64 ≤ fld a 0 4)
    (hnative : fld a 8 4 ≠ 0) (hslc : fld a 12 4 ≠ 0) : mediaFormatPre a = false := by
  simp [mediaFormatPre, hmin, hmax, hcap, hnative, hslc]

theorem mediaRows_enter :
    entersMeasure .mediaFormat 0x0701 .sec (fun b a => a.length = 16 ∧ b.nandOk = true ∧ 16 ≤ fld a 4 2 ∧ fld a 4 2 ≤ 256 ∧
      64 ≤ fld a 0 4 ∧ fld a 8 4 ≠ 0 ∧ fld a 12 4 ≠ 0) ∧
    entersMeasure .mediaSetReadPolicy 0x0702 .mgmt (fun _ a => a.length = 4 ∧ u8 a 0 ≤ 1 ∧ 1 ≤ u8 a 1 ∧ u8 a 1 ≤ 15 ∧
      (u8 a 0 = 0 → u8 a 1 = 1) ∧ signed 8 (u8 a 2) ≤ signed 8 (u8 a 3) ∧ -64 ≤ signed 8 (u8 a 2) ∧ signed 8 (u8 a 3) ≤ 63) ∧
    entersMeasure .mediaSetWarn 0x0703 .mgmt (fun _ a => a.length = 4 ∧ 100 ≤ fld a 0 2 ∧ fld a 0 2 ≤ 500 ∧ 50 ≤ u8 a 2 ∧
      u8 a 2 ≤ 95 ∧ 60 ≤ signed 8 (u8 a 3) ∧ signed 8 (u8 a 3) ≤ 95) ∧
    entersMeasure .mediaAckWarnings 0x0704 .mgmt (fun _ a => a.length = 4) := by
  refine ⟨entersMeasure_of cmdMediaFormat (fun _ _ => rfl) nofun rfl ?_,
    entersMeasure_of cmdMediaSetReadPolicy (fun _ _ => rfl) nofun rfl ?_,
    entersMeasure_of cmdMediaSetWarn (fun _ _ => rfl) nofun rfl ?_,
    entersMeasure_of cmdMediaAckWarnings (fun _ _ => rfl) nofun rfl ?_⟩
  · rintro b a ⟨hl, hb, hmin, hmax, hcap, hnative, hslc⟩
    refine ⟨by simp [cmdMediaFormat, CmdDef.base, hl], by omega, ?_⟩
    simp only [cmdMediaFormat, hb, mediaFormatPre_false hmin hmax hcap hnative hslc, Bool.not_true, Bool.false_eq_true, if_false]
  · rintro b a ⟨hl, h0, h1, h15, hslc, hle, hlow, hhigh⟩
    exact ⟨by simp [cmdMediaSetReadPolicy, CmdDef.base, hl], by omega, if_neg (by omega)⟩
  · rintro b a ⟨hl, hspare, hspare', hwear, hwear', htemp, htemp'⟩
    exact ⟨by simp [cmdMediaSetWarn, CmdDef.base, hl], by omega, if_neg (by omega)⟩
  · rintro b a hl
    exact ⟨by simp [cmdMediaAckWarnings, CmdDef.base, hl], by omega, rfl⟩

/-! ## Reads (R213) -/

theorem mediaHealth_answers {c : Cmd} {s : State} (h : s.ready c .rt) (ha : c.args = []) :
    exec (.mediaHealth c) s = .next (s.answered c 0x0705 s.mediaHealth) :=
  exec_read cmdMediaHealth (fun _ _ => rfl) rfl rfl h (by simp [ha, cmdMediaHealth, CmdDef.base]) (by simp [ha]) rfl rfl

theorem mediaLunHealth_answers {c : Cmd} {s : State} {l : Lun} (h : s.ready c .rt) (hl : c.args.length = 2)
    (hf : s.flash.luns.find? (fun l => l.id == fld c.args 0 2) = some l) :
    exec (.mediaLunHealth c) s = .next (s.answered c 0x0706 (s.lunHealth l)) := by
  refine exec_read cmdMediaLunHealth (fun _ _ => rfl) rfl rfl h (by simp [hl, cmdMediaLunHealth, CmdDef.base]) (by omega) rfl ?_
  have hg : (s.granted c 0x0706).flash.luns.find? (fun l => l.id == fld c.args 0 2) = some l := hf
  simp only [cmdMediaLunHealth, CmdDef.base, hg]
  rfl

/-- Settles O16: both commands show a part of the state that the grant of their mailbox leaves as it is. -/
theorem mediaReadsComplete : Obligations.MediaReadsComplete := fun _ _ h =>
  ⟨mediaHealth_answers h, fun _ => mediaLunHealth_answers h⟩

/-! ## FORMAT (R194) -/

/-- The store without some namespaces, their open segmented values and their holds. -/
def withoutAll (t : Store) (l : List Namespace) : Store :=
  { t with nss := t.nss.filter fun n => !l.any fun k => k.id == n.id, segs := t.segs.filter fun g => !l.any fun k => k.id == g.ns
           held := t.held.filter fun h => !l.any fun k => k.id == h.1 }

theorem foldl_withoutNs (l : List Namespace) (t : Store) : l.foldl (fun t n => withoutNs t n.id) t = withoutAll t l := by
  induction l generalizing t with
  | nil => simp [withoutAll]
  | cons n l ih =>
    rw [List.foldl_cons, ih]
    simp [withoutAll, withoutNs, List.filter_filter, Bool.and_comm, bne, BEq.comm]

/-- A state without its namespaces, as a FORMAT of measure `m` leaves them (R194, R382). -/
def emptied (s : State) (m : Nat) : State := s.store.nss.foldl (fun t n => t.removeNs n.id m) s

theorem emptied_store (s : State) (m : Nat) : (emptied s m).store = withoutAll s.store s.store.nss := by
  have h (l : List Namespace) (t : State) : (l.foldl (fun t n => t.removeNs n.id m) t).store =
      l.foldl (fun t n => withoutNs t n.id) t.store := by
    induction l generalizing t with
    | nil => rfl
    | cons n l ih => rw [List.foldl_cons, ih, removeNs_store, List.foldl_cons]
  rw [emptied, h, foldl_withoutNs]

theorem emptied_nss (s : State) (m : Nat) : (emptied s m).store.nss = [] := by
  rw [emptied_store]
  refine List.filter_eq_nil_iff.2 fun n hn => ?_
  simpa using ⟨n, hn, rfl⟩

theorem emptied_tb {s : State} {m : Nat} (h : s.tb.measure < m + 3) : (emptied s m).tb = s.tb := by
  have hall (l : List Namespace) (t : State) (ht : t.tb = s.tb) : (l.foldl (fun t n => t.removeNs n.id m) t).tb = s.tb := by
    induction l generalizing t with
    | nil => exact ht
    | cons n l ih => exact ih _ ((removeNs_tb (ht ▸ h) n.id).trans ht)
  exact hall _ s rfl

/-- No block of a marked superblock is in use: each waits for an erase, or is retired (R205). -/
theorem marked_waits {b : Superblock} {k : NandBlock} (h : k ∈ b.marked.blocks) : k.state = .erasePending ∨ k.state = .retired := by
  obtain ⟨j, -, rfl⟩ := List.mem_map.1 h
  by_cases hj : j.state = .retired
  · exact .inr (by rw [if_pos hj, hj])
  · exact .inl (by rw [if_neg hj])

theorem formatMark_waits {s : State} {slcGib : Nat} : ∀ b ∈ (s.formatMark slcGib).flash.sbs, ∀ k ∈ b.blocks,
    k.state = .erasePending ∨ k.state = .retired := by
  intro b hb k hk
  obtain ⟨x, -, rfl⟩ := List.mem_map.1 hb
  exact marked_waits hk

/-- The format that FORMAT's arguments set (R193, R194). -/
def formatOf (a : Bytes) (k : Nat) : Format := { cl := fld a 0 4, k, slcGib := fld a 4 2, endNative := fld a 8 4, endSlc := fld a 12 4 }

/-- The drive as FORMAT leaves it at its place. -/
def formatted (c : SealedCmd) (s : State) : State :=
  ((emptied s c.adm).modStore fun t =>
    { t with format := some (formatOf c.cmd.args s.board.keyCapacity), formats := t.formats + 1 }).formatMark (fld c.cmd.args 4 2)

/-- FORMAT's answer: CAPACITY, the LUNs that serve, c_max and K (R394). -/
def formatAnswer (a : Bytes) (s : State) : Bytes :=
  be 4 (fld a 0 4) ++ be 2 (((List.range s.groups).map fun g => (s.writable g).length).sum) ++ be 2 0 ++
    be 4 (s.cMax (fld a 4 2)) ++ be 4 s.board.keyCapacity

section
variable {c : SealedCmd} {s : State}

theorem mediaFormat_atPlace (h : s.reaches c 0x0701) (hb : s.board.nandOk = true) (hpre : mediaFormatPre c.cmd.args = false)
    (hcap : fld c.cmd.args 0 4 ≤ s.cMax (fld c.cmd.args 4 2)) (hc : s.store.chorus = none)
    (hn : ∀ n ∈ s.store.nss, n.unexpired c.adm = false) {n : Nat} (hslices : n = 1 + Config.sealedValue s.store.draws) :
    s.atPlace c = ((((formatted c s).hold (if 1 < n then everyNs else []) (c.adm + n)).drawn.replying c .ok
      (formatAnswer c.cmd.args s) (c.adm + n + 2) (c.adm + n - 1)).modSeq fun q => { q with behind := 0 }) := by
  refine atPlace_sliced (d := cmdMediaFormat) h rfl rfl ?_ (emptied_tb (reaches_beforeAck h)) hslices.symm (by omega)
  have hrange : ¬ (mediaFormatPre c.cmd.args = true ∨ s.cMax (fld c.cmd.args 4 2) < fld c.cmd.args 0 4) := by
    simp [hpre, hcap]
  have hany : (s.store.nss.any fun n => n.unexpired c.adm) = false := by simpa using hn
  show mediaFormat c s = _
  simp only [mediaFormat, hb, if_neg hrange, hc, hany, Bool.not_true, Option.isSome_none, Bool.false_eq_true, if_false]
  rfl

theorem formatted_store : (formatted c s).store = { withoutAll s.store s.store.nss with
    format := some (formatOf c.cmd.args s.board.keyCapacity), formats := s.store.formats + 1 } :=
  congrArg (fun t : Store =>
    { t with format := some (formatOf c.cmd.args s.board.keyCapacity), formats := t.formats + 1 }) (emptied_store s c.adm)

end

/-! ## SET_READ_POLICY (R200) -/

/-- Settings with the window of one area and level set. -/
def withWindow (native : Bool) (level : Nat) (w : Int × Int) (t : Settings) : Settings :=
  { t with readPolicy := (t.readPolicy.filter fun p => !(p.1 == b2n native && p.2.1 == level)) ++ [(b2n native, level, w.1, w.2)] }

theorem b2n_beq (a b : Bool) : (b2n a == b2n b) = (a == b) := by cases a <;> cases b <;> rfl

theorem withWindow_same (native : Bool) (level : Nat) (w : Int × Int) (t : Settings) :
    (withWindow native level w t).window native level = w := by
  have hnone : (t.readPolicy.filter fun p => !(p.1 == b2n native && p.2.1 == level)).find?
      (fun p => p.1 == b2n native && p.2.1 == level) = none := by
    refine List.find?_eq_none.2 fun p hp => ?_
    have := (List.mem_filter.1 hp).2
    simp only [Bool.not_eq_true'] at this
    exact Bool.eq_false_iff.1 this
  simp only [Settings.window, withWindow, List.find?_append, hnone, Option.none_or, List.find?_cons, beq_self_eq_true, Bool.and_self]

theorem withWindow_other {native n : Bool} {level l : Nat} (h : (n, l) ≠ (native, level)) (w : Int × Int) (t : Settings) :
    (withWindow native level w t).window n l = t.window n l := by
  have hne : (native == n && level == l) = false := by
    simp only [Bool.and_eq_false_iff, beq_eq_false_iff_ne]
    by_contra hc
    simp only [not_or, not_not] at hc
    exact h (Prod.ext hc.1.symm hc.2.symm)
  have hfind : (t.readPolicy.filter fun p => !(p.1 == b2n native && p.2.1 == level)).find? (fun p => p.1 == b2n n && p.2.1 == l) =
      t.readPolicy.find? fun p => p.1 == b2n n && p.2.1 == l := by
    rw [List.find?_filter]
    congr 1
    funext p
    by_cases hp : (p.1 == b2n n && p.2.1 == l) = true
    · simp only [Bool.and_eq_true, beq_iff_eq] at hp
      simp only [hp.1, hp.2, b2n_beq, BEq.comm (a := n), BEq.comm (a := l), hne, Bool.not_false, beq_self_eq_true, and_self,
        decide_true, Bool.and_self]
    · simp [hp]
  simp only [Settings.window, withWindow, List.find?_append, hfind, List.find?_cons, b2n_beq, hne, List.find?_nil, Option.or_none]

section
variable {c : SealedCmd} {s : State}

theorem setReadPolicy_atPlace {native : Bool} {w : Int × Int} (h : s.reaches c 0x0702) (hn : native = (u8 c.cmd.args 0 == 1))
    (hw : w = (signed 8 (u8 c.cmd.args 2), signed 8 (u8 c.cmd.args 3))) (hl : u8 c.cmd.args 1 ≤ s.board.levels native) :
    s.atPlace c = ((s.modSettings (withWindow native (u8 c.cmd.args 1) w)).modFlash fun f =>
      { f with sbs := f.sbs.map (Superblock.clampLevel native (u8 c.cmd.args 1) w) }).sealedOk c
      (be 1 (unsigned 8 (s.store.settings.window native (u8 c.cmd.args 1)).1) ++
        be 1 (unsigned 8 (s.store.settings.window native (u8 c.cmd.args 1)).2) ++ be 2 0) := by
  refine atPlace_sealedNow (d := cmdMediaSetReadPolicy) (t := (s.modSettings (withWindow native (u8 c.cmd.args 1) w)).modFlash fun f =>
      { f with sbs := f.sbs.map (Superblock.clampLevel native (u8 c.cmd.args 1) w) }) h rfl rfl ?_ rfl (reaches_calm h)
  subst hn hw
  show setReadPolicy c s = _
  simp only [setReadPolicy, if_neg (Nat.not_lt.2 hl)]
  rfl

/-! ## SET_WARN and ACK_WARNINGS (R214) -/

/-- Settings with the thresholds of SET_WARN's arguments. -/
def withThresholds (a : Bytes) (t : Settings) : Settings :=
  { t with spareLow := fld a 0 2, wearHigh := u8 a 2, tempHigh := signed 8 (u8 a 3) }

theorem setWarn_atPlace (h : s.reaches c 0x0703) :
    s.atPlace c = (s.modSettings (withThresholds c.cmd.args)).checkWarns.sealedOk c [] := by
  have hw := checkWarns_unwarned (s.modSettings (withThresholds c.cmd.args))
  exact atPlace_sealedNow (d := cmdMediaSetWarn) h rfl rfl rfl ((tb_of_unwarned hw).trans rfl) ((seq_of_unwarned hw).symm ▸ reaches_calm h)

theorem ackWarnings_atPlace (h : s.reaches c 0x0704) : s.atPlace c =
    (s.sealedOk c []).modFlash fun f => { f with latched := f.latched &&& ~~~(BitVec.ofNat 32 (fld c.cmd.args 0 4)) } :=
  atPlace_sealedNow (d := cmdMediaAckWarnings)
    (t := s.modFlash fun f => { f with latched := f.latched &&& ~~~(BitVec.ofNat 32 (fld c.cmd.args 0 4)) }) h rfl rfl rfl rfl
    (reaches_calm h)

end

/-- Settles O15: each row enters the open measure, and at its place FORMAT empties the drive, and the other three set what their
arguments name. -/
theorem mediaChangesComplete : Obligations.MediaChangesComplete := by
  obtain ⟨e1, e2, e3, e4⟩ := mediaRows_enter
  refine ⟨e1, e2, e3, e4, ?_⟩
  rintro c s t a rfl rfl
  refine ⟨?_, fun h _ _ hl => ?_, fun h => ?_, ackWarnings_atPlace⟩
  · intro n h hb hmin hmax hcap hle hnative hslc hc hn hslices
    rw [mediaFormat_atPlace h hb (mediaFormatPre_false hmin hmax hcap hnative hslc) hle hc hn hslices]
    have hstore := formatted_store (c := c) (s := s)
    have hnss : (formatted c s).store.nss = [] := emptied_nss s c.adm
    refine ⟨hnss, (congrArg Store.segs hstore :), (congrArg Store.counters hstore :), (congrArg Store.settings hstore :),
      (congrArg Store.tables hstore :), (congrArg Store.format hstore :), formatMark_waits, List.mem_append_right _ (List.mem_singleton_self _)⟩
  · rw [setReadPolicy_atPlace h rfl rfl hl]
    exact ⟨withWindow_same .., fun n l hne => withWindow_other hne .., rfl, rfl⟩
  · rw [setWarn_atPlace h]
    have hw := checkWarns_unwarned (s.modSettings (withThresholds c.cmd.args))
    have hstore := store_of_unwarned hw
    exact ⟨(congrArg Store.settings hstore :), List.mem_append_right _ (List.mem_singleton_self _), (congrArg Store.nss hstore :),
      (congrArg (fun u : State => u.flash.sbs) hw :), (congrArg (fun u : State => u.flash.luns) hw :)⟩

end Sys2Proof.Laws
end

section
namespace Sys2Proof.Laws
open Sys2Proof Sys2Proof.Machine

/-! # One relocation (R191, R196, R198)

A relocation closes its superblock and queues the reads of what is to be copied, or reclaims the superblock where nothing is. -/

theorem readWord_offLanes (s : State) (kind : NandKind) (b : Superblock) (w : Codeword) (own : Bool) :
    offLanes (s.readWord kind b w own) = offLanes s := by
  unfold State.readWord
  split
  · rfl
  · exact submit_offLanes ..

theorem readWords_offLanes (kind : NandKind) (b : Superblock) (own : Bool) (l : List Codeword) (s : State) :
    offLanes (l.foldl (fun t w => t.readWord kind b w own) s) = offLanes s :=
  foldl_keeps (fun t w => readWord_offLanes t kind b w own) l s

theorem still_of_offLanes {s t : State} (h : offLanes t = offLanes s) : still t = still s := (congrArg still h :)

section
variable {s t : State} (h : unwarned t = unwarned s)
include h
theorem still_of_unwarned : still t = still s := (congrArg still h :)
theorem sbs_of_unwarned : t.flash.sbs = s.flash.sbs := (congrArg (fun u : State => u.flash.sbs) h :)
theorem moves_of_unwarned : t.flash.moves = s.flash.moves := (congrArg (fun u : State => u.flash.moves) h :)
theorem collecting_of_unwarned : t.flash.collecting = s.flash.collecting := (congrArg (fun u : State => u.flash.collecting) h :)
end

theorem moves_of_offLanes {s t : State} (h : offLanes t = offLanes s) : t.flash.moves = s.flash.moves :=
  (congrArg (fun u : State => u.flash.moves) h :)

theorem collecting_of_offLanes {s t : State} (h : offLanes t = offLanes s) : t.flash.collecting = s.flash.collecting :=
  (congrArg (fun u : State => u.flash.collecting) h :)

/-- With no two superblocks of one group and number, one that is there is found. -/
theorem sb_of_mem {s : State} {b : Superblock} (hn : (s.flash.sbs.map fun x => (x.group, x.num)).Nodup) (hb : b ∈ s.flash.sbs) :
    s.sb b.group b.num = some b := by
  obtain ⟨c, hc⟩ := Option.isSome_iff_exists.1 (List.find?_isSome (p := fun x : Superblock => x.group == b.group && x.num == b.num).2
    ⟨b, hb, by simp⟩)
  obtain ⟨hg, hnum⟩ := sb_ids hc
  have : c = b := List.inj_on_of_nodup_map hn (List.mem_of_find?_eq_some hc) hb (Prod.ext hg hnum)
  exact this ▸ hc

/-! ## What becomes of the superblock -/

/-- A superblock that takes no more data: closed in measure `m`, if it was open. -/
def drained (m : Nat) (b : Superblock) : Superblock := { b.close (if b.any .opened then m else b.closedAt) with draining := true }

theorem drained_opened (m : Nat) (b : Superblock) : (drained m b).any .opened = false := by
  simp only [drained, Superblock.any, Superblock.close, List.any_map, List.any_eq_false]
  intro k _
  by_cases hk : k.state = .opened <;> simp [hk]

/-- A superblock whose closed blocks wait for their erase (R205). -/
def reclaimed (b : Superblock) : Superblock :=
  { b with
    draining := false, hard := false
    blocks := b.blocks.map fun k => if k.state = .closed then { k with state := .erasePending, erased := false } else k }

theorem reclaimed_closed (b : Superblock) : (reclaimed b).any .closed = false := by
  simp only [reclaimed, Superblock.any, List.any_map, List.any_eq_false]
  intro k _
  by_cases hk : k.state = .closed <;> simp [hk]

theorem reclaimed_opened {b : Superblock} (h : b.any .opened = false) : (reclaimed b).any .opened = false := by
  simp only [reclaimed, Superblock.any, List.any_map, List.any_eq_false] at h ⊢
  intro k hk
  by_cases hc : k.state = .closed
  · simp [hc]
  · simpa [hc] using h k hk

/-- A draining superblock that no relocation reads any more is reclaimed once nothing valid is left in it (R191, R198). -/
theorem reclaim_sb {s : State} {g n : Nat} {x : Superblock} (hx : s.sb g n = some x) (hd : x.draining = true)
    (ho : x.any .opened = false) (hm : ∀ m ∈ s.flash.moves, (m.group, m.num) ≠ (g, n)) :
    ∃ y, (s.reclaim g n).sb g n = some y ∧ y.any .opened = false ∧ y.words = x.words ∧ (s.validOf x = [] → y.any .closed = false) := by
  have hbusy : (s.flash.moves.any fun m => m.group == g && m.num == n) = false := by
    simpa [List.any_eq_false] using hm
  simp only [State.reclaim, hx, hbusy, hd, Bool.not_false, Bool.true_and, Bool.and_eq_true, List.isEmpty_iff]
  split
  · exact ⟨reclaimed x, modSb_sb (f := reclaimed) (fun _ => ⟨rfl, rfl⟩) hx, reclaimed_opened ho, rfl, fun _ => reclaimed_closed x⟩
  · next h => exact ⟨x, hx, ho, rfl, fun hv => Bool.eq_false_iff.2 fun hc => h ⟨hc, hv⟩⟩

theorem reclaim_collecting (s : State) (g n : Nat) : (s.reclaim g n).flash.collecting = s.flash.collecting := by
  unfold State.reclaim
  split
  · rfl
  · exact apply_ite (fun t : State => t.flash.collecting) _ _ _ |>.trans (ite_self _)

/-! ## The relocation -/

/-- The relocation that reads what is movable of `b`. -/
def moveOf (s : State) (b : Superblock) (stream : Stream) (evac : Bool) : Relocation :=
  { group := b.group, num := b.num, stream, evac, pending := (s.movable b evac).map fun w => (w.ext, w.idx), got := [] }

/-- Superblock `b` takes no more data, and its movable codewords are to be read. -/
def readOut (s : State) (b : Superblock) (evac : Bool) : State :=
  (s.movable b evac).foldl (fun t w => t.readWord .readBg b w evac) (s.modSb b.group b.num (drained s.tb.measure))

theorem readOut_offLanes (s : State) (b : Superblock) (evac : Bool) :
    offLanes (readOut s b evac) = offLanes (s.modSb b.group b.num (drained s.tb.measure)) := readWords_offLanes ..

theorem readOut_sb {s : State} {b : Superblock} (hb : s.sb b.group b.num = some b) (evac : Bool) :
    (readOut s b evac).sb b.group b.num = some (drained s.tb.measure b) :=
  (sb_of_offLanes (readOut_offLanes s b evac) _ _).trans (modSb_sb (fun _ => ⟨rfl, rfl⟩) hb)

section
variable {s : State} {b : Superblock} (hm : ∀ m ∈ s.flash.moves, (m.group, m.num) ≠ (b.group, b.num))
include hm

theorem relocate_eq (stream : Stream) (evac : Bool) : s.relocate b stream evac =
    if s.movable b evac = [] then (readOut s b evac).reclaim b.group b.num
    else (readOut s b evac).modFlash fun f => { f with moves := f.moves ++ [moveOf s b stream evac] } := by
  have hbusy : (s.flash.moves.any fun m => m.group == b.group && m.num == b.num) = false := by
    simpa [List.any_eq_false] using hm
  simp only [State.relocate, hbusy, Bool.false_eq_true, if_false, List.isEmpty_iff]
  rfl

theorem relocate_still (stream : Stream) (evac : Bool) : still (s.relocate b stream evac) = still s := by
  have h : still (readOut s b evac) = still s := (still_of_offLanes (readOut_offLanes s b evac)).trans (modSb_still ..)
  rw [relocate_eq hm]
  split
  · exact (reclaim_still ..).trans h
  · exact (modFlash_still ..).trans h

theorem relocate_collecting (stream : Stream) (evac : Bool) :
    (s.relocate b stream evac).flash.collecting = s.flash.collecting := by
  have h : (readOut s b evac).flash.collecting = s.flash.collecting := (collecting_of_offLanes (readOut_offLanes s b evac)).trans rfl
  rw [relocate_eq hm]
  split
  · exact (reclaim_collecting ..).trans h
  · exact h

theorem relocate_sb (hb : s.sb b.group b.num = some b) (stream : Stream) (evac : Bool) :
    ∃ y, (s.relocate b stream evac).sb b.group b.num = some y ∧ y.any .opened = false ∧ y.words = b.words ∧
      (s.movable b evac ≠ [] → y.draining = true) ∧ (s.validOf b = [] → y.any .closed = false) := by
  have hread := readOut_sb hb evac
  have hopen := drained_opened s.tb.measure b
  rw [relocate_eq hm]
  split
  · next hnone =>
    have hmoves : (readOut s b evac).flash.moves = s.flash.moves := (moves_of_offLanes (readOut_offLanes s b evac)).trans rfl
    have hvalid : (readOut s b evac).validOf (drained s.tb.measure b) = s.validOf b := by
      have hlive : (readOut s b evac).liveExtents = s.liveExtents :=
        (congrArg State.liveExtents (readOut_offLanes s b evac) :).trans rfl
      simp only [State.validOf, hlive]
      rfl
    obtain ⟨y, hy, ho, hw, hc⟩ := reclaim_sb hread rfl hopen (hmoves ▸ hm)
    exact ⟨y, hy, ho, hw, fun hsome => absurd hnone hsome, fun hv => hc (hvalid.trans hv)⟩
  · next hsome =>
    refine ⟨_, hread, hopen, rfl, fun _ => rfl, fun hv => absurd ?_ hsome⟩
    rw [State.movable, hv, List.filter_nil]

theorem relocate_moves (hsome : s.movable b evac ≠ []) (stream : Stream) :
    moveOf s b stream evac ∈ (s.relocate b stream evac).flash.moves := by
  rw [relocate_eq hm, if_neg hsome]
  exact List.mem_append_right _ (List.mem_singleton_self _)

/-- A relocation has begun, whatever then changes but superblocks, relocations and what flash leaves alone. -/
theorem relocate_movedFrom (hb : s.sb b.group b.num = some b) {stream : Stream} {evac : Bool} {t : State}
    (hsbs : t.flash.sbs = (s.relocate b stream evac).flash.sbs) (hmoves : t.flash.moves = (s.relocate b stream evac).flash.moves)
    (hstill : still t = still (s.relocate b stream evac)) : s.movedFrom t b stream evac := by
  have hall := hstill.trans (relocate_still hm stream evac)
  have hsb : t.sb b.group b.num = (s.relocate b stream evac).sb b.group b.num := by simp only [State.sb, hsbs]
  refine ⟨hsb ▸ relocate_sb hm hb stream evac, fun hsome => hmoves ▸ relocate_moves hm hsome stream, store_of_still hall,
    (congrArg State.durable hall :), tb_of_still hall, (congrArg State.nor hall :), sessions_of_still hall⟩

theorem relocate_warned (hb : s.sb b.group b.num = some b) (stream : Stream) (evac : Bool) :
    s.movedFrom (s.relocate b stream evac).checkWarns b stream evac := by
  have hw := checkWarns_unwarned (s.relocate b stream evac)
  exact relocate_movedFrom hm hb (sbs_of_unwarned hw) (moves_of_unwarned hw) (still_of_unwarned hw)

end
end Sys2Proof.Laws
end

section
namespace Sys2Proof.Laws
open Sys2Proof Sys2Proof.Machine

/-! # The relocations that are due (R191, R195 to R198, R212) -/

/-- A search for the least key ends at the one that all others exceed. -/
theorem foldl_least {α : Type} (key : α → Nat) {b : α} {x : α} {rest : List α} (hmem : b ∈ x :: rest)
    (hleast : ∀ y ∈ x :: rest, y = b ∨ key b < key y) : rest.foldl (fun x y => if key y < key x then y else x) x = b := by
  induction rest generalizing x with
  | nil => exact (List.mem_singleton.1 hmem).symm
  | cons y rest ih =>
    obtain ⟨hx, hy, hrest⟩ : (x = b ∨ key b < key x) ∧ (y = b ∨ key b < key y) ∧ ∀ z ∈ rest, z = b ∨ key b < key z := by
      simpa using hleast
    rw [List.foldl_cons]
    split
    · next hlt =>
      refine ih ?_ (List.forall_mem_cons.2 ⟨hy, hrest⟩)
      obtain rfl | h := List.mem_cons.1 hmem
      · exact List.mem_cons.2 (.inl (hy.resolve_right (Nat.lt_asymm hlt)).symm)
      · exact h
    · next hge =>
      refine ih ?_ (List.forall_mem_cons.2 ⟨hx, hrest⟩)
      obtain rfl | h := List.mem_cons.1 hmem
      · exact List.mem_cons_self
      · obtain rfl | h := List.mem_cons.1 h
        · exact List.mem_cons.2 (.inl (hx.resolve_right hge).symm)
        · exact List.mem_cons_of_mem _ h

/-- A list without repetitions that holds `b` and nothing else. -/
theorem eq_singleton_of_nodup {α : Type} {l : List α} {b : α} (hn : l.Nodup) (hb : b ∈ l) (h : ∀ x ∈ l, x = b) : l = [b] := by
  have hr := List.eq_replicate_of_mem h
  rw [hr, List.nodup_replicate] at hn
  have := List.length_pos_of_mem hb
  rw [hr, show l.length = 1 by omega, List.replicate_one]

section
variable {s : State} {b : Superblock} (hbg : s.bgMay = true) (hn : (s.flash.sbs.map fun x => (x.group, x.num)).Nodup)
  (hb : b ∈ s.flash.sbs) (hm : ∀ m ∈ s.flash.moves, (m.group, m.num) ≠ (b.group, b.num))

/-! ## Garbage collection (R195) -/

/-- Garbage collection runs in a group. -/
def collecting (s : State) (g : Nat) : State :=
  s.modFlash fun f => { f with collecting := if f.collecting.contains g then f.collecting else g :: f.collecting }

theorem collecting_contains (s : State) (g : Nat) : (collecting s g).flash.collecting.contains g = true := by
  cases h : s.flash.collecting.contains g with
  | true => simp only [collecting, modFlash_flash, h, if_true]
  | false => simp only [collecting, modFlash_flash, h, Bool.false_eq_true, if_false, List.contains_cons, beq_self_eq_true, Bool.true_or]

include hbg in
theorem garbageCollection_ends {g free all : Nat} (hf : s.nativeFree g = (free, all)) (hall : 0 < all) (h : 6 * all ≤ free * 100) :
    exec (.garbageCollection g) s = .next (s.modFlash fun f => { f with collecting := f.collecting.filter (· != g) }) := by
  have hoff : (decide (free * 100 ≤ 4 * all) || (s.flash.collecting.contains g && decide (free * 100 < 6 * all))) = false := by
    simp only [Bool.or_eq_false_iff, Bool.and_eq_false_iff, decide_eq_false_iff_not]
    exact ⟨by omega, .inr (by omega)⟩
  have hrun : ¬ ((!s.bgMay) = true ∨ all = 0) := by simp [hbg]; omega
  show execGarbageCollection g s = _
  simp only [execGarbageCollection, hf, if_neg hrun, hoff, Bool.not_false, if_true]

include hbg hn hb hm

theorem garbageCollection_moves {free all : Nat} (hf : s.nativeFree b.group = (free, all)) (hall : 0 < all)
    (hon : free * 100 ≤ 4 * all ∨ s.flash.collecting.contains b.group = true ∧ free * 100 < 6 * all)
    (hv : s.gcVictim b.group = some b) : completes (.garbageCollection b.group) s fun t =>
      s.movedFrom t b .gc false ∧ t.flash.collecting.contains b.group = true := by
  have hon' : (decide (free * 100 ≤ 4 * all) || (s.flash.collecting.contains b.group && decide (free * 100 < 6 * all))) = true := by
    simpa only [Bool.or_eq_true, Bool.and_eq_true, decide_eq_true_eq] using hon
  have hrun : ¬ ((!s.bgMay) = true ∨ all = 0) := by simp [hbg]; omega
  have hv' : (collecting s b.group).gcVictim b.group = some b := hv
  have hexec : exec (.garbageCollection b.group) s = .next ((collecting s b.group).relocate b .gc false).checkWarns := by
    show execGarbageCollection b.group s = _
    unfold collecting at hv' ⊢
    simp only [execGarbageCollection, hf, if_neg hrun, hon', Bool.not_true, Bool.false_eq_true, if_false, hv']
  have hcol : ((collecting s b.group).relocate b .gc false).checkWarns.flash.collecting = (collecting s b.group).flash.collecting :=
    (collecting_of_unwarned (checkWarns_unwarned _)).trans (relocate_collecting (s := collecting s b.group) hm ..)
  exact ⟨_, hexec, relocate_warned (s := collecting s b.group) hm (sb_of_mem (s := collecting s b.group) hn hb) .gc false,
    hcol ▸ collecting_contains s b.group⟩

/-! ## Folding, wear moves and refresh (R191, R197, R198) -/

theorem folding_moves (hslc : b.native = false) (hc : b.isClosed = true)
    (hold : ∀ x ∈ s.flash.sbs, x.group = b.group → x.native = false → x.isClosed = true → x = b ∨ b.closedAt < x.closedAt) :
    completes (.folding b.group) s fun t => s.movedFrom t b .fold false := by
  refine ⟨_, ?_, relocate_warned hm (sb_of_mem hn hb) .fold false⟩
  have hmem : b ∈ s.flash.sbs.filter fun x => x.group == b.group && !x.native && x.isClosed :=
    List.mem_filter.2 ⟨hb, by simp [hslc, hc]⟩
  have hleast : ∀ x ∈ s.flash.sbs.filter (fun x => x.group == b.group && !x.native && x.isClosed), x = b ∨ b.closedAt < x.closedAt := by
    intro x hx
    simp only [List.mem_filter, Bool.and_eq_true, beq_iff_eq, Bool.not_eq_true'] at hx
    obtain ⟨hx, ⟨hg, hs⟩, hcl⟩ := hx
    exact hold x hx hg hs hcl
  show execFolding b.group s = _
  simp only [execFolding, hbg, Bool.not_true, Bool.false_eq_true, if_false]
  split
  · next hnil => simp [hnil] at hmem
  · next hcons =>
    rw [hcons] at hmem hleast
    rw [foldl_least Superblock.closedAt hmem hleast]

theorem wearMove_moves (hworn : s.wornUneven b.group = true) (hnat : b.native = true) (hc : b.isClosed = true) (ho : s.oldData b = true)
    (hleast : ∀ x ∈ s.flash.sbs, x.group = b.group → x.native = true → x.isClosed = true → s.oldData x = true →
      x = b ∨ b.erases < x.erases) :
    completes (.wearMove b.group) s fun t => s.movedFrom t b .wearMove false := by
  refine ⟨_, ?_, relocate_warned hm (sb_of_mem hn hb) .wearMove false⟩
  have hmem : b ∈ s.flash.sbs.filter fun x => x.group == b.group && x.native && x.isClosed && s.oldData x :=
    List.mem_filter.2 ⟨hb, by simp [hnat, hc, ho]⟩
  have hleast' : ∀ x ∈ s.flash.sbs.filter (fun x => x.group == b.group && x.native && x.isClosed && s.oldData x),
      x = b ∨ b.erases < x.erases := by
    intro x hx
    simp only [List.mem_filter, Bool.and_eq_true, beq_iff_eq] at hx
    obtain ⟨hx, ⟨⟨hg, hs⟩, hcl⟩, hox⟩ := hx
    exact hleast x hx hg hs hcl hox
  show execWearMove b.group s = _
  simp only [execWearMove, hbg, hworn, Bool.not_true, Bool.or_self, Bool.false_eq_true, if_false]
  split
  · next hnil => simp [hnil] at hmem
  · next hcons =>
    rw [hcons] at hmem hleast'
    rw [foldl_least Superblock.erases hmem hleast']

theorem refresh_moves (hr : b.refreshDue = true) :
    completes (.refresh b.group b.num) s fun t => s.movedFrom t b (if b.native then .gc else .fold) false := by
  refine ⟨_, ?_, relocate_warned hm (sb_of_mem hn hb) _ false⟩
  show execRefresh b.group b.num s = _
  simp only [execRefresh, sb_of_mem hn hb, hbg, hr, Bool.not_true, Bool.or_self, Bool.false_eq_true, if_false]
end

/-! ## Evacuation (R212) -/

theorem lun_id {s : State} {id : Nat} {l : Lun} (h : s.lun id = some l) : l.id = id :=
  beq_iff_eq.1 (List.find?_some (p := fun l : Lun => l.id == id) h)

/-- The superblocks that an evacuation of LUN `id` relocates. -/
def usedOn (s : State) (id : Nat) : List Superblock :=
  s.flash.sbs.filter fun b => b.luns.contains id && (b.any .opened || b.any .closed)

/-- A LUN whose evacuation is complete. -/
def evacuated (s : State) (id : Nat) : State := s.modLun id fun l => { l with evacuated := true }

theorem evacuated_leaves (s : State) (id : Nat) : (evacuated s id).checkWarns.flash.sbs = s.flash.sbs ∧
    (evacuated s id).checkWarns.flash.moves = s.flash.moves ∧ still (evacuated s id).checkWarns = still s := by
  have hw := checkWarns_unwarned (evacuated s id)
  exact ⟨(sbs_of_unwarned hw).trans rfl, (moves_of_unwarned hw).trans rfl, (still_of_unwarned hw).trans rfl⟩

/-- Every superblock of an unsound LUN relocated; complete when no valid data is left there. -/
theorem evacuation_exec {s : State} {id : Nat} {l : Lun} (hbg : s.bgMay = true) (hl : s.lun id = some l) (hs : s.sound id = false)
    {u : State} (hu : (usedOn s id).foldl (fun t b => t.relocate b (if b.native then .gc else .fold) true) s = u) :
    exec (.evacuation id) s = .next (if (usedOn u id).all fun b => (u.validOf b).isEmpty then evacuated u id else u).checkWarns := by
  have hpresent : (s.flash.luns.any fun l => l.id == id) = true :=
    List.any_eq_true.2 ⟨l, List.mem_of_find?_eq_some hl, beq_iff_eq.2 (lun_id hl)⟩
  subst hu
  show execEvacuation id s = _
  simp only [execEvacuation, hbg, hpresent, hs, Bool.not_true, Bool.or_self, Bool.false_eq_true, if_false]
  simp only [apply_ite State.checkWarns, apply_ite Host.Outcome.next]
  rfl

theorem evacuation_completes {s : State} {id : Nat} {l : Lun} (hbg : s.bgMay = true) (hl : s.lun id = some l) (hs : s.sound id = false)
    (hnone : ∀ x ∈ s.flash.sbs, x.luns.contains id = true → x.any .opened = false ∧ x.any .closed = false) :
    completes (.evacuation id) s fun t => (∃ m, t.lun id = some m ∧ m.evacuated = true) ∧ t.store = s.store ∧ t.tb = s.tb := by
  have hused : usedOn s id = [] := by
    refine List.filter_eq_nil_iff.2 fun x hx => ?_
    cases hc : x.luns.contains id with
    | false => simp
    | true => simp [hnone x hx hc]
  refine ⟨_, evacuation_exec (u := s) hbg hl hs (by rw [hused]; rfl), ?_⟩
  rw [hused, List.all_nil, if_pos rfl]
  have hw := checkWarns_unwarned (evacuated s id)
  exact ⟨⟨_, (lun_of_unwarned hw id).trans (modLun_lun_some (fun _ => rfl) hl), rfl⟩, (store_of_unwarned hw).trans rfl,
    (tb_of_unwarned hw).trans rfl⟩

theorem evacuation_moves {s : State} {b : Superblock} {id : Nat} {l : Lun} (hbg : s.bgMay = true)
    (hn : (s.flash.sbs.map fun x => (x.group, x.num)).Nodup) (hb : b ∈ s.flash.sbs)
    (hm : ∀ m ∈ s.flash.moves, (m.group, m.num) ≠ (b.group, b.num)) (hl : s.lun id = some l) (hs : s.sound id = false)
    (hc : b.luns.contains id = true) (hused : b.any .opened = true ∨ b.any .closed = true)
    (honly : ∀ x ∈ s.flash.sbs, x.luns.contains id = true → x.any .opened = true ∨ x.any .closed = true → x = b) :
    completes (.evacuation id) s fun t => s.movedFrom t b (if b.native then .gc else .fold) true := by
  have hone : usedOn s id = [b] := by
    refine eq_singleton_of_nodup ((List.Nodup.of_map _ hn).filter _) (List.mem_filter.2 ⟨hb, by rw [hc]; simpa using hused⟩) fun x hx => ?_
    simp only [usedOn, List.mem_filter, Bool.and_eq_true, Bool.or_eq_true] at hx
    obtain ⟨hx, hxc, hxu⟩ := hx
    exact honly x hx hxc hxu
  have hend (done : Bool) : s.movedFrom (if done then evacuated (s.relocate b (if b.native then .gc else .fold) true) id
      else s.relocate b (if b.native then .gc else .fold) true).checkWarns b (if b.native then .gc else .fold) true := by
    cases done with
    | false => exact relocate_warned hm (sb_of_mem hn hb) _ true
    | true =>
      obtain ⟨hsbs, hmoves, hstill⟩ := evacuated_leaves (s.relocate b (if b.native then .gc else .fold) true) id
      exact relocate_movedFrom hm (sb_of_mem hn hb) hsbs hmoves hstill
  exact ⟨_, evacuation_exec hbg hl hs (by rw [hone, List.foldl_cons, List.foldl_nil]), hend _⟩

end Sys2Proof.Laws
end

section
namespace Sys2Proof.Laws
open Sys2Proof Sys2Proof.Machine

/-! # Scrubs (R198, R199) -/

/-! ## Queued operations -/

/-- Operation `o` is in progress or waits on LUN `id`. -/
def queued (s : State) (id : Nat) (o : NandOp) : Prop := (∃ l ∈ s.flash.luns, l.id = id ∧ o ∈ l.ops) ∨ (id, o) ∈ s.flash.waiting

theorem anyOp_of_queued {s : State} {id : Nat} {o : NandOp} (h : queued s id o) {p : Nat → NandOp → Bool} (hp : p id o = true) :
    s.anyOp p = true := by
  simp only [State.anyOp, Bool.or_eq_true, List.any_eq_true]
  obtain ⟨l, hl, rfl, ho⟩ | hw := h
  · exact .inl ⟨l, hl, o, ho, hp⟩
  · exact .inr ⟨_, hw, hp⟩

theorem push_id (o : NandOp) (l : Lun) : (l.push o).id = l.id := by
  unfold Lun.push
  split <;> rfl

theorem mem_push_ops {o p : NandOp} {l : Lun} : p ∈ (l.push o).ops ↔ p = o ∨ p ∈ l.ops := by
  unfold Lun.push Lun.ops
  split <;> simp only [List.mem_append, List.mem_singleton] <;> tauto

theorem submit_lunIds (s : State) (k : Nat) (o : NandOp) : (s.submit k o).flash.luns.map (·.id) = s.flash.luns.map (·.id) := by
  unfold State.submit
  split
  · show (s.flash.luns.map _).map _ = _
    rw [List.map_map]
    refine List.map_congr_left fun l _ => ?_
    simp only [Function.comp_apply]
    split
    · exact push_id o l
    · rfl
  · rfl

theorem submit_queued {s : State} {k : Nat} (hk : k ∈ s.flash.luns.map (·.id)) (o : NandOp) : queued (s.submit k o) k o := by
  obtain ⟨l, hl, rfl⟩ := List.mem_map.1 hk
  unfold State.submit
  split
  · exact .inl ⟨l.push o, List.mem_map.2 ⟨l, hl, if_pos (beq_self_eq_true _)⟩, push_id o l, mem_push_ops.2 (.inl rfl)⟩
  · exact .inr (List.mem_append_right _ (List.mem_singleton_self _))

theorem queued_submit {s : State} {id : Nat} {o : NandOp} (h : queued s id o) (k : Nat) (p : NandOp) : queued (s.submit k p) id o := by
  unfold State.submit
  split
  · obtain ⟨l, hl, rfl, ho⟩ | hw := h
    · refine .inl ⟨_, List.mem_map.2 ⟨l, hl, rfl⟩, ?_⟩
      split
      · exact ⟨push_id p l, mem_push_ops.2 (.inr ho)⟩
      · exact ⟨rfl, ho⟩
    · exact .inr hw
  · exact h.imp_right (List.mem_append_left _)

theorem queued_readWord {s : State} {id : Nat} {o : NandOp} (h : queued s id o) (kind : NandKind) (b : Superblock) (w : Codeword)
    (own : Bool) : queued (s.readWord kind b w own) id o := by
  unfold State.readWord
  split
  · exact h
  · exact queued_submit h ..

theorem queued_readWords {id : Nat} {o : NandOp} (kind : NandKind) (b : Superblock) (own : Bool) (l : List Codeword) {s : State}
    (h : queued s id o) : queued (l.foldl (fun t w => t.readWord kind b w own) s) id o := by
  induction l generalizing s with
  | nil => exact h
  | cons w l ih => exact ih (queued_readWord h ..)

/-- The read of codeword `w` of `b` on its own LUN. -/
def readOp (kind : NandKind) (b : Superblock) (w : Codeword) : NandOp :=
  { NandOp.make kind b.group b.num w.stripe with word := some (w.ext, w.idx) }

/-- A codeword on a sound LUN is read there (R211). -/
theorem readWord_sound {s : State} {w : Codeword} (h : s.sound w.lun = true) (kind : NandKind) (b : Superblock) (own : Bool) :
    s.readWord kind b w own = s.submit w.lun (readOp kind b w) := by
  rw [State.readWord, State.readAt, h, Bool.true_or, if_pos rfl]
  rfl

theorem readWords_queued {id : Nat} (kind : NandKind) (b : Superblock) (own : Bool) {l : List Codeword} (hl : ∀ w ∈ l, w.lun = id)
    {s : State} (hs : s.sound id = true) (hid : id ∈ s.flash.luns.map (·.id)) {w : Codeword} (hw : w ∈ l) :
    queued (l.foldl (fun t w => t.readWord kind b w own) s) id (readOp kind b w) := by
  induction l generalizing s with
  | nil => cases hw
  | cons v l ih =>
    obtain ⟨rfl, hrest⟩ := List.forall_mem_cons.1 hl
    have hread := readWord_sound hs kind b own
    have hoff := submit_offLanes s v.lun (readOp kind b v)
    rw [List.foldl_cons, hread]
    obtain rfl | hw := List.mem_cons.1 hw
    · exact queued_readWords kind b own l (submit_queued hid _)
    · refine ih hrest ((sound_congr (store_of_offLanes hoff) (units_of_offLanes hoff) v.lun).trans hs) ?_ hw
      rw [submit_lunIds]
      exact hid

/-! ## The scrub -/

theorem scrubWords_lun {b : Superblock} {bd : Board} {id : Nat} : ∀ w ∈ b.scrubWords bd id, w.lun = id := by
  have hfold (line : Codeword → Nat) (l acc : List Codeword) (hl : ∀ w ∈ l, w.lun = id) (hacc : ∀ w ∈ acc, w.lun = id) :
      ∀ w ∈ l.foldl (fun l w => if l.any fun v => line v == line w then l else l ++ [w]) acc, w.lun = id := by
    induction l generalizing acc with
    | nil => exact hacc
    | cons v l ih =>
      obtain ⟨hv, hrest⟩ := List.forall_mem_cons.1 hl
      refine ih _ hrest ?_
      beta_reduce
      split
      · exact hacc
      · intro w hw
        obtain hw | hw := List.mem_append.1 hw
        · exact hacc w hw
        · exact (List.mem_singleton.1 hw).symm ▸ hv
  refine hfold _ _ _ (fun w hw => ?_) nofun
  simp only [List.mem_filter, Bool.and_eq_true, beq_iff_eq] at hw
  exact hw.2.1

/-- A superblock whose references a scrub of its blocks on LUN `id` has moved by `step`, pins kept (R198, R199). -/
def scrubbed (s : State) (native : Bool) (id : Nat) (step : Int) (x : Superblock) : Superblock :=
  (x.modRefs fun l v =>
      if (s.store.settings.window native l).1 = (s.store.settings.window native l).2 then v
      else clampTo (s.store.settings.window native l) (v + step)).modBlocks id fun k => { k with scrubbedAt := s.tb.measure }

theorem scrubbed_at {s : State} {native : Bool} {id : Nat} {step : Int} {x : Superblock} :
    ∀ k ∈ (scrubbed s native id step x).blocks, k.lun = id → k.scrubbedAt = s.tb.measure := by
  intro k hk hid
  obtain ⟨j, -, rfl⟩ := List.mem_map.1 hk
  by_cases hj : (j.lun == id) = true
  · rw [if_pos hj]
  · rw [if_neg hj] at hid
    exact absurd (beq_iff_eq.2 hid) hj

theorem scrub_completes {s : State} {b : Superblock} {id : Nat} {l : Lun} (hbg : s.bgMay = true)
    (hb : s.sb b.group b.num = some b) (hl : s.lun id = some l) (hs : s.sound id = true)
    (hdue : (b.blocks.any fun k => k.lun == id && (k.state == .opened || k.state == .closed) &&
      decide (k.scrubbedAt + (if s.reach id = .degraded then 2 ^ 23 else 2 ^ 24) ≤ s.tb.measure)) = true) (low mid high : Nat) :
    completes (.scrub b.group ⟨b.num, id⟩ low mid high) s fun t =>
      (∃ c, t.sb b.group b.num = some c ∧ c.words = b.words ∧ ∀ k ∈ c.blocks, k.lun = id → k.scrubbedAt = s.tb.measure) ∧
      (∀ w ∈ b.scrubWords s.board id, t.anyOp (fun n o =>
        n == id && o.kind == .readBg && o.word == some (w.ext, w.idx)) = true) ∧
      t.store = s.store ∧ t.tb = s.tb := by
  have hexec : exec (.scrub b.group ⟨b.num, id⟩ low mid high) s = .next ((b.scrubWords s.board id).foldl
      (fun u w => u.readWord .readBg b w false) ((s.draw 1).2.modSb b.group b.num
        (scrubbed s b.native id (scrubStep low mid high ((s.draw 1).1 == 1))))) := by
    show execScrub b.group ⟨b.num, id⟩ low mid high s = _
    simp only [execScrub, hb, hbg, hs, hdue, Bool.not_true, Bool.or_self, Bool.false_eq_true, if_false]
    rfl
  generalize scrubStep low mid high ((s.draw 1).1 == 1) = step at hexec
  have hoff := readWords_offLanes .readBg b false (b.scrubWords s.board id) ((s.draw 1).2.modSb b.group b.num (scrubbed s b.native id step))
  have hid : id ∈ s.flash.luns.map (·.id) := List.mem_map.2 ⟨l, List.mem_of_find?_eq_some hl, lun_id hl⟩
  refine ⟨_, hexec, ⟨scrubbed s b.native id step b, ?_, rfl, scrubbed_at⟩, fun w hw => ?_, (store_of_offLanes hoff).trans rfl,
    (tb_of_offLanes hoff).trans rfl⟩
  · exact (sb_of_offLanes hoff _ _).trans (modSb_sb (s := (s.draw 1).2) (fun _ => ⟨rfl, rfl⟩) hb)
  · refine anyOp_of_queued (readWords_queued (s := (s.draw 1).2.modSb b.group b.num (scrubbed s b.native id step)) .readBg b false scrubWords_lun
      ?_ hid hw) ?_
    · exact (sound_congr rfl rfl id).trans hs
    · simp [readOp, NandOp.make]

/-- Settles O55: each row finds the superblock that is due, and a relocation or a scrub of it leaves what their lemmas say. -/
theorem relocationsComplete : Obligations.RelocationsComplete := fun _ _ hbg hn hb hm =>
  ⟨fun _ _ hf hall => ⟨garbageCollection_moves hbg hn hb hm hf hall, garbageCollection_ends hbg hf hall⟩,
    folding_moves hbg hn hb hm, wearMove_moves hbg hn hb hm, refresh_moves hbg hn hb hm,
    fun _ _ hl => ⟨fun hs => ⟨evacuation_completes hbg hl hs, evacuation_moves hbg hn hb hm hl hs⟩,
      fun hs hdue => scrub_completes hbg (sb_of_mem hn hb) hl hs hdue⟩⟩

end Sys2Proof.Laws
end

section
namespace Sys2Proof.Laws
open Sys2Proof Sys2Proof.Machine

/-! # The cascade bus (R244, R245, R247) -/

/-- What a fold's step brings about for its own element, and no other step undoes, holds at the end for every element. -/
theorem foldl_brings {α β : Type} {f : β → α → β} {p : β → α → Prop} (own : ∀ t a, p (f t a) a)
    (others : ∀ t a b, p t b → p (f t a) b) (l : List α) (s : β) : ∀ b ∈ l, p (l.foldl f s) b := by
  have kept (b : α) (l : List α) (s : β) (h : p s b) : p (l.foldl f s) b := by
    induction l generalizing s with
    | nil => exact h
    | cons a l ih => exact ih _ (others _ _ _ h)
  induction l generalizing s with
  | nil => nofun
  | cons a l ih =>
    intro b hb
    obtain rfl | hb := List.mem_cons.mp hb
    · exact kept b l _ (own s b)
    · exact ih _ b hb

/-! ## Losses (R247) -/

theorem loseCascade_quiet (s : State) :
    quiet s.loseCascade = quiet (s.modLks fun a => { a with lost := true, goodTurns := 0 }) :=
  foldl_quiet (fun _ _ => lowerData_quiet ..) _ _

theorem loseCascade_fenced (s : State) : ∀ b ∈ s.cascadeBanks, (s.loseCascade.dataView (0x4000 + b)).num ≤ 1 :=
  foldl_brings (p := fun t b => (t.dataView (0x4000 + b)).num ≤ 1) (fun t b => lowerData_le_state t (0x4000 + b) .fenced)
    (fun t a b h => (lowerData_le t (0x4000 + a) .fenced (0x4000 + b)).trans h) s.cascadeBanks _

theorem cascadeLoss_completes {c : Cascade} {s : State} (hr : s.larkspurRuns = true) (hc : s.store.tables.cascade = some c)
    (why : CascadeLoss) : completes (.cascadeLoss why) s fun t =>
      t.lks.lost = true ∧ t.lks.goodTurns = 0 ∧ (∀ b ∈ s.cascadeBanks, (t.dataView (0x4000 + b)).num ≤ 1) ∧
      t.store = s.store ∧ t.tb = s.tb := by
  have hq := loseCascade_quiet s
  have hlks := lks_of_quiet hq
  refine ⟨s.loseCascade, congrArg Host.Outcome.next (if_pos (by simp [hr, hc])), ?_, ?_, loseCascade_fenced s,
    (store_of_quiet hq :), (tb_of_quiet hq :)⟩
  · rw [hlks]; rfl
  · rw [hlks]; rfl

/-! ## Passes (R244, R247) -/

theorem goodTurn_kept {s : State} (h : s.lks.lost = false) :
    s.goodTurn = s.modLks fun a => { a with goodTurns := a.goodTurns + 1 } :=
  if_neg (by simp [h])

/-- Bank `b` may rise if it is FENCED (R241, R247). -/
def qualifyBank (t : State) (b : Nat) : State := t.modUnit (0x4000 + b) fun u => { u with qualified := u.data == .fenced }

/-- Bank `b` is qualified if it is FENCED. -/
def fencedQualified (t : State) (b : Nat) : Prop := ∀ v, t.unit (0x4000 + b) = some v → v.data = .fenced → v.qualified = true

theorem qualifyBank_own (t : State) (b : Nat) : fencedQualified (qualifyBank t b) b := by
  intro v hv hd
  rw [qualifyBank, modUnit_unit _ _ (fun u => { u with qualified := u.data == .fenced }) fun _ => rfl] at hv
  obtain ⟨u, -, rfl⟩ := Option.map_eq_some_iff.mp hv
  exact beq_iff_eq.mpr hd

theorem qualifyBank_others (t : State) (a b : Nat) (h : fencedQualified t b) : fencedQualified (qualifyBank t a) b := by
  by_cases hab : b = a
  · exact hab ▸ qualifyBank_own t b
  · intro v hv
    rw [qualifyBank, modUnit_other _ _ _ (fun u => { u with qualified := u.data == .fenced }) (fun _ => rfl) (by omega)] at hv
    exact h v hv

/-- The 1,024th well-formed turn in a row ends a loss (R247). -/
theorem goodTurn_ends {s : State} (hl : s.lks.lost = true) (hg : 1023 ≤ s.lks.goodTurns) :
    s.goodTurn.lks.lost = false ∧ (∀ b ∈ s.cascadeBanks, fencedQualified s.goodTurn b) ∧ s.goodTurn.store = s.store ∧
      s.goodTurn.tb = s.tb := by
  have hends : s.goodTurn =
      s.cascadeBanks.foldl qualifyBank (s.modLks fun a => { a with goodTurns := a.goodTurns + 1, lost := false }) :=
    if_pos ⟨hl, Nat.succ_le_succ hg⟩
  have hq := hends ▸ foldl_quiet (fun t b => modUnit_quiet t (0x4000 + b) _) s.cascadeBanks
    (s.modLks fun a => { a with goodTurns := a.goodTurns + 1, lost := false })
  refine ⟨?_, hends ▸ foldl_brings qualifyBank_own qualifyBank_others _ _, (store_of_quiet hq :), (tb_of_quiet hq :)⟩
  rw [lks_of_quiet hq]; rfl

/-! ## What a search leaves (R221, R245) -/

theorem mirrorPair_beyondWalk (tb : Table) (reach : List Entry → List (Nat × Bool)) (k n : Nat) (s : State) :
    beyondWalk (State.mirrorPair tb reach k n s) = beyondWalk s := by
  have hlower (l : List Nat) (t : State) :
      beyondWalk (l.foldl (fun t p => t.lowerData (0x4000 + p / 8192) .fenced) t) = beyondWalk t := by
    have hq : quiet _ = quiet t := foldl_quiet (fun t p => lowerData_quiet t (0x4000 + p / 8192) .fenced) l t
    rw [beyondWalk, lks_of_quiet hq, store_of_quiet hq, tb_of_quiet hq]
    rfl
  induction n generalizing s with
  | zero => rfl
  | succ n ih =>
    simp only [State.mirrorPair]
    split
    · have hcompared := foldl_keeps (p := beyondWalk) compareUnit_beyondWalk (unitsOf (s.store.tables.shape tb).width
        (reach (s.heldBy tb (2 * k + 0)) ++ reach (s.heldBy tb (2 * k + 1)))) s
      split
      · exact hcompared
      · split
        · exact (ih _).trans hcompared
        · exact (hlower _ _).trans hcompared
    · rfl

theorem mirrorCheck_beyondWalk (s : State) (tb : Table) (reach : List Entry → List (Nat × Bool)) :
    beyondWalk (s.mirrorCheck tb reach) = beyondWalk s := by
  unfold State.mirrorCheck
  split
  · rfl
  · exact foldl_keeps (p := beyondWalk) (fun t k => mirrorPair_beyondWalk tb reach k _ t) _ s

theorem consult_leaves (s : State) (tb : Table) (word : Nat) :
    (s.consult tb word).lks.txn = s.lks.txn ∧ (s.consult tb word).store = s.store ∧ (s.consult tb word).tb = s.tb := by
  have h := mirrorCheck_beyondWalk s tb (searchReach word)
  exact ⟨congrArg (fun x => x.1.txn) h, congrArg (fun x => x.2.1) h, congrArg (fun x => x.2.2) h⟩

/-! ## Search transactions (Table 9.8) -/

/-- The result bytes that chip `chip` of `chips` drives with its match `own`, when no chip below it has one (`low`). -/
def drivenResult (chip chips : Nat) (low : Bool) (own : Option Entry) : Option Bytes :=
  match own with
  | some e => if low then some (be 1 (0xA4 + chip) ++ be 3 e.tag) else none
  | none => if low && chip + 1 == chips then some (be 1 (0xA0 + chip) ++ zeros 3) else none

theorem drivenResult_highest {chip chips : Nat} (h : chip + 1 = chips) :
    drivenResult chip chips true none = some (be 1 (0xA0 + chip) ++ zeros 3) := if_pos (by simp [h])

theorem drivenResult_none {chip chips : Nat} {low : Bool} {own : Option Entry}
    (h : low = false ∨ own = none ∧ chip + 1 ≠ chips) : drivenResult chip chips low own = none := by
  obtain rfl | ⟨rfl, hlast⟩ := h
  · cases own <;> rfl
  · exact if_neg (by simp [hlast])

/-- The levels that this chip and the others leave on the bus in a search: MATCH_OUT, and the result bytes `d` of this chip or `res`
of another. -/
def onBus (t : State) (low : Bool) (own : Option Entry) (d : Option Bytes) (res : Bytes) : State :=
  t.modLks fun a => { a with matchOut := !low || own.isSome, result := d.getD res, wins := d.isSome }

/-- This chip takes part in a search: MATCH_OUT and the result bytes follow from its own match and MATCH_IN. -/
theorem cascadeSearch_leaves {s : State} {c : Cascade} {word : Bytes} {inp low : Bool} {own : Option Entry} (res : Bytes)
    (hown : own = (s.consult c.table (beNat word)).search c.table (beNat word))
    (hlow : low = decide (inp = false ∨ s.lks.chipId = 0)) {t : State} (ht : t = s.cascadeSearch c word inp res) {d : Option Bytes}
    (hd : d = drivenResult s.lks.chipId c.chips low own) :
    t.lks.matchOut = (!low || own.isSome) ∧ t.lks.txn = s.lks.txn ∧ t.lks.result = d.getD res ∧ t.lks.wins = d.isSome ∧
      (resultForm c.chips (d.getD res) = false → t.lks.lost = true) ∧ t.store = s.store ∧ t.tb = s.tb := by
  obtain ⟨htxn, hstore, htb⟩ := consult_leaves s c.table (beNat word)
  have hr : t = if resultForm c.chips (d.getD res) then onBus (s.consult c.table (beNat word)) low own d res
      else (onBus (s.consult c.table (beNat word)) low own d res).loseCascade := by
    have hhigh : (inp && decide (0 < s.lks.chipId)) = !low := by
      rw [hlow]
      cases inp <;> simp [Nat.pos_iff_ne_zero]
    subst hd
    simp only [ht, State.cascadeSearch, ← hown, hhigh, onBus, drivenResult]
    cases own <;> cases low <;> rfl
  split at hr
  · next hform =>
    subst hr
    exact ⟨rfl, htxn, rfl, rfl, fun h => absurd hform (by simp [h]), hstore, htb⟩
  · have hq := loseCascade_quiet (onBus (s.consult c.table (beNat word)) low own d res)
    have hlks := lks_of_quiet hq
    subst hr
    rw [hlks]
    exact ⟨rfl, htxn, rfl, rfl, fun _ => rfl, (store_of_quiet hq).trans hstore, (tb_of_quiet hq).trans htb⟩

/-! ## Transactions (R244) -/

/-- The state once transaction header `h` is on the bus. -/
def headed (s : State) (h : Nat) : State := s.modLks fun a => { a with txn := (h + 1) % 16, header := h }

theorem num_eq_zero {tb : Table} (h : tb.num = 0) : tb = .unassigned := by
  cases tb with
  | unassigned => rfl
  | _ => cases h

section
variable {c : Cascade} {s : State} {header : Byte} (hc : s.store.tables.cascade = some c)
include hc

theorem cascadeTransaction_other_turn (word : Bytes) (inp : Bool) (res : Bytes) (ht : s.cascadeHeader header / 64 ≠ s.lks.turn) :
    exec (.cascadeTransaction header word inp res) s = .next s := by
  show execCascadeTransaction header word inp res s = _
  simp [execCascadeTransaction, hc, ht]

variable (hr : s.larkspurRuns = true) (ht : s.cascadeHeader header / 64 = s.lks.turn) {u : State}
  (hu : u = headed s (s.cascadeHeader header)) {word : Bytes} {inp : Bool} {res : Bytes}
include hr ht hu

theorem cascadeTransaction_turn : exec (.cascadeTransaction header word inp res) s = .next (
    if s.cascadeHeader header / 16 % 4 = 0 then
      (u.modLks fun a => { a with turn := (a.turn + 1) % c.chips, turns := bump a.turns }).goodTurn
    else if s.cascadeHeader header / 16 % 4 ≠ c.table.num then u
    else u.cascadeSearch c word inp res) := by
  show execCascadeTransaction header word inp res s = _
  have hgo : (!s.larkspurRuns || s.cascadeHeader header / 64 != s.lks.turn) = false := by simp [hr, ht]
  simp only [execCascadeTransaction, hc, hgo, Bool.false_eq_true, if_false, hu, headed]
  split
  · rfl
  · split <;> rfl

theorem cascadeTransaction_pass (hpass : s.cascadeHeader header / 16 % 4 = 0) (hlost : s.lks.lost = false) :
    exec (.cascadeTransaction header word inp res) s = .next (u.modLks fun a =>
      { a with turn := (s.lks.turn + 1) % c.chips, turns := bump a.turns, goodTurns := a.goodTurns + 1 }) := by
  have hexec := cascadeTransaction_turn hc hr ht hu (word := word) (inp := inp) (res := res)
  subst hu
  exact hexec.trans (congrArg Host.Outcome.next ((if_pos hpass).trans (goodTurn_kept hlost)))

theorem cascadeTransaction_pass_ends (hpass : s.cascadeHeader header / 16 % 4 = 0) (hlost : s.lks.lost = true)
    (hgood : 1023 ≤ s.lks.goodTurns) : completes (.cascadeTransaction header word inp res) s fun t =>
      t.lks.lost = false ∧ (∀ b ∈ s.cascadeBanks, fencedQualified t b) ∧ t.store = s.store ∧ t.tb = s.tb := by
  have hexec := cascadeTransaction_turn hc hr ht hu (word := word) (inp := inp) (res := res)
  subst hu
  exact ⟨_, hexec.trans (congrArg Host.Outcome.next (if_pos hpass)), goodTurn_ends hlost hgood⟩

theorem cascadeTransaction_other_table (hpass : s.cascadeHeader header / 16 % 4 ≠ 0)
    (htable : s.cascadeHeader header / 16 % 4 ≠ c.table.num) : exec (.cascadeTransaction header word inp res) s = .next u := by
  rw [cascadeTransaction_turn hc hr ht hu, if_neg hpass, if_pos htable]

theorem cascadeTransaction_search (htable : s.cascadeHeader header / 16 % 4 = c.table.num) (hne : c.table ≠ .unassigned)
    {own : Option Entry} (hown : own = (u.consult c.table (beNat word)).search c.table (beNat word)) {low : Bool}
    (hlow : low = decide (inp = false ∨ s.lks.chipId = 0)) : completes (.cascadeTransaction header word inp res) s fun t =>
      t.lks.matchOut = (!low || own.isSome) ∧ t.lks.txn = (s.cascadeHeader header + 1) % 16 ∧ t.store = s.store ∧ t.tb = s.tb ∧
      (∀ e, own = some e → low = true → t.lks.result = be 1 (0xA4 + s.lks.chipId) ++ be 3 e.tag ∧ t.lks.wins = true) ∧
      (own = none → low = true → s.lks.chipId + 1 = c.chips →
        t.lks.result = be 1 (0xA0 + s.lks.chipId) ++ zeros 3 ∧ t.lks.wins = true) ∧
      (low = false ∨ own = none ∧ s.lks.chipId + 1 ≠ c.chips →
        t.lks.result = res ∧ t.lks.wins = false ∧ (resultForm c.chips res = false → t.lks.lost = true)) := by
  have hpass : s.cascadeHeader header / 16 % 4 ≠ 0 := fun h0 => hne (num_eq_zero (htable.symm.trans h0))
  have hexec := cascadeTransaction_turn hc hr ht hu (word := word) (inp := inp) (res := res)
  rw [if_neg hpass, if_neg (not_not.mpr htable)] at hexec
  subst hu
  obtain ⟨hout, htxn, hresult, hwins, hform, hstore, htb⟩ := cascadeSearch_leaves res hown hlow rfl
    (d := drivenResult s.lks.chipId c.chips low own) rfl
  refine ⟨_, hexec, hout, htxn, hstore, htb, ?_, ?_, fun hnot => ?_⟩
  · rintro e rfl rfl
    exact ⟨hresult, hwins⟩
  · rintro rfl rfl hlast
    rw [drivenResult_highest hlast] at hresult hwins
    exact ⟨hresult, hwins⟩
  · rw [drivenResult_none hnot] at hresult hwins hform
    exact ⟨hresult, hwins, hform⟩

end

end Sys2Proof.Laws
end

section
namespace Sys2Proof.Laws
open Sys2Proof Sys2Proof.Machine

/-! # The copy of a generation (R246) -/

theorem putEntry_perm (e : Entry) (es : List Entry) : (putEntry e es).Perm (e :: es) := by
  induction es with
  | nil => rfl
  | cons x es ih =>
    unfold putEntry
    split
    · rfl
    · exact (ih.cons x).trans (.swap e x es)

/-- What a copy keeps of an entry, wherever it is placed: its tag and its generation. -/
def tagInGen (tb : Table) (w : Nat) (e : Entry) : Nat × Bool := (e.tag, e.gen tb w)

theorem shiftSlots_tagInGen (tb : Table) (w : Nat) (l : Slots) (lo hi : Nat) (up : Bool) (es : List Entry) :
    (shiftSlots l lo hi up es).map (tagInGen tb w) = es.map (tagInGen tb w) := by
  rw [shiftSlots, List.map_map]
  refine List.map_congr_left fun e _ => ?_
  simp only [Function.comp_apply]
  split <;> rfl

/-- An entry inserted into a table whose entries may have been shifted is one entry more. -/
theorem putEntry_tagInGen {tb : Table} {w : Nat} {es old : List Entry} (h : es.map (tagInGen tb w) = old.map (tagInGen tb w))
    (e : Entry) (addr : Nat) :
    ((putEntry { e with addr := addr } es).map (tagInGen tb w)).Perm ((e :: old).map (tagInGen tb w)) := by
  refine ((putEntry_perm _ _).map _).trans (.of_eq ?_)
  rw [List.map_cons, List.map_cons, h]
  rfl

theorem insertAt_tagInGen (tb : Table) (w : Nat) (l : Slots) (k : Nat) (e : Entry) (es : List Entry) :
    ((insertAt l k e es).map (tagInGen tb w)).Perm ((e :: es).map (tagInGen tb w)) := by
  have shifted (lo hi : Nat) (up : Bool) := shiftSlots_tagInGen tb w l lo hi up es
  unfold insertAt
  extract_lets used put
  split
  · exact putEntry_tagInGen rfl e _
  · split
    · exact putEntry_tagInGen rfl e _
    · split
      · split
        · exact putEntry_tagInGen (shifted ..) e _
        · exact putEntry_tagInGen (shifted ..) e _
      · exact putEntry_tagInGen (shifted ..) e _
      · exact putEntry_tagInGen (shifted ..) e _
      · exact putEntry_tagInGen rfl e _

theorem insertFree_tagInGen (tb : Table) (w : Nat) (l : Slots) (choice : Nat) (e : Entry) (es : List Entry) :
    ((insertFree l choice e es).map (tagInGen tb w)).Perm ((e :: es).map (tagInGen tb w)) :=
  putEntry_tagInGen rfl e _

theorem testBit_withBit (v i : Nat) (b : Bool) : (withBit v i b).testBit i = b := by
  have hclear : (if v.testBit i then v - 2 ^ i else v).testBit i = false := by
    split
    · next h =>
      have := Nat.testBit_two_pow_add_eq (v - 2 ^ i) i
      rw [Nat.add_sub_cancel' (Nat.ge_two_pow_of_testBit h), h] at this
      simpa using this.symm
    · next h => simpa using h
  cases b with
  | false => exact hclear
  | true => rw [withBit, if_pos rfl, Nat.add_comm, Nat.testBit_two_pow_add_eq, hclear]; rfl

theorem inGen_tagInGen (e : Entry) (tb : Table) (w : Nat) (g : Bool) : tagInGen tb w (e.inGen tb w g) = (e.tag, g) :=
  congrArg (e.tag, ·) (testBit_withBit e.value (genPos tb w) g)

/-- `copyInto` adds each entry of `src` in generation `g` and keeps the others (R246). -/
theorem copyInto_tagInGen (t : Tables) {tb : Table} (htb : tb = .peer ∨ tb = .acl) (choice : Nat) (g : Bool)
    (src keep : List Entry) :
    (((t.copyInto tb choice g src keep).entries tb).map (tagInGen tb (t.shape tb).width)).Perm
      (src.map (fun e => (e.tag, g)) ++ keep.map (tagInGen tb (t.shape tb).width)) := by
  simp only [Tables.copyInto, setEntries_entries htb]
  induction src generalizing keep with
  | nil => rfl
  | cons e src ih =>
    refine (ih _).trans ?_
    have hone (es : List Entry) (h : (es.map (tagInGen tb (t.shape tb).width)).Perm
        ((e.inGen tb (t.shape tb).width g :: keep).map (tagInGen tb (t.shape tb).width))) :
        (src.map (fun e => (e.tag, g)) ++ es.map (tagInGen tb (t.shape tb).width)).Perm
          ((e :: src).map (fun e => (e.tag, g)) ++ keep.map (tagInGen tb (t.shape tb).width)) := by
      rw [List.map_cons, inGen_tagInGen] at h
      exact (h.append_left _).trans List.perm_middle
    split
    · exact hone _ (insertAt_tagInGen ..)
    · exact hone _ (insertFree_tagInGen ..)

theorem mem_generation {t : Tables} {tb : Table} {g : Bool} {tag : Nat} :
    (∃ x ∈ t.generation tb g, x.tag = tag) ↔ (tag, g) ∈ (t.entries tb).map (tagInGen tb (t.shape tb).width) := by
  simp only [Tables.generation, tagInGen, List.mem_filter, List.mem_map, beq_iff_eq, Prod.mk.injEq]
  exact exists_congr fun x => by tauto

/-- After the copy both generations hold the tags of the one that was inactive. -/
theorem copied_generation {t u : Tables} {tb : Table} (htb : tb = .peer ∨ tb = .acl) (choice : Nat) (g : Bool)
    (hu : u.entries tb = (t.copyInto tb choice g (t.generation tb (!g)) (t.generation tb (!g))).entries tb)
    (hp : u.pairs = t.pairs) (g' : Bool) (tag : Nat) :
    (∃ x ∈ u.generation tb g', x.tag = tag) ↔ ∃ x ∈ t.generation tb (!g), x.tag = tag := by
  have hshape : u.shape tb = t.shape tb := by simp only [Tables.shape, hp]
  rw [mem_generation, hshape, hu, (copyInto_tagInGen t htb choice g _ _).mem_iff, List.mem_append, List.mem_map, List.mem_map]
  constructor
  · rintro (⟨x, hx, h⟩ | ⟨x, hx, h⟩)
    · exact ⟨x, hx, congrArg Prod.fst h⟩
    · exact ⟨x, hx, congrArg Prod.fst h⟩
  · rintro ⟨x, hx, rfl⟩
    by_cases hg : g' = g
    · exact .inl ⟨x, hx, by rw [hg]⟩
    · have hgen : x.gen tb (t.shape tb).width = !g := beq_iff_eq.mp (List.mem_filter.mp hx).2
      exact .inr ⟨x, hx, by rw [tagInGen, hgen, Bool.eq_not_of_ne hg]⟩

theorem setEntries_patterns (t : Tables) (tb : Table) (l : List Entry) : (t.setEntries tb l).patterns = t.patterns := by
  cases tb <;> rfl

/-- What the first switch's copy makes of the tables: the entries of the cascaded table, the active generation and the switches
to come. -/
theorem copyGeneration_leaves {t : Tables} {c : Cascade} {e : Nat} {rest : List Nat} (hc : t.cascade = some c)
    (hsw : c.switches = e :: rest) :
    t.copyGeneration.cascade = some { c with gen := !c.gen, switches := rest } ∧
    (∀ tb, t.copyGeneration.entries tb = (t.copyInto c.table (Config.placement e) c.gen (t.generation c.table (!c.gen))
      (t.generation c.table (!c.gen))).entries tb) ∧
    t.copyGeneration.patterns = t.patterns ∧ t.copyGeneration.pairs = t.pairs := by
  simp only [Tables.copyGeneration, hc, hsw, true_and]
  exact ⟨fun tb => by cases tb <;> rfl, setEntries_patterns .., setEntries_pairs ..⟩

theorem cascadeGenerationCopy_completes {c : Cascade} {s : State} (hr : s.larkspurRuns = true)
    (hc : s.store.tables.cascade = some c) {e : Nat} {rest : List Nat} (htb : c.table = .peer ∨ c.table = .acl)
    (hsw : c.switches = e :: rest) (he : e ≤ s.tb.measure) (hl : ∀ l ∈ s.seq.sealed, e ≤ l.measure) :
    completes .cascadeGenerationCopy s fun t =>
      t.store.tables.cascade = some { c with gen := !c.gen, switches := rest } ∧
      (∀ g tag, (∃ x ∈ t.store.tables.generation c.table g, x.tag = tag) ↔
        ∃ x ∈ s.store.tables.generation c.table (!c.gen), x.tag = tag) ∧
      (∀ tb, tb ≠ c.table → t.store.tables.entries tb = s.store.tables.entries tb) ∧
      t.store.tables.patterns = s.store.tables.patterns ∧ t.store.tables.pairs = s.store.tables.pairs ∧
      t.store = { s.store with tables := t.store.tables } ∧ t.tb = s.tb := by
  have hexec : execCascadeGenerationCopy s = .next (s.setTables s.store.tables.copyGeneration) := by
    have hgo : (!s.larkspurRuns || decide (s.tb.measure < e) || s.seq.sealed.any fun l => decide (l.measure < e)) = false := by
      simpa [hr, Nat.not_lt.mpr he] using hl
    simp only [execCascadeGenerationCopy, hc, Option.bind_some, hsw, List.head?_cons, hgo, Bool.false_eq_true, if_false]
  obtain ⟨hcascade, hentries, hpatterns, hpairs⟩ := copyGeneration_leaves hc hsw
  exact ⟨_, hexec, hcascade, copied_generation htb (Config.placement e) c.gen (hentries c.table) hpairs,
    fun tb h => (hentries tb).trans (setEntries_entries_other h _), hpatterns, hpairs, rfl, rfl⟩

/-- Settles O58: a transaction is a pass, another table's or a search, a loss and the copy of a generation are what their lemmas say. -/
theorem cascadeCompletes : Obligations.CascadeCompletes := by
  unfold Obligations.CascadeCompletes
  intro c s hr hc
  refine ⟨?_, cascadeLoss_completes hr hc, fun e rest htb hsw he hl => cascadeGenerationCopy_completes hr hc htb hsw he hl⟩
  rintro header word inp res h u rfl hu
  exact ⟨cascadeTransaction_other_turn hc word inp res, fun ht => ⟨cascadeTransaction_pass hc hr ht hu,
    cascadeTransaction_pass_ends hc hr ht hu, cascadeTransaction_other_table hc hr ht hu,
    fun htable hne own hown low hlow => cascadeTransaction_search hc hr ht hu htable hne hown hlow⟩⟩

end Sys2Proof.Laws
end

section
namespace Sys2Proof.Laws
open Sys2Proof Sys2Proof.Machine

/-! # Where a pattern is placed (R218, R233, R234) -/

theorem parsePattern_ok {slot : Nat} {b : Bytes} {p : Pattern} (h : parsePattern slot b = .ok p) :
    p.slot = slot ∧ ∀ x ∈ p.recs, x.addr = 0 ∧ x.tag = 0 := by
  unfold parsePattern at h
  extract_lets stride states n recs at h
  split at h
  · cases h
  · split at h
    · cases h
    · split at h
      · cases h
      · cases h
        refine ⟨rfl, fun x hx => ?_⟩
        obtain ⟨i, -, rfl⟩ := List.mem_map.mp hx
        exact ⟨rfl, rfl⟩

/-! ## Tags -/

/-- Places of the action memory that `freeTags` passes over among the `fuel` ones from `k` on. -/
def skipped (used : List Nat) (fuel k : Nat) : Nat := (List.range fuel).countP fun i => used.contains ((k + i) % 2 ^ 15)

theorem skipped_succ (used : List Nat) (fuel k : Nat) :
    skipped used (fuel + 1) k = skipped used fuel (k + 1) + if used.contains (k % 2 ^ 15) then 1 else 0 := by
  simp only [skipped, List.range_succ_eq_map, List.countP_cons, List.countP_map, Nat.add_zero]
  congr 1
  refine List.countP_congr fun i _ => ?_
  simp only [Function.comp_apply, Nat.succ_eq_add_one, Nat.add_assoc, Nat.add_comm 1 i]

theorem length_freeTags {used : List Nat} {fuel n k : Nat} (h : n + skipped used fuel k ≤ fuel) :
    (freeTags used fuel n k).length = n := by
  induction fuel generalizing n k with
  | zero => simp only [freeTags, List.length_nil]; omega
  | succ fuel ih =>
    rw [skipped_succ] at h
    unfold freeTags
    split
    · next h0 => exact h0.symm
    · split at h
      · next hu => rw [if_pos hu]; exact ih (by omega)
      · next hu =>
        rw [if_neg hu, List.length_cons, ih (by omega)]
        omega

/-- Within one round of the action memory, each used place is passed over once at most. -/
theorem skipped_le {used : List Nat} {fuel : Nat} (h : fuel ≤ 2 ^ 15) (k : Nat) : skipped used fuel k ≤ used.length := by
  rw [skipped, List.countP_eq_length_filter, ← List.length_map (f := fun i => (k + i) % 2 ^ 15)]
  refine (List.subperm_of_subset ?_ ?_).length_le
  · refine (List.nodup_range.filter _).map_on fun i hi j hj hij => ?_
    have hi := List.mem_range.mp (List.mem_filter.mp hi).1
    have hj := List.mem_range.mp (List.mem_filter.mp hj).1
    omega
  · intro tag htag
    obtain ⟨i, hi, rfl⟩ := List.mem_map.mp htag
    exact List.contains_iff_mem.mp (List.mem_filter.mp hi).2

theorem length_automaton (t : Tables) : (t.entries .automaton).length = t.autoUsed := by
  simp [Tables.entries, Tables.autoUsed, List.length_flatMap]

/-! ## The table with the new pattern -/

/-- The tags that `placePattern` gives the records of `p`. -/
def patternTags (t : Tables) (index : Nat) (p : Pattern) : List Nat :=
  freeTags ((t.entries .automaton).map (·.tag)) ((t.entries .automaton).length + p.recs.length) p.recs.length index

theorem length_patternTags {t : Tables} {p : Pattern} (h : t.autoUsed + p.recs.length ≤ 2 ^ 15) (index : Nat) :
    (patternTags t index p).length = p.recs.length := by
  rw [← length_automaton] at h
  have hs := skipped_le (used := (t.entries .automaton).map (·.tag)) h index
  rw [List.length_map] at hs
  exact length_freeTags (by omega)

theorem unplaced_eq {x : Transition} (h : x.addr = 0 ∧ x.tag = 0) : { x with addr := 0, tag := 0 } = x := by
  obtain ⟨haddr, htag⟩ := h
  cases x
  cases haddr
  cases htag
  rfl

theorem at_recs {p : Pattern} {tags : List Nat} (hl : tags.length = p.recs.length) (h : ∀ x ∈ p.recs, x.addr = 0 ∧ x.tag = 0)
    (l : Slots) (i : Nat) : (p.at l i tags).recs.map (fun x => { x with addr := 0, tag := 0 }) = p.recs := by
  refine List.ext_getElem (by simp [Pattern.at, hl]) fun j hj hj' => ?_
  simp only [Pattern.at, List.getElem_map, List.getElem_mapIdx, List.getElem_zip]
  exact unplaced_eq (h _ (List.getElem_mem hj'))

/-- Placing a pattern appends its records, in some run of slots, to the patterns, whose slots stay; at most it moves their entries. -/
theorem placePattern_appends (t : Tables) (choice index : Nat) (p : Pattern) :
    ∃ ps i, (t.placePattern choice index p).1 =
        { t with patterns := ps ++ [p.at (t.slots .automaton) i (patternTags t index p)] } ∧
      ps.map (·.slot) = t.patterns.map (·.slot) := by
  simp only [Tables.placePattern, patternTags]
  split
  · refine ⟨_, _, rfl, ?_⟩
    simp only [Tables.gathered, Tables.mapAddr, List.map_map]
    rfl
  · exact ⟨_, _, rfl, rfl⟩

theorem pattern_appended {t : Tables} {ps : List Pattern} {p : Pattern} (hps : ps.map (·.slot) = t.patterns.map (·.slot))
    (hfree : t.pattern p.slot = none) (q : Pattern) (hq : q.slot = p.slot) :
    ({ t with patterns := ps ++ [q] } : Tables).pattern p.slot = some q := by
  have hnone : ps.find? (fun x => x.slot == p.slot) = none := by
    refine List.find?_eq_none.mpr fun x hx he => ?_
    obtain ⟨y, hy, hyx⟩ := List.mem_map.mp (hps ▸ List.mem_map_of_mem hx : x.slot ∈ t.patterns.map (·.slot))
    exact List.find?_eq_none.mp hfree y hy (hyx ▸ he)
  simp [Tables.pattern, List.find?_append, hnone, hq]

theorem placePattern_holds {t t1 : Tables} {moves choice index slot : Nat} {b : Bytes} {p : Pattern}
    (hp : parsePattern slot b = .ok p) (hfree : t.pattern slot = none) (ht1 : (t1, moves) = t.placePattern choice index p) :
    t1.acl = t.acl ∧ t1.peer = t.peer ∧ t1.route = t.route ∧ (t.autoUsed + p.recs.length ≤ 2 ^ 15 →
      ∃ q, t1.pattern slot = some q ∧ q.stride = p.stride ∧ q.states = p.states ∧ q.start = p.start ∧
        q.recs.map (fun x => { x with addr := 0, tag := 0 }) = p.recs) := by
  obtain ⟨rfl, hrecs⟩ := parsePattern_ok hp
  obtain ⟨ps, i, hplaced, hps⟩ := placePattern_appends t choice index p
  obtain rfl : t1 = _ := (congrArg Prod.fst ht1).trans hplaced
  exact ⟨rfl, rfl, rfl, fun hroom => ⟨_, pattern_appended hps hfree _ rfl, rfl, rfl, rfl,
    at_recs (length_patternTags hroom index) hrecs _ _⟩⟩

end Sys2Proof.Laws
end

section
namespace Sys2Proof.Laws
open Sys2Proof Sys2Proof.Machine

/-! # PATTERN_LOAD and PATTERN_UNLOAD (R87, R234) -/

theorem patternRows_enter :
    entersMeasure .searchPatternLoad 0x0504 .mgmt (fun _ a =>
      1 ≤ u8 a 0 ∧ u8 a 0 ≤ 64 ∧ u8 a 1 ≠ 0 ∧ 1 ≤ u8 a 2 ∧ u8 a 2 ≤ 240 ∧ a.length = 4 + u8 a 2) ∧
    entersMeasure .searchPatternUnload 0x0505 .mgmt (fun _ a => a.length = 4 ∧ 1 ≤ u8 a 0 ∧ u8 a 0 ≤ 64) := by
  refine ⟨entersMeasure_of cmdSearchPatternLoad (fun _ _ => rfl) nofun rfl ?_,
    entersMeasure_of cmdSearchPatternUnload (fun _ _ => rfl) nofun rfl ?_⟩
  · rintro b a ⟨h1, h64, hns, hk1, hk240, hl⟩
    have hlen : 5 ≤ a.length ∧ a.length ≤ 244 := by omega
    exact ⟨by simpa [cmdSearchPatternLoad, CmdDef.base] using hlen, by omega,
      (if_neg (by omega)).trans (if_neg hns)⟩
  · rintro b a ⟨hl, h1, h64⟩
    exact ⟨by simp [cmdSearchPatternUnload, CmdDef.base, hl], by omega, if_neg (by omega)⟩

/-- What PATTERN_LOAD asks: a readable key `e` of namespace `n` whose value is the image of `p`, a free slot, room, and usable pairs
for the entries that tables `t1` add (R234, R242). -/
structure Loadable (c : SealedCmd) (s : State) (n : Namespace) (e : KeyEnt) (p : Pattern) (t1 : Tables) (moves : Nat) : Prop where
  space : s.store.ns (u8 c.cmd.args 1) = some n
  mayRead : (s.checkKey none c.adm .read n.id (c.cmd.args.drop 4)).2 = .permitted
  key : s.store.holds n.id (c.cmd.args.drop 4) = true ∧ n.find (c.cmd.args.drop 4) = some e
  readable : s.noRank = false ∧ s.valueLost e = false
  image : parsePattern (u8 c.cmd.args 0) e.value = .ok p
  slotFree : s.store.tables.pattern (u8 c.cmd.args 0) = none
  room : p.recs.length ≤ s.store.tables.autoFree
  placed : (t1, moves) = s.store.tables.placePattern (Config.placement s.store.draws) (Config.placement (s.store.draws + 1)) p
  usable : ∀ x ∈ t1.entries .automaton, x ∉ s.store.tables.entries .automaton →
    (s.checkKey none c.adm .read n.id (c.cmd.args.drop 4)).1.pairLost (x.addr / 8192) = false

/-- State `v` with the two choices of a placement drawn, tables `t1` and `moves` one-place moves more (R234). -/
def patternPlaced (v : State) (t1 : Tables) (moves : Nat) : State :=
  ((v.drawnBy 2).setTables t1).modLks fun k => { k with moves := bump k.moves moves }

theorem patternPlaced_leaves (v : State) (t1 : Tables) (moves : Nat) :
    (patternPlaced v t1 moves).tb = v.tb ∧ (patternPlaced v t1 moves).seq = v.seq := ⟨rfl, rfl⟩

section
variable {c : SealedCmd} {s : State}

section
variable {n : Namespace} {e : KeyEnt} {p : Pattern} {t1 : Tables} {moves : Nat} (hx : Loadable c s n e p t1 moves)
include hx

theorem patternLoad_eq : patternLoad c s =
    okay (patternPlaced (s.checkKey none c.adm .read n.id (c.cmd.args.drop 4)).1 t1 moves)
      (be 4 p.recs.length ++ be 4 t1.autoFree) := by
  obtain ⟨hn, hv, ⟨hh, he⟩, ⟨hr, hlost⟩, hp, hslot, hfit, ht1, husable⟩ := hx
  have hroom : ¬ ((s.store.tables.pattern (u8 c.cmd.args 0)).isSome = true ∨ s.store.tables.autoFree < p.recs.length) := by
    simp [hslot, hfit]
  simp only [patternLoad, hn, hv, Verdict.refusal, hh, he, hr, hlost, hp, if_neg hroom, ← ht1, written_any husable,
    Bool.not_true, Bool.or_self, Bool.false_eq_true, if_false, patternPlaced]

/-- PATTERN_LOAD at its place: the slot is held until the last slice where there are several (R46, R234). -/
theorem patternLoad_atPlace (h : s.reaches c 0x0504) {slices : Nat} (hs : slices = 1 + Config.placement (s.store.draws + 2))
    {u : State} (hu : u = patternPlaced (s.checkKey none c.adm .read n.id (c.cmd.args.drop 4)).1 t1 moves) :
    s.atPlace c = (if 1 < slices then u.hold [onSlot (u8 c.cmd.args 0)] (c.adm + slices) else u).drawn.replying c .ok
      (be 4 p.recs.length ++ be 4 t1.autoFree) (c.adm + slices + 2) (c.adm + slices - 1) := by
  have hstill := checkKey_still s none c.adm .read n.id (c.cmd.args.drop 4)
  obtain ⟨htb, hseq⟩ := patternPlaced_leaves (s.checkKey none c.adm .read n.id (c.cmd.args.drop 4)).1 t1 moves
  rw [← hu] at htb hseq
  have hload := patternLoad_eq hx
  rw [← hu] at hload
  obtain ⟨-, hcalm, -⟩ := reaches_calm h
  have hbehind : u.seq.behind = 0 := by rw [hseq, seq_of_still hstill, hcalm]
  rw [atPlace_sliced (d := cmdSearchPatternLoad) h rfl rfl hload (htb.trans (tb_of_still hstill)) hs.symm (by omega)]
  split
  · exact modSeq_behind hbehind
  · rw [hold_nil]
    exact modSeq_behind hbehind

end

theorem patternUnload_atPlace {p : Pattern} (h : s.reaches c 0x0505) (hp : s.store.tables.pattern (u8 c.cmd.args 0) = some p)
    (hw : ∀ w ∈ s.seq.watches, w.pattern ≠ u8 c.cmd.args 0) {t1 : Tables} (ht1 : t1 = { s.store.tables with
      patterns := s.store.tables.patterns.filter fun q => q.slot != u8 c.cmd.args 0 }) :
    s.atPlace c = (s.setTables t1).sealedOk c (be 4 p.recs.length ++ be 4 t1.autoFree) := by
  refine atPlace_sealedNow (d := cmdSearchPatternUnload) h rfl rfl ?_ rfl (reaches_calm h)
  show patternUnload c s = _
  have hfree : (s.seq.watches.any fun w => w.pattern == u8 c.cmd.args 0) = false := by simpa using hw
  simp only [patternUnload, hp, hfree, Bool.false_eq_true, if_false, ← ht1]
  rfl

end

/-- Settles O11: both rows enter the open measure; at its place a load appends the records of its image, and an unload drops its slot. -/
theorem searchPatternsComplete : Obligations.SearchPatternsComplete := by
  unfold Obligations.SearchPatternsComplete
  obtain ⟨e1, e2⟩ := patternRows_enter
  refine ⟨e1, e2, ?_⟩
  rintro c s a rfl
  refine ⟨?_, fun p t1 h hp hw ht1 => patternUnload_atPlace h hp hw ht1⟩
  rintro n e p t1 moves slices u h hn hv hh he hr hlost hp hslot hfit ht1 husable hs hu
  have hx : Loadable c s n e p t1 moves := ⟨hn, hv, ⟨hh, he⟩, ⟨hr, hlost⟩, hp, hslot, hfit, ht1, husable⟩
  exact ⟨patternLoad_atPlace hx h hs hu, placePattern_holds hp hslot ht1⟩

end Sys2Proof.Laws
end

section
namespace Sys2Proof.Laws
open Sys2Proof Sys2Proof.Machine

/-! # What a member's sending and judging leave (R261, R262, R268) -/

/-- A state without what sending to the other members and lowering their units change. -/
def unsent (s : State) : State := { quiet s with ports := Vector.replicate 2 .reset }

theorem unsent_of_quiet {s t : State} (h : quiet t = quiet s) : unsent t = unsent s := by rw [unsent, unsent, h]

@[simp] theorem lowerMember_quiet (s : State) (k : Nat) (v : UnitState) : quiet (s.lowerMember k v) = quiet s := by
  simp [State.lowerMember]

@[simp] theorem notePull_quiet (s : State) (k : Nat) : quiet (s.notePull k) = quiet s := by simp [State.notePull]

theorem sendPull_unsent (s : State) (c : Chorus) (k mode count measure : Nat) (rest : Bytes) :
    unsent (s.sendPull c k mode count measure rest) = unsent s := by
  unfold State.sendPull
  split
  · exact (unsent_of_quiet (notePull_quiet ..)).trans rfl
  · rfl

theorem listIfDiffers_unsent (s : State) (c : Chorus) (t : Nat) (r : Report) : unsent (s.listIfDiffers c t r) = unsent s := by
  unfold State.listIfDiffers
  split
  · split
    · rfl
    · exact sendPull_unsent ..
  · rfl

theorem fetchMissing_unsent (s : State) (c : Chorus) (k t n : Nat) (l : List Listed) :
    unsent (s.fetchMissing c k t n l) = unsent s := by
  induction n generalizing s l with
  | zero => rfl
  | succ n ih =>
    rw [State.fetchMissing]
    split
    · rfl
    · exact (ih ..).trans (sendPull_unsent ..)

section
variable {s t : State} (h : unsent t = unsent s)
include h
theorem store_of_unsent : t.store = s.store := (congrArg State.store h :)
theorem tb_of_unsent : t.tb = s.tb := (congrArg State.tb h :)
theorem seq_of_unsent : t.seq = s.seq := (congrArg State.seq h :)
theorem sessions_of_unsent : t.sessions = s.sessions := (congrArg State.sessions h :)
theorem mbx_of_unsent : t.mbx = s.mbx := (congrArg State.mbx h :)
theorem chorusRun_of_unsent : t.chorus = s.chorus := (congrArg State.chorus h :)
end

/-! ## The units of members -/

/-- What a DEGRADED mark does to a unit leaves its data-path view. -/
theorem marked_dataView (s : State) (id j : Nat) (m : Nat) :
    (s.modUnit id fun u => { u with degradedAt := some m }).dataView j = s.dataView j :=
  modUnit_dataView_same s id j _ (fun _ => rfl) (fun _ => rfl)

theorem notePull_dataView_other (s : State) (k : Nat) {j : Nat} (h : j ≠ memberId k) : (s.notePull k).dataView j = s.dataView j := by
  unfold State.notePull
  extract_lets s1
  have h1 : s1.dataView j = s.dataView j := modUnit_dataView_same s _ j _ (fun _ => rfl) (fun _ => rfl)
  split
  · rw [State.degrade, lowerData_dataView_other _ _ h, marked_dataView, h1]
  · exact h1

theorem notePull_le (s : State) (k j : Nat) : ((s.notePull k).dataView j).num ≤ (s.dataView j).num := by
  unfold State.notePull
  extract_lets s1
  have h1 : s1.dataView j = s.dataView j := modUnit_dataView_same s _ j _ (fun _ => rfl) (fun _ => rfl)
  split
  · refine (lowerData_le ..).trans ?_
    rw [marked_dataView, h1]
  · rw [h1]

theorem sendPull_le (s : State) (c : Chorus) (k mode count measure : Nat) (rest : Bytes) (j : Nat) :
    ((s.sendPull c k mode count measure rest).dataView j).num ≤ (s.dataView j).num := by
  unfold State.sendPull
  split
  · exact notePull_le ..
  · rfl

theorem listIfDiffers_le (s : State) (c : Chorus) (t : Nat) (r : Report) (j : Nat) :
    ((s.listIfDiffers c t r).dataView j).num ≤ (s.dataView j).num := by
  unfold State.listIfDiffers
  split
  · split
    · rfl
    · exact sendPull_le ..
  · rfl

/-- A pull of a peer leaves this member's own standing. -/
theorem notePull_ownFenced (s : State) (c : Chorus) {k : Nat} (h : k ≠ c.self) : (s.notePull k).ownFenced c = s.ownFenced c := by
  have hid : c.ownId ≠ memberId k := by simp only [Chorus.ownId, memberId]; omega
  rw [State.ownFenced, State.ownFenced, State.effective, State.effective, notePull_dataView_other s k hid,
    mgmtView_of_store (store_of_quiet (notePull_quiet s k))]

/-! # Receiving a DIGEST (R261, R266, R268) -/

/-- Confirming a chain changes the list of unconfirmed sets alone. -/
theorem confirm_eq (s : State) (c : Chorus) (t : Nat) : ∃ l, s.confirm c t = s.modChorus fun q => { q with unconfirmed := l } := by
  unfold State.confirm
  split
  · exact ⟨s.chorus.unconfirmed, rfl⟩
  · exact ⟨_, rfl⟩

theorem addReport_isSome (q : ChorusRun) (r : Report) : ((q.addReport r).report r.member r.measure r.round).isSome = true := by
  unfold ChorusRun.addReport
  split
  · next h => exact h
  · simp [ChorusRun.report]

theorem mem_addReport {q : ChorusRun} {r : Report} (h : q.report r.member r.measure r.round = none) : r ∈ (q.addReport r).reports := by
  simp [ChorusRun.addReport, h]

theorem newer_report_none {q : ChorusRun} (r : Report) {k m n : Nat} (h : q.report k m n = none) : (q.newer r).report k m n = none := by
  unfold ChorusRun.newer
  split
  · exact h
  · rw [ChorusRun.report, List.find?_eq_none] at h ⊢
    exact fun x hx => h x (List.mem_of_mem_filter hx)

/-- The report of a peer is kept, and the peer was heard in the open measure. -/
def heard (s : State) (k : Nat) (r : Report) : State :=
  s.modChorus fun q => { (q.newer r).addReport r with lastHeard := q.lastHeard.setIfInBounds k s.tb.measure }

/-- A DIGEST is kept, the list of unconfirmed sets may change, and what else it does is to send and to lower the peer's unit. -/
theorem digestFrom_eq (s : State) (c : Chorus) (k : Nat) (r : Report) : ∃ u l,
    s.digestFrom c k r = u.modChorus (fun q => { q with unconfirmed := l }) ∧ unsent u = unsent (heard s k r) ∧
      ((r.fenced || r.length != s.store.length) = true → (u.dataView (memberId k)).num ≤ 1) := by
  unfold State.digestFrom
  extract_lets new s1 s2 s3
  have h2 : unsent s2 = unsent s1 := by
    simp only [s2]
    split
    · exact unsent_of_quiet (lowerMember_quiet ..)
    · rfl
  have h3 : unsent s3 = unsent s1 := by
    refine Eq.trans ?_ h2
    simp only [s3]
    split
    · exact listIfDiffers_unsent ..
    · rfl
  have hle2 : (r.fenced || r.length != s.store.length) = true → (s2.dataView (memberId k)).num ≤ 1 := by
    intro h
    simp only [s2, h, Bool.true_or, if_true]
    exact lowerData_le_state ..
  have hle3 : (s3.dataView (memberId k)).num ≤ (s2.dataView (memberId k)).num := by
    simp only [s3]
    split
    · exact listIfDiffers_le ..
    · rfl
  split
  · obtain ⟨l, hl⟩ := confirm_eq s3 c (r.measure - 2)
    exact ⟨s3, l, hl, h3, fun h => hle3.trans (hle2 h)⟩
  · exact ⟨s3, s3.chorus.unconfirmed, rfl, h3, fun h => hle3.trans (hle2 h)⟩

theorem digest_exec {r : Request} {s : State} {c : Chorus} {k : Fin 8} (hg : s.serves r.src) (hc : s.store.chorus = some c)
    (hm : c.memberOf r.src.ip = some k.val) (hk : k.val ≠ c.self) (hf : digestForm r.body k = true) :
    exec (.digest r) s = .next (s.digestFrom c k (reportOf r.body)) := by
  show Host.Outcome.next (s.served r fun t => t.digestRx r) = _
  simp only [State.served, serves_gate hg, State.digestRx, hc, hm, hf, Bool.not_true, Bool.false_eq_true, if_false, if_neg hk]

theorem digest_completes {r : Request} {s : State} {c : Chorus} {k : Fin 8} (hg : s.serves r.src) (hc : s.store.chorus = some c)
    (hm : c.memberOf r.src.ip = some k.val) (hk : k.val ≠ c.self) (hf : digestForm r.body k = true) :
    completes (.digest r) s fun t =>
      (t.chorus.report k (fld r.body 4 6) (u8 r.body 0)).isSome ∧
      (s.chorus.report k (fld r.body 4 6) (u8 r.body 0) = none → reportOf r.body ∈ t.chorus.reports) ∧
      t.chorus.lastHeard[k] = s.tb.measure ∧
      (bit (u8 r.body 2) 0 = true ∨ u8 r.body 3 ≠ s.store.length → (t.dataView (memberId k)).num ≤ 1) ∧
      t.store = s.store ∧ t.sessions = s.sessions ∧ t.seq.replies = s.seq.replies ∧ t.tb = s.tb ∧ t.mbx = s.mbx := by
  refine ⟨_, digest_exec hg hc hm hk hf, ?_⟩
  obtain ⟨u, l, hu, hunsent, hle⟩ := digestFrom_eq s c k (reportOf r.body)
  have hmember : (reportOf r.body).member = k := by
    simp only [digestForm, Bool.and_eq_true, beq_iff_eq] at hf
    exact hf.2
  rw [hu]
  have hrun : u.chorus = { (s.chorus.newer (reportOf r.body)).addReport (reportOf r.body) with
      lastHeard := s.chorus.lastHeard.setIfInBounds k s.tb.measure } := chorusRun_of_unsent hunsent
  refine ⟨?_, fun hnone => ?_, ?_, fun h => ?_, (store_of_unsent hunsent :), (sessions_of_unsent hunsent :),
    congrArg Sequencer.replies (seq_of_unsent hunsent :), (tb_of_unsent hunsent :), (mbx_of_unsent hunsent :)⟩
  · have h := addReport_isSome (s.chorus.newer (reportOf r.body)) (reportOf r.body)
    rw [hmember] at h
    show (u.chorus.report _ _ _).isSome = true
    rw [hrun]
    exact h
  · show _ ∈ u.chorus.reports
    rw [hrun]
    exact mem_addReport (newer_report_none _ (hmember ▸ hnone))
  · show u.chorus.lastHeard[k] = _
    rw [hrun]
    simp
  · refine hle ?_
    simpa [reportOf] using h

/-! # Answering a PULL (R262, R270, R271) -/

theorem pullOf_self {r : Request} {mode : Nat} (ho : r.op = 0x12) (h0 : mode ≠ 0) (hm : u8 r.body 0 = mode) : pullOf mode r = r :=
  with_op_body ho (be_drop_of_u8 h0 hm)

/-- The sets of consecutive measures, each with its measure. -/
theorem carriedSets_zipIdx {log : List (Nat × List Request)} (first : Nat) {n : Nat} {l : List (List Request)}
    (h : ((List.range n).map fun i => getKey (first + i) log) = l.map some) :
    ((List.range n).map fun i => (getKey (first + i) log).map fun x => carriedSet (first + i) x) =
      (l.zipIdx.map fun p => carriedSet (first + p.2) p.1).map some := by
  refine List.ext_getElem (by simpa using congrArg List.length h) fun i h1 h2 => ?_
  have hn : i < n := by simpa using h1
  have h3 : i < l.length := by simpa using h2
  have hi : getKey (first + i) log = some l[i] := by simpa [hn, h3] using congrArg (·[i]?) h
  simp [hi]

section
variable {r : Request} {s : State} {c : Chorus} {k : Fin 8} (hg : s.serves r.src) (hc : s.store.chorus = some c)
  (hm : c.memberOf r.src.ip = some k.val) (hk : k.val ≠ c.self) (ho : r.op = 0x12) (hl : 16 ≤ r.body.length)
include hg hc hm hk ho hl

theorem pullList_answers (hb : u8 r.body 0 = 1) (h1 : c.e ≤ fld r.body 4 6) (h2 : fld r.body 4 6 < s.tb.measure)
    (h3 : s.tb.measure ≤ fld r.body 4 6 + 2) :
    exec (.pullList r) s = .next ((s.notePull k).pullAnswer r .ok
      ((sortRequests (s.chorus.set (fld r.body 4 6))).flatMap Request.entry)) := by
  have hq := notePull_quiet s k
  have hrun : (s.notePull k).chorus = s.chorus := (congrArg State.chorus hq :)
  have hform : ¬ (k.val = c.self ∨ r.body.length < 16) := by omega
  have hkept : ¬ (fld r.body 4 6 < c.e ∨ s.tb.measure ≤ fld r.body 4 6 ∨ fld r.body 4 6 + 2 < s.tb.measure) := by omega
  show Host.Outcome.next (s.served r fun t => t.pullRx (pullOf 1 r)) = _
  rw [pullOf_self ho (by decide) hb]
  simp only [State.served, serves_gate hg, State.pullRx, hc, hm, if_neg hform, hb, State.listAnswer, tb_of_quiet hq, hrun, if_neg hkept]

theorem pullFetch_answers {l : List Request} (hb : u8 r.body 0 = 2) (h1 : 1 ≤ fld r.body 2 2) (h64 : fld r.body 2 2 ≤ 64)
    (hlen : 16 + 8 * fld r.body 2 2 ≤ r.body.length)
    (hheld : ((List.range (fld r.body 2 2)).map fun i => (s.chorus.heldFor (fld r.body 4 6)).find? fun q =>
      q.isId (fld r.body (16 + 8 * i) 2) (fld r.body (20 + 8 * i) 4)) = l.map some) :
    exec (.pullFetch r) s = .next ((s.notePull k).pullAnswer r .ok (l.flatMap carried)) := by
  have hrun : (s.notePull k).chorus = s.chorus := (congrArg State.chorus (notePull_quiet s k) :)
  have hform : ¬ (k.val = c.self ∨ r.body.length < 16) := by omega
  have hrange : ¬ (fld r.body 2 2 = 0 ∨ 64 < fld r.body 2 2 ∨ r.body.length < 16 + 8 * fld r.body 2 2) := by omega
  have hall : ((l.map some).any (·.isNone)) = false := by simp
  show Host.Outcome.next (s.served r fun t => t.pullRx (pullOf 2 r)) = _
  rw [pullOf_self ho (by decide) hb]
  simp only [State.served, serves_gate hg, State.pullRx, hc, hm, if_neg hform, hb, State.fetchAnswer, hrun, if_neg hrange, hheld, hall,
    Bool.false_eq_true, if_false, List.filterMap_map, Function.comp_def, List.filterMap_some]

theorem pullSets_answers {l : List (List Request)} (hb : u8 r.body 0 = 3) (h1 : 1 ≤ fld r.body 2 2) (h16 : fld r.body 2 2 ≤ 16)
    (hlog : ((List.range (fld r.body 2 2)).map fun i => getKey (fld r.body 4 6 + i) c.log) = l.map some) :
    exec (.pullSets r) s = .next ((s.notePull k).pullAnswer r .ok
      (l.zipIdx.flatMap fun p => carriedSet (fld r.body 4 6 + p.2) p.1)) := by
  have hform : ¬ (k.val = c.self ∨ r.body.length < 16) := by omega
  have hrange : ¬ (fld r.body 2 2 = 0 ∨ 16 < fld r.body 2 2) := by omega
  have hall (x : List Bytes) : ((x.map some).any (·.isNone)) = false := by simp
  have hsome (x : List Bytes) : ((x.map some).filterMap fun b => b) = x := by simp
  show Host.Outcome.next (s.served r fun t => t.pullRx (pullOf 3 r)) = _
  rw [pullOf_self ho (by decide) hb]
  simp only [State.served, serves_gate hg, State.pullRx, hc, hm, if_neg hform, hb, Chorus.setsAnswer, if_neg hrange,
    carriedSets_zipIdx _ hlog, hall, hsome, Bool.false_eq_true, if_false, List.flatMap]

theorem pullTransfer_exec (hb : u8 r.body 0 = 4) : exec (.pullTransfer r) s = .next ((s.notePull k).transferAnswer c r) := by
  have hform : ¬ (k.val = c.self ∨ r.body.length < 16) := by omega
  show Host.Outcome.next (s.served r fun t => t.pullRx (pullOf 4 r)) = _
  rw [pullOf_self ho (by decide) hb]
  simp only [State.served, serves_gate hg, State.pullRx, hc, hm, if_neg hform, hb]

/-- A TRANSFER with MEASURE 0 of a shard held waits for the cut. -/
theorem pullTransfer_waits (hb : u8 r.body 0 = 4) (h24 : 24 ≤ r.body.length) (hcut : fld r.body 4 6 = 0) (hf : s.ownFenced c = false)
    (hheld : (c.shards.any fun h => h.num == fld r.body 16 2) = true) :
    completes (.pullTransfer r) s fun t =>
      t.chorus.asks = s.chorus.asks ++ [r] ∧ t.chorus.serving = s.chorus.serving ∧ t.store = s.store ∧ t.ports = s.ports := by
  have hq := notePull_quiet s k
  have hrun : (s.notePull k).chorus = s.chorus := (congrArg State.chorus hq :)
  have hans : (s.notePull k).transferAnswer c r = (s.notePull k).modChorus fun q => { q with asks := q.asks ++ [r] } := by
    simp only [State.transferAnswer, if_neg (Nat.not_lt.mpr h24), hcut, ne_eq, not_true_eq_false, if_false,
      notePull_ownFenced s c hk, hf, hheld, Bool.not_true, Bool.or_self, Bool.false_eq_true]
  refine ⟨_, pullTransfer_exec hg hc hm hk ho hl hb, ?_⟩
  rw [hans]
  exact ⟨congrArg (fun q : ChorusRun => q.asks ++ [r]) hrun, (congrArg ChorusRun.serving hrun :),
      (store_of_quiet hq :), (ports_of_quiet hq :)⟩

/-- A TRANSFER of a stanza that is not the last one of a snapshot served. -/
theorem pullTransfer_answers {v : Nat × Snapshot} {b : Bytes} (hb : u8 r.body 0 = 4) (h24 : 24 ≤ r.body.length)
    (hcut : fld r.body 4 6 ≠ 0) (hv : s.chorus.serving.find? (fun w => w.1 == fld r.body 16 2 && w.2.cut == fld r.body 4 6) = some v)
    (hat : (s.servedStanzas c (fld r.body 16 2) v.2)[fld r.body 20 4]? = some b)
    (hlast : fld r.body 20 4 + 1 ≠ (s.servedStanzas c (fld r.body 16 2) v.2).length) :
    exec (.pullTransfer r) s = .next ((s.notePull k).pullAnswer r .ok b) := by
  have hrun : (s.notePull k).chorus = s.chorus := (congrArg State.chorus (notePull_quiet s k) :)
  have hstanzas : (s.notePull k).servedStanzas c (fld r.body 16 2) v.2 = s.servedStanzas c (fld r.body 16 2) v.2 := rfl
  rw [pullTransfer_exec hg hc hm hk ho hl hb]
  simp only [State.transferAnswer, if_neg (Nat.not_lt.mpr h24), if_pos hcut, State.transferRead, hrun, hv, hstanzas, hat, if_neg hlast]

end

/-! # A peer's answers (R263, R270) -/

theorem peer_of {s : State} {a : PullAnswer} {c : Chorus} (hs : s.inService = true) (hself : a.member.val ≠ c.self)
    (hmem : a.member.val < c.members) : ¬ ((!s.inService) = true ∨ c.self = a.member.val ∨ c.members ≤ a.member.val) := by
  rintro (h | h | h)
  · simp [hs] at h
  · exact hself h.symm
  · omega

section
variable {a : PullAnswer} {s : State} {c : Chorus} (hs : s.inService = true) (hc : s.store.chorus = some c)
  (hself : a.member.val ≠ c.self) (hmem : a.member.val < c.members) (hst : a.status = 0)
include hs hc hself hmem hst

theorem listAnswer_completes (hmode : a.mode = 1) (hr : s.chorus.report c.self a.measure 2 = none) (hlast : c.lastSealed < a.measure) :
    completes (.pullResponseReceive a) s fun t =>
      (∀ e ∈ entriesOf a.body, e ∈ (getKey a.measure t.chorus.listed).getD []) ∧
      (∀ e ∈ (getKey a.measure s.chorus.listed).getD [], e ∈ (getKey a.measure t.chorus.listed).getD []) ∧
      (∀ m, m ≠ a.measure → getKey m t.chorus.listed = getKey m s.chorus.listed) ∧ t.store = s.store ∧ t.tb = s.tb := by
  have hpeer := peer_of hs hself hmem
  have hopen : ¬ ((s.chorus.report c.self a.measure 2).isSome = true ∨ a.measure ≤ c.lastSealed) := by
    simp [hr, hlast]
  have hexec : exec (.pullResponseReceive a) s = .next (s.listRx c a) := by
    show Host.Outcome.next (s.pullResponse a) = _
    simp only [State.pullResponse, hc, if_neg hpeer, hmode, hst, if_true]
  refine ⟨_, hexec, ?_⟩
  unfold State.listRx
  rw [if_neg hopen]
  extract_lets l s1 missing
  have hsent := fetchMissing_unsent s1 c a.member a.measure l.length missing
  have hlisted : (s1.fetchMissing c a.member a.measure l.length missing).chorus.listed =
      insertKey a.measure (((getKey a.measure s.chorus.listed).getD [] ++ l).eraseDups) s.chorus.listed :=
    congrArg ChorusRun.listed (chorusRun_of_unsent hsent)
  simp only [hlisted, getKey_insertKey, if_true, Option.getD_some, List.mem_eraseDups, List.mem_append]
  exact ⟨fun e he => .inr he, fun e he => .inl he, fun m hm => if_neg hm.symm, (store_of_unsent hsent :), (tb_of_unsent hsent :)⟩

end

/-- The sets of an answer that stand above the last sealed one. -/
def keepSets (c : Chorus) (f : Bytes → Request) (l : List (Nat × List Bytes)) (fetched : List (Nat × List Request)) :
    List (Nat × List Request) :=
  l.foldl (fun x p => if c.lastSealed < p.1 then insertKey p.1 (p.2.map f) x else x) fetched

theorem setsRx_eq (s : State) (c : Chorus) (b : Bytes) :
    s.setsRx c b = s.modChorus fun k => { k with fetched := keepSets c s.pulled (takeSets b.length b) s.chorus.fetched } := by
  unfold State.setsRx keepSets
  generalize takeSets b.length b = l
  have hgen (fetched : List (Nat × List Request)) : l.foldl (fun x p => if c.lastSealed < p.1 then
        x.modChorus fun k => { k with fetched := insertKey p.1 (p.2.map x.pulled) k.fetched } else x)
      (s.modChorus fun k => { k with fetched }) =
      s.modChorus fun k => { k with fetched := l.foldl (fun x p =>
        if c.lastSealed < p.1 then insertKey p.1 (p.2.map s.pulled) x else x) fetched } := by
    induction l generalizing fetched with
    | nil => rfl
    | cons p l ih =>
      rw [List.foldl_cons, List.foldl_cons, ← ih]
      split <;> rfl
  exact hgen s.chorus.fetched

theorem getKey_keepSets_other {c : Chorus} {f : Bytes → Request} {l : List (Nat × List Bytes)} {m : Nat} (h : ∀ p ∈ l, p.1 ≠ m)
    (fetched : List (Nat × List Request)) : getKey m (keepSets c f l fetched) = getKey m fetched := by
  induction l generalizing fetched with
  | nil => rfl
  | cons p l ih =>
    obtain ⟨hp, hl⟩ := List.forall_mem_cons.mp h
    rw [keepSets, List.foldl_cons]
    refine (ih hl _).trans ?_
    split
    · rw [getKey_insertKey, if_neg hp]
    · rfl

theorem getKey_keepSets {c : Chorus} {f : Bytes → Request} {l : List (Nat × List Bytes)} (hl : (l.map (·.1)).Nodup)
    {p : Nat × List Bytes} (hp : p ∈ l) (h : c.lastSealed < p.1) (fetched : List (Nat × List Request)) :
    getKey p.1 (keepSets c f l fetched) = some (p.2.map f) := by
  induction l generalizing fetched with
  | nil => cases hp
  | cons q l ih =>
    rw [List.map_cons, List.nodup_cons] at hl
    obtain ⟨hq, hl⟩ := hl
    rw [keepSets, List.foldl_cons]
    obtain rfl | hp := List.mem_cons.mp hp
    · have hother : ∀ x ∈ l, x.1 ≠ p.1 := fun x hx he => hq (List.mem_map.mpr ⟨x, hx, he⟩)
      refine (getKey_keepSets_other (c := c) (f := f) hother _).trans ?_
      rw [if_pos h, getKey_insertKey, if_pos rfl]
    · exact ih hl hp _

theorem setsAnswer_completes {a : PullAnswer} {s : State} {c : Chorus} (hs : s.inService = true) (hc : s.store.chorus = some c)
    (hself : a.member.val ≠ c.self) (hmem : a.member.val < c.members) (hst : a.status = 0) (hmode : a.mode = 3)
    (hnodup : ((takeSets a.body.length a.body).map (·.1)).Nodup) :
    completes (.pullResponseReceive a) s fun t =>
      (∀ p ∈ takeSets a.body.length a.body, c.lastSealed < p.1 → getKey p.1 t.chorus.fetched = some (p.2.map s.pulled)) ∧
      (∀ m, (∀ p ∈ takeSets a.body.length a.body, p.1 ≠ m) → getKey m t.chorus.fetched = getKey m s.chorus.fetched) ∧
      t = { s with chorus := { s.chorus with fetched := t.chorus.fetched } } := by
  have hpeer := peer_of hs hself hmem
  have hexec : exec (.pullResponseReceive a) s = .next (s.setsRx c a.body) := by
    show Host.Outcome.next (s.pullResponse a) = _
    simp only [State.pullResponse, hc, if_neg hpeer, hmode, hst, if_true]
  refine ⟨_, hexec, ?_⟩
  rw [setsRx_eq]
  exact ⟨fun p hp h => getKey_keepSets hnodup hp h _, fun m h => getKey_keepSets_other h _, rfl⟩

/-- Settles O38: a DIGEST by what it keeps, sends and lowers; a PULL by its mode's answer; a peer's answer by the lists it joins. -/
theorem chorusDatagramsComplete : Obligations.ChorusDatagramsComplete := by
  refine ⟨fun r s c k hg hc hm hk => ⟨digest_completes hg hc hm hk, fun ho hl => ⟨?_, ?_, ?_, ?_, ?_⟩⟩,
    fun a s c hs hc hself hmem hst => ⟨listAnswer_completes hs hc hself hmem hst, setsAnswer_completes hs hc hself hmem hst⟩⟩
  · exact pullList_answers hg hc hm hk ho hl
  · exact fun l => pullFetch_answers hg hc hm hk ho hl
  · exact fun l => pullSets_answers hg hc hm hk ho hl
  · exact pullTransfer_waits hg hc hm hk ho hl
  · exact fun v b => pullTransfer_answers hg hc hm hk ho hl

end Sys2Proof.Laws
end

section
namespace Sys2Proof.Laws
open Sys2Proof Sys2Proof.Machine

/-! # STANZA at its place (R275, R276, R281) -/

theorem opRun_stanza (x : Ctx) {r : Request} (s : State) (h : r.op = 0x13) : opRun x r s = opStanza x r s := by simp only [opRun, h]

@[simp] theorem stanzaGate_still (x : Ctx) (r : Request) (cls : OpClass) (l : List Nat) (s : State) :
    still (State.stanzaGate x r cls l s).1 = still s := by
  induction l generalizing s with
  | nil => rfl
  | cons ns l ih =>
    have hcheck := checkAll_still s (some r.src) x.m cls ns []
    rw [State.stanzaGate]
    split
    · rfl
    · split
      · rfl
      · split
        next s2 v heq =>
          have h2 := fst_still heq hcheck
          split
          · exact h2
          · exact h2
          · exact (ih s2).trans h2

section
variable {s s1 : State} {m : Nat} {r : Request} {c : Chorus} (h : s.reachesSkp m) (ho : r.op = 0x13) (hr : s.noRank = false)
  (hc : s.store.chorus = some c)
include h ho hr hc

/-- STANZA READ of a readable stanza that this member exports. -/
theorem stanzaRead_serves {l : List Nat} {sn : Snapshot} {b : Bytes} (hm : u8 r.body 0 = 1) (hsn : c.checkpoint = some sn)
    (hid : sn.id = fld r.body 8 8)
    (hl : (if fld r.body 2 2 = 0xFFFF then some (c.nss.map (·.ns)) else (c.locate (fld r.body 2 2)).map fun k => [k.1.ns]) = some l)
    (hg : State.stanzaGate ⟨m, m, false⟩ r .read l s = (s1, none))
    (hb : c.readStanza (fld r.body 2 2) (fld r.body 4 4) sn = some b) (hlost : s.stanzaLost sn b = false) :
    s.servesWith m r .ok (valuePieces (s.pieceSize r.src.port) b.length 0 [] b) (m + 1) 0 fun u =>
      u.store = s.store ∧ s.sameRest u := by
  have hload : isLoad r = false := by simp [isLoad, hm]
  have hstill : still s1 = still s := by simpa [hg] using stanzaGate_still ⟨m, m, false⟩ r .read l s
  have hop : opRun ⟨m, m, false⟩ r s =
      (s1, { Ans.ok [] with pieces := valuePieces (s.pieceSize r.src.port) b.length 0 [] b }) := by
    rw [opRun_stanza _ _ ho]
    simp only [opStanza, hload, Bool.false_eq_true, if_false, opStanzaRead, hr, hc, hl, hg, hsn, Option.bind_some, hid, if_true, hb,
      Option.map_some, hlost]
  obtain ⟨hlate, hbehind⟩ := still_calm h hstill
  exact servesWith_of_opRun h (by simp [joinsBatch, ho]) (by omega) (.inl (by omega)) hop rfl hlate hbehind
    (by simp [isWrite, hload, ho]) (by simp [isWrite, hload, ho]) fun _ => ⟨(store_of_still hstill :), (sameRest_of_still hstill :)⟩

/-- STANZA LOAD whose gate lets it pass does what the load of its kind makes of the state after the searches; `t` is the store it
leaves. -/
theorem stanzaLoad_serves {l : List Nat} {v : Restore} {t : Store} (hm : u8 r.body 0 = 2) (hv : c.restore = some v)
    (hl : (if fld r.body 2 2 = 0xFFFF then c.nss.map (·.ns) else
      if (r.body.drop 16).length < 64 then [] else [u8 (r.body.drop 16) 24]) = l)
    (hg : State.stanzaGate ⟨m, m, false⟩ r .write l s = (s1, none))
    (hload : (if fld r.body 2 2 = 0xFFFF then loadManifest v r (r.body.drop 16) s1 else loadSource v r (r.body.drop 16) s1) =
      ({ s1 with store := t }, .ok [])) :
    s.servesWith m r .ok [(0, 0, [], [])] (m + 3) m fun u => u.store = t ∧ s.sameRest u := by
  have hisLoad : isLoad r = true := by simp [isLoad, ho, hm]
  have hstill : still s1 = still s := by simpa [hg] using stanzaGate_still ⟨m, m, false⟩ r .write l s
  have hop : opRun ⟨m, m, false⟩ r s = ({ s1 with store := t }, .ok []) := by
    rw [opRun_stanza _ _ ho]
    simp only [opStanza, hisLoad, if_true, opStanzaLoad, hr, hc, Option.map_some, Option.getD_some, hl, hg, Option.bind_some, hv,
      Bool.false_eq_true, if_false]
    exact hload
  obtain ⟨hlate, hbehind⟩ := still_calm h hstill
  exact servesWith_of_opRun h (by simp [joinsBatch, ho]) (by omega) (.inl (by omega)) hop rfl hlate hbehind
    (by simp [isWrite, hisLoad]) (by simp [isWrite, hisLoad]) fun _ => ⟨rfl, (sameRest_of_still hstill :)⟩

/-- STANZA LOAD of the manifest's next stanza. -/
theorem loadManifest_serves {v : Restore} {p : Bytes} (hm : u8 r.body 0 = 2) (hv : c.restore = some v) (hopen : v.complete = false)
    (hid : v.checkpoint = fld r.body 8 8) (hsh : fld r.body 2 2 = 0xFFFF) (hi : fld r.body 4 4 = v.next)
    (hg : State.stanzaGate ⟨m, m, false⟩ r .write (c.nss.map (·.ns)) s = (s1, none))
    (hsound : stanzaSound (r.body.drop 16) = true) (hparse : (parseStanza (r.body.drop 16)).isSome = true)
    (hp : p = (r.body.drop 16).drop 64) (hkind : u8 (r.body.drop 16) 5 = 1) (hns : u8 (r.body.drop 16) 24 = 0)
    (hck : fld (r.body.drop 16) 8 8 = v.checkpoint) (hix : fld (r.body.drop 16) 44 4 = v.next)
    (hcut : v.next = 0 ∨ fld (r.body.drop 16) 16 6 = v.cut)
    (hdone : manifestDone (v.manifest ++ p) = true →
      manifestExact (v.manifest ++ p) = true ∧ s.store.fitsManifest (v.manifest ++ p) = true) :
    s.servesWith m r .ok [(0, 0, [], [])] (m + 3) m fun u =>
      u.store = s.store.setRestore { v with
        manifest := v.manifest ++ p, complete := manifestDone (v.manifest ++ p), next := v.next + 1
        cut := fld (r.body.drop 16) 16 6 } ∧ s.sameRest u := by
  have hstill : still s1 = still s := by simpa [hg] using stanzaGate_still ⟨m, m, false⟩ r .write (c.nss.map (·.ns)) s
  have hstore : s1.store = s.store := store_of_still hstill
  refine stanzaLoad_serves h ho hr hc hm hv (if_pos hsh) hg ?_
  have hform : ¬ ((parseStanza (r.body.drop 16)).isNone = true ∨ u8 (r.body.drop 16) 5 ≠ 1 ∨ u8 (r.body.drop 16) 24 ≠ 0 ∨
      fld (r.body.drop 16) 8 8 ≠ v.checkpoint ∨ fld (r.body.drop 16) 44 4 ≠ v.next ∨
      (v.next ≠ 0 ∧ fld (r.body.drop 16) 16 6 ≠ v.cut) ∨ (manifestDone (v.manifest ++ p) = true ∧
        (!(manifestExact (v.manifest ++ p) && s.store.fitsManifest (v.manifest ++ p))) = true)) := by
    have hnone : (parseStanza (r.body.drop 16)).isNone = false := by simp [Option.isNone_eq_false_iff, hparse]
    rintro (hn | hn | hn | hn | hn | ⟨hn, hn2⟩ | ⟨hd, hn⟩)
    · simp [hnone] at hn
    · exact hn hkind
    · exact hn hns
    · exact hn hck
    · exact hn hix
    · exact hcut.elim hn hn2
    · obtain ⟨he, hf⟩ := hdone hd
      simp [he, hf] at hn
  subst hp
  simp only [hsh, if_true, loadManifest, ← hid, hi, ne_eq, not_true_eq_false, if_false, Nat.lt_irrefl, hopen, Bool.false_eq_true,
    or_self, hsound, Bool.not_true, hstore]
  rw [if_neg hform, State.modStore, hstore]

/-- STANZA LOAD of a source shard's next stanza. -/
theorem loadSource_serves {v : Restore} {hd : StanzaHead} {p : Bytes} {known : Option LoadShard} {next : Nat} {t : Store}
    {l : LoadShard} (hm : u8 r.body 0 = 2) (hv : c.restore = some v) (hdone : v.complete = true)
    (hid : v.checkpoint = fld r.body 8 8) (hsh : fld r.body 2 2 ≠ 0xFFFF) (hlen : 80 ≤ r.body.length)
    (hg : State.stanzaGate ⟨m, m, false⟩ r .write [u8 (r.body.drop 16) 24] s = (s1, none))
    (hk : known = v.loads.find? (fun k => k.shard == fld r.body 2 2)) (hn : next = (known.map (·.next)).getD 0)
    (hi : fld r.body 4 4 = next) (hopen : (known.map (·.ended)).getD false = false) (hsound : stanzaSound (r.body.drop 16) = true)
    (hparse : parseStanza (r.body.drop 16) = some (hd, p))
    (hnames : v.names hd (fld r.body 2 2) next (r.body.drop 16).length = true)
    (hend : endMismatch (known.getD (.start (fld r.body 2 2) hd)) hd p = false)
    (hload : loadStanza s.store (known.getD (.start (fld r.body 2 2) hd)) hd p = .ok (t, l)) :
    s.servesWith m r .ok [(0, 0, [], [])] (m + 3) m fun u => u.store = t.setRestore (v.setLoad l) ∧ s.sameRest u := by
  have hstill : still s1 = still s := by simpa [hg] using stanzaGate_still ⟨m, m, false⟩ r .write [u8 (r.body.drop 16) 24] s
  have hstore : s1.store = s.store := store_of_still hstill
  have h64 : ¬ (r.body.drop 16).length < 64 := by simp; omega
  refine stanzaLoad_serves h ho hr hc hm hv (by rw [if_neg hsh, if_neg h64]) hg ?_
  simp only [if_neg hsh, loadSource, hdone, ← hid, ← hk, hi, ← hn, hopen, hsound, hparse, hnames, hend, hstore, hload, ne_eq,
    not_true_eq_false, Nat.lt_irrefl, Bool.not_true, Bool.false_eq_true, or_self, if_false]

end

/-- Settles O37: the rows enter the open measure, and at its place each STANZA is what its read or load makes of the state. -/
theorem skpStanzasComplete : Obligations.SkpStanzasComplete := by
  refine ⟨fun r s x hx ho => ⟨fun hm => ?_, fun hm => ?_⟩, fun r s s1 m c h ho hr hc => ⟨?_, ?_, ?_⟩⟩
  · exact exec_entered hx (by simp [rowOf, ho, hm])
  · exact exec_entered hx (by simp [rowOf, ho, hm])
  · intro l sn b hm hsn hid hl hg hb hlost
    exact stanzaRead_serves h ho hr hc hm hsn hid hl hg hb hlost
  · intro v p hm hv hopen hid hsh hi hg hsound hparse hp hkind hns hck hix hcut hdone
    exact loadManifest_serves h ho hr hc hm hv hopen hid hsh hi hg hsound hparse hp hkind hns hck hix hcut hdone
  · intro v hd p next known t1 l1 hm hv hdone hid hsh hlen hg hk hn hi hopen hsound hparse hnames hend hload
    exact loadSource_serves h ho hr hc hm hv hdone hid hsh hlen hg hk hn hi hopen hsound hparse hnames hend hload

end Sys2Proof.Laws
end

section
namespace Sys2Proof.Laws
open Sys2Proof Sys2Proof.Machine

/-! # CHORUS.FORM at E (R249, R251) -/

theorem u8_lt (b : Bytes) (i : Nat) : u8 b i < 256 := by
  rw [u8, fld, sub, List.take_one]
  cases (b.drop i).head? with
  | none => decide
  | some x => simpa [beNat] using x.isLt

theorem length_putEntry (e : Entry) (l : List Entry) : (putEntry e l).length = l.length + 1 := by
  induction l with
  | nil => rfl
  | cons x l ih =>
    rw [putEntry]
    split
    · rfl
    · rw [List.length_cons, ih, List.length_cons]

theorem length_foldl_putEntry (l es : List Entry) : (l.foldl (fun es e => putEntry e es) es).length = l.length + es.length := by
  induction l generalizing es with
  | nil => simp
  | cons e l ih => rw [List.foldl_cons, ih, length_putEntry, List.length_cons]; omega

/-- A list with one entry for each shard. -/
theorem length_shards {α : Type} (f : Nat × ChorusNs → Nat → α) (base : Nat) (l : List ChorusNs) :
    ((shardBases base l).flatMap fun b => (List.range b.2.shards).map (f b)).length = shardTotal l := by
  induction l generalizing base with
  | nil => rfl
  | cons n l ih =>
    rw [shardBases, List.flatMap_cons, List.length_append, ih, List.length_map, List.length_range]
    rfl

theorem length_routeEntries (l : Slots) (choice : Nat) (nss : List ChorusNs) : (routeEntries l choice nss).length = shardTotal nss := by
  rw [routeEntries, length_foldl_putEntry, List.length_map, length_shards, List.length_nil, Nat.add_zero]

/-- Every shard that a member comes to hold starts at the counter named. -/
theorem counter_of_shardsHeld {nss : List ChorusNs} {members self rf counter gen : Nat} {h : Shard}
    (hh : h ∈ shardsHeld nss members self rf counter gen) : h.counter = counter := by
  obtain ⟨b, -, hb⟩ := List.mem_flatMap.mp hh
  obtain ⟨i, -, hi⟩ := List.mem_filterMap.mp hb
  split at hi
  · cases hi
    rfl
  · cases hi

/-- The unit that a formation gives member `k`. -/
def formedUnit (self now k : Nat) : HwUnit :=
  if k = self then { HwUnit.fresh (memberId k) .degraded with degradedAt := some now } else HwUnit.fresh (memberId k) .fenced

theorem formedUnit_id (self now k : Nat) : (formedUnit self now k).id = memberId k := by
  unfold formedUnit
  split <;> rfl

theorem withMembers_unit (l : List HwUnit) (members self now : Nat) {k : Nat} (hk : k < members) (h : k < 0x1000) :
    (withMembers l members self now).find? (fun u => u.id == memberId k) = some (formedUnit self now k) := by
  have hold : (withoutMembers l).find? (fun u => u.id == memberId k) = none := by
    rw [withoutMembers, List.find?_eq_none]
    intro u hu
    have hne : u.id / 0x1000 ≠ 6 := by simpa using List.of_mem_filter hu
    simp only [memberId, beq_iff_eq]
    omega
  have hrange : (List.range members).find? (fun j => (formedUnit self now j).id == memberId k) = some k := by
    rw [List.find?_range_eq_some]
    refine ⟨by simp [formedUnit_id], List.mem_range.mpr hk, fun j hj => ?_⟩
    simp only [formedUnit_id, memberId, Bool.not_eq_true', beq_eq_false_iff_ne]
    omega
  have hnew : ((List.range members).map (formedUnit self now)).find? (fun u => u.id == memberId k) = some (formedUnit self now k) := by
    rw [List.find?_map, Function.comp_def, hrange, Option.map_some]
  rw [withMembers, List.find?_append, hold, Option.none_or]
  exact hnew

/-- A state with new tables, units and Chorus run, and one sealed choice used. -/
def formedOn (s : State) (t : Tables) (us : List HwUnit) (run : ChorusRun) : State :=
  { (s.setTables t).drawn with units := us, chorus := run }

theorem formedOn_fields (s : State) (t : Tables) (us : List HwUnit) (run : ChorusRun) :
    (formedOn s t us run).store = { s.store with tables := t, draws := s.store.draws + 1 } ∧ (formedOn s t us run).units = us ∧
      (formedOn s t us run).sessions = s.sessions ∧ (formedOn s t us run).seq = s.seq ∧ (formedOn s t us run).tb = s.tb :=
  ⟨rfl, rfl, rfl, rfl, rfl⟩

/-- A store without its namespaces, which a formation gives their reservations. -/
def apartNss (t : Store) : Store := { t with nss := [] }

theorem form_takesEffect {sc : SealedCmd} {s : State} (hcheck : formCheck (formArgs sc.cmd.args) s = none)
    (hroom : shardTotal (formArgs sc.cmd.args).nss ≤ s.routeSlots.count)
    (hself : (formArgs sc.cmd.args).self < (formArgs sc.cmd.args).members) :
    ∃ t, cmdChorusForm.later sc s = (t, .ok, be 2 (formArgs sc.cmd.args).chorus.shards.length ++ be 2 0) ∧
      t.store.chorus = some (formArgs sc.cmd.args).chorus ∧
      (∀ h ∈ (formArgs sc.cmd.args).chorus.shards, h.counter = fld sc.cmd.args 8 6 * 4096) ∧
      (t.store.tables.entries .route).length = shardTotal (formArgs sc.cmd.args).nss ∧
      t.dataView (memberId (formArgs sc.cmd.args).self) = .degraded ∧
      (∀ k, k < (formArgs sc.cmd.args).members → k ≠ (formArgs sc.cmd.args).self → t.dataView (memberId k) = .fenced) ∧
      t.sessions = s.sessions ∧ t.seq = s.seq ∧ t.tb = s.tb ∧ t.store.settings = s.store.settings ∧
      t.store.counters = s.store.counters := by
  have h8 : (formArgs sc.cmd.args).members < 256 := u8_lt ..
  show ∃ t, formApply sc s = _ ∧ _
  unfold formApply
  extract_lets f l k es s1
  simp only [f, hcheck, l, if_neg (Nat.not_lt.mpr hroom)]
  have hunit (j : Nat) (hj : j < f.members) : (withMembers s.units f.members f.self s.tb.measure).find? (fun u => u.id == memberId j) =
      some (formedUnit f.self s.tb.measure j) := withMembers_unit _ _ _ _ hj ((hj.trans h8).trans (by decide))
  have hjoined : apartNss (f.nss.foldl (fun t n => t.joinNs f n) s.store) = apartNss s.store :=
    foldl_keeps (p := apartNss) (f := fun t n => t.joinNs f n) (fun _ _ => rfl) f.nss s.store
  obtain ⟨hstore, hunits, hsessions, hseq, htb⟩ := formedOn_fields s1 (s1.store.tables.setEntries .route es)
    (withMembers s.units f.members f.self s.tb.measure) { ChorusRun.reset with lastHeard := Vector.replicate 8 s.tb.measure }
  refine ⟨formedOn _ _ _ _, rfl, ?_, fun h hh => counter_of_shardsHeld hh, ?_, ?_, fun j hj hne => ?_, hsessions, hseq, htb, ?_, ?_⟩
  · rw [hstore]
    rfl
  · rw [hstore]
    exact length_routeEntries ..
  · rw [State.dataView, State.unit, hunits, hunit f.self hself, formedUnit, if_pos rfl]
    rfl
  · rw [State.dataView, State.unit, hunits, hunit j hj, formedUnit, if_neg hne]
    rfl
  · rw [hstore]
    exact (congrArg Store.settings hjoined :)
  · rw [hstore]
    exact (congrArg Store.counters hjoined :)

/-! # PARK, LEAVE, RESUME and CHECKPOINT at E (R254, R272, R273) -/

/-- A store without its version counters, which the end of a Chorus brings up to those of its shards. -/
def apartCounters (t : Store) : Store := { t with counters := [] }

theorem leaveNs_keeps (k : Chorus) (t : Store) (n : ChorusNs) : apartCounters (t.leaveNs k n) = apartCounters t := by
  unfold Store.leaveNs
  extract_lets top
  split <;> rfl

section
variable {sc : SealedCmd} {s : State} {k : Chorus} (hc : s.store.chorus = some k)
include hc

theorem park_takesEffect : ∃ t, cmdChorusPark.later sc s = (t, .ok, []) ∧
    t.store.chorus = some { k with parked := some (k.parked.getD (fld sc.cmd.args 0 6)), resuming := none } ∧
    t.chorus.onTime = s.chorus.onTime.filter fun p => decide (p.1 < fld sc.cmd.args 0 6) := by
  show ∃ t, atE s _ = _ ∧ _
  simp only [atE, hc]
  refine ⟨_, rfl, ?_⟩
  unfold State.dropOnTime
  extract_lets gone
  have hdrop (u : State) : (fun v : State => (v.store, v.chorus)) (gone.foldl (fun t r =>
      (t.modSession r.session (Session.returnCredit r.seq)).discard r.src.port) u) = (u.store, u.chorus) :=
    foldl_keeps (p := fun v : State => (v.store, v.chorus))
      (f := fun t r => (t.modSession r.session (Session.returnCredit r.seq)).discard r.src.port) (fun _ _ => rfl) gone u
  exact ⟨congrArg (fun p => p.1.chorus) (hdrop _), congrArg (fun p => p.2.onTime) (hdrop _)⟩

theorem leave_takesEffect : ∃ t, cmdChorusLeave.later sc s = (t, .ok, []) ∧ t.store.chorus = none ∧
    t.store.tables.entries .route = [] ∧ t.store.nss = s.store.nss ∧ t.store.tables.acl = s.store.tables.acl ∧
    t.store.tables.peer = s.store.tables.peer ∧ (∀ u ∈ t.units, u.id / 0x1000 ≠ 6) ∧ t.chorus = .reset := by
  show ∃ t, atE s _ = _ ∧ _
  simp only [atE, hc]
  refine ⟨_, rfl, ?_⟩
  unfold State.leaveChorus
  extract_lets s0 waiting s1 s2
  have h0 : quiet s0 = quiet s := by simp [s0]
  have h1 : outside s1 = outside s0 := by simp [s1, State.dropReplies]
  have hstore : s1.store = s.store := (store_of_outside h1).trans (store_of_quiet h0)
  have hleft : apartCounters (k.nss.foldl (fun t n => t.leaveNs k n) s1.store) = apartCounters s1.store :=
    foldl_keeps (p := apartCounters) (leaveNs_keeps k) k.nss s1.store
  refine ⟨rfl, rfl, ?_, congrArg (fun t => t.tables.acl) hstore, congrArg (fun t => t.tables.peer) hstore, fun u hu => ?_, rfl⟩
  · have hnss : (k.nss.foldl (fun t n => t.leaveNs k n) s1.store).nss = s1.store.nss := (congrArg Store.nss hleft :)
    exact hnss.trans (congrArg Store.nss hstore)
  · simpa using List.of_mem_filter hu

theorem resume_takesEffect : ∃ t, cmdChorusResume.later sc s = (t, .ok, []) ∧
    t.store = { s.store with chorus := some { k with parked := none, resuming := some (fld sc.cmd.args 0 6) } } ∧
    t.chorus = { s.chorus with lastHeard := Vector.replicate 8 s.tb.measure } ∧ t.units = s.units ∧ t.seq = s.seq := by
  show ∃ t, atE s _ = _ ∧ _
  simp only [atE, hc]
  exact ⟨_, rfl, rfl, rfl, rfl, rfl⟩

theorem checkpoint_takesEffect (hk : k.checkpoint = none) : ∃ t sn, cmdChorusCheckpoint.later sc s = (t, .ok, []) ∧
    t = { s with store := { s.store with chorus := some { k with checkpoint := some sn } } } ∧
    sn.id = fld sc.cmd.args 0 8 ∧ sn.cut = fld sc.cmd.args 8 6 ∧ sn.size = fld sc.cmd.args 14 2 ∧ sn.shards = k.shards ∧
    ∀ n, n ∈ sn.content ↔ n ∈ s.store.nss ∧ ∃ x ∈ k.nss, x.ns = n.id := by
  show ∃ t sn, checkpointApply sc s = _ ∧ _
  simp only [checkpointApply, atE, hc, hk, Option.isSome_none, Bool.false_eq_true, if_false]
  exact ⟨_, _, rfl, rfl, rfl, rfl, rfl, rfl, fun n => by simp [Store.snapshot]⟩

end

/-! # RESTORE_END at E (R179, R282) -/

/-- The Chorus of a store but for its shards, whose counters follow the writes. -/
def unsharded (t : Store) : Option Chorus := t.chorus.map fun c => { c with shards := [] }

theorem stamp_unsharded (t : Store) (ns : Nat) (key : Bytes) : unsharded (t.stamp ns key).2 = unsharded t := by
  unfold Store.stamp
  split
  · next c n hc _ => simp [unsharded, hc]
  · rfl

theorem linkLedger_unsharded (t : Store) (c : Chorus) (v : Restore) (e : Nat) (n : ChorusNs) :
    unsharded (t.linkLedger c v e n) = unsharded t := by
  unfold Store.linkLedger
  split
  · rfl
  · next x _ =>
    split
    · exact stamp_unsharded t x.id _
    · rfl

/-- The Chorus once a restore has ended at `e`, before the link records of its ledgers. -/
def restored (k : Chorus) (v : Restore) (e : Nat) : Chorus :=
  { k with
    restore := none
    shards := k.shards.map (k.restoredShard v)
    generation := fld v.manifest 16 2 + 1
    e
    chain := [(v.firstEnd.getD e - 1, chainStart k.id (v.firstEnd.getD e))]
    lastSealed := v.firstEnd.getD e - 1 }

theorem restored_linked (k : Chorus) (v : Restore) (e : Nat) (t : Store) : ∃ k', (k.nss.foldl (fun (t : Store) n =>
    t.linkLedger (restored k v e) v e n) { t with chorus := some (restored k v e) }).chorus = some k' ∧
      ({ k' with shards := [] } : Chorus) = { restored k v e with shards := [] } :=
  Option.map_eq_some_iff.mp (foldl_keeps (p := unsharded) (fun (t : Store) n => linkLedger_unsharded t (restored k v e) v e n) k.nss
    { t with chorus := some (restored k v e) })

theorem restoreEnd_takesEffect {sc : SealedCmd} {s : State} {k : Chorus} {v : Restore} (hc : s.store.chorus = some k)
    (hv : k.restore = some v) (hl : k.loaded v = true) : ∃ t k', cmdChorusRestoreEnd.later sc s = (t, .ok, []) ∧
      t.store.chorus = some k' ∧ k'.restore = none ∧ k'.e = fld sc.cmd.args 0 6 ∧
      k'.lastSealed = v.firstEnd.getD (fld sc.cmd.args 0 6) - 1 ∧
      k'.chain = [(k'.lastSealed, chainStart k.id (v.firstEnd.getD (fld sc.cmd.args 0 6)))] := by
  show ∃ t k', restoreEndApply sc s = _ ∧ _
  unfold restoreEndApply
  simp only [atE, hc, hv, hl, Bool.not_true, Bool.false_eq_true, if_false]
  obtain ⟨k', hk', hsame⟩ := restored_linked k v (fld sc.cmd.args 0 6) s.store
  have hlast : k'.lastSealed = v.firstEnd.getD (fld sc.cmd.args 0 6) - 1 := congrArg Chorus.lastSealed hsame
  refine ⟨_, k', rfl, (congrArg Store.chorus (viewsMoved_leaves ..).1).trans hk', congrArg Chorus.restore hsame,
    congrArg Chorus.e hsame, hlast, ?_⟩
  rw [hlast]
  exact congrArg Chorus.chain hsame

/-- Settles O18: each command's own definition at E, with the folds over namespaces and peers kept to what they change. -/
theorem chorusCommandsTakeEffect : Obligations.ChorusCommandsTakeEffect :=
  ⟨fun _ _ => form_takesEffect, fun _ _ _ hc => ⟨park_takesEffect hc, leave_takesEffect hc, resume_takesEffect hc,
    checkpoint_takesEffect hc, fun _ => restoreEnd_takesEffect hc⟩⟩

end Sys2Proof.Laws
end

section
namespace Sys2Proof.Laws
open Sys2Proof Sys2Proof.Machine

/-! # CHORUS.NS_COMMAND that carries no inner command (R87, R253, R396)

The obligation asks of the arguments only what holds when they name an inner command. Arguments that name none are refused with RANGE
at the grant, by the checks that arguments alone decide. -/

/-- CHORUS.NS_COMMAND of 12 zero bytes: its inner opcode 0 is no command. -/
def noInner : Cmd := Tests.cmd (zeros 12)

theorem noInner_ready : Tests.up.readySealed noInner .mgmt := by
  unfold State.readySealed State.ready
  exact ⟨⟨rfl, rfl, rfl, rfl, rfl, rfl, rfl⟩, rfl⟩

/-- Its mailbox is answered at once, with RANGE. -/
theorem noInner_answered : ((cmdChorusNsCommand.run noInner Tests.up).mb 0).state = .done ∧
    ((cmdChorusNsCommand.run noInner Tests.up).mb 0).code = Status.num .range := by
  decide +kernel

theorem taken_runs (s : State) (c : Cmd) (op : Nat) : ((s.taken c op).mb c.mailbox).state = .running := by
  show ((s.granted c op).mb c.mailbox).state = _
  rw [State.granted, modMbx_mb]

/-- Refutes O17: CHORUS.NS_COMMAND with arguments of zeros names no inner command, and is refused with RANGE at the grant where the
statement lets it enter the open measure. -/
theorem not_chorusCommandsComplete : ¬ Obligations.ChorusCommandsComplete := by
  rintro ⟨-, -, -, -, -, hns, -⟩
  have hnone : innerCommand (fld noInner.args 8 2) = none := by decide +kernel
  have henters := hns noInner Tests.up noInner_ready
    ⟨by decide, by decide, fun need len h => absurd (hnone.symm.trans h) nofun⟩
  have hrun : cmdChorusNsCommand.run noInner Tests.up = Tests.up.taken noInner 0x0807 := Host.Outcome.next.inj henters
  have hdone := noInner_answered.1
  rw [hrun] at hdone
  exact absurd ((taken_runs Tests.up noInner 0x0807).symm.trans hdone) nofun

end Sys2Proof.Laws
end

section
namespace Sys2Proof.Laws
open Sys2Proof Sys2Proof.Machine

/-! # A fifth set in one measure (R270)

A member that catches up applies at most 4 sets in a measure; the obligation names the write allowance and not this count. -/

/-- A member below DEGRADED whose next set is fetched, in a measure in which it has applied 4 sets already. -/
def caughtUpFour : State :=
  { Tests.inChorusOf Tests.ch3 with
    units := [.fresh 0x6000 .fenced]
    chorus := { ChorusRun.reset with fetched := [(98, [])], caughtUp := 4 } }

theorem caughtUpFour_keeps : (caughtUpFour.catchUp.store.chorus).map (·.lastSealed) = some 97 := by decide +kernel

/-- Refutes O59: with 4 sets applied in the open measure, CHORUS_CATCH_UP leaves the fetched set of measure 98 for the next one. -/
theorem not_chorusStepsComplete : ¬ Obligations.ChorusStepsComplete := by
  intro h
  obtain ⟨-, -, hcatch, -⟩ := h Tests.ch3 caughtUpFour rfl rfl
  obtain ⟨happly, -⟩ := hcatch (by decide +kernel) rfl rfl rfl
  obtain ⟨t, ht, ⟨d, hd, hlt, -⟩, -⟩ := happly [] rfl (by decide +kernel)
  have ht : caughtUpFour.catchUp = t := Host.Outcome.next.inj ht
  have hlast := caughtUpFour_keeps
  rw [ht, hd] at hlast
  have hlast : d.lastSealed = 97 := Option.some.inj hlast
  have hc : Tests.ch3.lastSealed = 97 := rfl
  omega

end Sys2Proof.Laws
end

section
namespace Sys2Proof.Laws
open Sys2Proof Sys2Proof.Machine

/-! # Channels and balls of the event fabric (R284, R293, R299) -/

theorem ofNat_getLsbD {v i : Nat} (h : i < 64) : (BitVec.ofNat 64 v).getLsbD i = bit v i := by
  rw [BitVec.getLsbD_ofNat, decide_eq_true h, Bool.true_and, bit]

theorem oneShift_getLsbD {w k : Nat} (h : k < w) (j : Nat) : (1#w <<< k).getLsbD j = decide (j = k) := by
  rw [← BitVec.twoPow_eq, BitVec.getLsbD_twoPow, decide_eq_true h, Bool.true_and]
  exact decide_eq_decide.mpr eq_comm

/-- A mask without bit `k`. -/
theorem clearBit_getLsbD {w k : Nat} (h : k < w) (x : BitVec w) (j : Nat) :
    (x &&& ~~~(1#w <<< k)).getLsbD j = (x.getLsbD j && decide (j ≠ k)) := by
  rw [BitVec.getLsbD_and, BitVec.getLsbD_not, oneShift_getLsbD h]
  by_cases hj : j < w
  · simp [hj]
  · simp [BitVec.getLsbD_of_ge x j (Nat.le_of_not_lt hj)]

theorem setBit16_getLsbD (x : BitVec 16) {i : Nat} (hi : i < 16) (v : Bool) (j : Nat) :
    (setBit16 x i v).getLsbD j = if j = i then v else x.getLsbD j := by
  cases v
  case false =>
    rw [setBit16, if_neg Bool.false_ne_true, clearBit_getLsbD hi]
    by_cases h : j = i <;> simp [h]
  case true =>
    rw [setBit16, if_pos rfl, BitVec.getLsbD_or, oneShift_getLsbD hi]
    by_cases h : j = i <;> simp [h]

theorem chanArg_of {v : Nat} {c : Fin 32} (h : v = c) : chanArg v = some c := by
  subst h
  exact dif_pos c.isLt

theorem mem_chanMask {m : Nat} {c : Fin 32} : c ∈ chanMask m ↔ bit m c = true := by
  simp [chanMask]

theorem chanMask_nodup (m : Nat) : (chanMask m).Nodup := (List.nodup_finRange 32).filter _

/-- One change of each channel of a list: of the state, the channels alone. -/
theorem foldl_modChan_eq (f : Chan → Chan) (cs : List (Fin 32)) (s : State) : cs.foldl (fun t c => t.modChan c f) s =
    { s with fabric := { s.fabric with chans := (cs.foldl (fun t c => t.modChan c f) s).fabric.chans } } := by
  induction cs generalizing s with
  | nil => rfl
  | cons c cs ih => exact ih (s.modChan c f)

theorem foldl_modChan_chan (f : Chan → Chan) {cs : List (Fin 32)} (h : cs.Nodup) (s : State) (d : Fin 32) :
    (cs.foldl (fun t c => t.modChan c f) s).chan d = if d ∈ cs then f (s.chan d) else s.chan d := by
  induction cs generalizing s with
  | nil => rfl
  | cons c cs ih =>
    obtain ⟨hc, hcs⟩ := List.nodup_cons.mp h
    rw [List.foldl_cons, ih hcs]
    by_cases hdc : d = c
    · subst hdc
      simp [hc]
    · simp [hdc]

theorem setChan_chan (s : State) (c : Fin 32) (f : ChanCfg → ChanCfg) :
    (s.setChan c f).chan c = { s.chan c with cfg := f (s.chan c).cfg } :=
  modChan_chan s c fun h => { h with cfg := f h.cfg }

theorem setChan_chan_other (s : State) {c d : Fin 32} (f : ChanCfg → ChanCfg) (h : d ≠ c) : (s.setChan c f).chan d = s.chan d :=
  modChan_other s c d (fun h => { h with cfg := f h.cfg }) h

theorem setChan_settings (s : State) (c : Fin 32) (f : ChanCfg → ChanCfg) :
    (s.setChan c f).store.settings.channels[c] = f s.store.settings.channels[c] := by
  simp [State.setChan]

theorem setChan_settings_other (s : State) {c d : Fin 32} (f : ChanCfg → ChanCfg) (h : d ≠ c) :
    (s.setChan c f).store.settings.channels[d] = s.store.settings.channels[d] := by
  have : c.val ≠ d.val := fun e => h (Fin.ext e.symm)
  simp [State.setChan, this]

/-! # The EVENT commands that configure (R87, R293 to R296, R299) -/

/-- The range checks of CONFIGURE's arguments (R293) pass. -/
theorem configureRange_pass {a : Bytes} (h0 : u8 a 0 ≤ 31) (hp : maskOk producers (BitVec.ofNat 64 (fld a 4 8)) = true)
    (hk : maskOk consumers (BitVec.ofNat 64 (fld a 12 8)) = true) (hw : bit (fld a 12 8) 0 = true → u8 a 0 < 8)
    (hf : (bit (fld a 4 8) 5 && bit (fld a 12 8) 2) = false) : configureRange a = false := by
  have hwake : (bit (fld a 12 8) 0 && decide (7 < u8 a 0)) = false := by
    cases hb : bit (fld a 12 8) 0
    · rfl
    · simpa using Nat.le_of_lt_succ (hw hb)
  have h31 : decide (31 < u8 a 0) = false := decide_eq_false (Nat.not_lt.mpr h0)
  simp only [configureRange, ofNat_getLsbD, Nat.reduceLT, h31, hp, hk, hwake, hf, Bool.not_true, Bool.or_self]

theorem eventRows_enter :
    entersMeasure .eventConfigure 0x0901 .rt (fun _ a => a.length = 20 ∧ u8 a 0 ≤ 31 ∧
      maskOk producers (BitVec.ofNat 64 (fld a 4 8)) = true ∧ maskOk consumers (BitVec.ofNat 64 (fld a 12 8)) = true ∧
      (bit (fld a 12 8) 0 = true → u8 a 0 < 8) ∧ (bit (fld a 4 8) 5 && bit (fld a 12 8) 2) = false) ∧
    entersMeasure .eventSetOwner 0x0902 .sec (fun _ a => a.length = 4 ∧ u8 a 0 ≤ 31 ∧ u8 a 1 ≤ 2) ∧
    entersMeasure .eventLock 0x0903 .rt (fun _ a => a.length = 4) ∧
    entersMeasure .eventEvioConfig 0x0904 .mgmt (fun _ a =>
      a.length = 4 ∧ u8 a 0 ≤ 15 ∧ u8 a 1 ≤ 2 ∧ (u8 a 1 = 1 → u8 a 2 % 4 ≠ 0)) ∧
    entersMeasure .eventSetParams 0x0905 .mgmt (fun _ a => a.length = 8 ∧ fld a 0 4 ≤ 86400000 ∧ u8 a 4 ≤ 16) := by
  refine ⟨entersMeasure_of cmdEventConfigure (fun _ _ => rfl) nofun rfl ?_,
    entersMeasure_of cmdEventSetOwner (fun _ _ => rfl) nofun rfl ?_, entersMeasure_of cmdEventLock (fun _ _ => rfl) nofun rfl ?_,
    entersMeasure_of cmdEventEvioConfig (fun _ _ => rfl) nofun rfl ?_,
    entersMeasure_of cmdEventSetParams (fun _ _ => rfl) nofun rfl ?_⟩
  · rintro b a ⟨hl, h0, hp, hk, hw, hf⟩
    have := configureRange_pass h0 hp hk hw hf
    simp [cmdEventConfigure, CmdDef.base, hl, this]
  · rintro b a ⟨hl, h0, h1⟩
    exact ⟨by simp [cmdEventSetOwner, CmdDef.base, hl], by omega, if_neg (by omega)⟩
  · rintro b a hl
    exact ⟨by simp [cmdEventLock, CmdDef.base, hl], by omega, rfl⟩
  · rintro b a ⟨hl, h0, h1, h2⟩
    exact ⟨by simp [cmdEventEvioConfig, CmdDef.base, hl], by omega, if_neg (by omega)⟩
  · rintro b a ⟨hl, h0, h4⟩
    exact ⟨by simp [cmdEventSetParams, CmdDef.base, hl], by omega, if_neg (by omega)⟩

/-! ## At their places -/

section
variable {c : SealedCmd} {s : State}

/-- A configuring EVENT command whose checks at its place pass: it changes nothing there, and waits for the boundary. -/
theorem awaitsBoundary_atPlace {d : CmdDef} (h : s.reaches c d.opcode) (hd : commandOf d.opcode = some d)
    (hk : d.kind = .sealedBoundary) (ha : d.act c s = okay s []) :
    s.atPlace c = (s.sealedOk c []).modStore fun t => { t with boundary := t.boundary ++ [c] } :=
  atPlace_sealedBoundary h hd hk ha rfl (reaches_calm h)

theorem configure_atPlace {ch : Fin 32} (h : s.reaches c 0x0901) (hc : u8 c.cmd.args 0 = ch)
    (hr : configureRange c.cmd.args = false) (hs : bit (fld c.cmd.args 12 8) 2 = true → (s.chan ch).cfg.secure = true)
    (hm : s.mayUseSecure c.cmd.mailbox ch = true) (hl : (s.chan ch).locked = false) :
    s.atPlace c = (s.sealedOk c []).modStore fun t => { t with boundary := t.boundary ++ [c] } := by
  refine awaitsBoundary_atPlace (d := cmdEventConfigure) h rfl rfl ?_
  have hfreeze : (bit (fld c.cmd.args 12 8) 2 && !(s.chan ch).cfg.secure) = false := by
    cases hb : bit (fld c.cmd.args 12 8) 2
    · rfl
    · simp [hs hb]
  have hok : configureCheck c s = .ok := by
    simp only [configureCheck, chanArg_of hc, hr, configureArgs, ofNat_getLsbD, Nat.reduceLT, hfreeze, hm, hl, Bool.not_true,
      Bool.or_self, Bool.false_eq_true, if_false]
  show (s, configureCheck c s, []) = _
  rw [hok]
  rfl

theorem setOwner_atPlace {ch : Fin 32} (h : s.reaches c 0x0902) (hc : u8 c.cmd.args 0 = ch) (hl : (s.chan ch).locked = false) :
    s.atPlace c = (s.sealedOk c []).modStore fun t => { t with boundary := t.boundary ++ [c] } :=
  awaitsBoundary_atPlace (d := cmdEventSetOwner) h rfl rfl (by simp [cmdEventSetOwner, CmdDef.base, chanArg_of hc, hl])

theorem evioConfig_atPlace (h : s.reaches c 0x0904) (hl : s.ballLocked (u8 c.cmd.args 0) = false) :
    s.atPlace c = (s.sealedOk c []).modStore fun t => { t with boundary := t.boundary ++ [c] } :=
  awaitsBoundary_atPlace (d := cmdEventEvioConfig) h rfl rfl (by simp [cmdEventEvioConfig, CmdDef.base, hl])

theorem setParams_atPlace (h : s.reaches c 0x0905) :
    s.atPlace c = (s.sealedOk c []).modStore fun t => { t with boundary := t.boundary ++ [c] } :=
  awaitsBoundary_atPlace (d := cmdEventSetParams) h rfl rfl rfl

/-- The state with the channels of the mask locked. -/
def withLocked (s : State) (m : Nat) : State := (chanMask m).foldl (fun t ch => t.modChan ch fun h => { h with locked := true }) s

theorem withLocked_eq (s : State) (m : Nat) :
    withLocked s m = { s with fabric := { s.fabric with chans := (withLocked s m).fabric.chans } } := foldl_modChan_eq ..

theorem withLocked_chan (s : State) (m : Nat) (d : Fin 32) :
    (withLocked s m).chan d = { s.chan d with locked := (s.chan d).locked || bit m d } := by
  rw [withLocked, foldl_modChan_chan _ (chanMask_nodup m)]
  simp only [mem_chanMask]
  cases bit m d <;> simp

theorem lock_atPlace (h : s.reaches c 0x0903)
    (hm : ∀ ch : Fin 32, bit (fld c.cmd.args 0 4) ch = true → s.mayUse c.cmd.mailbox ch = true) :
    s.atPlace c = (withLocked s (fld c.cmd.args 0 4)).sealedOk c (be 4 (withLocked s (fld c.cmd.args 0 4)).lockedMask) := by
  have heq := withLocked_eq s (fld c.cmd.args 0 4)
  refine atPlace_sealedNow (d := cmdEventLock) h rfl rfl ?_ (by rw [heq]) (by rw [heq]; exact reaches_calm h)
  have hall : ((chanMask (fld c.cmd.args 0 4)).all fun ch => s.mayUse c.cmd.mailbox ch) = true :=
    List.all_eq_true.mpr fun ch hch => hm ch (mem_chanMask.mp hch)
  show lockChannels c s = _
  simp only [lockChannels, hall, Bool.not_true, Bool.false_eq_true, if_false]
  rfl

end

/-! ## At the boundary -/

section
variable {c : SealedCmd} {s : State}

/-- CONFIGURE at the boundary: the channel's configuration in force and in the settings, and its pending bits. -/
theorem configure_later {ch : Fin 32} (hc : u8 c.cmd.args 0 = ch) :
    ∃ t, cmdEventConfigure.later c s = (t, .ok, []) ∧
      (t.chan ch).cfg = configureArgs c.cmd.args (s.chan ch).cfg ∧
      t.store.settings.channels[ch] = configureArgs c.cmd.args s.store.settings.channels[ch] ∧
      (∀ k, (t.chan ch).pending.getLsbD k = ((s.chan ch).pending.getLsbD k && (t.chan ch).cfg.consumers.getLsbD k)) ∧
      (∀ d, d ≠ ch → t.chan d = s.chan d ∧ t.store.settings.channels[d] = s.store.settings.channels[d]) ∧
      t = { s with fabric := { s.fabric with chans := t.fabric.chans }
                   store := { s.store with settings := { s.store.settings with channels := t.store.settings.channels } } } := by
  refine ⟨(s.setChan ch (configureArgs c.cmd.args)).modChan ch fun h => { h with pending := h.pending &&& h.cfg.consumers },
    ?_, ?_, setChan_settings s ch _, fun k => ?_, fun d hd => ⟨?_, setChan_settings_other s _ hd⟩, rfl⟩
  · show configureApply c s = _
    simp only [configureApply, chanArg_of hc]
    rfl
  · rw [modChan_chan, setChan_chan]
  · rw [modChan_chan, setChan_chan, BitVec.getLsbD_and]
  · rw [modChan_other _ _ _ _ hd, setChan_chan_other _ _ hd]

theorem setOwner_later {ch : Fin 32} {o : Owner} (hc : u8 c.cmd.args 0 = ch) (ho : Owner.ofNum (u8 c.cmd.args 1) = some o) :
    cmdEventSetOwner.later c s =
      (s.setChan ch fun g => { g with owner := o, secure := bit (u8 c.cmd.args 2) 0 }, .ok, []) := by
  simp only [cmdEventSetOwner, chanArg_of hc, ho]
  rfl

/-- The balls with EVIO_CONFIG's one set (R299). -/
def ballSet (a : Bytes) (v : Vector EvioCfg 16) : Vector EvioCfg 16 :=
  Vector.ofFn fun i : Fin 16 => if i.val = u8 a 0 then evioArgs a else v[i]

theorem ballSet_get (a : Bytes) (v : Vector EvioCfg 16) (d : Fin 16) :
    (ballSet a v)[d] = if d.val = u8 a 0 then evioArgs a else v[d] := by
  simp [ballSet]

/-- EVIO_CONFIG at the boundary: the ball in force and in the settings, and its level. -/
theorem evioConfig_later {b : Fin 16} (hb : u8 c.cmd.args 0 = b) :
    ∃ t, cmdEventEvioConfig.later c s = (t, .ok, []) ∧ t.fabric.evio[b] = evioArgs c.cmd.args ∧
      t.store.settings.evio[b] = evioArgs c.cmd.args ∧
      (∀ d, d ≠ b → t.fabric.evio[d] = s.fabric.evio[d] ∧ t.store.settings.evio[d] = s.store.settings.evio[d]) ∧
      t.fabric.level.getLsbD b = (s.fabric.level.getLsbD b && u8 c.cmd.args 1 == 1) ∧
      (∀ d : Fin 16, d ≠ b → t.fabric.level.getLsbD d = s.fabric.level.getLsbD d) ∧ t.fabric.chans = s.fabric.chans := by
  have hat (v : Vector EvioCfg 16) : (ballSet c.cmd.args v)[b] = evioArgs c.cmd.args := by simp only [ballSet_get, hb, if_true]
  have hne {d : Fin 16} (hd : d ≠ b) : d.val ≠ b.val := fun e => hd (Fin.ext e)
  have hother (v : Vector EvioCfg 16) {d : Fin 16} (hd : d ≠ b) : (ballSet c.cmd.args v)[d] = v[d] := by
    simp only [ballSet_get, hb, if_neg (hne hd)]
  refine ⟨_, rfl, hat _, hat _, fun d hd => ⟨hother _ hd, hother _ hd⟩, ?_, fun d hd => ?_, rfl⟩
  · show (if u8 c.cmd.args 1 = 1 then s.fabric.level else setBit16 s.fabric.level (u8 c.cmd.args 0) false).getLsbD b = _
    split
    · next h => simp [h]
    · next h => rw [hb, setBit16_getLsbD _ b.isLt, if_pos rfl, beq_eq_false_iff_ne.mpr h, Bool.and_false]
  · show (if u8 c.cmd.args 1 = 1 then s.fabric.level else setBit16 s.fabric.level (u8 c.cmd.args 0) false).getLsbD d = _
    split
    · rfl
    · rw [hb, setBit16_getLsbD _ b.isLt, if_neg (hne hd)]

end

/-- Settles O19: each row enters the open measure; at its place it waits for the boundary, where its channel or ball is set. LOCK
locks the channels of its mask one after the other. -/
theorem eventConfigurationsComplete : Obligations.EventConfigurationsComplete := by
  unfold Obligations.EventConfigurationsComplete
  obtain ⟨e1, e2, e3, e4, e5⟩ := eventRows_enter
  refine ⟨e1, e2, e3, e4, e5, ?_, ?_⟩
  · rintro c s a rfl
    refine ⟨fun ch h hc hp hk hw hf hs hm hl => ?_, fun ch => setOwner_atPlace, evioConfig_atPlace, setParams_atPlace, ?_⟩
    · have hr := configureRange_pass (by omega) hp hk (fun hb => hc ▸ hw hb) hf
      exact configure_atPlace h hc hr hs hm hl
    · rintro t h hm rfl
      rw [lock_atPlace h hm]
      exact ⟨withLocked_chan s _,
        congrArg (State.sealedOk · c (be 4 (withLocked s (fld c.cmd.args 0 4)).lockedMask)) (withLocked_eq s _)⟩
  · rintro c s a rfl
    refine ⟨fun ch => configure_later, fun ch o hc ho => ⟨_, setOwner_later hc ho, setChan_chan s ch _, setChan_settings s ch _,
      fun d hd => ⟨setChan_chan_other s _ hd, setChan_settings_other s _ hd⟩, rfl⟩, fun b => evioConfig_later, rfl⟩

end Sys2Proof.Laws
end

section
namespace Sys2Proof.Laws
open Sys2Proof Sys2Proof.Machine

/-! # The immediate EVENT commands (R285, R287, R297, R298) -/

/-- Events into the channels of a predicate, as a list of them makes them. -/
theorem injectAll_filter (s : State) (p : Fin 32 → Bool) {q : Fin 32 → Prop} (h : ∀ c, q c ↔ p c = true) :
    s.injects (s.injectAll ((List.finRange 32).filter p)) q := by
  have hq : q = (· ∈ (List.finRange 32).filter p) := by
    funext c
    simp [h c]
  rw [hq]
  exact injectAll_injects s _ ((List.nodup_finRange 32).filter _)

/-- Events leave the mailboxes alone: they are the same events whatever the mailboxes hold. -/
theorem injects_withMbx {s t : State} {q : Fin 32 → Prop} (h : s.injects t q) (m : Vector Mailbox 8) :
    ({ s with mbx := m } : State).injects { t with mbx := m } q := by
  obtain ⟨heq, hin, hout, hold, hnew⟩ := h
  exact ⟨congrArg (fun t : State => { t with mbx := m }) heq, hin, hout, hold, hnew⟩

theorem channelRuns_service {s : State} (hm : s.power.mode = .service) (hr : s.power.inReset = false) (c : Nat) :
    s.channelRuns c = true := by
  simp [State.channelRuns, hm, hr]

section
variable {c : Cmd} {s : State}

/-- The granted command's mailbox may use every channel of the mask. -/
theorem mask_allowed (op : Nat) (h : ∀ ch : Fin 32, bit (fld c.args 0 4) ch = true → s.mayUseSecure c.mailbox ch = true) :
    ((chanMask (fld c.args 0 4)).all fun ch => (s.granted c op).mayUseSecure c.mailbox ch) = true :=
  List.all_eq_true.mpr fun ch hch => h ch (mem_chanMask.mp hch)

theorem trigger_completes (h : s.ready c .rt) (hl : c.args.length = 4)
    (hm : ∀ ch : Fin 32, bit (fld c.args 0 4) ch = true → s.mayUseSecure c.mailbox ch = true) :
    completes (.eventTrigger c) s fun t =>
      (s.answered c 0x0906 []).injects t fun ch => bit (fld c.args 0 4) ch = true ∧ (s.chan ch).cfg.enable = true := by
  have hinj := injectAll_filter (s.granted c 0x0906)
    (fun ch => ((s.chan ch).cfg.enable && s.channelRuns ch) && bit (fld c.args 0 4) ch)
    (q := fun ch => bit (fld c.args 0 4) ch = true ∧ (s.chan ch).cfg.enable = true)
    fun ch => by simp [channelRuns_service h.1 h.2.1, and_comm]
  refine ⟨_, congrArg Host.Outcome.next (run_immediate (d := cmdEventTrigger) h rfl rfl (by simp [cmdEventTrigger, CmdDef.base, hl])
    (by omega) rfl ?_ (congrArg State.mbx hinj.1 :)), injects_withMbx hinj _⟩
  show triggerChannels ⟨0x0906, c, 0, s.tb.measure⟩ (s.granted c 0x0906) = _
  simp only [triggerChannels, mask_allowed 0x0906 hm, Bool.not_true, Bool.false_eq_true, if_false]
  rw [chanMask, List.filter_filter]
  rfl

theorem query_completes {ch : Fin 32} (h : s.ready c .rt) (hl : c.args.length = 4) (hc : u8 c.args 0 = ch)
    (hm : s.mayUseSecure c.mailbox ch = true) :
    exec (.eventQuery c) s = .next (s.answered c 0x0907 ((s.chan ch).query ch)) := by
  refine congrArg Host.Outcome.next (run_read (d := cmdEventQuery) h rfl rfl (by simp [cmdEventQuery, CmdDef.base, hl])
    (by omega) (if_neg (by omega)) ?_)
  simp only [cmdEventQuery, CmdDef.base, chanArg_of hc]
  exact if_pos hm

theorem clear_completes (h : s.ready c .rt) (hl : c.args.length = 4)
    (hm : ∀ ch : Fin 32, bit (fld c.args 0 4) ch = true → s.mayUseSecure c.mailbox ch = true) :
    completes (.eventClear c) s fun t =>
      (∀ ch, t.chan ch = if bit (fld c.args 0 4) ch then (s.chan ch).clear else s.chan ch) ∧
      t = { s.answered c 0x0908 [] with fabric := { s.fabric with chans := t.fabric.chans } } := by
  have heq := foldl_modChan_eq Chan.clear (chanMask (fld c.args 0 4)) (s.granted c 0x0908)
  refine ⟨_, congrArg Host.Outcome.next (run_immediate (d := cmdEventClear) h rfl rfl (by simp [cmdEventClear, CmdDef.base, hl])
    (by omega) rfl ?_ (congrArg State.mbx heq :)), fun ch => ?_,
    (congrArg (fun t : State => { t with mbx := (s.answered c 0x0908 []).mbx }) heq :)⟩
  · show clearChannels ⟨0x0908, c, 0, s.tb.measure⟩ (s.granted c 0x0908) = _
    simp only [clearChannels, mask_allowed 0x0908 hm, Bool.not_true, Bool.false_eq_true, if_false]
    rfl
  · refine (foldl_modChan_chan Chan.clear (chanMask_nodup _) (s.granted c 0x0908) ch).trans ?_
    simp only [mem_chanMask]
    rfl

end

/-! # The steps of the event fabric (R285, R289, R290, R293, R294, R299) -/

/-! ## Pulses -/

theorem pulse_level (s : State) (p : Nat) : (s.pulse p).fabric.level = s.fabric.level :=
  foldl_keeps (p := fun t : State => t.fabric.level) (f := State.inject) (fun _ _ => rfl) _ s

/-- No event: nothing has changed. -/
theorem injects_none {s : State} {q : Fin 32 → Prop} (h : ∀ c, ¬ q c) : s.injects s q :=
  ⟨rfl, fun c hc => absurd hc (h c), fun _ _ => rfl, fun _ hp => hp, fun c _ hc => absurd hc (h c)⟩

theorem selects_iff {e : EvioCfg} (hd : e.dir = 1) (rising : Bool) :
    e.selects rising = true ↔ e.edge = 3 ∨ e.edge = if rising then 1 else 2 := by
  simp [EvioCfg.selects, hd]

/-- The state in which a ball shows the level after its edge. -/
def levelShown (s : State) (ball : Fin 16) (rising : Bool) : State :=
  s.modFabric fun g => { g with level := setBit16 g.level ball rising }

theorem levelShown_level (s : State) (ball : Fin 16) (rising : Bool) :
    (levelShown s ball rising).fabric.level.getLsbD ball = rising :=
  (setBit16_getLsbD s.fabric.level ball.isLt rising ball).trans (if_pos rfl)

/-- The edge of a ball gives channel `c` an event. -/
def edgeReaches (s : State) (ball : Fin 16) (rising : Bool) (c : Fin 32) : Prop :=
  ((s.fabric.evio[ball]).edge = 3 ∨ (s.fabric.evio[ball]).edge = if rising then 1 else 2) ∧
    (s.chan c).cfg.enable = true ∧ (s.chan c).cfg.producers.getLsbD (8 + ball.val) = true

section
variable {s : State} {ball : Fin 16} {rising : Bool} {time : Nat} (hd : (s.fabric.evio[ball]).dir = 1)
  (hm : s.power.mode = .service) (hr : s.power.inReset = false)
include hd hm hr

theorem inputEdge_exec : exec (.evioInputEdge ball rising time) s =
    .next (if (s.fabric.evio[ball]).selects rising then (levelShown s ball rising).pulse (8 + ball)
      else levelShown s ball rising) := by
  show execEvioInputEdge ball rising time s = _
  have hruns : (s.fabric.evio[ball]).dir = 1 ∧ s.power.mode ≠ .recovery ∧ (!s.power.inReset) = true ∧
      (s.power.mode = .custody → ball.val < 8) := ⟨hd, by simp [hm], by simp [hr], by simp [hm]⟩
  unfold execEvioInputEdge
  extract_lets e runs s1
  have hs1 : s1 = levelShown s ball rising := if_pos hruns
  have hcond : (runs ∧ e.selects rising = true) = (e.selects rising = true) := propext (and_iff_right hruns)
  simp only [hs1, hcond]
  rfl

theorem inputEdge_completes : completes (.evioInputEdge ball rising time) s fun t =>
    t.fabric.level.getLsbD ball = rising ∧
    (s.modFabric fun g => { g with level := t.fabric.level }).injects t (edgeReaches s ball rising) := by
  have hsel := selects_iff hd rising
  have hshown := levelShown_level s ball rising
  have hexec := inputEdge_exec (rising := rising) (time := time) hd hm hr
  by_cases h : (s.fabric.evio[ball]).selects rising = true
  · have hlevel := pulse_level (levelShown s ball rising) (8 + ball)
    have hinj := pulse_injects (s := levelShown s ball rising) (p := 8 + ball) (by simp [levelShown, State.producerAlive, hm])
    have hq : (fun c => (levelShown s ball rising).takes (8 + ball) c = true) = edgeReaches s ball rising := by
      funext c
      have hruns : (levelShown s ball rising).channelRuns c = true := channelRuns_service hm hr c
      simp only [edgeReaches, hsel.mp h, true_and, State.takes, hruns, Bool.true_and, Bool.and_eq_true]
      rfl
    rw [if_pos h] at hexec
    refine ⟨_, hexec, by rw [hlevel, hshown], ?_⟩
    rw [hlevel]
    exact hq ▸ hinj
  · rw [if_neg h] at hexec
    exact ⟨_, hexec, hshown, injects_none fun c hq => h (hsel.mpr hq.1)⟩

end

theorem aonTimer_completes {s : State} (h : 0 < s.fabric.aonTimer) : completes .aonTimerExpiry s fun t =>
    s.injects t fun c => s.channelRuns c = true ∧ (s.chan c).cfg.enable = true ∧ (s.chan c).cfg.producers.getLsbD 4 = true := by
  refine ⟨_, congrArg Host.Outcome.next (if_pos h), ?_⟩
  have hinj := pulse_injects (s := s) (p := 4) (by simp [State.producerAlive])
  simpa only [State.takes, Bool.and_eq_true, and_assoc] using hinj

/-! ## An event that finds its consumer busy -/

section
variable {s : State} {c : Fin 32} {k : Fin 64} {keep : Bool} {c' time time' : Nat}

/-- The state in which the event of `c` is no longer on its way to `k`. -/
def arrivedAt (s : State) (c : Fin 32) (k : Fin 64) (keep : Bool) : State :=
  s.modFabric fun g => { g with flight := g.flight.erase (c.val, k.val, keep) }

theorem eventDeliver_exec (hf : s.fabric.flight.find? (fun f => f.1 == c.val && f.2.1 == k.val) = some (c.val, k.val, keep))
    (hp : s.consumerPresent k = true) :
    exec (.eventDeliver c k false time) s = .next ((arrivedAt s c k keep).deliver c k time keep) := by
  show execEventDeliver c k false time s = _
  simp only [execEventDeliver, hf, hp, Bool.not_true, Bool.false_eq_true, if_false]
  rfl

/-- What becomes of an event at a busy consumer (R289, R290). -/
theorem deliver_busy (hb : s.fabric.busy.find? (fun p => p.1 == k.val) = some (k.val, c', time')) :
    s.deliver c k time keep =
      if (s.chan c).pending.getLsbD k then s.modChan c Chan.drop
      else if keep || (time' == time && c' != c.val) then
        s.modChan c fun h => { h with pending := h.pending ||| (1#64 <<< k.val), tsWait := if k.val = 32 then time else h.tsWait }
      else s.modChan c Chan.drop := by
  simp only [State.deliver, hb]

theorem eventDeliver_drops
    (hf : s.fabric.flight.find? (fun f => f.1 == c.val && f.2.1 == k.val) = some (c.val, k.val, keep))
    (hp : s.consumerPresent k = true) (hb : s.fabric.busy.find? (fun p => p.1 == k.val) = some (k.val, c', time'))
    (h : (s.chan c).pending.getLsbD k = true ∨ keep = false ∧ (time' ≠ time ∨ c' = c.val)) :
    exec (.eventDeliver c k false time) s = .next ((arrivedAt s c k keep).modChan c Chan.drop) := by
  rw [eventDeliver_exec hf hp, deliver_busy (s := arrivedAt s c k keep) hb]
  congr 1
  obtain h | ⟨rfl, h⟩ := h
  · exact if_pos h
  · have hwait : (time' == time && c' != c.val) = false := by
      obtain h | h := h <;> simp [h]
    simp only [hwait, Bool.or_self, Bool.false_eq_true, if_false, ite_self]

theorem eventDeliver_waits (hf : s.fabric.flight.find? (fun f => f.1 == c.val && f.2.1 == k.val) = some (c.val, k.val, true))
    (hp : s.consumerPresent k = true) (hb : s.fabric.busy.find? (fun p => p.1 == k.val) = some (k.val, c', time'))
    (hn : (s.chan c).pending.getLsbD k = false) :
    completes (.eventDeliver c k false time) s fun t =>
      (∀ j, (t.chan c).pending.getLsbD j = ((s.chan c).pending.getLsbD j || decide (j = k.val))) ∧
      t.fabric.busy = s.fabric.busy ∧ (t.chan c).overruns = (s.chan c).overruns ∧
      (∀ d, d ≠ c → t.chan d = s.chan d) ∧ t = { s with fabric := t.fabric } := by
  have hn1 : ((arrivedAt s c k true).chan c).pending.getLsbD k = false := hn
  refine ⟨_, eventDeliver_exec hf hp, ?_⟩
  rw [deliver_busy (s := arrivedAt s c k true) hb, hn1, if_neg Bool.false_ne_true, Bool.true_or, if_pos rfl]
  refine ⟨fun j => ?_, rfl, ?_, fun d hd => ?_, rfl⟩
  · rw [modChan_chan, BitVec.getLsbD_or, oneShift_getLsbD k.isLt]
    rfl
  · rw [modChan_chan]
    rfl
  · rw [modChan_other _ _ _ _ hd]
    rfl

end

/-! ## A consumer that completes (R290) -/

/-- The lowest channel that a predicate names. -/
theorem find_lowest {p : Fin 32 → Bool} {c : Fin 32} (h : p c = true) (hlow : ∀ d, d < c → p d = false) :
    (List.finRange 32).find? p = some c :=
  Fin.find?_eq_find?_finRange.symm.trans (Fin.find?_eq_some_iff.mpr ⟨h, hlow⟩)

theorem actionComplete_exec {s : State} {k : Fin 64} (hb : s.fabric.isBusy k = true) (h2 : k.val ≠ 2) :
    exec (.consumerActionComplete k) s = .next (s.finish k) := by
  show execConsumerActionComplete k s = _
  simp [execConsumerActionComplete, hb, h2]

/-- The state with consumer `k` idle: its action has ended, and the pulse of its ball with it. -/
def idled (s : State) (k : Nat) : State :=
  s.modFabric fun g =>
    { g with
      busy := g.busy.filter fun p => p.1 != k
      level := if 8 ≤ k ∧ k ≤ 23 ∧ s.ballOut k ∧ !s.ballToggles k then setBit16 g.level (k - 8) false else g.level }

theorem idled_isBusy (s : State) (k : Nat) : (idled s k).fabric.isBusy k = false := by
  simp [idled, Fabric.isBusy, State.modFabric]

theorem finish_idle {s : State} {k : Nat} (h : ∀ c, (s.chan c).pending.getLsbD k = false) : s.finish k = idled s k := by
  unfold State.finish
  extract_lets s1
  have hnone : ((List.finRange 32).find? fun c => (s1.chan c).pending.getLsbD k) = none :=
    List.find?_eq_none.mpr fun c _ => (Bool.not_eq_true _).mpr (h c)
  simp only [hnone]
  rfl

/-- The state with the pending event of `c` at `k` taken up. -/
def takenUp (s : State) (c : Fin 32) (k : Nat) : State :=
  (idled s k).modChan c fun h => { h with pending := h.pending &&& ~~~(1#64 <<< k) }

theorem finish_next {s : State} {k : Nat} {c : Fin 32} (h : (s.chan c).pending.getLsbD k = true)
    (hlow : ∀ d, d < c → (s.chan d).pending.getLsbD k = false) :
    s.finish k = (takenUp s c k).act c k (if k = 32 then (s.chan c).tsWait else 0) := by
  unfold State.finish
  extract_lets s1
  have hsome : ((List.finRange 32).find? fun c => (s1.chan c).pending.getLsbD k) = some c := find_lowest h hlow
  simp only [hsome]
  rfl

theorem takenUp_pending (s : State) (c : Fin 32) (k : Fin 64) (j : Nat) :
    ((takenUp s c k).chan c).pending.getLsbD j = ((s.chan c).pending.getLsbD j && decide (j ≠ k.val)) := by
  have hidle : (idled s k).chan c = s.chan c := rfl
  rw [takenUp, modChan_chan, hidle, clearBit_getLsbD k.isLt]

theorem takenUp_other (s : State) {c d : Fin 32} (k : Nat) (h : d ≠ c) : (takenUp s c k).chan d = s.chan d :=
  modChan_other (idled s k) c d (fun h => { h with pending := h.pending &&& ~~~(1#64 <<< k) }) h

/-- A report to the host or the pulse of a ball: the consumer is busy with it, and the channels are as they were (Table 11.2). -/
theorem act_occupies {k : Nat} (h0 : k ≠ 0) (h2 : k ≠ 2) (h32 : k ≠ 32) (h33 : k ≠ 33) (s : State) (c : Fin 32) (time : Nat) :
    (s.act c k time).fabric.chans = s.fabric.chans ∧ (k, c.val, time) ∈ (s.act c k time).fabric.busy := by
  unfold State.act
  split
  · exact absurd rfl h0
  · exact ⟨rfl, List.mem_append_right _ (List.mem_singleton_self _)⟩
  · exact absurd rfl h2
  · exact absurd rfl h32
  · exact absurd rfl h33
  · refine ⟨?_, List.mem_append_right _ (List.mem_singleton_self _)⟩
    split <;> rfl

/-- TIMESTAMP: the channel's timestamp is the time of the pulse, and the consumer is busy (R298). -/
theorem act_timestamp (s : State) (c : Fin 32) (time : Nat) :
    ((s.act c 32 time).chan c).ts = time ∧ (s.act c 32 time).fabric.isBusy 32 = true := by
  refine ⟨congrArg Chan.ts (modChan_chan s c fun h => { h with ts := time }), ?_⟩
  simp [State.act, State.modFabric, Fabric.isBusy]

section
variable {s : State} {k : Fin 64} {c : Fin 32} (hb : s.fabric.isBusy k = true) (h2 : k.val ≠ 2)
include hb h2

theorem actionComplete_idles (h : ∀ c, (s.chan c).pending.getLsbD k = false) :
    completes (.consumerActionComplete k) s fun t =>
      t.fabric.isBusy k = false ∧ t.fabric.chans = s.fabric.chans ∧ t = { s with fabric := t.fabric } :=
  ⟨idled s k, (actionComplete_exec hb h2).trans (congrArg _ (finish_idle h)), idled_isBusy s k, rfl, rfl⟩

theorem actionComplete_starts (h : (s.chan c).pending.getLsbD k = true) (hlow : ∀ d, d < c → (s.chan d).pending.getLsbD k = false)
    (h0 : k.val ≠ 0) (h32 : k.val ≠ 32) (h33 : k.val ≠ 33) :
    completes (.consumerActionComplete k) s fun t =>
      (∀ j, (t.chan c).pending.getLsbD j = ((s.chan c).pending.getLsbD j && decide (j ≠ k.val))) ∧
      (∀ d, d ≠ c → (t.chan d).pending = (s.chan d).pending) ∧ (k.val, c.val, 0) ∈ t.fabric.busy := by
  obtain ⟨hchans, hmem⟩ := act_occupies h0 h2 h32 h33 (takenUp s c k) c 0
  have hchan (d : Fin 32) : ((takenUp s c k).act c k 0).chan d = (takenUp s c k).chan d := by
    simp only [State.chan, hchans]
  refine ⟨_, (actionComplete_exec hb h2).trans (congrArg _ (finish_next h hlow)), ?_⟩
  rw [if_neg h32]
  refine ⟨fun j => ?_, fun d hd => ?_, hmem⟩
  · rw [hchan, takenUp_pending]
  · rw [hchan, takenUp_other s _ hd]

theorem actionComplete_timestamps (hk : k.val = 32) (h : (s.chan c).pending.getLsbD k = true)
    (hlow : ∀ d, d < c → (s.chan d).pending.getLsbD k = false) :
    completes (.consumerActionComplete k) s fun t => (t.chan c).ts = (s.chan c).tsWait ∧ t.fabric.isBusy k = true := by
  refine ⟨_, (actionComplete_exec hb h2).trans (congrArg _ (finish_next h hlow)), ?_⟩
  rw [if_pos hk, hk]
  exact act_timestamp _ c _

end

/-- Settles O20: the immediate commands from their effect on the granted state; an edge and the timer from their pulse; a busy
consumer's event from what delivery makes of it; a completed action from the lowest pending channel. -/
theorem eventFabricCompletes : Obligations.EventFabricCompletes := by
  unfold Obligations.EventFabricCompletes
  refine ⟨fun c s h hl => ⟨trigger_completes h hl, fun ch => query_completes h hl, clear_completes h hl⟩, fun s =>
    ⟨fun ball rising time => inputEdge_completes, aonTimer_completes, ?_, ?_⟩⟩
  · rintro c k keep c' time time' hf hp hb
    exact ⟨eventDeliver_drops hf hp hb, fun hn hk => eventDeliver_waits (hk ▸ hf) hp hb hn⟩
  · intro k hb h2
    exact ⟨actionComplete_idles hb h2, fun c => actionComplete_starts hb h2, fun c => actionComplete_timestamps hb h2⟩

end Sys2Proof.Laws
end

section
namespace Sys2Proof.Laws
open Sys2Proof Sys2Proof.Machine

/-! # The power balls and the watchdog's warning (R304, R306, R322, R324, R419) -/

theorem noteHoldup_service {s : State} (hh : s.power.holdupOk = false) (hs : s.inService = true) :
    s.noteHoldup = (s.modPower fun p => { p with holdupLow := true }).report 0x0103 1 [] :=
  if_pos (by simp [hh, hs])

theorem noteHoldup_idle {s : State} (hs : s.inService = false) : s.noteHoldup = s := if_neg (by simp [hs])

theorem pulse_inService (s : State) (p : Nat) : (s.pulse p).inService = s.inService := by
  simp only [State.inService, power_of_quiet (pulse_quiet s p)]

/-- HOLDUP_OK falls: producer 2 pulses, and in Service HOLDUP_LOW is set with its entry (R304). -/
theorem holdupOkFall_completes (s : State) :
    ∃ u, (s.modPower fun p => { p with holdupOk := false }).injects u (fun c => s.takes 2 c = true) ∧
      (s.inService = true → exec .holdupOkFall s = .next ((u.modPower fun p => { p with holdupLow := true }).report 0x0103 1 [])) ∧
      (s.inService = false → exec .holdupOkFall s = .next u) := by
  generalize hl : (s.modPower fun p => { p with holdupOk := false }) = low
  have hlow : (low.pulse 2).power.holdupOk = false := by rw [power_of_quiet (pulse_quiet low 2), ← hl]; rfl
  have hservice : (low.pulse 2).inService = s.inService := (pulse_inService low 2).trans (by rw [← hl]; rfl)
  have hexec : exec .holdupOkFall s = .next (low.pulse 2).noteHoldup := by rw [← hl]; rfl
  refine ⟨low.pulse 2, ?_, fun hs => ?_, fun hs => ?_⟩
  · have hinj := pulse_injects (s := low) (p := 2) (by simp [State.producerAlive])
    exact hl ▸ hinj
  · rw [hexec, noteHoldup_service hlow (hservice.trans hs)]
  · rw [hexec, noteHoldup_idle (hservice.trans hs)]

/-- The watchdog warns while it runs: its entry names the core, and producer 46 pulses (R306). -/
theorem wdogWarn_completes {s : State} (core : Fin 4) (hc : s.power.mode ≠ .custody) (hr : s.power.inReset = false)
    (hp : s.power.wdogPaused = false) : completes (.wdogWarn core) s fun t =>
      ((s.modPower fun p => { p with lastServe := core }).report 0x0108 1 (be 1 core)).injects t fun c => s.takes 46 c = true := by
  exact ⟨_, if_neg (by simp [hc, hr, hp]), pulse_injects (by simp [State.producerAlive, State.report, hc])⟩

/-- Settles O46: each ball's row by its pulse, and the held reset's end by its guard. -/
theorem powerBallsComplete : Obligations.PowerBallsComplete := by
  unfold Obligations.PowerBallsComplete
  exact fun s => ⟨holdupOkFall_completes s,
    ⟨_, rfl, pulse_injects (s := s.modPower fun p => { p with thermAlert := true }) (p := 3) (by simp [State.producerAlive])⟩,
    rfl, fun tj ht => if_pos ht, fun core => wdogWarn_completes core⟩

end Sys2Proof.Laws
end

section
namespace Sys2Proof.Laws
open Sys2Proof Sys2Proof.Machine

/-! # What Coda's writing leaves (R355 to R360)

Entries, triggers, freezes, records and the vault change Coda, the event fabric, the count of free values and, in Custody, the
extrapolated count of measures alone. -/

/-- A state without what Coda's writing changes. -/
def offCoda (s : State) : State :=
  { s with fabric := .reset, coda := .reset, fresh := 0, tb := { s.tb with extrapolated := 0 } }

@[simp] theorem foldl_offCoda {α : Type} {f : State → α → State} (h : ∀ t a, offCoda (f t a) = offCoda t) (l : List α) (s : State) :
    offCoda (l.foldl f s) = offCoda s := foldl_keeps h l s
@[simp] theorem ite_offCoda {c : Prop} [Decidable c] {a b : State} :
    offCoda (if c then a else b) = if c then offCoda a else offCoda b := apply_ite ..
@[simp] theorem modCoda_offCoda (s : State) (f : Coda → Coda) : offCoda (s.modCoda f) = offCoda s := by rfl
@[simp] theorem modFabric_offCoda (s : State) (f : Fabric → Fabric) : offCoda (s.modFabric f) = offCoda s := by rfl
@[simp] theorem modChan_offCoda (s : State) (c : Fin 32) (f : Chan → Chan) : offCoda (s.modChan c f) = offCoda s := by rfl
@[simp] theorem draw_offCoda (s : State) (bits : Nat) : offCoda (s.draw bits).2 = offCoda s := by rfl
@[simp] theorem inject_offCoda (s : State) (c : Fin 32) : offCoda (s.inject c) = offCoda s := by rfl
@[simp] theorem pulse_offCoda (s : State) (p : Nat) : offCoda (s.pulse p) = offCoda s := by
  simp [State.pulse, State.pulseAll, State.injectAll]
theorem extrapolated_offCoda (s : State) (k : Nat) :
    offCoda (s.modTb fun t => { t with extrapolated := t.extrapolated + k }) = offCoda s := by
  rfl
@[simp] theorem extrapolate_offCoda (s : State) : offCoda s.extrapolate = offCoda s := by
  unfold State.extrapolate
  split
  · exact (extrapolated_offCoda (s.draw 48).2 _).trans (draw_offCoda ..)
  · rfl
@[simp] theorem writeEntry_offCoda (s : State) (code source : Nat) (secure trigger post : Bool) (payload : Bytes) :
    offCoda (s.writeEntry code source secure trigger post payload) = offCoda s := by
  simp [State.writeEntry]
@[simp] theorem trigger_offCoda (s : State) (b code seq note : Nat) : offCoda (s.trigger b code seq note) = offCoda s := by
  unfold State.trigger
  split <;> simp

/-- CODA_FREEZE, consumer 2, ends its action and starts the next. -/
theorem finishFreeze_offCoda (s : State) : offCoda (s.finish 2) = offCoda s := by
  unfold State.finish
  extract_lets s1
  split
  · rfl
  · simp [State.act, s1]

@[simp] theorem completeFreeze_offCoda (s : State) (reason : Nat) : offCoda (s.completeFreeze reason) = offCoda s := by
  simp [State.completeFreeze, finishFreeze_offCoda]
@[simp] theorem accept_offCoda (s : State) (r : Report14) : offCoda (s.accept r) = offCoda s := by
  unfold State.accept
  split
  · rfl
  · extract_lets post s1 s2 s3
    have h2 : offCoda s2 = offCoda s := by simp [s2, s1]
    have h3 : offCoda s3 = offCoda s := by
      simp only [s3]
      cases r.trigger <;> simp [h2]
    simp [h3]
@[simp] theorem codaStep_offCoda (others : Nat) (s : State) : offCoda (s.codaStep others) = offCoda s := by
  unfold State.codaStep
  split <;> simp
@[simp] theorem endHold_offCoda (s : State) : offCoda s.endHold = offCoda s := by
  simp only [State.endHold]
  split <;> split <;> simp
@[simp] theorem copyRecord_offCoda (s : State) : offCoda s.copyRecord = offCoda s := by simp [State.copyRecord]
@[simp] theorem codaDrain_offCoda (s : State) : offCoda s.codaDrain = offCoda s := by simp [State.codaDrain]
@[simp] theorem flushVault_offCoda (s : State) : offCoda s.flushVault = offCoda s := by
  unfold State.flushVault
  split <;> rfl
@[simp] theorem codaCustody_offCoda (s : State) : offCoda s.codaCustody = offCoda s := by simp [State.codaCustody]

end Sys2Proof.Laws
end

section
namespace Sys2Proof.Laws
open Sys2Proof Sys2Proof.Machine

/-! # Custody is entered (R313 to R315) -/

/-! ## The sessions close -/

@[simp] theorem releaseSession_outside (s : State) (id : Nat) : outside (s.releaseSession id) = outside s := by
  simp [State.releaseSession]
@[simp] theorem closeSession_outside (s : State) (id : Nat) : outside (s.closeSession id) = outside s := by
  simp [State.closeSession]
@[simp] theorem releaseSpill_outside (s : State) : outside s.releaseSpill = outside s := by simp [State.releaseSpill]
@[simp] theorem closeAll_outside (s : State) : outside s.closeAll = outside s := by simp [State.closeAll]

theorem releaseSpill_sessions (s : State) : s.releaseSpill.sessions = s.sessions := by
  unfold State.releaseSpill
  generalize List.finRange 2 = l
  induction l generalizing s with
  | nil => rfl
  | cons p l ih => exact (ih _).trans rfl

/-- A session still open was open before, and is another one. -/
theorem open_of_closeSession {s : State} {id : Nat} {x : Session} (hx : x ∈ (s.closeSession id).sessions) (ho : x.opened = true) :
    x ∈ s.sessions ∧ x.id ≠ id := by
  rw [State.closeSession, (releaseSession_keeps _ id).1] at hx
  obtain ⟨y, hy, rfl⟩ := List.mem_map.mp hx
  by_cases hid : y.id = id
  · simp [hid, Session.shut] at ho
  · simpa [hid] using hy

theorem open_of_closeSessions {l : List Session} {s : State} {x : Session}
    (hx : x ∈ (l.foldl (fun t x => t.closeSession x.id) s).sessions) (ho : x.opened = true) :
    x ∈ s.sessions ∧ ∀ y ∈ l, x.id ≠ y.id := by
  induction l generalizing s with
  | nil => exact ⟨hx, nofun⟩
  | cons y l ih =>
    obtain ⟨hmem, hl⟩ := ih hx
    obtain ⟨hs, hy⟩ := open_of_closeSession hmem ho
    exact ⟨hs, List.forall_mem_cons.mpr ⟨hy, hl⟩⟩

theorem closeAll_closed (s : State) : ∀ x ∈ s.closeAll.sessions, x.opened = false := by
  intro x hx
  rw [State.closeAll, releaseSpill_sessions] at hx
  by_contra ho
  rw [Bool.not_eq_false] at ho
  obtain ⟨hs, hne⟩ := open_of_closeSessions hx ho
  exact hne x (List.mem_filter.mpr ⟨hs, ho⟩) rfl

/-! ## What was executed is durable -/

@[simp] theorem flashCustody_still (s : State) : still s.flashCustody = still s := by simp [State.flashCustody]

/-- Coda drains into the vault and the flash layer becomes durable, with the sessions closed: nothing else of what lasts changes. -/
theorem custodyFlushed_keeps {s v u : State} (hv : v = s.closeAll.codaDrain.codaCustody) (hu : u = v.flashCustody) :
    (∀ x ∈ u.sessions, x.opened = false) ∧ u.store = v.store ∧ u.fuses = s.fuses ∧
    u.tb.measure = s.tb.measure ∧ u.tb.highest = s.tb.highest ∧ u.tb.persisted = s.tb.persisted := by
  have hsteady : steady u = steady s := by simp [hu, hv]
  have hcoda : offCoda v = offCoda s.closeAll := by simp [hv]
  have hflash : still u = still v := by simp [hu]
  have hkept := closeAll_outside s
  have hclosed := closeAll_closed s
  clear hv hu
  generalize s.closeAll = w at *
  have hsessions : u.sessions = w.sessions := (sessions_of_still hflash).trans (congrArg State.sessions hcoda :)
  have hfuses : u.fuses = v.fuses := (congrArg State.fuses hflash :)
  simp only [steady, Prod.mk.injEq] at hsteady
  obtain ⟨hmeasure, hhighest, -, hpersisted, -⟩ := hsteady
  exact ⟨hsessions ▸ hclosed, store_of_still hflash,
    hfuses.trans ((congrArg State.fuses hcoda :).trans (congrArg State.fuses hkept :)), hmeasure, hhighest, hpersisted⟩

/-- Custody, as its entry leaves it. -/
theorem enterCustody_fields {s t : State} (h : t = s.enterCustody) :
    t.power.mode = .custody ∧ t.power.present = false ∧ t.power.alive = true ∧ t.spi.unlocked = false ∧
    (∀ x ∈ t.sessions, x.opened = false) ∧ t.durable = t.store ∧ t.tb.opened = false ∧
    t.tb.persisted = max s.tb.persisted (s.tb.measure - 1) ∧ t.tb.extrapolated = s.tb.measure ∧
    t.tb.highest = s.tb.highest ∧ (t.port 0).phyRun = false ∧ (t.port 1).phyRun = false ∧ t.fuses = s.fuses := by
  unfold State.enterCustody at h
  extract_lets last s1 flushed s2 s3 s4 s5 at h
  obtain ⟨hclosed, hstore, hfuses, hmeasure, hhighest, hpersisted⟩ := custodyFlushed_keeps (v := s1) (u := flushed) rfl rfl
  clear_value s1 flushed
  simpa [h, State.report, s5, s4, s3, s2, last, State.port, Port.down, hstore, hfuses, hmeasure, hhighest, hpersisted] using hclosed

theorem custodyEntryComplete_exec {s : State} {adm : Nat} (hp : s.custodyPlan = some adm) (hr : s.custodyReady adm = true)
    (hw : s.power.wakeKept = none) : exec .custodyEntryComplete s = .next s.enterCustody := by
  show execCustodyEntryComplete s = _
  simp only [execCustodyEntryComplete, hp, hr, hw, if_true]

/-! # Custody is left (R30, R155, R315, R316) -/

/-- The AON count of measures grows, and nothing else of the state changes but the count of free values. -/
theorem extrapolate_eq (s : State) : ∃ n m, s.extrapolate =
    { s with fresh := n, tb := { s.tb with extrapolated := s.tb.extrapolated + m } } := by
  unfold State.extrapolate
  split
  · exact ⟨_, _, rfl⟩
  · exact ⟨s.fresh, 0, rfl⟩

/-- Start-up, as the exit from Custody begins it. -/
theorem exitCustody_fields {s t : State} {source channel : Nat} (h : t = s.exitCustody source channel) :
    t.power.mode = .startup ∧ t.power.inReset = false ∧ t.power.flags = 0x400 ∧ s.tb.extrapolated ≤ t.tb.extrapolated ∧
    t.tb.highest = s.tb.highest ∧ t.mbx = Vector.replicate 8 .reset ∧ t.seq = .reset ∧ t.store = s.store ∧
    t.power.cause = s.power.cause ∧ (t.port 0).phyRun = true ∧ (t.port 1).phyRun = true ∧ t.fuses = s.fuses := by
  obtain ⟨n, m, he⟩ := extrapolate_eq s
  subst h
  rw [State.exitCustody, he]
  exact ⟨rfl, rfl, rfl, Nat.le_add_right .., rfl, rfl, rfl, rfl, rfl, rfl, rfl, rfl⟩

theorem wakeRise_custody {s : State} (h : s.power.mode = .custody) :
    exec .wakeRise s = .next ((s.pulse 0).exitCustody 0 0) := by
  have hm : (s.pulse 0).power.mode = .custody := (congrArg Power.mode (power_of_quiet (pulse_quiet s 0))).trans h
  show Host.Outcome.next ((s.pulse 0).wake 0 0) = _
  simp only [State.wake, hm]

theorem wakeRise_entering {s : State} (h : s.power.mode = .quiesceCustody) (hw : s.power.wakeKept = none) :
    exec .wakeRise s = .next ((s.pulse 0).modPower fun p => { p with wakeKept := some (0, 0) }) := by
  have hp : (s.pulse 0).power = s.power := power_of_quiet (pulse_quiet s 0)
  show Host.Outcome.next ((s.pulse 0).wake 0 0) = _
  simp only [State.wake, State.modPower, hp, h, hw, Option.none_or]

/-- Settles O44: the entry by what it makes durable and closes, the exit by what it restarts, over the pulse of WAKE, which
leaves all but the event fabric. -/
theorem custodyCompletes : Obligations.CustodyCompletes := by
  unfold Obligations.CustodyCompletes
  intro s
  have hpulse : quiet (s.pulse 0) = quiet s := pulse_quiet s 0
  have hpower := power_of_quiet hpulse
  have htb := tb_of_quiet hpulse
  have hstore := store_of_quiet hpulse
  have hfuses : (s.pulse 0).fuses = s.fuses := (congrArg State.fuses hpulse :)
  refine ⟨fun h => if_pos h, fun adm hp hr hw => ?_, fun hm => ?_, fun hm hw => ?_⟩
  · exact ⟨_, custodyEntryComplete_exec hp hr hw, enterCustody_fields rfl⟩
  · refine ⟨_, wakeRise_custody hm, ?_⟩
    have hexit := exitCustody_fields (s := s.pulse 0) (source := 0) (channel := 0) rfl
    rwa [hpower, htb, hstore, hfuses] at hexit
  · refine ⟨_, wakeRise_entering hm hw, ?_, hstore, htb⟩
    exact congrArg (fun p : Power => { p with wakeKept := some (0, 0) }) hpower

end Sys2Proof.Laws
end

section
namespace Sys2Proof.Laws
open Sys2Proof Sys2Proof.Machine

/-! # Fields of byte strings, one behind the other (R3, Tables 4.7, 5.2) -/

theorem drop_append_skip {a : Bytes} {i : Nat} (h : a.length ≤ i) (b : Bytes) : (a ++ b).drop i = b.drop (i - a.length) := by
  rw [List.drop_append, List.drop_eq_nil_of_le h, List.nil_append]

/-- A field that begins behind `a` is a field of what follows `a`. -/
theorem fld_append_skip {a : Bytes} {i : Nat} (h : a.length ≤ i) (b : Bytes) (n : Nat) :
    fld (a ++ b) i n = fld b (i - a.length) n := by
  rw [fld, sub, drop_append_skip h, fld, sub]

theorem fld_cons_skip {i : Nat} (h : 0 < i) (x : Byte) (b : Bytes) (n : Nat) : fld (x :: b) i n = fld b (i - 1) n :=
  fld_append_skip (a := [x]) h b n

/-- The first field reads back where it fits its width. -/
theorem fld_be_append {n v : Nat} (b : Bytes) (h : v < 256 ^ n) : fld (be n v ++ b) 0 n = v := by
  rw [fld, sub, List.drop_zero, List.take_left' (length_be n v), beNat_be, Nat.mod_eq_of_lt h]

/-- The length of the header is fixed (Table 5.2). -/
theorem length_skpHeader (op flags ns keyLen session resv10 seq target status offset length segment resv38 : Nat) :
    (skpHeader op flags ns keyLen session resv10 seq target status offset length segment resv38).length = 40 := by
  simp [skpHeader]

/-- Byte 7 of the header is KEY_LENGTH. -/
theorem u8_encodeRequest_keyLength {r : Request} (h : r.key.length < 256) : u8 (encodeRequest r) 7 = r.key.length := by
  simp [encodeRequest, skpHeader, u8, fld_cons_skip, fld_append_skip, fld_be_append, h]

theorem sub_encodeRequest_key (r : Request) : sub (encodeRequest r) 40 r.key.length = r.key := by
  rw [encodeRequest, List.append_assoc]
  exact sub_append_field (length_skpHeader ..) rfl

theorem drop_encodeRequest_body (r : Request) : (encodeRequest r).drop (40 + r.key.length) = r.body := by
  rw [encodeRequest]
  exact List.drop_left' (by rw [List.length_append, length_skpHeader])

/-- Every number of the header stands at its offset, and key and body behind it (Table 5.2). -/
theorem parseRequest_encodeRequest {r : Request} (h : r.wf = true) : parseRequest r.src (encodeRequest r) = r := by
  simp only [Request.wf, fits, Bool.and_eq_true, decide_eq_true_eq, Nat.reducePow] at h
  obtain ⟨⟨⟨⟨⟨⟨⟨⟨⟨⟨⟨⟨⟨⟨-, hop⟩, hflags⟩, hns⟩, hsession⟩, h10⟩, hseq⟩, htarget⟩, hstatus⟩, hoffset⟩, hlength⟩, hsegment⟩, h38⟩,
    hkey⟩, -⟩ := h
  simp only [parseRequest, u8_encodeRequest_keyLength hkey, sub_encodeRequest_key, drop_encodeRequest_body]
  simp [encodeRequest, skpHeader, u8, fld_cons_skip, fld_append_skip, fld_be_append, *]

/-- Every field of the envelope stands at its offset, and the arguments behind it (Table 4.7). -/
theorem requestEnvelope_fields {op flags : Nat} {c : Cmd} (ho : op < 65536) (hf : flags < 256) (h : c.wf = true) :
    let e := requestEnvelope op c.mailbox flags c.sequence c.args
    fld e 0 2 = op ∧ u8 e 2 = c.mailbox.val ∧ u8 e 3 = flags ∧ fld e 4 4 = c.sequence ∧ fld e 8 2 = c.args.length ∧
    fld e 10 2 = 0 ∧ fld e 12 4 = 0 ∧ e.drop 16 = c.args := by
  simp only [Cmd.wf, fits, Bool.and_eq_true, decide_eq_true_eq, Nat.reducePow] at h
  obtain ⟨hseq, hargs⟩ := h
  have hm : c.mailbox.val < 256 := by omega
  have hl : c.args.length < 65536 := by omega
  simp [requestEnvelope, u8, fld_append_skip, fld_be_append, drop_append_skip, *]

/-- Settles O5: a field reads back behind the fields before it, whose lengths are fixed. -/
theorem headersReadBack : Obligations.HeadersReadBack :=
  ⟨fun _ h => parseRequest_encodeRequest h, fun _ _ _ ho hf h => requestEnvelope_fields ho hf h⟩

/-- Settles O1: both branches of the step. -/
theorem stepRunsFrontCommand : Obligations.StepRunsFrontCommand :=
  ⟨fun _ _ _ => rfl, fun s h => by rw [step, h]⟩

end Sys2Proof.Laws
end

section
namespace Sys2Proof.Laws
open Sys2Proof Sys2Proof.Machine

/-! # What the model's functions keep of the fuses, the board and the queue

Fuses are burnt by two steps of an update and by Start-up; nothing writes the board, and the queue of commands belongs to the
step. `fixed` is what every other function keeps, with one lemma per function of the model, in the model's order. -/

/-- The fuses, the board and the commands that wait. -/
def fixed (s : State) : Fuses × Board × List Instr := (s.fuses, s.board, s.pending)

@[simp] theorem foldl_fixed {α : Type} {f : State → α → State} (h : ∀ t a, fixed (f t a) = fixed t) (l : List α) (s : State) :
    fixed (l.foldl f s) = fixed s := foldl_keeps h l s
@[simp] theorem ite_fixed {c : Prop} [Decidable c] {a b : State} : fixed (if c then a else b) = if c then fixed a else fixed b :=
  apply_ite ..
theorem fst_fixed {α : Type} {s t : State} {p : State × α} {v : α} (h : p = (t, v)) (hp : fixed p.1 = fixed s) : fixed t = fixed s := by
  rw [h] at hp; exact hp
@[simp] theorem ite_fst_fixed {α : Type} {c : Prop} [Decidable c] {a b : State × α} :
    fixed (if c then a else b).1 = if c then fixed a.1 else fixed b.1 := by split <;> rfl
@[simp] theorem withStore_fixed (s : State) (t : Store) : fixed { s with store := t } = fixed s := by rfl
@[simp] theorem withFresh_fixed (s : State) (n : Nat) : fixed { s with fresh := n } = fixed s := by rfl
@[simp] theorem modTb_fixed (s : State) (f : Timebase → Timebase) : fixed (s.modTb f) = fixed s := by rfl
@[simp] theorem modSeq_fixed (s : State) (f : Sequencer → Sequencer) : fixed (s.modSeq f) = fixed s := by rfl

/-! ## Shared operations -/

@[simp] theorem modStore_fixed (s : State) (f : Store → Store) : fixed (s.modStore f) = fixed s := by rfl
@[simp] theorem modSettings_fixed (s : State) (f : Settings → Settings) : fixed (s.modSettings f) = fixed s := by rfl
@[simp] theorem modPower_fixed (s : State) (f : Power → Power) : fixed (s.modPower f) = fixed s := by rfl
@[simp] theorem modCoda_fixed (s : State) (f : Coda → Coda) : fixed (s.modCoda f) = fixed s := by rfl
@[simp] theorem modFlash_fixed (s : State) (f : Flash → Flash) : fixed (s.modFlash f) = fixed s := by rfl
@[simp] theorem modLks_fixed (s : State) (f : LksArray → LksArray) : fixed (s.modLks f) = fixed s := by rfl
@[simp] theorem modFabric_fixed (s : State) (f : Fabric → Fabric) : fixed (s.modFabric f) = fixed s := by rfl
@[simp] theorem modChorus_fixed (s : State) (f : ChorusRun → ChorusRun) : fixed (s.modChorus f) = fixed s := by rfl
@[simp] theorem modNor_fixed (s : State) (f : Nor → Nor) : fixed (s.modNor f) = fixed s := by rfl
@[simp] theorem modCluster_fixed (s : State) (f : Cluster → Cluster) : fixed (s.modCluster f) = fixed s := by rfl
@[simp] theorem modSpi_fixed (s : State) (f : Spi → Spi) : fixed (s.modSpi f) = fixed s := by rfl
@[simp] theorem modPort_fixed (s : State) (p : Fin 2) (f : Port → Port) : fixed (s.modPort p f) = fixed s := by rfl
@[simp] theorem modNet_fixed (s : State) (p : Fin 2) (f : PortNet → PortNet) : fixed (s.modNet p f) = fixed s := by rfl
@[simp] theorem modMbx_fixed (s : State) (m : Fin 8) (f : Mailbox → Mailbox) : fixed (s.modMbx m f) = fixed s := by rfl
@[simp] theorem modChan_fixed (s : State) (c : Fin 32) (f : Chan → Chan) : fixed (s.modChan c f) = fixed s := by rfl
@[simp] theorem count_fixed (s : State) (p : Fin 2) (c : Ctr) (n : Nat) : fixed (s.count p c n) = fixed s := by rfl
@[simp] theorem draw_fixed (s : State) (bits : Nat) : fixed (s.draw bits).2 = fixed s := by rfl
@[simp] theorem drawn_fixed (s : State) : fixed s.drawn = fixed s := by rfl
@[simp] theorem drawnBy_fixed (s : State) (n : Nat) : fixed (s.drawnBy n) = fixed s := by rfl
@[simp] theorem drawSealed_fixed (s : State) (bits : Nat) : fixed (s.drawSealed bits).2 = fixed s := by rfl
@[simp] theorem report_fixed (s : State) (code : Nat) (source : Nat) (payload : Bytes) (trigger : Option Nat) (secure : Bool) :
    fixed (s.report code source payload trigger secure) = fixed s := by
  rfl
@[simp] theorem inject_fixed (s : State) (c : Fin 32) : fixed (s.inject c) = fixed s := by rfl
@[simp] theorem injectAll_fixed (s : State) (cs : List (Fin 32)) : fixed (s.injectAll cs) = fixed s := by simp [State.injectAll]
@[simp] theorem pulseAll_fixed (s : State) (ps : List Nat) : fixed (s.pulseAll ps) = fixed s := by simp [State.pulseAll]
@[simp] theorem pulse_fixed (s : State) (p : Nat) : fixed (s.pulse p) = fixed s := by simp [State.pulse]
@[simp] theorem modUnit_fixed (s : State) (id : Nat) (f : HwUnit → HwUnit) : fixed (s.modUnit id f) = fixed s := by rfl
@[simp] theorem noteViews_fixed (s : State) (id : Nat) (age : Nat) : fixed (s.noteViews id age) = fixed s := by
  unfold State.noteViews
  split <;> simp
@[simp] theorem viewsMoved_fixed (s : State) (id : Nat) (age : Nat) : fixed (s.viewsMoved id age) = fixed s := by
  simp [State.viewsMoved]
@[simp] theorem lowerData_fixed (s : State) (id : Nat) (v : UnitState) : fixed (s.lowerData id v) = fixed s := by
  unfold State.lowerData
  split <;> simp
@[simp] theorem raiseData_fixed (s : State) (id : Nat) (v : UnitState) : fixed (s.raiseData id v) = fixed s := by
  unfold State.raiseData
  split <;> simp
@[simp] theorem degrade_fixed (s : State) (id : Nat) : fixed (s.degrade id) = fixed s := by simp [State.degrade]

/-! ## Resets and modes -/

@[simp] theorem clearSwitched_fixed (s : State) : fixed s.clearSwitched = fixed s := by rfl
@[simp] theorem extrapolate_fixed (s : State) : fixed s.extrapolate = fixed s := by simp [State.extrapolate]
@[simp] theorem exitCustody_fixed (s : State) (source channel : Nat) : fixed (s.exitCustody source channel) = fixed s := by
  have h : fixed s.extrapolate.clearSwitched = fixed s := by simp
  exact h
@[simp] theorem wake_fixed (s : State) (source channel : Nat) : fixed (s.wake source channel) = fixed s := by
  unfold State.wake
  split <;> simp

/-! ## Coda and the consumers of events -/

@[simp] theorem writeEntry_fixed (s : State) (code : Nat) (source : Nat) (secure : Bool) (trigger : Bool) (post : Bool) (payload
    : Bytes) : fixed (s.writeEntry code source secure trigger post payload) = fixed s := by
  simp [State.writeEntry]
@[simp] theorem trigger_fixed (s : State) (b : Nat) (code : Nat) (seq : Nat) (note : Nat) :
    fixed (s.trigger b code seq note) = fixed s := by
  unfold State.trigger
  split <;> simp
@[simp] theorem act_fixed (s : State) (c : Fin 32) (k time : Nat) : fixed (s.act c k time) = fixed s := by
  unfold State.act
  split <;> simp
@[simp] theorem finish_fixed (s : State) (k : Nat) : fixed (s.finish k) = fixed s := by
  simp only [State.finish]
  split <;> simp
@[simp] theorem completeFreeze_fixed (s : State) (reason : Nat) : fixed (s.completeFreeze reason) = fixed s := by
  simp [State.completeFreeze]
@[simp] theorem accept_fixed (s : State) (r : Report14) : fixed (s.accept r) = fixed s := by
  simp only [State.accept]
  (repeat' split) <;> simp
@[simp] theorem codaStep_fixed (others : Nat) (s : State) : fixed (s.codaStep others) = fixed s := by
  unfold State.codaStep
  split <;> simp
@[simp] theorem endHold_fixed (s : State) : fixed s.endHold = fixed s := by
  unfold State.endHold
  (repeat' split) <;> simp
@[simp] theorem copyRecord_fixed (s : State) : fixed s.copyRecord = fixed s := by simp [State.copyRecord]
@[simp] theorem codaDrain_fixed (s : State) : fixed s.codaDrain = fixed s := by simp [State.codaDrain]
@[simp] theorem flushVault_fixed (s : State) : fixed s.flushVault = fixed s := by
  unfold State.flushVault
  split <;> rfl
@[simp] theorem codaStop_fixed (s : State) : fixed s.codaStop = fixed s := by
  simp only [State.codaStop]
  split <;> simp
@[simp] theorem codaCustody_fixed (s : State) : fixed s.codaCustody = fixed s := by simp [State.codaCustody]

/-! ## Transmission -/

@[simp] theorem sendUrgent_fixed (s : State) (p : Fin 2) (f : TxFrame) : fixed (s.sendUrgent p f) = fixed s := by rfl
@[simp] theorem sendTo_fixed (s : State) (src : Source) (data : Bool) (session : Option Nat) (notify : Option Nat) (payload
    : Bytes) : fixed (s.sendTo src data session notify payload) = fixed s := by
  rfl
@[simp] theorem sendPause_fixed (s : State) (p : Fin 2) (quanta : Nat) : fixed (s.sendPause p quanta) = fixed s := by rfl
@[simp] theorem sendPtp_fixed (s : State) (p : Fin 2) (payload : Bytes) : fixed (s.sendPtp p payload) = fixed s := by rfl
@[simp] theorem queueHeartbeat_fixed (s : State) (p : Fin 2) (mode : Nat) (departure : Bool) :
    fixed (s.queueHeartbeat p mode departure) = fixed s := by
  simp [State.queueHeartbeat]
@[simp] theorem queueHeartbeats_fixed (s : State) (mode : Nat) (departure : Bool) : fixed (s.queueHeartbeats mode departure) = fixed s := by
  simp [State.queueHeartbeats]
@[simp] theorem releaseSession_fixed (s : State) (session : Nat) : fixed (s.releaseSession session) = fixed s := by
  simp [State.releaseSession]
@[simp] theorem releaseSpill_fixed (s : State) : fixed s.releaseSpill = fixed s := by simp [State.releaseSpill]

/-! ## Power -/

@[simp] theorem controllerReset_fixed (s : State) (cause : ResetCause) : fixed (s.controllerReset cause) = fixed s := by
  have h : fixed (s.codaDrain.completeFreeze 3).clearSwitched = fixed s := by simp
  exact h
@[simp] theorem stopForm_fixed (s : State) (code : Option ResetCause) : fixed (s.stopForm code) = fixed s := by
  have h : fixed (s.queueHeartbeats 3 true) = fixed s := by simp
  unfold State.stopForm
  generalize s.queueHeartbeats 3 true = s1 at h
  extract_lets s2 s3 s4 s5 s6
  have h5 : fixed s5 = fixed s4 := by rfl
  have h6 : fixed s6 = fixed s := by simp [s6, h5, s4, s3, s2, h]
  clear_value s6
  split <;> simp [h6]
@[simp] theorem afterStop_fixed (s : State) : fixed s.afterStop = fixed s := by
  unfold State.afterStop
  split <;> simp
@[simp] theorem fatal_fixed (s : State) (reason core : Nat) (causing : Option (Nat × Nat × Bytes)) :
    fixed (s.fatal reason core causing) = fixed s := by
  unfold State.fatal
  split <;> simp
@[simp] theorem noteHoldup_fixed (s : State) : fixed s.noteHoldup = fixed s := by simp [State.noteHoldup]

/-! ## Replies and mailboxes -/

@[simp] theorem modSession_fixed (s : State) (id : Nat) (f : Session → Session) : fixed (s.modSession id f) = fixed s := by rfl
@[simp] theorem modReplay_fixed (s : State) (id : Nat) (seq : Nat) (f : Replay → Replay) : fixed (s.modReplay id seq f) = fixed s := by
  rfl
@[simp] theorem completeMailbox_fixed (s : State) (m : Fin 8) (opcode : Nat) (sequence : Nat) (status : Status) (measure : Nat)
    (result : Bytes) : fixed (s.completeMailbox m opcode sequence status measure result) = fixed s := by
  unfold State.completeMailbox
  split <;> simp
@[simp] theorem sendPieces_fixed (s : State) (r : Reply) (more : Bool) (k : Nat) (l : List (Nat × Nat × Bytes × Bytes)) :
    fixed (s.sendPieces r more k l) = fixed s := by
  induction l generalizing s k with
  | nil => rfl
  | cons pc l ih => simp [State.sendPieces, ih]
@[simp] theorem replyDone_fixed (s : State) (r : Reply) : fixed (s.replyDone r) = fixed s := by simp [State.replyDone]
@[simp] theorem placeReply_fixed (s : State) (r : Reply) : fixed (s.placeReply r) = fixed s := by
  unfold State.placeReply
  split <;> simp
@[simp] theorem dropReplies_fixed (s : State) (p : Reply → Bool) : fixed (s.dropReplies p) = fixed s := by simp [State.dropReplies]
@[simp] theorem placeDue_fixed (s : State) : fixed s.placeDue = fixed s := by simp [State.placeDue]
@[simp] theorem schedule_fixed (s : State) (r : Reply) : fixed (s.schedule r) = fixed s := by simp [State.schedule]
@[simp] theorem hold_fixed (s : State) (ts : List Touch) (f : Nat) : fixed (s.hold ts f) = fixed s := by rfl

/-! ## How a command runs -/

@[simp] theorem redeliver_fixed (s : State) (m : Fin 8) : fixed (s.redeliver m) = fixed s := by
  simp only [State.redeliver]
  split <;> simp
@[simp] theorem scheduleBehind_fixed (s : State) (ts : List Touch) (r : Reply) : fixed (s.scheduleBehind ts r) = fixed s := by
  unfold State.scheduleBehind
  split <;> simp
@[simp] theorem admitCmd_fixed (s : State) (c : SealedCmd) : fixed (s.admitCmd c).1 = fixed s := by rfl
@[simp] theorem answerCmd_fixed (s : State) (c : Cmd) (opcode : Nat) (st : Status) (result : Bytes) :
    fixed (s.answerCmd c opcode st result) = fixed s := by
  simp [State.answerCmd]
@[simp] theorem portRefuses_fixed (s : State) (bits : Nat) : fixed (s.portRefuses bits) = fixed s := by rfl
@[simp] theorem windowRefuses_fixed (s : State) : fixed s.windowRefuses = fixed s := by rfl

/-! ## DEVICE, TIME and UNIT -/

@[simp] theorem enterCustodyCmd_fixed (c : SealedCmd) (s : State) : fixed (enterCustody c s).1 = fixed s := by simp [enterCustody]
@[simp] theorem deviceReset_fixed (c : SealedCmd) (s : State) : fixed (deviceReset c s).1 = fixed s := by simp [deviceReset]
@[simp] theorem setLength_fixed (c : SealedCmd) (s : State) : fixed (setLength c s).1 = fixed s := by simp [setLength]
@[simp] theorem sealLog_fixed (c : SealedCmd) (s : State) : fixed (sealLog c s).1 = fixed s := by
  unfold sealLog
  split <;> simp
@[simp] theorem setState_fixed (c : SealedCmd) (s : State) : fixed (setState c s).1 = fixed s := by
  simp only [setState]
  split <;> simp

/-! ## Ports -/

@[simp] theorem fenceOwn_fixed (s : State) (rule : Nat) : fixed (s.fenceOwn rule) = fixed s := by
  unfold State.fenceOwn
  split <;> simp
@[simp] theorem setTb_fixed (s : State) (v : TbState) : fixed (s.setTb v) = fixed s := by simp [State.setTb]
@[simp] theorem flowCheck_fixed (s old : State) (p : Fin 2) : fixed (s.flowCheck old p) = fixed s := by simp [State.flowCheck]
@[simp] theorem rxAdmit_fixed (s : State) (p : Fin 2) : fixed (s.rxAdmit p) = fixed s := by simp [State.rxAdmit]
@[simp] theorem rxFree_fixed (s : State) (p : Fin 2) (bytes : Nat) : fixed (s.rxFree p bytes) = fixed s := by rfl
@[simp] theorem pauseRx_fixed (s : State) (p : Fin 2) (quanta : Nat) : fixed (s.pauseRx p quanta) = fixed s := by simp [State.pauseRx]
@[simp] theorem started_fixed (s : State) (p : Fin 2) (f : TxFrame) : fixed (s.started p f) = fixed s := by
  simp only [State.started]
  (repeat' split) <;> simp
@[simp] theorem linkChanged_fixed (s : State) (p : Fin 2) (up : Bool) (rate : Nat) : fixed (s.linkChanged p up rate) = fixed s := by
  simp [State.linkChanged]
@[simp] theorem dropLink_fixed (s : State) (p : Fin 2) : fixed (s.dropLink p) = fixed s := by simp [State.dropLink]
@[simp] theorem phySilent_fixed (s : State) (p : Fin 2) : fixed (s.phySilent p) = fixed s := by simp [State.phySilent]
@[simp] theorem arpRx_fixed (s : State) (p : Fin 2) (vid : Nat) (target : Nat) (senderIp : Nat) (senderMac : Nat) :
    fixed (s.arpRx p vid target senderIp senderMac) = fixed s := by
  simp [State.arpRx]
@[simp] theorem nsRx_fixed (s : State) (p : Fin 2) (vid : Nat) (target : Nat) (source : Nat) :
    fixed (s.nsRx p vid target source) = fixed s := by
  simp [State.nsRx]
@[simp] theorem echoRx_fixed (s : State) (p : Fin 2) (vid : Nat) (k : Packet) : fixed (s.echoRx p vid k) = fixed s := by
  unfold State.echoRx
  split <;> simp
@[simp] theorem syncRx_fixed (s : State) (p : Fin 2) (logInterval : Int) (time : Nat) : fixed (s.syncRx p logInterval time) = fixed s := by
  simp [State.syncRx]
@[simp] theorem pdelayReqRx_fixed (s : State) (p : Fin 2) (seq : Nat) (t2 : Nat) : fixed (s.pdelayReqRx p seq t2) = fixed s := by
  simp [State.pdelayReqRx]
@[simp] theorem pdelayRespRx_fixed (s : State) (p : Fin 2) (seq : Nat) (t2 : Nat) (t3 : Nat) (t4 : Nat) :
    fixed (s.pdelayRespRx p seq t2 t3 t4) = fixed s := by
  unfold State.pdelayRespRx
  split <;> simp

/-! ## The mirror check -/

@[simp] theorem setTables_fixed (s : State) (t : Tables) : fixed (s.setTables t) = fixed s := by rfl
@[simp] theorem startRebuild_fixed (s : State) (k : Nat) : fixed (s.startRebuild k) = fixed s := by simp [State.startRebuild]
@[simp] theorem readShadow_fixed (s : State) (pos : Nat) : fixed (s.readShadow pos) = fixed s := by
  unfold State.readShadow
  split <;> simp
@[simp] theorem repairUnit_fixed (s : State) (pos : Nat) : fixed (s.repairUnit pos) = fixed s := by simp [State.repairUnit]
@[simp] theorem compareUnit_fixed (s : State) (pos : Nat) : fixed (s.compareUnit pos) = fixed s := by simp [State.compareUnit]
@[simp] theorem mirrorPair_fixed (tb : Table) (reach : List Entry → List (Nat × Bool)) (k n : Nat) (s : State) :
    fixed (State.mirrorPair tb reach k n s) = fixed s := by
  induction n generalizing s with
  | zero => rfl
  | succ n ih => simp [State.mirrorPair, ih]
@[simp] theorem mirrorCheck_fixed (s : State) (tb : Table) (reach : List Entry → List (Nat × Bool)) :
    fixed (s.mirrorCheck tb reach) = fixed s := by
  simp [State.mirrorCheck]
@[simp] theorem searched_fixed (s : State) (tb : Table) : fixed (s.searched tb) = fixed s := by rfl
@[simp] theorem consult_fixed (s : State) (tb : Table) (word : Nat) : fixed (s.consult tb word) = fixed s := by simp [State.consult]
@[simp] theorem consultCover_fixed (s : State) (value : Nat) (care : Nat) : fixed (s.consultCover value care) = fixed s := by
  simp [State.consultCover]
@[simp] theorem consultAcl_fixed (s : State) (src : Option Source) (m : Nat) (c : OpClass) (ns : Nat) (key : Bytes) (cover : Bool)
    : fixed (s.consultAcl src m c ns key cover) = fixed s := by
  unfold State.consultAcl
  (repeat' split) <;> simp
@[simp] theorem checkKey_fixed (s : State) (src : Option Source) (m : Nat) (c : OpClass) (ns : Nat) (key : Bytes) :
    fixed (s.checkKey src m c ns key).1 = fixed s := by
  simp [State.checkKey]
@[simp] theorem checkAll_fixed (s : State) (src : Option Source) (m : Nat) (c : OpClass) (ns : Nat) (pre : Bytes) :
    fixed (s.checkAll src m c ns pre).1 = fixed s := by
  simp [State.checkAll]
@[simp] theorem consultRun_fixed (p : Pattern) (n state : Nat) (rest : Bytes) (s : State) :
    fixed (State.consultRun p n state rest s) = fixed s := by
  induction n generalizing state rest s with
  | zero => rfl
  | succ n ih =>
    simp only [State.consultRun]
    split <;> simp [ih]
@[simp] theorem ranOn_fixed (s : State) (slot : Nat) (key : Bytes) : fixed (s.ranOn slot key) = fixed s := by
  unfold State.ranOn
  split <;> simp

/-! ## The key store -/

@[simp] theorem endWatch_fixed (s : State) (w : Watch) (reason : Nat) (m : Nat) : fixed (s.endWatch w reason m) = fixed s := by
  simp [State.endWatch]
@[simp] theorem tell_fixed (s : State) (ns : Nat) (key : Bytes) (kind : Nat) (version : Nat) (len : Nat) (m : Nat) (w : Watch) :
    fixed (s.tell ns key kind version len m w) = fixed s := by
  simp [State.tell]
@[simp] theorem observe_fixed (s : State) (ns : Nat) (key : Bytes) (kind : Nat) (version : Nat) (len : Nat) (m : Nat) :
    fixed (s.observe ns key kind version len m) = fixed s := by
  simp [State.observe]
@[simp] theorem hostWrote_fixed (s : State) (n : Nat) : fixed (s.hostWrote n) = fixed s := by rfl
@[simp] theorem putValue_fixed (s : State) (n : Namespace) (key : Bytes) (value : Bytes) (m : Nat) :
    fixed (s.putValue n key value m).2 = fixed s := by
  simp [State.putValue]
@[simp] theorem dropValue_fixed (s : State) (n : Namespace) (e : KeyEnt) (m : Nat) : fixed (s.dropValue n e m) = fixed s := by
  simp [State.dropValue]
@[simp] theorem removeNs_fixed (s : State) (id : Nat) (m : Nat) : fixed (s.removeNs id m) = fixed s := by simp [State.removeNs]

/-! ## NAND queues -/

@[simp] theorem modLun_fixed (s : State) (id : Nat) (f : Lun → Lun) : fixed (s.modLun id f) = fixed s := by rfl
@[simp] theorem modSb_fixed (s : State) (group : Nat) (num : Nat) (g : Superblock → Superblock) :
    fixed (s.modSb group num g) = fixed s := by
  rfl
@[simp] theorem submit_fixed (s : State) (lun : Nat) (o : NandOp) : fixed (s.submit lun o) = fixed s := by simp [State.submit]
@[simp] theorem drainNand_fixed (s : State) : fixed s.drainNand = fixed s := by simp [State.drainNand]
@[simp] theorem readWord_fixed (s : State) (kind : NandKind) (b : Superblock) (w : Codeword) (own : Bool) :
    fixed (s.readWord kind b w own) = fixed s := by
  unfold State.readWord
  split <;> simp
@[simp] theorem readExtent_fixed (s : State) (extent : Nat) (lo : Nat) (hi : Nat) (sliced : Option Nat) :
    fixed (s.readExtent extent lo hi sliced).2 = fixed s := by
  simp [State.readExtent]

/-! ## NAMESPACE -/

@[simp] theorem onNs_fixed (c : SealedCmd) (s : State) (local_ : Bool) (need : Option NsType) (f : Namespace → Res) (h
    : ∀ n, fixed (f n).1 = fixed s) : fixed (onNs c s local_ need f).1 = fixed s := by
  unfold onNs
  split
  · exact h _
  · simp
@[simp] theorem nsCreate_fixed (c : SealedCmd) (s : State) : fixed (nsCreate c s).1 = fixed s := by simp [nsCreate]
@[simp] theorem nsDelete_fixed (n : Namespace) (m : Nat) (s : State) : fixed (nsDelete n m s).1 = fixed s := by simp [nsDelete]
@[simp] theorem setQuota_fixed (n : Namespace) (quota : Nat) (guarantee : Nat) (s : State) :
    fixed (setQuota n quota guarantee s).1 = fixed s := by
  simp [setQuota]
@[simp] theorem nsDigest_fixed (c : SealedCmd) (s : State) : fixed (nsDigest c s).1 = fixed s := by
  refine onNs_fixed _ _ _ _ _ fun n => ?_
  split <;> simp
@[simp] theorem ledgerTrim_fixed (n : Namespace) (r : Nat) (m : Nat) (s : State) : fixed (ledgerTrim n r m s).1 = fixed s := by
  simp [ledgerTrim]
@[simp] theorem setRetention_fixed (n : Namespace) (r : Nat) (s : State) : fixed (setRetention n r s).1 = fixed s := by
  simp [setRetention]
@[simp] theorem ledgerExport_fixed (c : SealedCmd) (s : State) : fixed (ledgerExport c s).1 = fixed s := by
  refine onNs_fixed _ _ _ _ _ fun n => ?_
  split
  · rfl
  · extract_lets first last key
    split
    · rfl
    · split
      · rfl
      · simp only [State.checkAll, State.checkKey, State.putValue]
        split
        · simp
        · split
          · simp
          · split
            · simp
            · split <;> simp
@[simp] theorem valueDigest_fixed (c : SealedCmd) (s : State) : fixed (valueDigest c s).1 = fixed s := by
  refine onNs_fixed _ _ _ _ _ fun n => ?_
  simp only [State.checkKey]
  split
  · rfl
  · split
    · rfl
    · split
      · simp
      · split <;> simp

/-! ## Larkspur -/

@[simp] theorem entryWrite_fixed (c : SealedCmd) (s : State) : fixed (entryWrite c s).1 = fixed s := by
  simp only [entryWrite]
  split <;> simp
@[simp] theorem entryDelete_fixed (c : SealedCmd) (s : State) : fixed (entryDelete c s).1 = fixed s := by
  simp only [entryDelete]
  split <;> simp
@[simp] theorem setTablesCmd_fixed (c : SealedCmd) (s : State) : fixed (setTables c s).1 = fixed s := by
  unfold setTables
  split <;> simp
@[simp] theorem patternLoad_fixed (c : SealedCmd) (s : State) : fixed (patternLoad c s).1 = fixed s := by
  simp only [patternLoad]
  (repeat' split) <;> simp
@[simp] theorem patternUnload_fixed (c : SealedCmd) (s : State) : fixed (patternUnload c s).1 = fixed s := by
  simp only [patternUnload]
  split <;> simp
@[simp] theorem cascadeCheck_fixed (c : SealedCmd) (s : State) : fixed (cascadeCheck c s).1 = fixed s := by simp [cascadeCheck]
@[simp] theorem cascadeSwitch_fixed (c : SealedCmd) (s : State) : fixed (cascadeSwitch c s).1 = fixed s := by
  simp only [cascadeSwitch]
  (repeat' split) <;> simp
@[simp] theorem probe_fixed (c : SealedCmd) (s : State) : fixed (probe c s).1 = fixed s := by
  simp only [probe]
  split <;> simp
@[simp] theorem scrub_fixed (s : State) : fixed s.scrub = fixed s := by simp [State.scrub]
@[simp] theorem goodTurn_fixed (s : State) : fixed s.goodTurn = fixed s := by simp [State.goodTurn]
@[simp] theorem loseCascade_fixed (s : State) : fixed s.loseCascade = fixed s := by simp [State.loseCascade]
@[simp] theorem cascadeSearch_fixed (s : State) (c : Cascade) (word : Bytes) (matchIn : Bool) (result : Bytes) :
    fixed (s.cascadeSearch c word matchIn result) = fixed s := by
  simp [State.cascadeSearch]

/-! ## SKP operations -/

@[simp] theorem consultRoute_fixed (s : State) (x : Ctx) (r : Request) : fixed (s.consultRoute x r) = fixed s := by
  simp [State.consultRoute]
@[simp] theorem checkAcl_fixed (s : State) (x : Ctx) (r : Request) : fixed (s.checkAcl x r).1 = fixed s := by simp [State.checkAcl]
@[simp] theorem gate_fixed (s : State) (x : Ctx) (r : Request) : fixed (s.gate x r).1 = fixed s := by
  simp only [State.gate]
  (repeat' split) <;> simp
@[simp] theorem gated_fixed (s : State) (x : Ctx) (r : Request) (f : State → Namespace → OpRes) (h : ∀ t n, fixed
    (f t n).1 = fixed t) : fixed (s.gated x r f).1 = fixed s := by
  unfold State.gated
  split
  · rename_i heq
    rw [h, fst_fixed heq (gate_fixed s x r)]
  · rename_i heq
    exact fst_fixed heq (gate_fixed s x r)
@[simp] theorem opGet_fixed (x : Ctx) (r : Request) (s : State) : fixed (opGet x r s).1 = fixed s := by
  refine gated_fixed _ _ _ _ fun t n => ?_
  split
  · rfl
  · extract_lets l data lo hi sliced
    split
    · rfl
    · split
      · rfl
      · cases data.isEmpty <;> simp
@[simp] theorem putOrFull_fixed (x : Ctx) (n : Namespace) (key : Bytes) (value : Bytes) (s : State) :
    fixed (putOrFull x n key value s).1 = fixed s := by
  simp [putOrFull]
@[simp] theorem opOpen_fixed (x : Ctx) (r : Request) (s : State) (n : Namespace) : fixed (opOpen x r s n).1 = fixed s := by
  simp [opOpen]
@[simp] theorem opPut_fixed (x : Ctx) (r : Request) (s : State) : fixed (opPut x r s).1 = fixed s := by simp [opPut]
@[simp] theorem opDelete_fixed (x : Ctx) (r : Request) (s : State) : fixed (opDelete x r s).1 = fixed s := by
  refine gated_fixed _ _ _ _ fun t n => ?_
  split
  · rfl
  · split <;> simp
@[simp] theorem opCas_fixed (x : Ctx) (r : Request) (s : State) : fixed (opCas x r s).1 = fixed s := by simp [opCas]
@[simp] theorem appendOrdinary_fixed (x : Ctx) (r : Request) (n : Namespace) (s : State) : fixed (appendOrdinary x r n s).1 = fixed s := by
  simp [appendOrdinary]
@[simp] theorem appendLedger_fixed (x : Ctx) (r : Request) (n : Namespace) (s : State) : fixed (appendLedger x r n s).1 = fixed s := by
  simp [appendLedger]
@[simp] theorem opAppend_fixed (x : Ctx) (r : Request) (s : State) : fixed (opAppend x r s).1 = fixed s := by
  refine gated_fixed _ _ _ _ fun t n => ?_
  split <;> simp
@[simp] theorem commitSeg_fixed (x : Ctx) (r : Request) (g : OpenSeg) (s : State) : fixed (commitSeg x r g s).1 = fixed s := by
  unfold commitSeg
  split <;> simp
@[simp] theorem opSegment_fixed (x : Ctx) (r : Request) (s : State) : fixed (opSegment x r s).1 = fixed s := by
  unfold opSegment
  (repeat' split) <;> simp
@[simp] theorem ranOver_fixed (slot k : Nat) (l : List KeyEnt) (s : State) : fixed (State.ranOver slot k l s) = fixed s := by
  induction l generalizing k s with
  | nil => rfl
  | cons e l ih => simp [State.ranOver, ih]
@[simp] theorem opScan_fixed (x : Ctx) (r : Request) (s : State) : fixed (opScan x r s).1 = fixed s := by
  simp only [opScan]
  (repeat' split) <;> simp
@[simp] theorem opWatch_fixed (x : Ctx) (r : Request) (s : State) : fixed (opWatch x r s).1 = fixed s := by
  simp only [opWatch]
  (repeat' split) <;> simp
@[simp] theorem opWatchStop_fixed (x : Ctx) (r : Request) (s : State) : fixed (opWatchStop x r s).1 = fixed s := by
  refine gated_fixed _ _ _ _ fun t n => ?_
  split <;> simp
@[simp] theorem opBatchOpen_fixed (x : Ctx) (r : Request) (s : State) : fixed (opBatchOpen x r s).1 = fixed s := by simp [opBatchOpen]
@[simp] theorem opMember_fixed (x : Ctx) (r : Request) (s : State) : fixed (opMember x r s).1 = fixed s := by simp [opMember]
@[simp] theorem batchStep_fixed (x : Ctx) (home : Option (Nat × Nat)) (b : BatchRun) (rm : Request × Nat) :
    fixed (b.step x home rm).s = fixed b.s := by
  simp only [BatchRun.step]
  (repeat' split) <;> simp
@[simp] theorem opBatchClose_fixed (x : Ctx) (r : Request) (s : State) : fixed (opBatchClose x r s).s = fixed s := by
  have hrun (b : BatchRun) (l : List (Request × Nat)) (home) : fixed (l.foldl (BatchRun.step x home) b).s = fixed b.s :=
    foldl_keeps (p := fun b : BatchRun => fixed b.s) (batchStep_fixed x home) l b
  simp only [opBatchClose, State.drawSealed]
  split
  · rfl
  · split
    · split
      · simp
      · split
        · simp [hrun]
        · simp
    · split
      · simp
      · split
        · simp [hrun]
        · simp
@[simp] theorem opCancel_fixed (r : Request) (s : State) : fixed (opCancel r s).1 = fixed s := by
  simp only [opCancel]
  (repeat' split) <;> simp
@[simp] theorem stanzaGate_fixed (x : Ctx) (r : Request) (cls : OpClass) (l : List Nat) (s : State) :
    fixed (State.stanzaGate x r cls l s).1 = fixed s := by
  induction l generalizing s with
  | nil => rfl
  | cons n l ih =>
    unfold State.stanzaGate
    split
    · rfl
    · split
      · rfl
      · split
        rename_i heq
        have := fst_fixed heq (checkAll_fixed ..)
        split <;> simp [ih, this]
@[simp] theorem opStanzaRead_fixed (x : Ctx) (r : Request) (s : State) : fixed (opStanzaRead x r s).1 = fixed s := by
  simp only [opStanzaRead]
  (repeat' split) <;> simp
@[simp] theorem loadManifest_fixed (v : Restore) (r : Request) (b : Bytes) (s : State) : fixed (loadManifest v r b s).1 = fixed s := by
  simp [loadManifest]
@[simp] theorem loadSource_fixed (v : Restore) (r : Request) (b : Bytes) (s : State) : fixed (loadSource v r b s).1 = fixed s := by
  simp only [loadSource]
  (repeat' split) <;> simp
@[simp] theorem opStanzaLoad_fixed (x : Ctx) (r : Request) (s : State) : fixed (opStanzaLoad x r s).1 = fixed s := by
  simp only [opStanzaLoad]
  (repeat' split) <;> simp
@[simp] theorem opStanza_fixed (x : Ctx) (r : Request) (s : State) : fixed (opStanza x r s).1 = fixed s := by simp [opStanza]
@[simp] theorem opRun_fixed (x : Ctx) (r : Request) (s : State) : fixed (opRun x r s).1 = fixed s := by
  unfold opRun
  split <;> simp
@[simp] theorem opAway_fixed (x : Ctx) (r : Request) (s : State) : fixed (opAway x r s).1 = fixed s := by simp [opAway]

/-! ## SKP requests -/

@[simp] theorem answerNow_fixed (s : State) (r : Request) (st : Status) (flags : Nat) (target : Nat) (body : Bytes) :
    fixed (s.answerNow r st flags target body) = fixed s := by
  rfl
@[simp] theorem discard_fixed (s : State) (p : Fin 2) : fixed (s.discard p) = fixed s := by rfl
@[simp] theorem consume_fixed (s : State) (r : Request) (p : Replay) : fixed (s.consume r p) = fixed s := by rfl
@[simp] theorem scanTurn_fixed (s : State) (v : ScanRun) : fixed (s.scanTurn v).1 = fixed s := by simp [State.scanTurn]
@[simp] theorem scanStep_fixed (s : State) (v : ScanRun) : fixed (s.scanStep v) = fixed s := by simp [State.scanStep]
@[simp] theorem settle_fixed (s : State) (x : Ctx) (r : Request) (a : Ans) (aborted : Bool) : fixed (s.settle x r a aborted) = fixed s := by
  simp [State.settle]
@[simp] theorem runRequest_fixed (s : State) (x : Ctx) (r : Request) : fixed (s.runRequest x r) = fixed s := by
  simp [State.runRequest]
@[simp] theorem cancelOpen_fixed (s : State) (r : Request) : fixed (s.cancelOpen r) = fixed s := by simp [State.cancelOpen]
@[simp] theorem takeIn_fixed (s : State) (r : Request) : fixed (s.takeIn r) = fixed s := by rfl
@[simp] theorem refuseAt_fixed (s : State) (r : Request) (st : Status) : fixed (s.refuseAt r st) = fixed s := by rfl
@[simp] theorem atPort_fixed (s : State) (r : Request) : fixed (s.atPort r) = fixed s := by simp [State.atPort]
@[simp] theorem releaseNext_fixed (s : State) (session n : Nat) : fixed (s.releaseNext session n) = fixed s := by
  induction n generalizing s with
  | zero => rfl
  | succ n ih =>
    unfold State.releaseNext
    split <;> simp [ih]
@[simp] theorem duplicate_fixed (s : State) (x : Session) (r : Request) (quiet : Bool) : fixed (s.duplicate x r quiet) = fixed s := by
  unfold State.duplicate
  (repeat' split) <;> simp
@[simp] theorem arriveLocal_fixed (s : State) (x : Session) (r : Request) : fixed (s.arriveLocal x r) = fixed s := by
  simp [State.arriveLocal]
@[simp] theorem lateNow_fixed (s : State) (r : Request) : fixed (s.lateNow r) = fixed s := by simp [State.lateNow]
@[simp] theorem arriveChorus_fixed (s : State) (x : Session) (r : Request) : fixed (s.arriveChorus x r) = fixed s := by
  unfold State.arriveChorus
  split <;> simp
theorem skpGateIn_fixed {s : State} {eff : UnitState} {src : Source} {y} (h : s.skpGateIn eff src = some y) : fixed y = fixed s := by
  unfold State.skpGateIn at h
  split at h
  · cases h; rfl
  · split at h
    · cases h; simp
    · split at h
      · cases h; rfl
      · cases h; simp
      all_goals
        split at h
        · cases h
        · cases h; simp
theorem skpGate_fixed {s : State} {src : Source} {y} (h : s.skpGate src = some y) : fixed y = fixed s := by
  exact skpGateIn_fixed h
@[simp] theorem arrive_fixed (s : State) (r : Request) : fixed (s.arrive r) = fixed s := by
  unfold State.arrive
  split <;> simp
@[simp] theorem request_fixed (s : State) (r : Request) : fixed (s.request r) = fixed s := by
  unfold State.request
  split
  · rename_i heq
    exact skpGate_fixed heq
  · simp
@[simp] theorem openSession_fixed (s : State) (r : Request) : fixed (s.openSession r) = fixed s := by
  unfold State.openSession
  split <;> rfl
@[simp] theorem hello_fixed (s : State) (r : Request) : fixed (s.hello r) = fixed s := by
  unfold State.hello
  (repeat' split) <;> simp
@[simp] theorem onOpen_fixed (s : State) (r : Request) (f : State → Session → State) (h : ∀ t x, fixed (f t x) = fixed t) :
    fixed (s.onOpen r f) = fixed s := by
  unfold State.onOpen
  split
  · simp
  · split
    · rw [h]; simp
    · simp
@[simp] theorem closeSession_fixed (s : State) (id : Nat) : fixed (s.closeSession id) = fixed s := by simp [State.closeSession]
@[simp] theorem bye_fixed (s : State) (r : Request) : fixed (s.bye r) = fixed s := by simp [State.bye]
@[simp] theorem beat_fixed (s : State) (r : Request) : fixed (s.beat r) = fixed s := by simp [State.beat]
@[simp] theorem creditRequest_fixed (s : State) (r : Request) : fixed (s.creditRequest r) = fixed s := by simp [State.creditRequest]
@[simp] theorem served_fixed (s : State) (r : Request) (f : State → State) (h : ∀ t, fixed (f t) = fixed t) :
    fixed (s.served r f) = fixed s := by
  unfold State.served
  split
  · rename_i heq
    exact skpGate_fixed heq
  · exact h _
@[simp] theorem gapTimeout_fixed (s : State) (id : Nat) : fixed (s.gapTimeout id) = fixed s := by
  unfold State.gapTimeout
  split <;> simp
@[simp] theorem failBatch_fixed (s : State) (b : Batch) : fixed (s.failBatch b) = fixed s := by simp [State.failBatch]
@[simp] theorem batchDeadline_fixed (s : State) (id : Nat) : fixed (s.batchDeadline id) = fixed s := by
  unfold State.batchDeadline
  split <;> simp
@[simp] theorem segDeadline_fixed (s : State) (id : Nat) : fixed (s.segDeadline id) = fixed s := by
  unfold State.segDeadline
  split <;> simp
@[simp] theorem expire_fixed (m : Nat) (s : State) : fixed (State.expire m s) = fixed s := by simp [State.expire]
@[simp] theorem idleClose_fixed (s : State) (id : Nat) : fixed (s.idleClose id) = fixed s := by
  unfold State.idleClose
  split <;> simp
@[simp] theorem watchOver_fixed (s : State) (id : Nat) (seq : Nat) : fixed (s.watchOver id seq) = fixed s := by
  unfold State.watchOver
  split <;> simp
@[simp] theorem watchFull_fixed (s : State) (id : Nat) (seq : Nat) : fixed (s.watchFull id seq) = fixed s := by
  unfold State.watchFull
  split <;> simp

/-! ## CHORUS -/

@[simp] theorem inChorus_fixed (c : SealedCmd) (e : Nat) (s : State) (f : Chorus → Res) (h : ∀ k, fixed (f k).1 = fixed s) :
    fixed (inChorus c e s f).1 = fixed s := by
  unfold inChorus
  split
  · simp
  · split
    · simp
    · exact h _
@[simp] theorem atE_fixed (s : State) (f : Chorus → Res) (h : ∀ k, fixed (f k).1 = fixed s) : fixed (atE s f).1 = fixed s := by
  unfold atE
  split
  · simp
  · exact h _
@[simp] theorem formApply_fixed (c : SealedCmd) (s : State) : fixed (formApply c s).1 = fixed s := by
  simp only [formApply]
  split
  · rfl
  · split
    · rfl
    · exact (drawn_fixed _).trans (by simp)
@[simp] theorem leaveChorus_fixed (s : State) (c : Chorus) : fixed (s.leaveChorus c) = fixed s := by
  unfold State.leaveChorus
  extract_lets s0 waiting s1 s2
  have h : fixed s1 = fixed s := by simp [s1, s0]
  exact h
@[simp] theorem checkpointApply_fixed (c : SealedCmd) (s : State) : fixed (checkpointApply c s).1 = fixed s := by
  simp [checkpointApply]
@[simp] theorem restoreEndApply_fixed (c : SealedCmd) (s : State) : fixed (restoreEndApply c s).1 = fixed s := by
  refine atE_fixed _ _ fun k => ?_
  split <;> simp
@[simp] theorem chorusQuota_fixed (k : Chorus) (n : Namespace) (quota : Nat) (s : State) : fixed (chorusQuota k n quota s).1 = fixed s := by
  simp [chorusQuota]
@[simp] theorem innerApply_fixed (op : Nat) (b : Bytes) (m : Nat) (s : State) : fixed (innerApply op b m s).1 = fixed s := by
  unfold innerApply
  (repeat' split) <;> simp
@[simp] theorem dropOnTime_fixed (s : State) (e : Nat) : fixed (s.dropOnTime e) = fixed s := by simp [State.dropOnTime]

/-! ## Members -/

@[simp] theorem sendChorus_fixed (s : State) (p : Fin 2) (ip : Nat) (payload : Bytes) : fixed (s.sendChorus p ip payload) = fixed s := by
  rfl
@[simp] theorem sendDigest_fixed (s : State) (c : Chorus) (r : Report) (copy : Bool) : fixed (s.sendDigest c r copy) = fixed s := by
  simp [State.sendDigest]
@[simp] theorem lowerMember_fixed (s : State) (k : Nat) (v : UnitState) : fixed (s.lowerMember k v) = fixed s := by
  simp [State.lowerMember]
@[simp] theorem notePull_fixed (s : State) (k : Nat) : fixed (s.notePull k) = fixed s := by simp [State.notePull]
@[simp] theorem sendPull_fixed (s : State) (c : Chorus) (k : Nat) (mode : Nat) (count : Nat) (measure : Nat) (rest : Bytes) :
    fixed (s.sendPull c k mode count measure rest) = fixed s := by
  unfold State.sendPull
  split <;> simp
@[simp] theorem listIfDiffers_fixed (s : State) (c : Chorus) (t : Nat) (r : Report) : fixed (s.listIfDiffers c t r) = fixed s := by
  unfold State.listIfDiffers
  split <;> simp
@[simp] theorem confirm_fixed (s : State) (c : Chorus) (t : Nat) : fixed (s.confirm c t) = fixed s := by simp [State.confirm]
@[simp] theorem digestFrom_fixed (s : State) (c : Chorus) (k : Nat) (r : Report) : fixed (s.digestFrom c k r) = fixed s := by
  simp [State.digestFrom]
@[simp] theorem digestRx_fixed (s : State) (r : Request) : fixed (s.digestRx r) = fixed s := by
  unfold State.digestRx
  (repeat' split) <;> simp
@[simp] theorem pullAnswer_fixed (s : State) (r : Request) (st : Status) (body : Bytes) : fixed (s.pullAnswer r st body) = fixed s := by
  simp [State.pullAnswer]
@[simp] theorem transferRead_fixed (s : State) (c : Chorus) (r : Request) (shard : Nat) (cut : Nat) (index : Nat) :
    fixed (s.transferRead c r shard cut index) = fixed s := by
  simp only [State.transferRead]
  (repeat' split) <;> simp
@[simp] theorem transferAnswer_fixed (s : State) (c : Chorus) (r : Request) : fixed (s.transferAnswer c r) = fixed s := by
  simp [State.transferAnswer]
@[simp] theorem pullRx_fixed (s : State) (r : Request) : fixed (s.pullRx r) = fixed s := by
  unfold State.pullRx
  (repeat' split) <;> simp
@[simp] theorem pullReturned_fixed (s : State) (r : Request) : fixed (s.pullReturned r) = fixed s := by
  unfold State.pullReturned
  split <;> simp
@[simp] theorem answerAsks_fixed (s : State) (x : Nat) : fixed (s.answerAsks x) = fixed s := by
  unfold State.answerAsks
  split <;> simp
@[simp] theorem ensureSession_fixed (s : State) (id : Nat) : fixed (s.ensureSession id) = fixed s := by
  unfold State.ensureSession
  split <;> rfl
@[simp] theorem refuseAnswered_fixed (s : State) (mine : Bool) (r : Request) (st : Status) (t : Nat) :
    fixed (s.refuseAnswered mine r st t) = fixed s := by
  simp [State.refuseAnswered]
@[simp] theorem refuseSealed_fixed (s : State) (r : Request) (st : Status) (t : Nat) : fixed (s.refuseSealed r st t) = fixed s := by
  simp [State.refuseSealed]
@[simp] theorem placingStep_fixed (t : Nat) (gone : List (Nat × Nat × Nat)) (p : Placing) (r : Request) :
    fixed (p.step t gone r).s = fixed p.s := by
  simp only [Placing.step]
  (repeat' split) <;> simp
@[simp] theorem placeWith_fixed (s : State) (t : Nat) (f : List Request) (n : Nat) (gone : List (Nat × Nat × Nat)) :
    fixed (s.placeWith t f n gone).s = fixed s := by
  have h0 (gone) : fixed (s.placeWith t f 0 gone).s = fixed s := by
    unfold State.placeWith
    exact foldl_keeps (p := fun p : Placing => fixed p.s) (placingStep_fixed t gone) f _
  induction n generalizing gone with
  | zero => exact h0 gone
  | succ n ih =>
    unfold State.placeWith
    extract_lets p void
    split
    · exact h0 gone
    · exact ih _
@[simp] theorem placeSet_fixed (s : State) (t : Nat) (f : List Request) : fixed (s.placeSet t f).s = fixed s := by
  simp [State.placeSet]
@[simp] theorem divergeUnknown_fixed (s : State) (e : Listed) (t : Nat) : fixed (s.divergeUnknown e t) = fixed s := by
  simp [State.divergeUnknown]
@[simp] theorem refuseOthers_fixed (s : State) (t : Nat) (held : List Request) (u : List Listed) (f : List Request) :
    fixed (s.refuseOthers t held u f).1 = fixed s := by
  simp [State.refuseOthers]
@[simp] theorem sealSet_fixed (s : State) (c : Chorus) (t : Nat) (own : Report) : fixed (s.sealSet c t own).1 = fixed s := by
  simp [State.sealSet]
@[simp] theorem sealChorus_fixed (s : State) : fixed (s.sealChorus).1 = fixed s := by
  unfold State.sealChorus
  split <;> simp
@[simp] theorem judgePeer_fixed (s : State) (c : Chorus) (t : Nat) (k : Nat) : fixed (s.judgePeer c t k) = fixed s := by
  unfold State.judgePeer
  split <;> simp
@[simp] theorem judgePeers_fixed (s : State) : fixed s.judgePeers = fixed s := by
  unfold State.judgePeers
  split <;> simp
@[simp] theorem applySet_fixed (s : State) (c : Chorus) (t : Nat) (f : List Request) : fixed (s.applySet c t f) = fixed s := by
  simp [State.applySet]
@[simp] theorem applyFetched_fixed (s : State) (n : Nat) : fixed (s.applyFetched n) = fixed s := by
  induction n generalizing s with
  | zero => rfl
  | succ n ih =>
    unfold State.applyFetched
    split
    · rfl
    · split
      · rfl
      · simp [ih]
@[simp] theorem catchUp_fixed (s : State) : fixed s.catchUp = fixed s := by
  simp only [State.catchUp]
  (repeat' split) <;> simp
@[simp] theorem askTransfer_fixed (s : State) (c : Chorus) (h : Shard) : fixed (s.askTransfer c h) = fixed s := by
  unfold State.askTransfer
  split <;> simp
@[simp] theorem startTransfer_fixed (s : State) : fixed s.startTransfer = fixed s := by
  unfold State.startTransfer
  split <;> simp
@[simp] theorem endTransfer_fixed (s : State) (c : Chorus) : fixed (s.endTransfer c) = fixed s := by rfl
@[simp] theorem takeStanza_fixed (s : State) (c : Chorus) (a : PullAnswer) (h : StanzaHead) (p : Bytes) :
    fixed (s.takeStanza c a h p) = fixed s := by
  simp only [State.takeStanza]
  (repeat' split) <;> simp
@[simp] theorem fetchMissing_fixed (s : State) (c : Chorus) (k t n : Nat) (l : List Listed) :
    fixed (s.fetchMissing c k t n l) = fixed s := by
  induction n generalizing s l with
  | zero => rfl
  | succ n ih => simp [State.fetchMissing, ih]
@[simp] theorem listRx_fixed (s : State) (c : Chorus) (a : PullAnswer) : fixed (s.listRx c a) = fixed s := by simp [State.listRx]
@[simp] theorem keepFetched_fixed (s : State) (t : Nat) (b : Bytes) : fixed (s.keepFetched t b) = fixed s := by
  simp [State.keepFetched]
@[simp] theorem setsRx_fixed (s : State) (c : Chorus) (b : Bytes) : fixed (s.setsRx c b) = fixed s := by simp [State.setsRx]
@[simp] theorem pullResponse_fixed (s : State) (a : PullAnswer) : fixed (s.pullResponse a) = fixed s := by
  unfold State.pullResponse
  (repeat' split) <;> simp
@[simp] theorem sendRound_fixed (s : State) (c : Chorus) (round : Nat) (copy : Bool) : fixed (s.sendRound c round copy) = fixed s := by
  simp [State.sendRound]
@[simp] theorem chainLost_fixed (s : State) (t : Nat) : fixed (s.chainLost t) = fixed s := by
  unfold State.chainLost
  split <;> simp

/-! ## Cores -/

@[simp] theorem setLine_fixed (s : State) (d : DirLine) : fixed (s.setLine d) = fixed s := by rfl
@[simp] theorem jtag_fixed (s : State) (i : JtagInstr) (tdo : Nat) : fixed (s.jtag i tdo) = fixed s := by rfl
@[simp] theorem bypass_fixed (s : State) : fixed s.bypass = fixed s := by rfl

/-! ## NET -/

@[simp] theorem onPort_fixed (b : Bytes) (s : State) (f : Fin 2 → Res) (h : ∀ p, fixed (f p).1 = fixed s) :
    fixed (onPort b s f).1 = fixed s := by
  unfold onPort
  split
  · exact h _
  · simp
@[simp] theorem applyPort_fixed (s : State) (p : Fin 2) (t : PortSettings) : fixed (s.applyPort p t) = fixed s := by
  simp [State.applyPort]
@[simp] theorem setFilter_fixed (c : SealedCmd) (s : State) : fixed (setFilter c s).1 = fixed s := by simp [setFilter]
@[simp] theorem setAddress_fixed (c : SealedCmd) (s : State) : fixed (setAddress c s).1 = fixed s := by simp [setAddress]
@[simp] theorem setHeartbeat_fixed (c : SealedCmd) (s : State) : fixed (setHeartbeat c s).1 = fixed s := by simp [setHeartbeat]
@[simp] theorem macsecInstall_fixed (c : SealedCmd) (s : State) : fixed (macsecInstall c s).1 = fixed s := by
  refine onPort_fixed _ _ _ fun p => ?_
  simp only
  split <;> simp
@[simp] theorem macsecRemove_fixed (c : SealedCmd) (s : State) : fixed (macsecRemove c s).1 = fixed s := by simp [macsecRemove]
@[simp] theorem txFlush_fixed (c : SealedCmd) (s : State) : fixed (txFlush c s).1 = fixed s := by simp [txFlush]

/-! ## Events -/

@[simp] theorem setChan_fixed (s : State) (c : Fin 32) (f : ChanCfg → ChanCfg) : fixed (s.setChan c f) = fixed s := by rfl
@[simp] theorem configureApply_fixed (c : SealedCmd) (s : State) : fixed (configureApply c s).1 = fixed s := by
  unfold configureApply
  split <;> simp
@[simp] theorem lockChannels_fixed (c : SealedCmd) (s : State) : fixed (lockChannels c s).1 = fixed s := by simp [lockChannels]
@[simp] theorem triggerChannels_fixed (c : SealedCmd) (s : State) : fixed (triggerChannels c s).1 = fixed s := by
  simp [triggerChannels]
@[simp] theorem clearChannels_fixed (c : SealedCmd) (s : State) : fixed (clearChannels c s).1 = fixed s := by simp [clearChannels]
@[simp] theorem deliver_fixed (s : State) (c : Fin 32) (k time : Nat) (remember : Bool) :
    fixed (s.deliver c k time remember) = fixed s := by
  unfold State.deliver
  split <;> simp

/-! ## CODA -/

@[simp] theorem codaReadAct_fixed (c : SealedCmd) (s : State) : fixed (codaReadAct c s).1 = fixed s := by
  simp only [codaReadAct]
  (repeat' split) <;> simp
@[simp] theorem codaFreezeAct_fixed (c : SealedCmd) (s : State) : fixed (codaFreezeAct c s).1 = fixed s := by simp [codaFreezeAct]
@[simp] theorem setTriggersAct_fixed (c : SealedCmd) (s : State) : fixed (setTriggersAct c s).1 = fixed s := by rfl
@[simp] theorem codaKeepAct_fixed (c : SealedCmd) (s : State) : fixed (codaKeepAct c s).1 = fixed s := by
  unfold codaKeepAct
  split <;> simp

/-! ## MEDIA -/

@[simp] theorem raiseWarn_fixed (s : State) (w : Nat) (unit : Option Nat) : fixed (s.raiseWarn w unit) = fixed s := by
  unfold State.raiseWarn
  (repeat' split) <;> simp
@[simp] theorem checkWarn_fixed (s : State) (w : Nat) : fixed (s.checkWarn w) = fixed s := by simp [State.checkWarn]
@[simp] theorem checkWarns_fixed (s : State) : fixed s.checkWarns = fixed s := by simp [State.checkWarns]
@[simp] theorem formatMark_fixed (s : State) (slcGib : Nat) : fixed (s.formatMark slcGib) = fixed s := by rfl
@[simp] theorem formatFlash_fixed (s : State) (slcGib : Nat) : fixed (s.formatFlash slcGib) = fixed s := by rfl
@[simp] theorem mediaFormat_fixed (c : SealedCmd) (s : State) : fixed (mediaFormat c s).1 = fixed s := by simp [mediaFormat]
@[simp] theorem setReadPolicy_fixed (c : SealedCmd) (s : State) : fixed (setReadPolicy c s).1 = fixed s := by simp [setReadPolicy]

/-! ## Flash -/

theorem openSb_fixed {s : State} {group : Nat} {native : Bool} {stream : Stream} {y} (h : s.openSb group native stream = some y) :
    fixed y.1 = fixed s := by
  unfold State.openSb at h
  split at h
  · cases h
  · cases h; simp
theorem roomSb_fixed {s : State} {group : Nat} {native : Bool} {stream : Stream} {y} (h : s.roomSb group native stream = some y) :
    fixed y.1 = fixed s := by
  unfold State.roomSb at h
  split at h
  · exact openSb_fixed h
  · split at h
    · cases h; rfl
    · exact (openSb_fixed h).trans (modSb_fixed ..)
theorem placeIn_fixed {s : State} {group : Nat} {native : Bool} {stream : Stream} {w : Codeword} {y}
    (h : s.placeIn group native stream w = some y) : fixed y.1 = fixed s := by
  simp only [State.placeIn, Option.map_eq_some_iff] at h
  obtain ⟨p, hp, rfl⟩ := h
  exact (modSb_fixed ..).trans (roomSb_fixed hp)
theorem placeAny_fixed {s : State} {native : Bool} {stream : Stream} {w : Codeword} {l : List Nat} {y}
    (h : s.placeAny native stream w l = some y) : fixed y.1 = fixed s := by
  induction l with
  | nil => cases h
  | cons g l ih =>
    unfold State.placeAny at h
    split at h
    · rename_i hp
      cases h
      exact placeIn_fixed hp
    · exact ih h
theorem placeAll_fixed {s : State} {native : Bool} {stream : Stream} {first : Codeword → Nat} {l : List Codeword} {y}
    (h : s.placeAll native stream first l = some y) : fixed y.1 = fixed s := by
  induction l generalizing s y with
  | nil => cases h; rfl
  | cons w l ih =>
    simp only [State.placeAll, Option.bind_eq_some_iff, Option.map_eq_some_iff] at h
    obtain ⟨⟨t, p⟩, hp, ⟨u, q⟩, hq, rfl⟩ := h
    exact (ih hq).trans (placeAny_fixed hp)
@[simp] theorem endStripes_fixed (s : State) (pages : List Page) : fixed (s.endStripes pages) = fixed s := by simp [State.endStripes]
@[simp] theorem programPages_fixed (s : State) (kind : NandKind) (bank : Option Nat) (pages : List Page) :
    fixed (s.programPages kind bank pages) = fixed s := by
  simp [State.programPages]
theorem write_fixed {s : State} {native : Bool} {stream : Stream} {kind : NandKind} {bank : Option Nat} {first : Codeword → Nat}
    {l : List Codeword} {y} (h : s.write native stream kind bank first l = some y) : fixed y = fixed s := by
  simp only [State.write, Option.map_eq_some_iff] at h
  obtain ⟨p, hp, rfl⟩ := h
  simp [placeAll_fixed hp]
@[simp] theorem retireBlock_fixed (s : State) (b : Superblock) (lun : Nat) (plane : Nat) : fixed (s.retireBlock b lun plane) = fixed s := by
  unfold State.retireBlock
  (repeat' split) <;> simp
@[simp] theorem lunEvent_fixed (s : State) (lun : Nat) : fixed (s.lunEvent lun) = fixed s := by simp [State.lunEvent]
@[simp] theorem lunRebuild_fixed (s : State) (lun : Nat) : fixed (s.lunRebuild lun) = fixed s := by simp [State.lunRebuild]
@[simp] theorem statusError_fixed (s : State) (lun : Nat) : fixed (s.statusError lun) = fixed s := by simp [State.statusError]
@[simp] theorem overrodePin_fixed (s : State) (lun : Nat) : fixed (s.overrodePin lun) = fixed s := by simp [State.overrodePin]
@[simp] theorem readPinned_fixed (s : State) (native : Bool) : fixed (s.readPinned native).2 = fixed s := by
  simp only [State.readPinned]
  (repeat' split) <;> simp
@[simp] theorem trackStep_fixed (s : State) (b : Superblock) (step : Nat) : fixed (s.trackStep b step) = fixed s := by rfl
@[simp] theorem stageCount_fixed (s : State) (lun : Nat) (stage : Nat) : fixed (s.stageCount lun stage) = fixed s := by
  unfold State.stageCount
  split <;> simp
@[simp] theorem markHard_fixed (s : State) (b : Superblock) : fixed (s.markHard b) = fixed s := by rfl
@[simp] theorem noteRebuilt_fixed (s : State) (b : Superblock) (w : Codeword) : fixed (s.noteRebuilt b w) = fixed s := by
  simp only [State.noteRebuilt]
  split <;> simp
@[simp] theorem readFound_fixed (s : State) (b : Superblock) (w : Codeword) (pin : Bool) (d : Decoded) :
    fixed (s.readFound b w pin d) = fixed s := by
  unfold State.readFound
  split <;> simp
@[simp] theorem readServed_fixed (s : State) (k : Nat × Nat) : fixed (s.readServed k) = fixed s := by rfl
@[simp] theorem readFailed_fixed (s : State) (k : Nat × Nat) : fixed (s.readFailed k) = fixed s := by simp [State.readFailed]
@[simp] theorem reclaim_fixed (s : State) (group : Nat) (num : Nat) : fixed (s.reclaim group num) = fixed s := by
  unfold State.reclaim
  split <;> simp
@[simp] theorem finishMove_fixed (s : State) (m : Relocation) : fixed (s.finishMove m) = fixed s := by
  simp only [State.finishMove]
  split
  · rfl
  · split
    · simp
    · rename_i heq
      simp [write_fixed heq]
@[simp] theorem finishMoves_fixed (s : State) : fixed s.finishMoves = fixed s := by simp [State.finishMoves]
@[simp] theorem moveRead_fixed (s : State) (group : Nat) (num : Nat) (k : Nat × Nat) (ok : Bool) :
    fixed (s.moveRead group num k ok) = fixed s := by
  simp [State.moveRead]
@[simp] theorem relocate_fixed (s : State) (b : Superblock) (stream : Stream) (evac : Bool) :
    fixed (s.relocate b stream evac) = fixed s := by
  simp [State.relocate]
@[simp] theorem endRead_fixed (s : State) (o : NandOp) (r : NandResult) : fixed (s.endRead o r) = fixed s := by
  simp only [State.endRead]
  (repeat' split) <;> simp
@[simp] theorem modBus_fixed (s : State) (ch : Fin 8) (f : Bus → Bus) : fixed (s.modBus ch f) = fixed s := by rfl
@[simp] theorem busNext_fixed (s : State) (ch : Fin 8) : fixed (s.busNext ch) = fixed s := by
  unfold State.busNext
  split <;> simp
@[simp] theorem busEnd_fixed (s : State) (ch : Fin 8) : fixed (s.busEnd ch) = fixed s := by
  simp only [State.busEnd]
  (repeat' split) <;> simp
@[simp] theorem divert_fixed (s : State) (lun : Nat) (again : State → NandOp → State) (h : ∀ t o, fixed (again t o) = fixed t) :
    fixed (s.divert lun again) = fixed s := by
  simp only [State.divert]
  split
  · rfl
  · split
    · rfl
    · rw [foldl_fixed (fun t o => by split <;> simp [h])]
      simp
@[simp] theorem placeAgain_fixed (s : State) (o : NandOp) (lun : Nat) : fixed (s.placeAgain o lun) = fixed s := by
  simp only [State.placeAgain]
  split
  · rfl
  · cases hw : State.write _ _ _ _ _ _ _ with
    | none => simp
    | some t => simp [write_fixed hw]
@[simp] theorem retryPages_fixed (s : State) : fixed s.retryPages = fixed s := by simp [State.retryPages]
@[simp] theorem redo_fixed (s : State) (lun : Nat) (o : NandOp) : fixed (s.redo lun o) = fixed s := by
  unfold State.redo
  (repeat' split) <;> simp
@[simp] theorem mapMoves_fixed (s : State) (b : Superblock) (l : List Codeword) : fixed (s.mapMoves b l) = fixed s := by
  unfold State.mapMoves
  refine foldl_fixed (fun t w => ?_) _ _
  split <;> simp
@[simp] theorem programmed_fixed (s : State) (lun : Nat) (o : NandOp) : fixed (s.programmed lun o) = fixed s := by
  simp only [State.programmed]
  split <;> simp
@[simp] theorem opFailed_fixed (s : State) (lun : Nat) (plane : Nat) (o : NandOp) : fixed (s.opFailed lun plane o) = fixed s := by
  unfold State.opFailed
  split <;> simp
@[simp] theorem free_fixed (s : State) (lun : Nat) : fixed (s.free lun) = fixed s := by rfl
@[simp] theorem opDone_fixed (s : State) (lun : Nat) (o : NandOp) (r : NandResult) : fixed (s.opDone lun o r) = fixed s := by
  unfold State.opDone
  split <;> simp
@[simp] theorem dropHeld_fixed (s : State) (lun : Nat) : fixed (s.dropHeld lun) = fixed s := by
  unfold State.dropHeld
  split <;> simp
@[simp] theorem noteTimeout_fixed (s : State) (lun : Nat) : fixed (s.noteTimeout lun) = fixed s := by simp [State.noteTimeout]
@[simp] theorem queueErases_fixed (s : State) : fixed s.queueErases = fixed s := by simp [State.queueErases]

/-! ## Updates -/

@[simp] theorem setUpd_fixed (s : State) (v : UpdState) (trigger : optParam (Option Nat) none) : fixed (s.setUpd v trigger) = fixed s := by
  simp [State.setUpd]
@[simp] theorem alsoDurable_fixed (s : State) (f : Store → Store) : fixed (s.alsoDurable f) = fixed s := by rfl
@[simp] theorem releaseHold_fixed (s : State) : fixed s.releaseHold = fixed s := by rfl
@[simp] theorem norWrite_fixed (s : State) (f : Nor → Nor) : fixed (s.norWrite f) = fixed s := by simp [State.norWrite]
@[simp] theorem updateStage_fixed (c : SealedCmd) (s : State) : fixed (updateStage c s).1 = fixed s := by
  simp only [updateStage]
  (repeat' split) <;> simp
@[simp] theorem updateActivate_fixed (c : SealedCmd) (s : State) : fixed (updateActivate c s).1 = fixed s := by simp [updateActivate]
@[simp] theorem updateConfirm_fixed (c : SealedCmd) (s : State) : fixed (updateConfirm c s).1 = fixed s := by simp [updateConfirm]
@[simp] theorem updateRollback_fixed (c : SealedCmd) (s : State) : fixed (updateRollback c s).1 = fixed s := by simp [updateRollback]
@[simp] theorem updateDiscard_fixed (c : SealedCmd) (s : State) : fixed (updateDiscard c s).1 = fixed s := by simp [updateDiscard]
@[simp] theorem planReset_fixed (s : State) : fixed s.planReset = fixed s := by rfl
@[simp] theorem confirmDurable_fixed (s : State) : fixed s.confirmDurable = fixed s := by
  unfold State.confirmDurable
  split
  · split
    · exact norWrite_fixed s id
    · rfl
  · rfl
@[simp] theorem migrate_fixed (s : State) : fixed s.migrate = fixed s := by simp [State.migrate]
@[simp] theorem activate_fixed (s : State) (stream : Bytes) : fixed (s.activate stream) = fixed s := by simp [State.activate]
@[simp] theorem restoreArchive_fixed (s : State) : fixed s.restoreArchive = fixed s := by
  unfold State.restoreArchive
  split <;> simp
@[simp] theorem rdlBeginOp_fixed (eth : Bool) (session : Nat) (src : Option Source) (s : State) :
    fixed (rdlBeginOp eth session src s).1 = fixed s := by
  simp [rdlBeginOp]
@[simp] theorem rdlDataOp_fixed (index : Nat) (off : Nat) (data : Bytes) (s : State) : fixed (rdlDataOp index off data s).1 = fixed s := by
  simp only [rdlDataOp]
  (repeat' split) <;> simp
@[simp] theorem rdlEndOp_fixed (s : State) : fixed (rdlEndOp s).1 = fixed s := by rfl
@[simp] theorem spiDownload_fixed (s : State) (f : Res) (h : fixed f.1 = fixed s) : fixed (spiDownload s f).1 = fixed s := by
  simp [spiDownload, h]
@[simp] theorem serveRdl_fixed (src : Source) (p : Bytes) (s : State) (f : Request → Res) (h : ∀ r, fixed (f r).1 = fixed s) :
    fixed (serveRdl src p s f) = fixed s := by
  simp [serveRdl, h]
@[simp] theorem udpBegin_fixed (s : State) (r : Request) : fixed (udpBegin s r).1 = fixed s := by simp [udpBegin]
@[simp] theorem udpRunning_fixed (s : State) (r : Request) (ok : Bool) (f : Res) (h : fixed f.1 = fixed s) :
    fixed (udpRunning s r ok f).1 = fixed s := by
  simp [udpRunning, h]
@[simp] theorem udpData_fixed (s : State) (r : Request) : fixed (udpData s r).1 = fixed s := by simp [udpData]
@[simp] theorem udpEnd_fixed (s : State) (r : Request) : fixed (udpEnd s r).1 = fixed s := by simp [udpEnd]
@[simp] theorem udpStatus_fixed (s : State) (r : Request) : fixed (udpStatus s r).1 = fixed s := by simp [udpStatus]
@[simp] theorem udpAny_fixed (s : State) (r : Request) : fixed (udpAny s r).1 = fixed s := by
  unfold udpAny
  split <;> simp

/-! ## SECURITY -/

@[simp] theorem setMailboxOwner_fixed (c : SealedCmd) (s : State) : fixed (setMailboxOwner c s).1 = fixed s := by
  simp only [setMailboxOwner]
  split <;> simp
@[simp] theorem provision_fixed (c : SealedCmd) (s : State) : fixed (provision c s).1 = fixed s := by simp [provision]

/-! ## Mailboxes -/

@[simp] theorem mgmtAnswer_fixed (s : State) (src : Source) (e : Bytes) (st : Status) : fixed (s.mgmtAnswer src e st) = fixed s := by
  rfl
@[simp] theorem mgmtPost_fixed (s : State) (src : Source) (m : Fin 8) (e : Bytes) : fixed (s.mgmtPost src m e) = fixed s := by
  simp [State.mgmtPost]
@[simp] theorem mgmtCancel_fixed (s : State) (src : Source) (m : Fin 8) (e : Bytes) : fixed (s.mgmtCancel src m e) = fixed s := by
  simp [State.mgmtCancel]
@[simp] theorem mgmtRxIn_fixed (s : State) (eff : UnitState) (src : Source) (p : Bytes) : fixed (s.mgmtRxIn eff src p) = fixed s := by
  simp [State.mgmtRxIn]
@[simp] theorem mgmtRx_fixed (s : State) (src : Source) (p : Bytes) : fixed (s.mgmtRx src p) = fixed s := by simp [State.mgmtRx]

/-! ## Measures -/

@[simp] theorem cancelAll_fixed (s : State) : fixed s.cancelAll = fixed s := by
  unfold State.cancelAll
  refine foldl_fixed (fun t i => ?_) _ _
  split <;> simp
@[simp] theorem riseOwn_fixed (s : State) : fixed s.riseOwn = fixed s := by
  unfold State.riseOwn
  (repeat' split) <;> simp
@[simp] theorem sealMeasure_fixed (s : State) : fixed s.sealMeasure = fixed s := by
  unfold State.sealMeasure
  extract_lets m c s1 head digest l s2
  have hc : fixed c.1 = fixed s := by
    simp only [c]
    split <;> simp
  have h1 : fixed s1 = fixed s := by simp [s1, hc]
  exact h1
@[simp] theorem startBank_fixed (s : State) (p : Snap) : fixed (s.startBank p).1 = fixed s := by
  unfold State.startBank
  split
  · rfl
  · extract_lets new first
    cases hw : s.write false .slcHost .programFg (some p.measure) first new with
    | none => rfl
    | some t => exact (write_fixed hw :)
@[simp] theorem startBanks_fixed (s : State) : fixed s.startBanks = fixed s := by
  unfold State.startBanks
  split
  · rfl
  · rename_i p rest _
    exact (startBank_fixed s p :)
@[simp] theorem entryDurable_fixed (s : State) (e : JournalEntry) : fixed (s.entryDurable e) = fixed s := by rfl
@[simp] theorem moveDurable_fixed (s : State) (m : Nat × Nat × Nat × Nat) : fixed (s.moveDurable m) = fixed s := by
  simp only [State.moveDurable]
  (repeat' split) <;> simp
@[simp] theorem flashDurable_fixed (s : State) (p : Snap) : fixed (s.flashDurable p) = fixed s := by simp [State.flashDurable]
@[simp] theorem bankDurable_fixed (s : State) (p : Snap) (rest : List Snap) : fixed (s.bankDurable p rest) = fixed s := by
  unfold State.bankDurable
  extract_lets s1 s2
  have h1 : fixed s1 = fixed s := by rfl
  simp [s2, h1]
@[simp] theorem stillDegraded_fixed (s : State) (id : Nat) : fixed (s.stillDegraded id) = fixed s := by rfl
@[simp] theorem raiseDegraded_fixed (s : State) (id : Nat) : fixed (s.raiseDegraded id) = fixed s := by simp [State.raiseDegraded]
@[simp] theorem raiseMember_fixed (s : State) (u : HwUnit) : fixed (s.raiseMember u) = fixed s := by simp [State.raiseMember]
@[simp] theorem raiseBank_fixed (s : State) (u : HwUnit) : fixed (s.raiseBank u) = fixed s := by simp [State.raiseBank]
@[simp] theorem raiseRank_fixed (s : State) (u : HwUnit) : fixed (s.raiseRank u) = fixed s := by simp [State.raiseRank]
@[simp] theorem raiseLun_fixed (s : State) (u : HwUnit) : fixed (s.raiseLun u) = fixed s := by simp [State.raiseLun]
@[simp] theorem raiseChannel_fixed (s : State) (u : HwUnit) : fixed (s.raiseChannel u) = fixed s := by
  simp only [State.raiseChannel]
  (repeat' split) <;> simp
@[simp] theorem raisePort_fixed (s : State) (p : Fin 2) (u : HwUnit) : fixed (s.raisePort p u) = fixed s := by simp [State.raisePort]
@[simp] theorem raiseUnit_fixed (s : State) (u : HwUnit) : fixed (s.raiseUnit u) = fixed s := by
  unfold State.raiseUnit
  split <;> simp
@[simp] theorem ageViews_fixed (s : State) (u : HwUnit) : fixed (s.ageViews u) = fixed s := by simp [State.ageViews]
@[simp] theorem raiseViews_fixed (s : State) : fixed s.raiseViews = fixed s := by simp [State.raiseViews]
@[simp] theorem boundaryUnits_fixed (s : State) : fixed s.boundaryUnits = fixed s := by simp [State.boundaryUnits]
@[simp] theorem beginTick_fixed (s : State) : fixed s.beginTick = fixed s := by simp [State.beginTick]
@[simp] theorem endTick_fixed (s : State) (before : List (Nat × UnitState × UnitState)) : fixed (s.endTick before) = fixed s := by
  simp [State.endTick]
@[simp] theorem throttle_fixed (s : State) (tj : Int) : fixed (s.throttle tj) = fixed s := by simp [State.throttle]
@[simp] theorem serveWatchdog_fixed (s : State) : fixed s.serveWatchdog = fixed s := by simp [State.serveWatchdog]
@[simp] theorem tickPulses_fixed (s : State) : fixed s.tickPulses = fixed s := by simp [State.tickPulses]
@[simp] theorem custodyQuiesce_fixed (s : State) : fixed s.custodyQuiesce = fixed s := by
  unfold State.custodyQuiesce
  split <;> simp
@[simp] theorem wakeHeld_fixed (s : State) (r : Request) : fixed (s.wakeHeld r) = fixed s := by simp [State.wakeHeld]
@[simp] theorem admitHeld_fixed (s : State) : fixed s.admitHeld = fixed s := by simp [State.admitHeld]
@[simp] theorem wakeWaiting_fixed (s : State) (i : Item) : fixed (s.wakeWaiting i) = fixed s := by
  unfold State.wakeWaiting
  split <;> simp
@[simp] theorem admitWaiting_fixed (s : State) : fixed s.admitWaiting = fixed s := by simp [State.admitWaiting]
@[simp] theorem scanAll_fixed (s : State) : fixed s.scanAll = fixed s := by simp [State.scanAll]
@[simp] theorem countWaits_fixed (s : State) : fixed s.countWaits = fixed s := by simp [State.countWaits]
@[simp] theorem clearHappenings_fixed (s : State) : fixed s.clearHappenings = fixed s := by rfl
@[simp] theorem boundaryMedia_fixed (s : State) : fixed s.boundaryMedia = fixed s := by simp [State.boundaryMedia]
@[simp] theorem endSlices_fixed (s : State) : fixed s.endSlices = fixed s := by rfl
@[simp] theorem placed_fixed (s : State) (ts : List Touch) (run : State → State) (h : ∀ t, fixed (run t) = fixed t) :
    fixed (s.placed ts run) = fixed s := by
  simp [State.placed, h]
@[simp] theorem countSystem_fixed (s : State) (m : Nat) : fixed (s.countSystem m) = fixed s := by rfl

/-! ## Received frames -/

theorem skpCheck_fixed {s : State} {src : Source} {p : Bytes} {t : State} (h : s.skpCheck src p = .inl t) : fixed t = fixed s := by
  simp only [State.skpCheck] at h
  split at h
  · cases h; simp
  · split at h
    · cases h; simp
    · split at h
      · cases h
      · split at h <;> · cases h; simp
@[simp] theorem rxDone_fixed (s : State) (p : Fin 2) : fixed (s.rxDone p) = fixed s := by rfl
@[simp] theorem rxFail_fixed (s : State) (p : Fin 2) (c : Ctr) : fixed (s.rxFail p c) = fixed s := by rfl
@[simp] theorem rxOk_fixed (s : State) (p : Fin 2) (f : Frame) : fixed (s.rxOk p f) = fixed s := by rfl
@[simp] theorem fcsError_fixed (s : State) (p : Fin 2) : fixed (s.fcsError p) = fixed s := by simp [State.fcsError]
@[simp] theorem ptpFrame_fixed (s : State) (p : Fin 2) (m : PtpMsg) : fixed (s.ptpFrame p m) = fixed s := by
  unfold State.ptpFrame
  split <;> simp
@[simp] theorem dataFrame_fixed (s : State) (p : Fin 2) (f : Frame) (st : UnitState) (src : Source) (payload : Bytes) :
    fixed (s.dataFrame p f st src payload) = fixed s := by
  simp only [State.dataFrame]
  split
  · rename_i heq
    simp [skpGateIn_fixed heq]
  · split
    · rename_i heq
      simp [skpCheck_fixed heq]
    · simp
@[simp] theorem ipFrame_fixed (s : State) (p : Fin 2) (f : Frame) (st : UnitState) (verified : Bool) (k : Packet) :
    fixed (s.ipFrame p f st verified k) = fixed s := by
  unfold State.ipFrame
  split <;> simp
@[simp] theorem rxContent_fixed (s : State) (p : Fin 2) (f : Frame) (st : UnitState) (verified : Bool) :
    fixed (s.rxContent p f st verified) = fixed s := by
  simp only [State.rxContent]
  (repeat' split) <;> simp
@[simp] theorem rxSecured_fixed (s : State) (p : Fin 2) (f : Frame) (st : UnitState) : fixed (s.rxSecured p f st) = fixed s := by
  unfold State.rxSecured
  split <;> simp
@[simp] theorem rxChecks_fixed (s : State) (p : Fin 2) (f : Frame) (limit : Nat) (st : UnitState) :
    fixed (s.rxChecks p f limit st) = fixed s := by
  unfold State.rxChecks
  (repeat' split) <;> simp
@[simp] theorem checkStored_fixed (s : State) (p : Fin 2) (a : RxSlot) (rest : List RxSlot) (f : Frame) :
    fixed (s.checkStored p a rest f) = fixed s := by
  simp [State.checkStored]
@[simp] theorem parsed_fixed (s : State) (r : Request) : fixed (s.parsed r) = fixed s := by
  unfold State.parsed
  split <;> simp

/-! ## Registers -/

@[simp] theorem readEffect_fixed (s : State) (b : Block) (a : Nat) : fixed (s.readEffect b a) = fixed s := by
  simp only [State.readEffect]
  (repeat' split) <;> simp
@[simp] theorem readWords_fixed (s : State) (n a : Nat) : fixed (s.readWords n a).1 = fixed s := by
  induction n generalizing s a with
  | zero => rfl
  | succ n ih =>
    unfold State.readWords
    split <;> simp [ih]
@[simp] theorem writeMbx_fixed (s : State) (off : Nat) (v : Nat) : fixed (s.writeMbx off v) = fixed s := by
  unfold State.writeMbx
  split <;> simp
@[simp] theorem writeEvf_fixed (s : State) (off : Nat) (v : Nat) : fixed (s.writeEvf off v) = fixed s := by simp [State.writeEvf]
@[simp] theorem writeWord_fixed (s : State) (b : Block) (a : Nat) (v : Nat) : fixed (s.writeWord b a v) = fixed s := by
  unfold State.writeWord
  split <;> simp
@[simp] theorem writeSome_fixed (s : State) (p : Nat → Bool) (n a : Nat) (d : Bytes) : fixed (s.writeSome p n a d) = fixed s := by
  induction n generalizing s a d with
  | zero => rfl
  | succ n ih =>
    simp only [State.writeSome, ih]
    split <;> simp
@[simp] theorem writeWords_fixed (s : State) (n : Nat) (a : Nat) (d : Bytes) : fixed (s.writeWords n a d) = fixed s := by
  simp [State.writeWords]
@[simp] theorem frameDone_fixed (s : State) (start : Nat) (status : Nat) (l : List (Nat × WordErr)) (miso : Bytes) :
    fixed (s.frameDone start status l miso) = fixed s := by
  rfl
@[simp] theorem readFrame_fixed (s : State) (m : Bytes) : fixed (s.readFrame m) = fixed s := by simp [State.readFrame]
@[simp] theorem writeFrame_fixed (s : State) (m : Bytes) : fixed (s.writeFrame m) = fixed s := by simp [State.writeFrame]

/-! ## Start-up -/

@[simp] theorem restoreOr_fixed (s : State) : fixed s.restoreOr.1 = fixed s := by simp [State.restoreOr]
@[simp] theorem fallback_fixed (s : State) : fixed s.fallback.1 = fixed s := by simp [State.fallback]
@[simp] theorem boot_fixed (s : State) (strap : Bool) : fixed (s.boot strap).1 = fixed s := by simp [State.boot]
@[simp] theorem ringStart_fixed (s : State) (recovery : Bool) : fixed (s.ringStart recovery) = fixed s := by simp [State.ringStart]
@[simp] theorem enterRecovery_fixed (s : State) (reason : Nat) : fixed (s.enterRecovery reason) = fixed s := by rfl
@[simp] theorem startRanks_fixed (s : State) : fixed s.startRanks = fixed s := by
  unfold State.startRanks
  split <;> simp
@[simp] theorem placeFixed_fixed (s : State) : fixed s.placeFixed = fixed s := by
  unfold State.placeFixed
  split <;> simp
@[simp] theorem startLuns_fixed (s : State) : fixed s.startLuns = fixed s := by
  unfold State.startLuns
  split <;> rfl
@[simp] theorem dropBatches_fixed (s : State) : fixed s.dropBatches = fixed s := by simp [State.dropBatches]
@[simp] theorem applySettings_fixed (s : State) : fixed s.applySettings = fixed s := by rfl
@[simp] theorem checkPending_fixed (s : State) : fixed s.checkPending = fixed s := by simp [State.checkPending]
@[simp] theorem powerUp_fixed (s : State) (chip : Nat) : fixed (s.powerUp chip) = fixed s := by rfl
@[simp] theorem startTests_fixed (s : State) (f : Found) : fixed (s.startTests f) = fixed s := by simp [State.startTests]
@[simp] theorem startMedia_fixed (s : State) (f : Found) : fixed (s.startMedia f) = fixed s := by simp [State.startMedia]
@[simp] theorem closeAll_fixed (s : State) : fixed s.closeAll = fixed s := by simp [State.closeAll]
@[simp] theorem flashCustody_fixed (s : State) : fixed s.flashCustody = fixed s := by simp [State.flashCustody]
@[simp] theorem enterCustody_fixed (s : State) : fixed s.enterCustody = fixed s := by
  unfold State.enterCustody
  extract_lets last s1 flushed s2 s3 s4 s5
  have h2 : fixed s2 = fixed flushed := by rfl
  simp [s5, s4, s3, h2, flushed, s1]

end Sys2Proof.Laws
end

section
namespace Sys2Proof.Laws
open Sys2Proof Sys2Proof.Machine

/-! # Commands and sealed lists keep the fuses, the board and the queue -/

/-- Neither the effect of a command at its place nor its effect at the boundary touches what is fixed. -/
def cmdFixed (d : CmdDef) : Prop := ∀ (c : SealedCmd) (s : State), fixed (d.act c s).1 = fixed s ∧ fixed (d.later c s).1 = fixed s

theorem commandsDevice_fixed : ∀ d ∈ commandsDevice, cmdFixed d := by
  simp [commandsDevice, cmdFixed, CmdDef.base, cmdDeviceIdentify, cmdDeviceEcho, cmdDeviceStartupStatus, cmdDeviceEnterCustody,
    cmdDeviceSetThermal,
   cmdDeviceReset, cmdDevicePowerStatus, cmdTimeStatus, cmdTimeSetLength, cmdTimeSealLog, cmdUnitQuery,
   cmdUnitSetState, cmdUnitList]
  intro c s
  split <;> simp
theorem commandsNamespaces_fixed : ∀ d ∈ commandsNamespaces, cmdFixed d := by
  simp [commandsNamespaces, cmdFixed, CmdDef.base, cmdNamespaceCreate, cmdNamespaceDelete, cmdNamespaceSetQuota, cmdNamespaceInfo,
    cmdNamespaceList,
   cmdNamespaceDigest, cmdNamespaceLedgerHead, cmdNamespaceLedgerTrim, cmdNamespaceSetRetention,
   cmdNamespaceLedgerExport, cmdNamespaceValueDigest]
theorem commandsLarkspur_fixed : ∀ d ∈ commandsLarkspur, cmdFixed d := by
  simp [commandsLarkspur, cmdFixed, CmdDef.base, cmdSearchEntryWrite, cmdSearchEntryDelete, cmdSearchSetTables, cmdSearchPatternLoad,
   cmdSearchPatternUnload, cmdSearchCascadeSet, cmdSearchCascadeSwitch, cmdSearchProbe, cmdSearchStats]
theorem commandsNet_fixed : ∀ d ∈ commandsNet, cmdFixed d := by
  simp [commandsNet, cmdFixed, CmdDef.base, cmdNetSetPort, cmdNetSetFilter, cmdNetSetAddress, cmdNetSetMgmtPeers, cmdNetSetHeartbeat,
   cmdNetMacsecPolicy, cmdNetMacsecInstallSa, cmdNetMacsecRemoveSa, cmdNetPhyReset, cmdNetMdioWrite,
   cmdNetMdioRead, cmdNetTxFlush, cmdNetPortStatus, cmdNetCounters]
  intro c s
  split <;> simp
theorem commandsMedia_fixed : ∀ d ∈ commandsMedia, cmdFixed d := by
  simp [commandsMedia, cmdFixed, CmdDef.base, cmdMediaFormat, cmdMediaSetReadPolicy, cmdMediaSetWarn, cmdMediaAckWarnings, cmdMediaHealth,
   cmdMediaLunHealth]
  intro c s
  split <;> simp
theorem commandsChorus_fixed : ∀ d ∈ commandsChorus, cmdFixed d := by
  simp [commandsChorus, cmdFixed, CmdDef.base, cmdChorusForm, cmdChorusLeave, cmdChorusStatus, cmdChorusCheckpoint, cmdChorusCheckpointEnd,
   cmdChorusRestoreEnd, cmdChorusNsCommand, cmdChorusPark, cmdChorusResume]
  refine ⟨fun c s _ => ?_, fun c s => ?_, fun c s => ?_, fun c s => inChorus_fixed _ _ _ _ fun k => ?_⟩
  · split <;> simp
  · split <;> simp
  · split <;> simp
  · split
    · simp
    · split
      · split <;> simp
      · simp
theorem commandsEvents_fixed : ∀ d ∈ commandsEvents, cmdFixed d := by
  simp [commandsEvents, cmdFixed, CmdDef.base, cmdEventConfigure, cmdEventSetOwner, cmdEventLock, cmdEventEvioConfig, cmdEventSetParams,
   cmdEventTrigger, cmdEventQuery, cmdEventClear]
  refine ⟨fun c s => ⟨?_, ?_⟩, fun c s => ?_⟩
  · split <;> simp
  · split <;> simp
  · split <;> simp
theorem commandsUpdate_fixed : ∀ d ∈ commandsUpdate, cmdFixed d := by
  simp [commandsUpdate, cmdFixed, CmdDef.base, cmdUpdateStatus, cmdUpdateStage, cmdUpdateActivate, cmdUpdateConfirm, cmdUpdateRollback,
   cmdUpdateDiscard, cmdUpdateRdlBegin, cmdUpdateRdlData, cmdUpdateRdlEnd, CmdDef.recoveryOnly]
theorem commandsCoda_fixed : ∀ d ∈ commandsCoda, cmdFixed d := by
  simp [commandsCoda, cmdFixed, CmdDef.base, cmdCodaRead, cmdCodaList, cmdCodaFreeze, cmdCodaSetTriggers, cmdCodaKeep]

theorem commandsSecurity_fixed : ∀ d ∈ commandsSecurity, cmdFixed d := by
  simp [commandsSecurity, cmdFixed, CmdDef.base, cmdSecurityMrsUnlock, cmdSecurityMrsLock, cmdSecuritySetMailboxOwner,
    cmdSecurityLedgerKey,
   cmdSecurityProvision, cmdSecurityStatus]
  intro c s
  split <;> simp

theorem cmdFixed_of_mem {d : CmdDef} (h : d ∈ commands) : cmdFixed d := by
  simp only [commands, List.mem_append] at h
  obtain ((((((((h | h) | h) | h) | h) | h) | h) | h) | h) | h := h
  · exact commandsDevice_fixed d h
  · exact commandsNamespaces_fixed d h
  · exact commandsLarkspur_fixed d h
  · exact commandsNet_fixed d h
  · exact commandsMedia_fixed d h
  · exact commandsChorus_fixed d h
  · exact commandsEvents_fixed d h
  · exact commandsUpdate_fixed d h
  · exact commandsCoda_fixed d h
  · exact commandsSecurity_fixed d h

theorem cmdFixed_of_commandOf {op : Nat} {d : CmdDef} (h : commandOf op = some d) : cmdFixed d :=
  cmdFixed_of_mem (List.mem_of_find?_eq_some h)

section
variable {d : CmdDef} (h : cmdFixed d)
include h

theorem answer_fixed (c : SealedCmd) (s : State) : fixed (d.answer c s).1 = fixed s := by
  simp [CmdDef.answer, h c s]

theorem atPlace_fixed (c : SealedCmd) (s : State) : fixed (d.atPlace c s) = fixed s := by
  have ha := answer_fixed h c s
  simp only [CmdDef.atPlace]
  split <;> simp [ha]

theorem granted_fixed (c : Cmd) (s : State) : fixed (d.granted c s) = fixed s := by
  simp only [CmdDef.granted, State.admitCmd]
  split
  · simp
  · simp [(h _ _).1]

theorem run_fixed (c : Cmd) (s : State) : fixed (d.run c s) = fixed s := by
  simp [CmdDef.run, granted_fixed h]
end

/-! ## Items of a sealed list -/

@[simp] theorem runItem_fixed (m : Nat) (chorus : Bool) (s : State) (i : Item) : fixed (s.runItem m chorus i) = fixed s := by
  cases i with
  | skp r => simp [State.runItem]
  | cmd c =>
    refine placed_fixed _ _ _ fun t => ?_
    cases hd : commandOf c.opcode with
    | none => rfl
    | some d => exact atPlace_fixed (cmdFixed_of_commandOf hd) c t

@[simp] theorem runEffective_fixed (m : Nat) (s : State) : fixed (s.runEffective m) = fixed s := by
  refine (foldl_fixed (fun t p => placed_fixed _ _ _ fun u => ?_) _ _).trans (by simp)
  cases hd : commandOf p.2.opcode with
  | none => rfl
  | some d => simp [(cmdFixed_of_commandOf hd p.2 u).2]

@[simp] theorem boundaryCommands_fixed (s : State) : fixed s.boundaryCommands = fixed s := by
  refine (foldl_fixed (fun t c => ?_) _ _).trans (by simp)
  cases hd : commandOf c.opcode with
  | none => rfl
  | some d => exact (cmdFixed_of_commandOf hd c t).2

@[simp] theorem fetch_fixed (s : State) (m : Fin 8) : fixed (s.fetch m) = fixed s := by
  simp only [State.fetch]
  split
  · simp
  · split
    · simp
    · cases hd : commandOf (fld (s.mb m).request 0 2) with
      | none => simp
      | some d => exact (granted_fixed (cmdFixed_of_commandOf hd) _ _).trans (by simp)

/-! ## Measures -/

@[simp] theorem openMeasure_fixed (s : State) (o : Opening) : fixed (s.openMeasure o) = fixed s := by
  simp [State.openMeasure]
@[simp] theorem opened_fixed (s : State) (tj : Int) : fixed (s.opened tj) = fixed s := by simp [State.opened]
@[simp] theorem tick_fixed (s : State) (time : Nat) (tj : Int) : fixed (s.tick time tj) = fixed s := by simp [State.tick]
@[simp] theorem firstMeasure_fixed (s : State) (time : Nat) (found : Found) : fixed (s.firstMeasure time found) = fixed s := by
  simp [State.firstMeasure]
@[simp] theorem runList_fixed (s : State) (l : SealedList) (rest : List SealedList) : fixed (s.runList l rest) = fixed s := by
  unfold State.runList
  extract_lets m s0 s1 s2 s3 fresh p
  have h3 : fixed s3 = fixed s := by simp [s3, s2, s1, s0]
  exact h3

end Sys2Proof.Laws
end

section
namespace Sys2Proof.Laws
open Sys2Proof Sys2Proof.Machine

/-! # What every row does to the fuses, the board and the queue (R339, R402) -/

/-- A row that answers a next state keeps what is fixed. -/
def outFixed (s : State) (o : Out) : Prop := ∀ t, o = .next t → fixed t = fixed s

@[simp] theorem outFixed_next (s t : State) : outFixed s (.next t) ↔ fixed t = fixed s :=
  ⟨fun h => h t rfl, fun h u hu => by cases hu; exact h⟩
@[simp] theorem outFixed_ite {s : State} {c : Prop} [Decidable c] {a b : Out} :
    outFixed s (if c then a else b) ↔ (c → outFixed s a) ∧ (¬ c → outFixed s b) := by
  split <;> simp [*]

/-- A command's row is its table entry's `run`. -/
theorem run_outFixed {d : CmdDef} (h : cmdFixed d) (c : Cmd) (s : State) : outFixed s (.next (d.run c s)) :=
  (outFixed_next ..).2 (run_fixed h c s)

theorem execStopQuiesceComplete_outFixed (quiesce10us : Nat) (s : State) : outFixed s (execStopQuiesceComplete quiesce10us s) := by
  unfold execStopQuiesceComplete
  split
  · extract_lets s1 s2 s3
    have h3 : fixed s3 = fixed s2 := by rfl
    simp [h3, s2, s1]
  · simp

/-- The rows that burn fuses: the two burns, and Start-up, which makes good a burn that was cut short. -/
def burnsFuses : Instr → Bool
  | .rollbackFuseBurn | .provisionFuseBurn | .controllerResetRelease .. => true
  | _ => false

/-- Every row that burns no fuse, by the part of the drive that it is a row of. -/
theorem exec_outFixed (s : State) (i : Instr) (h : burnsFuses i = false) : outFixed s (exec i s) := by
  cases i
  case rollbackFuseBurn | provisionFuseBurn | controllerResetRelease => exact nomatch h
  case stopQuiesceComplete => exact execStopQuiesceComplete_outFixed _ _
  case deviceIdentify | deviceEcho | deviceStartupStatus | deviceEnterCustody | deviceSetThermal | deviceReset |
      devicePowerStatus | timeStatus | timeSetLength | timeSealLog | unitQuery | unitSetState | unitList =>
    exact run_outFixed (commandsDevice_fixed _ (by simp [commandsDevice])) _ _
  case namespaceCreate | namespaceDelete | namespaceSetQuota | namespaceInfo | namespaceList | namespaceDigest |
      namespaceLedgerHead | namespaceLedgerTrim | namespaceSetRetention | namespaceLedgerExport | namespaceValueDigest =>
    exact run_outFixed (commandsNamespaces_fixed _ (by simp [commandsNamespaces])) _ _
  case searchSetTables | searchEntryWrite | searchEntryDelete | searchPatternLoad | searchPatternUnload | searchCascadeSet |
      searchCascadeSwitch | searchProbe | searchStats =>
    exact run_outFixed (commandsLarkspur_fixed _ (by simp [commandsLarkspur])) _ _
  case netSetPort | netSetFilter | netSetAddress | netSetMgmtPeers | netSetHeartbeat | netMacsecPolicy | netMacsecInstallSa |
      netMacsecRemoveSa | netPhyReset | netMdioWrite | netMdioRead | netTxFlush | netPortStatus | netCounters =>
    exact run_outFixed (commandsNet_fixed _ (by simp [commandsNet])) _ _
  case mediaFormat | mediaSetReadPolicy | mediaSetWarn | mediaAckWarnings | mediaHealth | mediaLunHealth =>
    exact run_outFixed (commandsMedia_fixed _ (by simp [commandsMedia])) _ _
  case chorusForm | chorusLeave | chorusStatus | chorusCheckpoint | chorusCheckpointEnd | chorusRestoreEnd | chorusNsCommand |
      chorusPark | chorusResume =>
    exact run_outFixed (commandsChorus_fixed _ (by simp [commandsChorus])) _ _
  case eventConfigure | eventSetOwner | eventLock | eventEvioConfig | eventSetParams | eventTrigger | eventQuery | eventClear
      =>
    exact run_outFixed (commandsEvents_fixed _ (by simp [commandsEvents])) _ _
  case updateStatus | updateStage | updateActivate | updateConfirm | updateRollback | updateDiscard | updateRdlBegin |
      updateRdlData | updateRdlEnd =>
    exact run_outFixed (commandsUpdate_fixed _ (by simp [commandsUpdate])) _ _
  case codaRead | codaList | codaFreeze | codaSetTriggers | codaKeep =>
    exact run_outFixed (commandsCoda_fixed _ (by simp [commandsCoda])) _ _
  case securityMrsUnlock | securityMrsLock | securitySetMailboxOwner | securityLedgerKey | securityProvision | securityStatus
      =>
    exact run_outFixed (commandsSecurity_fixed _ (by simp [commandsSecurity])) _ _
  case get | put | delete | cas | append | scan | watch | watchStop | batchOpen | batchClose | cancel | segment |
      segmentCommit | segmentAbort | hello | bye | credit | heartbeat | stanzaRead | stanzaLoad | gapTimeout | batchDeadline |
      segmentedValueDeadline | sessionIdleClose | watchDurationEnd | watchLimitReached =>
    simp [exec, execGet, execPut, execDelete, execCas, execAppend, execScan, execWatch, execWatchStop, execBatchOpen,
      execBatchClose, execCancel, execSegment, execSegmentCommit, execSegmentAbort, execHello, execBye, execCredit,
      execHeartbeat, execStanzaRead, execStanzaLoad, execGapTimeout, execBatchDeadline, execSegmentedValueDeadline,
      execSessionIdleClose, execWatchDurationEnd, execWatchLimitReached]
  case digest | pullList | pullFetch | pullSets | pullTransfer | pullResponseReceive | chainConfirmDeadline | chorusCatchUp |
      chorusTransferRejoin | transferWindowExpiry | snapshotExpiry =>
    simp [exec, execDigest, execPullList, execPullFetch, execPullSets, execPullTransfer, execPullResponseReceive,
      execChainConfirmDeadline, execChorusCatchUp, execChorusTransferRejoin, execTransferWindowExpiry, execSnapshotExpiry]
  case mgmtMessage | mgmtMessageCancel | mailboxLoadingTimeout | commandTimeout =>
    simp [exec, execMgmtMessage, execMgmtMessageCancel, execMailboxLoadingTimeout, execCommandTimeout]
  case rdlBegin | rdlData | rdlEnd | rdlStatus | bootRecordArmedWrite | archiveDurable | installReady |
      bootRecordRevertingWrite | settingsMirrorWrite | recoveryInstallComplete =>
    simp [exec, execRdlBegin, execRdlData, execRdlEnd, execRdlStatus, execBootRecordArmedWrite, execArchiveDurable,
      execInstallReady, execBootRecordRevertingWrite, execSettingsMirrorWrite, execRecoveryInstallComplete]
  case rxFrameAdmit | pauseReceive | receivedPauseExpiry | pauseRepeat | gptpSyncReceive | syncLoss | holdoverExpiry |
      pdelayReqReceive | pdelayRespReceive | pdelayReqSend | arpRequestReceive | neighborSolicitationReceive |
      echoRequestReceive | heartbeatQueue | txDescriptorCancel | linkDown | linkUp | phyIntPoll | ppsInEdge | ppsOutSecond |
      ppsOutPulseEnd | phyResetRelease | departureHeartbeatExpiry =>
    simp [exec, execRxFrameAdmit, execPauseReceive, execReceivedPauseExpiry, execPauseRepeat, execGptpSyncReceive,
      execSyncLoss, execHoldoverExpiry, execPdelayReqReceive, execPdelayRespReceive, execPdelayReqSend, execArpRequestReceive,
      execNeighborSolicitationReceive, execEchoRequestReceive, execHeartbeatQueue, execTxDescriptorCancel, execLinkDown,
      execLinkUp, execPhyIntPoll, execPpsInEdge, execPpsOutSecond, execPpsOutPulseEnd, execPhyResetRelease,
      execDepartureHeartbeatExpiry]
  case rxFrameCheck =>
    simp only [exec, execRxFrameCheck]
    (repeat' split) <;> simp
  case startupGptpWaitExpiry | measureTick | executionWindowOverrun =>
    simp [exec, execStartupGptpWaitExpiry, execMeasureTick, execExecutionWindowOverrun]
  case requestToAdmissionPort =>
    simp only [exec, execRequestToAdmissionPort]
    split <;> simp
  case sealedListExecute | stagingBankDurable =>
    simp only [exec, execSealedListExecute, execStagingBankDurable]
    split <;> simp
  case frameTransmitStart =>
    simp only [exec, execFrameTransmitStart]
    (repeat' split) <;> simp
  case mailboxFetch =>
    simp only [exec, execMailboxFetch]
    (repeat' split) <;> simp
  case lunSlotBoundary | backgroundDenialExpiry | evacuation =>
    simp [exec, execLunSlotBoundary, execBackgroundDenialExpiry, execEvacuation]
  case nandOpComplete | nandOpTimeout | garbageCollection | folding | wearMove | temperatureSample =>
    simp only [exec, execNandOpComplete, execNandOpTimeout, execGarbageCollection, execFolding, execWearMove,
      execTemperatureSample]
    (repeat' split) <;> simp
  case eraseDone | scrub | refresh | lpddr5PatrolPass =>
    simp only [exec, execEraseDone, execScrub, execRefresh, execLpddr5PatrolPass]
    split <;> simp
  case larkspurScrub | larkspurForcedScrub | shadowRebuild | bankRequalify | cascadeLoss =>
    simp [exec, execLarkspurScrub, execLarkspurForcedScrub, execShadowRebuild, execBankRequalify, execCascadeLoss]
  case onePlaceMove =>
    simp only [exec, execOnePlaceMove]
    (repeat' split) <;> simp
  case cascadeTransaction | cascadeGenerationCopy =>
    simp only [exec, execCascadeTransaction, execCascadeGenerationCopy]
    split <;> simp
  case digestRoundSend | peerSilenceTimeout =>
    simp only [exec, execDigestRoundSend, execPeerSilenceTimeout]
    split <;> simp
  case evioInputEdge | consumerActionComplete | aonTimerExpiry =>
    simp [exec, execEvioInputEdge, execConsumerActionComplete, execAonTimerExpiry]
  case eventDeliver =>
    simp only [exec, execEventDeliver]
    split <;> simp
  case porstNAssert | sysRstNAssert | watchdogExpiry | wdogWarn | internalFatalError | powerReturn | holdupOkFall |
      thermAlertAssert | thermalShutdownRelease | wakeRise | xtal32Stable =>
    simp [exec, execPorstNAssert, execSysRstNAssert, execWatchdogExpiry, execWdogWarn, execInternalFatalError,
      execPowerReturn, execHoldupOkFall, execThermAlertAssert, execThermalShutdownRelease, execWakeRise, execXtal32Stable]
  case firstMeasureOpen | custodyPortStopTimeout =>
    simp [exec, execFirstMeasureOpen, execCustodyPortStopTimeout]
  case protectionFault =>
    simp only [exec, execProtectionFault]
    (repeat' split) <;> simp
  case ownershipRequest | ownershipRetry | debugHalt | jtagBypass | jtagIdcode | jtagSamplePreload | jtagExtest | jtagClamp |
      jtagHighz =>
    simp [exec, execOwnershipRequest, execOwnershipRetry, execDebugHalt, execJtagBypass, execJtagIdcode,
      execJtagSamplePreload, execJtagExtest, execJtagClamp, execJtagHighz]
  case pwrFailAssert | thermalShutdown =>
    simp only [exec, execPwrFailAssert, execThermalShutdown]
    (repeat' split) <;> simp
  case deviceResetQuiesceStart =>
    simp only [exec, execDeviceResetQuiesceStart]
    split <;> simp
  case custodyEntryComplete =>
    simp only [exec, execCustodyEntryComplete]
    (repeat' split) <;> simp
  case pendingRegionWritten =>
    simp only [exec, execPendingRegionWritten]
    split <;> simp
  case loaderInstall =>
    simp only [exec, execLoaderInstall]
    (repeat' split) <;> simp
  case codaEntryWrite | freezeTimeout | codaRecordCopy =>
    simp [exec, execCodaEntryWrite, execFreezeTimeout, execCodaRecordCopy]
  case vaultFlush =>
    simp only [exec, execVaultFlush]
    split <;> simp
  case mbxDoorbell | mbxCtrlCancel | mbxRelease | mbxRequestWindowWrite | tmbMeasureLoRead | macCounterLowRead | mac0PpsLoRead
      | evfChTsLoRead | spiWriteFrame | spiReadFrame =>
    simp [exec, execMbxDoorbell, execMbxCtrlCancel, execMbxRelease, execMbxRequestWindowWrite, execTmbMeasureLoRead,
      execMacCounterLowRead, execMac0PpsLoRead, execEvfChTsLoRead, execSpiWriteFrame, execSpiReadFrame]

/-! ## Burning -/

/-- From `s` to `t` fuses were only burnt; the board and the queue are as they were. -/
def burns (s t : State) : Prop :=
  (s.fuses.wf → t.fuses.wf) ∧ s.fuses.onlyBurnt t.fuses ∧ t.board = s.board ∧ t.pending = s.pending

theorem Fuses.onlyBurnt_refl (f : Fuses) : f.onlyBurnt f := ⟨le_rfl, id, id, fun h => ⟨h, rfl, rfl⟩⟩

theorem burns_of_fixed {s t : State} (h : fixed t = fixed s) : burns s t := by
  simp only [fixed, Prod.mk.injEq] at h
  obtain ⟨hf, hb, hp⟩ := h
  rw [burns, hf]
  exact ⟨id, Fuses.onlyBurnt_refl _, hb, hp⟩

theorem burns.trans {s t u : State} (h : burns s t) (k : burns t u) : burns s u := by
  obtain ⟨hw, ⟨hr, hp, hd, ho⟩, hb, hq⟩ := h
  obtain ⟨kw, ⟨kr, kp, kd, ko⟩, kb, kq⟩ := k
  refine ⟨kw ∘ hw, ⟨hr.trans kr, kp ∘ hp, kd ∘ hd, fun hx => ?_⟩, kb.trans hb, kq.trans hq⟩
  obtain ⟨h1, h2, h3⟩ := ho hx
  obtain ⟨k1, k2, k3⟩ := ko h1
  exact ⟨k1, k2.trans h2, k3.trans h3⟩

/-- The anti-rollback value rises, and not above 64 (R339). -/
theorem burnRollback_burns (s : State) : burns s s.burnRollback :=
  ⟨fun h => max_le h (min_le_left ..), ⟨le_max_left .., id, id, fun h => ⟨h, rfl, rfl⟩⟩, rfl, rfl⟩

/-- PROVISION adds fuses; a fused key and its hash stay (R402). -/
theorem Fuses.onlyBurnt_burn (f : Fuses) (p : Bool × Bool × Bytes × Bytes) : f.onlyBurnt (f.burn p) :=
  ⟨le_rfl, fun _ => rfl, fun h => by simp [Fuses.burn, h], fun h => by simp [Fuses.burn, h]⟩

theorem burnProvision_burns (s : State) : burns s s.burnProvision := by
  unfold State.burnProvision
  split
  · exact burns_of_fixed rfl
  · split
    · exact burns_of_fixed rfl
    · exact ⟨id, Fuses.onlyBurnt_burn _ _, rfl, rfl⟩

/-- Start-up completes the burns that are due. -/
theorem startUp_burns (s : State) : burns s s.startUp := by
  unfold State.startUp
  extract_lets s1 s2
  have h0 : burns s ((s.ringStart false).startRanks.startLuns.dropBatches.applySettings).checkPending.confirmDurable :=
    burns_of_fixed (by simp)
  have h1 : burns s s1 := (h0.trans (burnRollback_burns _)).trans (burnProvision_burns _)
  exact h1.trans (burns_of_fixed (by simp [s2]))

theorem releaseReset_burns (s : State) (strap : Bool) (chip : Nat) : burns s (s.releaseReset strap chip) := by
  have h : fixed ((s.powerUp chip).boot strap).1 = fixed s := by simp
  unfold State.releaseReset
  split
  rename_i s1 why heq
  rw [heq] at h
  split
  · exact burns_of_fixed (by simpa using h)
  · exact (burns_of_fixed h).trans (startUp_burns s1)

/-- Every row only burns fuses. -/
theorem exec_burns {s t : State} {i : Instr} (h : exec i s = .next t) : burns s t := by
  by_cases hb : burnsFuses i = false
  · exact burns_of_fixed (exec_outFixed s i hb t h)
  · cases i
    case rollbackFuseBurn =>
      simp only [exec, execRollbackFuseBurn] at h
      split at h <;> cases h
      · exact (burns_of_fixed (confirmDurable_fixed s)).trans (burnRollback_burns _)
      · exact burns_of_fixed rfl
    case provisionFuseBurn =>
      simp only [exec, execProvisionFuseBurn] at h
      split at h <;> cases h
      · exact (burnProvision_burns s).trans (burns_of_fixed (placeDue_fixed _))
      · exact burns_of_fixed rfl
    case controllerResetRelease =>
      simp only [exec, execControllerResetRelease] at h
      split at h
      · cases h
        exact burns_of_fixed rfl
      · split at h <;> cases h
        · exact burns_of_fixed (by simp)
        · exact releaseReset_burns ..
    all_goals exact absurd rfl hb

/-- Settles O4: a row burns fuses or keeps them, and the step takes its command from the queue before. -/
theorem fusesOnlyBurn : Obligations.FusesOnlyBurn := by
  intro s t hw h
  unfold step at h
  split at h
  · rename_i hp
    cases h
    exact ⟨hw, Fuses.onlyBurnt_refl _, rfl, by rw [hp]; rfl⟩
  · rename_i c rest hp
    obtain ⟨hwf, hburnt, hboard, hqueue⟩ := exec_burns h
    exact ⟨hwf hw, hburnt, hboard, by rw [hp]; exact hqueue⟩

end Sys2Proof.Laws
end

section
namespace Sys2Proof.Laws
open Sys2Proof Sys2Proof.Machine

/-! # Searches do not look at the mailboxes (R221) -/

/-- The state with these mailboxes. -/
def withMbx (s : State) (v : Vector Mailbox 8) : State := { s with mbx := v }

theorem foldl_withMbx {α : Type} {f : State → α → State} (h : ∀ t a v, f (withMbx t v) a = withMbx (f t a) v) (l : List α) (s : State)
    (v : Vector Mailbox 8) : l.foldl f (withMbx s v) = withMbx (l.foldl f s) v :=
  (List.foldl_hom (withMbx · v) fun t a => h t a v).trans rfl

/-- The decision of `p` may be stated of the state with the mailboxes. -/
theorem ite_withMbx {p : Prop} {_ : Decidable p} (a b : State) (v : Vector Mailbox 8) :
    (if p then withMbx a v else withMbx b v) = withMbx (if p then a else b) v := by
  split <;> rfl

section
variable (s : State) (v : Vector Mailbox 8)

@[simp] theorem withMbx_store : (withMbx s v).store = s.store := rfl
@[simp] theorem withMbx_tb : (withMbx s v).tb = s.tb := rfl
@[simp] theorem withMbx_lks : (withMbx s v).lks = s.lks := rfl
@[simp] theorem withMbx_unit (id : Nat) : (withMbx s v).unit id = s.unit id := rfl
@[simp] theorem withMbx_mgmtView (id : Nat) : (withMbx s v).mgmtView id = s.mgmtView id := rfl
@[simp] theorem withMbx_effective (id : Nat) : (withMbx s v).effective id = s.effective id := rfl
@[simp] theorem withMbx_bankUsable (b : Nat) : (withMbx s v).bankUsable b = s.bankUsable b := rfl
@[simp] theorem withMbx_heldBy (tb : Table) (b : Nat) : (withMbx s v).heldBy tb b = s.heldBy tb b := rfl
@[simp] theorem modUnit_withMbx (id : Nat) (f : HwUnit → HwUnit) : (withMbx s v).modUnit id f = withMbx (s.modUnit id f) v := rfl
@[simp] theorem modLks_withMbx (f : LksArray → LksArray) : (withMbx s v).modLks f = withMbx (s.modLks f) v := rfl
@[simp] theorem draw_withMbx (bits : Nat) : (withMbx s v).draw bits = ((s.draw bits).1, withMbx (s.draw bits).2 v) := rfl
@[simp] theorem report_withMbx (code source : Nat) (payload : Bytes) (trigger : Option Nat) (secure : Bool) :
    (withMbx s v).report code source payload trigger secure = withMbx (s.report code source payload trigger secure) v := rfl

@[simp] theorem pulse_withMbx (p : Nat) : (withMbx s v).pulse p = withMbx (s.pulse p) v :=
  foldl_withMbx (f := State.inject) (fun _ _ _ => rfl) _ s v

@[simp] theorem noteViews_withMbx (id age : Nat) : (withMbx s v).noteViews id age = withMbx (s.noteViews id age) v := by
  cases hu : s.unit id
  · simp [State.noteViews, hu]
  · simp [State.noteViews, hu, ite_withMbx]

@[simp] theorem viewsMoved_withMbx (id age : Nat) : (withMbx s v).viewsMoved id age = withMbx (s.viewsMoved id age) v := by
  simp [State.viewsMoved, ite_withMbx]

@[simp] theorem lowerData_withMbx (id : Nat) (x : UnitState) : (withMbx s v).lowerData id x = withMbx (s.lowerData id x) v := by
  cases hu : s.unit id
  · simp [State.lowerData, hu]
  · simp [State.lowerData, hu, ite_withMbx]

@[simp] theorem degrade_withMbx (id : Nat) : (withMbx s v).degrade id = withMbx (s.degrade id) v := by
  simp [State.degrade]

@[simp] theorem startRebuild_withMbx (k : Nat) : (withMbx s v).startRebuild k = withMbx (s.startRebuild k) v := by
  unfold State.startRebuild
  by_cases h : (s.lks.rebuild.any fun r => r.1 == k) = true
  · rw [if_pos h]
    exact if_pos h
  · rw [if_neg h]
    exact if_neg h

@[simp] theorem readShadow_withMbx (pos : Nat) : (withMbx s v).readShadow pos = withMbx (s.readShadow pos) v := by
  cases hf : s.lks.shadowFault pos
  · simp [State.readShadow, hf]
  · simp [State.readShadow, hf, ite_withMbx]

@[simp] theorem repairUnit_withMbx (pos : Nat) : (withMbx s v).repairUnit pos = withMbx (s.repairUnit pos) v := by
  simp [State.repairUnit, ite_withMbx]
  rfl

@[simp] theorem compareUnit_withMbx (pos : Nat) : (withMbx s v).compareUnit pos = withMbx (s.compareUnit pos) v := by
  simp [State.compareUnit, ite_withMbx]

@[simp] theorem mirrorPair_withMbx (tb : Table) (reach : List Entry → List (Nat × Bool)) (k n : Nat) :
    State.mirrorPair tb reach k n (withMbx s v) = withMbx (State.mirrorPair tb reach k n s) v := by
  induction n generalizing s with
  | zero => rfl
  | succ n ih =>
    have hfence := foldl_withMbx (f := fun t (p : Nat) => t.lowerData (0x4000 + p / 8192) .fenced)
      fun t p w => lowerData_withMbx t w _ _
    have hcompare := foldl_withMbx (f := State.compareUnit) fun t p w => compareUnit_withMbx t w p
    simp [State.mirrorPair, hfence, hcompare, ih, ite_withMbx]

theorem consult_withMbx (tb : Table) (word : Nat) : (withMbx s v).consult tb word = withMbx (s.consult tb word) v := by
  have hpairs := foldl_withMbx (f := fun t k => State.mirrorPair tb (searchReach word) k (s.lks.cells.length + 1) t)
    fun t k w => mirrorPair_withMbx t w tb _ k _
  simp [State.consult, State.searched, State.mirrorCheck, hpairs, ite_withMbx]
end

/-! # SEARCH.STATS and SEARCH.PROBE (R389) -/

theorem overChips_alone {α : Type} {s : State} {tb : Table} (h : s.store.tables.cascaded tb = false) (others : Bool → Option α)
    (own : Option α) : s.overChips tb others own = own := by
  cases hc : s.store.tables.cascade <;> simp [State.overChips, hc, h]

/-- A first match as PROBE answers it. -/
def probeFound (addr tag prio : Nat) : Bytes := be 1 1 ++ zeros 3 ++ be 4 addr ++ be 4 tag ++ be 2 prio ++ be 2 0

/-- PROBE's result from the state `s1` that its search leaves. -/
def probeResult (s s1 : State) (tb : Table) (word : Nat) : Bytes :=
  (s1.overChips tb
    (fun lower => (Config.cascadeHit lower tb.num s.tb.measure word).map fun tag =>
      probeFound (Config.freeValue s1.fresh % 2 ^ 16) tag (Config.freeValue (s1.fresh + 1) % 2 ^ 12))
    ((s1.search tb word).map fun e => probeFound e.addr e.tag e.prio)).getD (zeros 16)

section
variable {c : Cmd} {s : State} (h : s.ready c .rt)
include h

theorem searchStats_exec (ha : c.args = []) : exec (.searchStats c) s = .next (s.answered c 0x0509 s.searchStats) :=
  exec_read cmdSearchStats (fun _ _ => rfl) rfl rfl h (by simp [ha, cmdSearchStats, CmdDef.base]) (by simp [ha]) rfl rfl

/-- The search is made in the granted state, whose mailboxes it does not look at; two free values are drawn. -/
theorem searchProbe_exec {tb : Table} {word : Nat} {s1 : State} (ht : Table.ofNum (u8 c.args 0) = some tb) (hu : tb ≠ .unassigned)
    (hl : c.args.length = 4 + 16 * (s.store.tables.shape tb).width) (h20 : 20 ≤ c.args.length) (h68 : c.args.length ≤ 68)
    (hlost : s.tableLost tb = false) (hw : word = fld c.args 4 (16 * (s.store.tables.shape tb).width)) (hs1 : s1 = s.consult tb word) :
    exec (.searchProbe c) s =
      .next ({ s1 with fresh := s1.fresh + 2 }.answered c 0x0508 (probeResult s s1 tb word)) := by
  have hm : s1.mbx = s.mbx := hs1 ▸ (congrArg State.mbx (consult_still s tb word) :)
  have hg : (s.granted c 0x0508).consult tb word = withMbx s1 (s.granted c 0x0508).mbx :=
    hs1 ▸ consult_withMbx s (s.granted c 0x0508).mbx tb word
  have hact : probe ⟨0x0508, c, 0, s.tb.measure⟩ (s.granted c 0x0508) =
      (withMbx { s1 with fresh := s1.fresh + 2 } (s.granted c 0x0508).mbx, .ok, probeResult s s1 tb word) := by
    have hlost' : (s.granted c 0x0508).tableLost tb = false := hlost
    have hst : (s.granted c 0x0508).store = s.store := rfl
    simp only [probe, ht, hst, ← hw, hl, hlost', hg, ne_eq, not_true_eq_false, if_false, Bool.false_eq_true, draw_withMbx]
    cases tb with
    | unassigned => exact absurd rfl hu
    | _ => rfl
  have hrun := run_immediate (d := cmdSearchProbe) h rfl rfl (by simp [cmdSearchProbe, CmdDef.base, h20, h68]) (by omega) rfl hact rfl
  exact congrArg Host.Outcome.next (hrun.trans (by rw [State.answered, State.answered, State.modMbx, State.modMbx, ← hm]; rfl))
end

/-- Settles O12: STATS reads; PROBE's search is that of the state before its grant. -/
theorem searchReadsComplete : Obligations.SearchReadsComplete := by
  intro c s h
  refine ⟨searchStats_exec h, fun tb word s1 s2 ht hu hl h20 h68 hlost hw hs1 hs2 => ?_⟩
  have hexec := searchProbe_exec h ht hu hl h20 h68 hlost hw hs1
  have hstore : s1.store = s.store := hs1 ▸ store_of_still (consult_still s tb word)
  refine ⟨fun hc => ?_, fun _ => ?_⟩
  · rw [hexec, hs2, probeResult, overChips_alone (hstore ▸ hc)]
    cases s1.search tb word <;> rfl
  · rw [hexec, hs2]
    rfl

end Sys2Proof.Laws
end

section
namespace Sys2Proof.Laws
open Sys2Proof Sys2Proof.Machine

/-! # How an immediate command runs, whatever its status (R83, R84, R87) -/

/-- The mailbox takes the command and runs it now: Cantor fetches it, and it is a new command over SPI (R83, R88). -/
structure Grants (d : CmdDef) (c : Cmd) (s : State) : Prop where
  awake : s.power.inReset = false
  fetched : s.fetches = true
  served : s.power.mode = .recovery → c.mailbox = 0
  idle : (s.mb c.mailbox).state = .idle
  spi : (s.mb c.mailbox).eth = false
  kept : (s.mb c.mailbox).cancelPending = false
  fresh : (s.mb c.mailbox).repeats c.sequence = false
  passes : d.check c s = none

/-- An immediate command has its answer with a status: as `State.answered`, whose status is OK. -/
def answeredAs (s : State) (c : Cmd) (op : Nat) (st : Status) (result : Bytes) : State :=
  s.modMbx c.mailbox fun b =>
    { b with state := .done, eth := false, peer := none, code := st.num, seqReg := c.sequence, prevSeq := some c.sequence
             stored := true, lastDone := some c.sequence, cancelPending := false
             request := padTo 512 (requestEnvelope op c.mailbox 0 c.sequence c.args)
             response := padTo 512 (responseEnvelope op c.mailbox false c.sequence st.num 0 result) }

theorem answeredAs_ok (s : State) (c : Cmd) (op : Nat) (result : Bytes) : answeredAs s c op .ok result = s.answered c op result := rfl

section
variable (s : State) {c : Cmd} (op : Nat) (st : Status) (result : Bytes)

theorem answeredAs_state : ((answeredAs s c op st result).mb c.mailbox).state = .done :=
  congrArg Mailbox.state (modMbx_mb s c.mailbox _)

theorem answeredAs_code : ((answeredAs s c op st result).mb c.mailbox).code = st.num :=
  congrArg Mailbox.code (modMbx_mb s c.mailbox _)

theorem answeredAs_others {k : Fin 8} (hk : k ≠ c.mailbox) : (answeredAs s c op st result).mb k = s.mb k :=
  modMbx_other s c.mailbox k _ hk
end

section
variable {d : CmdDef} {c : Cmd} {s t : State} {st : Status} {result : Bytes}

theorem grants_of_ready (h : s.ready c d.owner) (hs : d.inService = true) (hl : d.len c.args.length = true)
    (h496 : c.args.length ≤ 496) (hp : d.pre s.board c.args = none) : Grants d c s := by
  have hc := ready_check h hs hl h496 hp
  obtain ⟨hm, hr, hi, he, hcp, hn, -⟩ := h
  exact ⟨hr, by simp [State.fetches, hm, hr], by simp [hm], hi, he, hcp, hn, hc⟩

/-- In Recovery mailbox 0 alone is served, for the commands that are valid there (R89). -/
theorem grants_of_readyRecovery (h : s.readyRecovery c) (hr : d.inRecovery = true) (hl : d.len c.args.length = true)
    (h496 : c.args.length ≤ 496) (hp : d.pre s.board c.args = none) : Grants d c s := by
  obtain ⟨hm, hir, h0, hi, he, hcp, hn⟩ := h
  refine ⟨hir, by simp [State.fetches, hm, hir], fun _ => h0, hi, he, hcp, hn, ?_⟩
  have ho : (s.ownerOf 0).covers d.owner = true := by cases d.owner <;> rfl
  simp [CmdDef.check, hm, h0, hr, ho, hl, hp, Nat.not_lt.mpr h496]

/-- An immediate command that is granted: `t` is what its own effect makes of the granted state. -/
theorem run_answers (h : Grants d c s) (hk : d.kind = .immediate)
    (ha : d.act { opcode := d.opcode, cmd := c, count := 0, adm := s.tb.measure } (s.granted c d.opcode) = (t, st, result))
    (hm : t.mbx = (s.granted c d.opcode).mbx) :
    d.run c s = { t with mbx := (answeredAs s c d.opcode st result).mbx } := by
  obtain ⟨hr, hf, hrec, hi, he, hcp, hn, hc⟩ := h
  have hcust : s.power.mode ≠ .custody := fun hm => by simp [State.fetches, hm] at hf
  have hwin : ¬ (s.power.mode = .recovery ∧ c.mailbox ≠ 0) := fun hx => hx.2 (hrec hx.1)
  have hrun : d.run c s = d.granted c (s.granted c d.opcode) := by
    simp only [CmdDef.run, hr, hcust, hwin, hi, hf, hn, State.granted, Mailbox.grant, Mailbox.load]
    simp
  have hcg : d.check c (s.granted c d.opcode) = none := (check_congr d c (s := s) rfl rfl rfl).trans hc
  have hb : t.mb c.mailbox = (s.granted c d.opcode).mb c.mailbox := by simp [State.mb, hm]
  have h1 : (s.granted c d.opcode).tb = s.tb := rfl
  rw [hrun]
  simp only [CmdDef.granted, hcg, hk, h1, ha, if_true]
  simp only [State.answerCmd, State.completeMailbox, hb, State.granted, modMbx_mb, he]
  rw [u8_request_mailbox, u8_request_flags]
  simp only [State.modMbx, answeredAs, hm, State.granted, Mailbox.complete]
  have h2 : (s.mbx[(c.mailbox : Nat)]).eth = false := he
  have h3 : (s.mbx[(c.mailbox : Nat)]).cancelPending = false := hcp
  simp [h2, h3, Nat.mod_eq_of_lt]
end

/-! # The immediate NET commands (R393) -/

theorem portRange_named {a : Bytes} {p : Fin 2} (hp : u8 a 0 = p) : portRange a = none := by
  have := p.isLt
  exact if_neg (by omega)

section
variable {c : Cmd} {s : State} {p : Fin 2} (hb : p = 1 → s.board.port1 = true) (hl : c.args.length = 4) (hp : u8 c.args 0 = p)
include hb hl hp

theorem netPortStatus_exec (h : s.ready c .rt) : exec (.netPortStatus c) s = .next (s.answered c 0x060D
    (be 4 (s.macStatus p) ++ be 4 (s.port p).rxBuf ++ (s.net p).set.bytes p ++ be 16 ((s.net p).ipv6.getD 0) ++
      be 4 ((s.net p).ipv4.getD 0) ++ be 4 0)) :=
  exec_read cmdNetPortStatus (fun _ _ => rfl) rfl rfl h (by simp [cmdNetPortStatus, CmdDef.base, hl]) (by omega)
    (portRange_named hp) (onPort_named (s := s.granted c 0x060D) hp hb _)

theorem netCounters_exec (h : s.ready c .rt) :
    exec (.netCounters c) s = .next (s.answered c 0x060E ((s.port p).counters.toList.flatMap (be 8))) :=
  exec_read cmdNetCounters (fun _ _ => rfl) rfl rfl h (by simp [cmdNetCounters, CmdDef.base, hl]) (by omega)
    (portRange_named hp) (onPort_named (s := s.granted c 0x060E) hp hb _)

theorem netTxFlush_exec (h : s.ready c .mgmt) :
    exec (.netTxFlush c) s = .next (((s.answered c 0x060C (be 4 (s.port p).queue.length ++
      be 4 (match (s.port p).inFlight with
        | some f => b2n (f.cls == .queue)
        | none => 0))).modPort p fun q => { q with queue := [] }).count p .txCancelled (s.port p).queue.length) :=
  congrArg Host.Outcome.next (run_immediate (d := cmdNetTxFlush) h rfl rfl (by simp [cmdNetTxFlush, CmdDef.base, hl]) (by omega)
    (portRange_named hp) (onPort_named (s := s.granted c 0x060C) hp hb _) rfl)
end

section
variable {c : Cmd} {s : State} (h : s.ready c .rt) (hl : c.args.length = 8) (h0 : u8 c.args 0 = 22 ∨ u8 c.args 0 = 45)
  (h1 : u8 c.args 1 ≤ 31)
include h hl h0 h1

theorem mdioRead_grants : Grants cmdNetMdioRead c s :=
  grants_of_ready h rfl (by simp [cmdNetMdioRead, CmdDef.base, hl]) (by omega) (if_neg (by omega))

theorem netMdioRead_value {v : Nat} (hv : Config.mdioRead s.fresh (u8 c.args 0) (u8 c.args 1)
      (if u8 c.args 0 = 45 then u8 c.args 2 else 0) (fld c.args 4 2) = some v) :
    exec (.netMdioRead c) s = .next { s.answered c 0x060B (be 2 v ++ be 2 0) with fresh := s.fresh + 1 } := by
  have hf : (s.granted c 0x060B).fresh = s.fresh := rfl
  refine congrArg Host.Outcome.next (run_answers (t := { s.granted c 0x060B with fresh := s.fresh + 1 }) (st := .ok)
    (mdioRead_grants h hl h0 h1) rfl ?_ rfl)
  simp only [cmdNetMdioRead, CmdDef.base, hf, hv]
  rfl

/-- Where no PHY drives the turnaround, the command is answered NOT_FOUND. -/
theorem netMdioRead_silent (hv : Config.mdioRead s.fresh (u8 c.args 0) (u8 c.args 1)
      (if u8 c.args 0 = 45 then u8 c.args 2 else 0) (fld c.args 4 2) = none) :
    exec (.netMdioRead c) s = .next { answeredAs s c 0x060B .notFound [] with fresh := s.fresh + 1 } := by
  have hf : (s.granted c 0x060B).fresh = s.fresh := rfl
  refine congrArg Host.Outcome.next (run_answers (t := { s.granted c 0x060B with fresh := s.fresh + 1 })
    (mdioRead_grants h hl h0 h1) rfl ?_ rfl)
  simp only [cmdNetMdioRead, CmdDef.base, hf, hv]
  rfl
end

/-- Settles O14: each command's own definition on the granted state; TX_FLUSH on the port it names. -/
theorem netQueriesComplete : Obligations.NetQueriesComplete := by
  refine fun c s p hb => ⟨fun h hl hp => ⟨netPortStatus_exec hb hl hp h, netCounters_exec hb hl hp h⟩, ?_,
    fun h hl hp => netTxFlush_exec hb hl hp h⟩
  rintro h hl h0 h1 drives rfl
  cases hv : Config.mdioRead s.fresh (u8 c.args 0) (u8 c.args 1) (if u8 c.args 0 = 45 then u8 c.args 2 else 0) (fld c.args 4 2) with
  | some v => exact ⟨_, netMdioRead_value h hl h0 h1 hv, fun w hw => (by cases hw; rfl), fun hn => nomatch hn⟩
  | none =>
    refine ⟨_, netMdioRead_silent h hl h0 h1 hv, fun v hw => (by cases hw), fun _ => ⟨?_, ?_, fun k hk => ?_, rfl⟩⟩
    · exact answeredAs_state ..
    · exact answeredAs_code ..
    · exact answeredAs_others _ _ _ _ hk

end Sys2Proof.Laws
end

section
namespace Sys2Proof.Laws
open Sys2Proof Sys2Proof.Machine

/-! # CODA.KEEP (R361) -/

/-- A slot of the vault that is KEPT. -/
def isKept (r : Option VaultRecord) : Bool := (r.map (·.kept)).getD false

theorem keptCount_eq (k : Coda) : k.keptCount = (k.vault.toList.take 16).countP isKept := List.countP_eq_length_filter.symm

/-- Vault slot `n`, counted from 1, holds `x`; the others are as they were. -/
def withSlot (k : Coda) (n : Nat) (x : Option VaultRecord) : Coda :=
  { k with vault := Vector.ofFn fun i : Fin 17 => if i.val + 1 = n then x else k.vault[i] }

section
variable {k : Coda} {n : Nat} (h1 : 1 ≤ n) (h16 : n ≤ 16) (x : Option VaultRecord)
include h1 h16

theorem withSlot_toList : (withSlot k n x).vault.toList = k.vault.toList.set (n - 1) x := by
  have hv : (withSlot k n x).vault = k.vault.set (n - 1) x (by omega) := by
    ext i hi : 1
    by_cases h : n = i + 1
    · simp [withSlot, h]
    · simp [withSlot, show ¬ i + 1 = n by omega, show ¬ n - 1 = i by omega]
  rw [hv, Vector.toList_set]

theorem slot_withSlot (j : Nat) (hj : 1 ≤ j) : (withSlot k n x).slot j = if j = n then x else k.slot j := by
  simp only [Coda.slot, withSlot_toList h1 h16, List.getD_eq_getElem?_getD, List.getElem?_set, Vector.length_toList]
  split
  · simp [show j = n by omega, show n - 1 < 17 by omega]
  · simp [show ¬ j = n by omega]

/-- One slot written: the kept count loses what the slot held and gains what it holds. -/
theorem keptCount_withSlot :
    (withSlot k n x).keptCount = (k.keptCount - if isKept (k.slot n) then 1 else 0) + if isKept x then 1 else 0 := by
  have hlen : n - 1 < (k.vault.toList.take 16).length := by simp; omega
  have hslot : (k.vault.toList.take 16)[n - 1] = k.slot n := by
    simp [Coda.slot, List.getD_eq_getElem?_getD, show n - 1 < 17 by omega]
  rw [keptCount_eq, keptCount_eq, withSlot_toList h1 h16, List.take_set, List.countP_set hlen, hslot]
end

section
variable {c : SealedCmd} {s : State} {r : VaultRecord} (h : s.reaches c 0x0B05) (hr : s.coda.slot (u8 c.cmd.args 0) = some r)
include h hr

/-- KEEP of a record slot that is not beyond the twelfth: that slot alone is written. -/
theorem codaKeep_kept (hk : u8 c.cmd.args 1 = 0 ∨ r.kept = true ∨ s.coda.keptCount < 12) :
    s.atPlace c = { s with coda := withSlot s.coda (u8 c.cmd.args 0) (some { r with kept := u8 c.cmd.args 1 == 1 }) }.sealedOk c [] := by
  refine atPlace_sealedNow (d := cmdCodaKeep) h rfl rfl ?_ rfl (reaches_calm h)
  have hfree : (u8 c.cmd.args 1 == 1 && !r.kept && decide (12 ≤ s.coda.keptCount)) = false := by
    rcases hk with hk | hk | hk
    · simp [hk]
    · simp [hk]
    · simp [Nat.not_le.mpr hk]
  simp only [cmdCodaKeep, CmdDef.base, codaKeepAct, hr, hfree]
  rfl

theorem codaKeep_busy (h1 : u8 c.cmd.args 1 = 1) (hk : r.kept = false) (h12 : 12 ≤ s.coda.keptCount) :
    s.atPlace c = s.replying c .busy [] (c.adm + 3) c.adm := by
  refine atPlace_refused (d := cmdCodaKeep) h rfl (.inl rfl) ?_ nofun
  simp [cmdCodaKeep, CmdDef.base, codaKeepAct, hr, h1, hk, h12, refuse]
end

/-- Settles O25: the one slot that CODA.KEEP writes, and what that does to the count of the KEPT ones. -/
theorem codaKeepHoldsTwelve : Obligations.CodaKeepHoldsTwelve := by
  refine ⟨entersMeasure_of cmdCodaKeep (fun _ _ => rfl) nofun rfl ?_, ?_⟩
  · rintro b a ⟨hl, h1, h16, hb⟩
    refine ⟨by simp [cmdCodaKeep, CmdDef.base, hl], by omega, if_neg ?_⟩
    omega
  · rintro r c s t a rfl h rfl h1 h16 hr
    refine ⟨fun hk => ?_, codaKeep_busy h hr⟩
    rw [codaKeep_kept h hr hk]
    refine ⟨(slot_withSlot h1 h16 _ _ h1).trans (if_pos rfl), fun j hj hne => (slot_withSlot h1 h16 _ _ hj).trans (if_neg hne),
      fun h12 => ?_, rfl⟩
    refine (keptCount_withSlot (k := s.coda) h1 h16 _).trans_le ?_
    rw [hr]
    simp only [isKept, Option.map_some, Option.getD_some, beq_iff_eq]
    have hone : (if u8 c.cmd.args 1 = 1 then 1 else 0) ≤ 1 := by split <;> decide
    rcases hk with hk | hk | hk
    · simp only [hk, Nat.zero_ne_one, if_false]
      omega
    · simp only [hk, if_true]
      omega
    · omega
end Sys2Proof.Laws
end

section
namespace Sys2Proof.Laws
open Sys2Proof Sys2Proof.Machine

/-! # The debug port (R367) -/

theorem cantorRuns_of {s : State} (hr : s.power.inReset = false) (hc : s.power.mode ≠ .custody) : s.cantorRuns = true := by
  simp [State.cantorRuns, hr, hc]

/-- Some core is halted, as the cluster's own scan of its cores finds it. -/
theorem anyHalted_iff (v : Vector Bool 4) : v.toList.any id = true ↔ ∃ k : Fin 4, v[k] = true := by
  simp only [List.any_eq_true, id, exists_eq_right, Vector.mem_toList_iff, Vector.mem_iff_getElem]
  exact ⟨fun ⟨i, hi, h⟩ => ⟨⟨i, hi⟩, h⟩, fun ⟨k, h⟩ => ⟨k.val, k.isLt, h⟩⟩

/-- While DEBUG_LOCKED is clear the instruction reaches its core. -/
theorem debugHalt_open {s : State} (core : Fin 4) (halt : Bool) (hl : s.fuses.debugLocked = false) (hr : s.cantorRuns = true) :
    exec (.debugHalt core halt) s = .next (State.report
      { s with cluster := { s.cluster with halted := s.cluster.halted.set core halt }
               power := { s.power with wdogPaused := (s.cluster.halted.set core halt).toList.any id } }
      0x0404 3 (be 1 core ++ be 1 (b2n halt))) := by
  show execDebugHalt core halt s = _
  simp only [execDebugHalt, hl, hr, if_true]
  rfl

/-- An instruction of the boundary scan is in force while a reset ball is asserted, and acts as BYPASS otherwise. -/
theorem boundaryScan_bypass {s : State} (hb : s.ballReset = false) :
    exec .jtagExtest s = exec .jtagBypass s ∧ exec .jtagClamp s = exec .jtagBypass s ∧ exec .jtagHighz s = exec .jtagBypass s := by
  show execJtagExtest s = execJtagBypass s ∧ execJtagClamp s = execJtagBypass s ∧ execJtagHighz s = execJtagBypass s
  simp [execJtagExtest, execJtagClamp, execJtagHighz, execJtagBypass, hb]

theorem boundaryScan_inForce {s : State} (hb : s.ballReset = true) :
    exec .jtagExtest s = .next ((s.draw 32).2.jtag .extest (s.draw 32).1) ∧ exec .jtagClamp s = .next (s.jtag .clamp 0) ∧
      exec .jtagHighz s = .next (s.jtag .highz 0) := by
  show execJtagExtest s = _ ∧ execJtagClamp s = _ ∧ execJtagHighz s = _
  simp [execJtagExtest, execJtagClamp, execJtagHighz, hb]

/-- Settles O27: the debug port by DEBUG_LOCKED, the boundary scan by the reset ball. -/
theorem debugPortCompletes : Obligations.DebugPortCompletes := by
  intro s
  refine ⟨fun core halt hl hr hc => ⟨_, debugHalt_open core halt hl (cantorRuns_of hr hc), rfl, rfl, anyHalted_iff _, rfl, rfl⟩,
    fun core halt hl => if_pos hl, rfl, rfl, fun v => ⟨_, rfl, rfl⟩, fun hb => ?_, boundaryScan_bypass⟩
  obtain ⟨hextest, hclamp, hhighz⟩ := boundaryScan_inForce hb
  exact ⟨⟨_, hextest, rfl⟩, hclamp, hhighz⟩
end Sys2Proof.Laws
end

section
namespace Sys2Proof.Laws
open Sys2Proof Sys2Proof.Machine

/-! # Entries of the ring (R355) -/

theorem pulse_coda (s : State) (p : Nat) : (s.pulse p).coda = s.coda :=
  foldl_keeps (f := State.inject) (fun _ _ => rfl) _ s

theorem extrapolate_coda (s : State) : s.extrapolate.coda = s.coda := by
  obtain ⟨n, m, h⟩ := extrapolate_eq s
  rw [h]

/-- The entry has the next SEQ and what its writer gave; its measure and time are those of the write. -/
structure Wrote (k : Coda) (code source : Nat) (secure trigger : Bool) (payload : Bytes) (e : CodaEntry) : Prop where
  seq : e.seq = k.headSeq + 1
  code : e.code = code
  source : e.source = source
  secure : e.secure = secure
  trigger : e.trigger = trigger
  payload : e.payload = payload

/-- The ring with one entry more. -/
def withEntry (k : Coda) (e : CodaEntry) : Coda :=
  { k with ring := (e :: k.ring).take 4096, headSeq := k.headSeq + 1, headSlot := (k.headSlot + 1) % 4096 }

/-- A freeze starts to collect with its FREEZE_BEGIN. -/
def withFreeze (k : Coda) (e : CodaEntry) : Coda := { withEntry k e with state := .collecting, post := 0 }

theorem writeEntry_coda (s : State) (code source : Nat) (secure trigger post : Bool) (payload : Bytes) :
    ∃ e, Wrote s.coda code source secure trigger payload e ∧
      (s.writeEntry code source secure trigger post payload).coda = withEntry s.coda e := by
  rw [show withEntry s.coda = withEntry s.extrapolate.coda from congrArg withEntry (extrapolate_coda s).symm]
  refine ⟨_, ?_, rfl⟩
  exact ⟨rfl, rfl, rfl, rfl, rfl, rfl⟩

/-- Outside Custody the AON count of measures rests: one free value, the entry's time, is drawn. -/
theorem writeEntry_awake {s : State} (h : s.power.mode ≠ .custody) (code source : Nat) (secure trigger post : Bool) (payload : Bytes) :
    s.writeEntry code source secure trigger post payload =
      { s with coda := (s.writeEntry code source secure trigger post payload).coda, fresh := s.fresh + 1 } := by
  simp only [State.writeEntry, State.extrapolate, if_neg h]
  rfl

theorem trigger_live {s : State} (h : s.coda.state = .live) (b code seq note : Nat) :
    ∃ e, Wrote s.coda 1 0 false true (freezeBegin b code seq note) e ∧
      (s.trigger b code seq note).coda = withFreeze s.coda e := by
  obtain ⟨e, he, hc⟩ := writeEntry_coda s 0x0001 0 false true false (freezeBegin b code seq note)
  refine ⟨e, he, ?_⟩
  simp only [State.trigger, h, State.modCoda, hc]
  rfl

theorem trigger_collecting {s : State} (h : s.coda.state = .collecting) (b code seq note : Nat) :
    ∃ e, Wrote s.coda 1 0 false false (freezeBegin b code seq note) e ∧
      (s.trigger b code seq note).coda =
        { withEntry s.coda e with post := s.coda.post + 1, merged := sat 16 (s.coda.merged + 1) } := by
  obtain ⟨e, he, hc⟩ := writeEntry_coda s 0x0001 0 false false true (freezeBegin b code seq note)
  refine ⟨e, he, ?_⟩
  simp only [State.trigger, h, State.modCoda, hc]
  rfl

/-- What a held ring keeps while a freeze waits: its entries, their number and the hold itself. -/
def heldRing (k : Coda) : RingState × List CodaEntry × Nat := (k.state, k.ring, k.headSeq)

theorem trigger_held {s : State} (h : s.coda.state = .held) (b code seq note : Nat) :
    heldRing (s.trigger b code seq note).coda = heldRing s.coda := by
  simp only [State.trigger, h, State.modCoda]
  split <;> simp [heldRing, h]

theorem finishFreeze_held {s : State} (h : s.coda.state = .held) : heldRing (s.finish 2).coda = heldRing s.coda := by
  unfold State.finish
  extract_lets s1
  split
  · rfl
  · next c _ =>
    extract_lets s2
    have h2 : s2.coda = s.coda := rfl
    have hs : s2.coda.state = .held := h2 ▸ h
    rw [← h2]
    show heldRing (if s2.triggerOn 2 then s2.trigger 2 0 0 0 else s2).coda = heldRing s2.coda
    split
    · exact trigger_held hs ..
    · rfl

/-- A freeze that completes is FREEZE_END, the newest entry of a ring that is held now. -/
theorem completeFreeze_collecting {s : State} (h : s.coda.state = .collecting) (reason : Nat) :
    ∃ e, Wrote s.coda 2 0 false false (be 2 s.coda.post ++ be 2 s.coda.merged ++ be 1 reason) e ∧
      heldRing (s.completeFreeze reason).coda = (.held, (e :: s.coda.ring).take 4096, s.coda.headSeq + 1) := by
  obtain ⟨e, he, hc⟩ := writeEntry_coda s 0x0002 0 false false false (be 2 s.coda.post ++ be 2 s.coda.merged ++ be 1 reason)
  refine ⟨e, he, ?_⟩
  simp only [State.completeFreeze, h, if_true]
  generalize hw : (s.writeEntry _ _ _ _ _ _) = w at hc ⊢
  have hp : heldRing ((w.modCoda fun c => { c with state := .held, merged := 0 }).pulse 5).coda =
      (.held, (e :: s.coda.ring).take 4096, s.coda.headSeq + 1) := by
    rw [pulse_coda]
    simp only [State.modCoda, hc]
    rfl
  split
  · exact (finishFreeze_held (congrArg (·.1) hp :)).trans hp
  · exact hp

/-! # Reports reach the ring (R355, R358) -/

theorem takeReport_none {n : Nat} {q : List Report14} (h : takeReport n q = none) : q = [] := by
  cases q with
  | nil => rfl
  | cons a q =>
    cases n with
    | zero => simp [takeReport] at h
    | succ n =>
      simp only [takeReport] at h
      split at h
      · simp at h
      · split at h <;> simp at h

/-- Of the reports that reach the ring together, one of the lowest SOURCE is taken. -/
theorem takeReport_lowest {n : Nat} {q rest : List Report14} {r : Report14} (h : takeReport n q = some (r, rest)) :
    r ∈ q.take (n + 1) ∧ (∀ x ∈ q.take (n + 1), r.source ≤ x.source) ∧ q.length = rest.length + 1 := by
  induction n generalizing q r rest with
  | zero =>
    cases q with
    | nil => simp [takeReport] at h
    | cons a q => simp_all [takeReport]
  | succ n ih =>
    cases q with
    | nil => simp [takeReport] at h
    | cons a q =>
      simp only [takeReport] at h
      split at h
      · next hq =>
        have := takeReport_none hq
        simp_all
      · next x xs hq =>
        obtain ⟨hmem, hlow, hlen⟩ := ih hq
        split at h <;> simp only [Option.some.injEq, Prod.mk.injEq] at h <;> obtain ⟨rfl, rfl⟩ := h
        · next hlt =>
          refine ⟨by simp [hmem], ?_, by simp [hlen]⟩
          simpa using ⟨hlt.le, hlow⟩
        · next hlt =>
          refine ⟨by simp, ?_, rfl⟩
          simpa using fun y hy => (Nat.not_lt.mp hlt).trans (hlow y hy)

section
variable {s : State} {r : Report14} (h : s.coda.state = .live)
include h

/-- A live ring takes a report whose trigger, if it has one, is not in force: one entry more. -/
theorem accept_offTrigger (hr : ∀ b, r.trigger = some b → s.triggerOn b = false) :
    s.accept r = s.writeEntry r.code r.source r.secure false false r.payload := by
  obtain ⟨e, -, hc⟩ := writeEntry_coda s r.code r.source r.secure false false r.payload
  simp only [State.accept, h, reduceCtorEq, if_false, decide_false]
  generalize s.writeEntry r.code r.source r.secure false false r.payload = w at hc ⊢
  have hstate : w.coda.state = .live := (congrArg Coda.state hc).trans h
  have hon (b : Nat) : w.triggerOn b = s.triggerOn b := by simp [State.triggerOn, hc, withEntry]
  cases ht : r.trigger with
  | none => simp [hstate]
  | some b => simp [hon, hr b ht, hstate]

/-- A report whose trigger is in force starts a freeze: FREEZE_BEGIN names it. -/
theorem accept_onTrigger {b : Nat} (ht : r.trigger = some b) (hb : s.triggerOn b = true) :
    ∃ e f, Wrote (withEntry s.coda e) 1 0 false true (freezeBegin b r.code (s.coda.headSeq + 1) 0) f ∧
      (s.accept r).coda = withFreeze (withEntry s.coda e) f := by
  obtain ⟨e, -, hc⟩ := writeEntry_coda s r.code r.source r.secure false false r.payload
  simp only [State.accept, h, reduceCtorEq, if_false, decide_false, ht]
  generalize s.writeEntry r.code r.source r.secure false false r.payload = w at hc ⊢
  have hstate : w.coda.state = .live := (congrArg Coda.state hc).trans h
  have hon : w.triggerOn b = true := by simpa [State.triggerOn, hc, withEntry] using hb
  obtain ⟨f, hf, hw⟩ := trigger_live hstate b r.code w.coda.headSeq 0
  rw [hc] at hf hw
  have hpost : (withFreeze (withEntry s.coda e) f).post = 0 := rfl
  exact ⟨e, f, hf, by simp [hon, hc, hw, hpost]⟩
end

theorem codaEntryWrite_exec {s : State} {r : Report14} {rest : List Report14} (h : takeReport s.sameCycle s.coda.queue = some (r, rest))
    (hw : s.coda.state = .held → s.canCopy = false) :
    exec .codaEntryWrite s =
      .next (State.accept { s with fresh := s.fresh + 1, coda := { s.coda with queue := rest } } r) := by
  have hne : s.coda.queue.isEmpty = false := by
    cases hq : s.coda.queue with
    | nil => rw [hq] at h; cases n : s.sameCycle <;> simp [takeReport, n] at h
    | cons a q => rfl
  have hwait : s.codaWaits = false := by
    cases hs : s.coda.state <;> simp_all [State.codaWaits]
  have hstep : ¬ (s.coda.state = .held ∧ s.canCopy = true) := fun ⟨h1, h2⟩ => by simp [hw h1] at h2
  show execCodaEntryWrite s = _
  simp only [execCodaEntryWrite, hwait, State.codaStep, h]
  exact congrArg Host.Outcome.next (if_neg hstep)

theorem codaEntryWrite_waits {s : State} (hs : s.coda.state = .held) (hc : s.canCopy = true) : exec .codaEntryWrite s = .next s :=
  if_pos (by simp [State.codaWaits, hs, hc])

section
variable {s : State} {r : Report14} {rest : List Report14} (h : takeReport s.sameCycle s.coda.queue = some (r, rest))
include h

/-- A report that no trigger follows is the newest entry, and the rest of the queue stands. -/
theorem codaEntryWrite_offTrigger (hs : s.coda.state = .live) (hr : ∀ b, r.trigger = some b → s.triggerOn b = false) :
    completes .codaEntryWrite s fun t =>
      ∃ e, t.coda.ring = (e :: s.coda.ring).take 4096 ∧ e.seq = s.coda.headSeq + 1 ∧ e.code = r.code ∧ e.source = r.source ∧
        e.secure = r.secure ∧ e.payload = r.payload ∧ t.coda.headSeq = s.coda.headSeq + 1 ∧ t.coda.state = .live ∧
        t.coda.queue = rest ∧ t.store = s.store ∧ t.seq = s.seq ∧ t.units = s.units ∧ t.mbx = s.mbx := by
  refine ⟨_, codaEntryWrite_exec h (by simp [hs]), ?_⟩
  generalize hu : ({ s with fresh := s.fresh + 1, coda := { s.coda with queue := rest } } : State) = u
  have hcoda : u.coda = { s.coda with queue := rest } := by rw [← hu]
  have hoff : offCoda (u.accept r) = offCoda s := (accept_offCoda u r).trans (by rw [← hu]; rfl)
  have hlive : u.coda.state = .live := by rw [hcoda]; exact hs
  have hon : ∀ b, r.trigger = some b → u.triggerOn b = false := fun b hb => by simpa [State.triggerOn, hcoda] using hr b hb
  rw [accept_offTrigger hlive hon] at hoff ⊢
  obtain ⟨e, he, hc⟩ := writeEntry_coda u r.code r.source r.secure false false r.payload
  rw [hcoda] at he hc
  exact ⟨e, congrArg Coda.ring hc, he.seq, he.code, he.source, he.secure, he.payload, congrArg Coda.headSeq hc,
    (congrArg Coda.state hc).trans hs, congrArg Coda.queue hc, (congrArg State.store hoff :), (congrArg State.seq hoff :),
    (congrArg State.units hoff :), (congrArg State.mbx hoff :)⟩

theorem codaEntryWrite_onTrigger (hs : s.coda.state = .live) (b : Nat) (hr : r.trigger = some b) (hb : s.triggerOn b = true) :
    completes .codaEntryWrite s fun t =>
      t.coda.state = .collecting ∧ t.coda.headSeq = s.coda.headSeq + 2 ∧ t.coda.queue = rest ∧
      ∃ e, t.coda.ring.head? = some e ∧ e.code = 1 ∧ e.trigger = true ∧
        e.payload = freezeBegin b r.code (s.coda.headSeq + 1) 0 := by
  refine ⟨_, codaEntryWrite_exec h (by simp [hs]), ?_⟩
  generalize hu : ({ s with fresh := s.fresh + 1, coda := { s.coda with queue := rest } } : State) = u
  have hcoda : u.coda = { s.coda with queue := rest } := by rw [← hu]
  have hlive : u.coda.state = .live := by rw [hcoda]; exact hs
  obtain ⟨e, f, hf, hc⟩ := accept_onTrigger hlive hr (by simpa [State.triggerOn, hcoda] using hb)
  rw [hcoda] at hf hc
  rw [hc]
  exact ⟨rfl, rfl, rfl, f, rfl, hf.code, hf.trigger, hf.payload⟩

theorem codaEntryWrite_drops (hs : s.coda.state = .held) (hc : s.canCopy = false) :
    completes .codaEntryWrite s fun t =>
      t.coda.ring = s.coda.ring ∧ t.coda.dropped = bump s.coda.dropped ∧ t.coda.queue = rest ∧
      t = { s with coda := t.coda, fresh := s.fresh + 1 } := by
  refine ⟨_, codaEntryWrite_exec h fun _ => hc, ?_⟩
  simp only [State.accept, hs]
  exact ⟨rfl, rfl, rfl, rfl⟩
end

/-! # Freezes, copies and the vault (R357, R358, R360) -/

theorem freezeTimeout_completes {s : State} (h : s.coda.state = .collecting) : completes .freezeTimeout s fun t =>
    t.coda.state = .held ∧ t.coda.headSeq = s.coda.headSeq + 1 ∧
    (∃ e, t.coda.ring.head? = some e ∧ e.code = 2 ∧ e.payload = be 2 s.coda.post ++ be 2 s.coda.merged ++ be 1 2) ∧
    t.store = s.store ∧ t.seq = s.seq ∧ t.units = s.units ∧ t.mbx = s.mbx ∧ t.power = s.power := by
  obtain ⟨e, he, hc⟩ := completeFreeze_collecting h 2
  have hoff := completeFreeze_offCoda s 2
  simp only [heldRing, Prod.mk.injEq] at hc
  obtain ⟨hstate, hring, hseq⟩ := hc
  refine ⟨_, rfl, hstate, hseq, ⟨e, by rw [hring]; rfl, he.code, he.payload⟩, ?_⟩
  exact ⟨(congrArg State.store hoff :), (congrArg State.seq hoff :), (congrArg State.units hoff :), (congrArg State.mbx hoff :),
    (congrArg State.power hoff :)⟩

theorem codaRecordCopy_exec {s : State} (hs : s.coda.state = .held) (hc : s.canCopy = true) (hp : s.coda.pendingFreeze = none)
    (hd : s.coda.holdDrops = none) : exec .codaRecordCopy s = .next (s.modCoda fun k =>
      { k with state := .live, unflushed := k.unflushed ++ (s.frozenRecord false).toList }) := by
  show Host.Outcome.next s.copyRecord = _
  simp only [State.copyRecord, hs, hc, and_self, if_true, State.endHold, State.modCoda, hd, hp]

theorem vaultFlush_completes {s : State} {r : VaultRecord} {rest : List VaultRecord} {i : Fin 17} (hm : s.power.mode = .service)
    (hu : s.coda.unflushed = r :: rest) (hi : s.coda.slotFor = some i) : completes .vaultFlush s fun t =>
      t.coda.vault = s.coda.vault.set i (some r) ∧ t.coda.unflushed = rest ∧ t.coda.ring = s.coda.ring ∧
      (∃ p, t.coda.queue = s.coda.queue ++ [{ code := 3, source := 0, secure := false, payload := p, trigger := none }]) ∧
      t = { s with coda := t.coda } := by
  refine ⟨s.flushVault, ?_, ?_⟩
  · show execVaultFlush s = _
    simp only [execVaultFlush, hm]
  · simp only [State.flushVault, hu, Coda.keepRecord, hi]
    exact ⟨rfl, rfl, rfl, ⟨_, rfl⟩, rfl⟩

/-! # The CODA commands (R356, R365, R398) -/

section
variable {c : Cmd} {s : State} {kind : Nat} {es : List CodaEntry} {first dropped : Nat} (h : s.ready c .rt)
  (hl : c.args.length = 8) (h17 : u8 c.args 0 ≤ 17) (h1 : 1 ≤ u8 c.args 4) (h7 : u8 c.args 4 ≤ 7)
include h hl h17 h1 h7

theorem codaRead_answers {result : Bytes}
    (ha : codaReadAct { opcode := 0x0B01, cmd := c, count := 0, adm := s.tb.measure } (s.granted c 0x0B01) =
      okay (s.granted c 0x0B01) result) : exec (.codaRead c) s = .next (s.answered c 0x0B01 result) :=
  exec_read cmdCodaRead (fun _ _ => rfl) rfl rfl h (by simp [cmdCodaRead, CmdDef.base, hl]) (by omega)
    (if_neg (by omega)) ha

variable (hsrc : s.codaSource (u8 c.args 0) = some (kind, es, first, dropped))
include hsrc

theorem codaRead_entries (hi : fld c.args 2 2 < es.length) (hx : u8 c.args 0 = 0 ∨ fld c.args 2 2 ≠ 0xFFFF) :
    exec (.codaRead c) s = .next (s.answered c 0x0B01
      (codaHeader (u8 c.args 0) kind es.length first dropped (fld c.args 2 2)
          ((es.drop (fld c.args 2 2)).take (u8 c.args 4)).length ++
        ((es.drop (fld c.args 2 2)).take (u8 c.args 4)).flatMap fun e =>
          (e.shown (s.ownerOf c.mailbox == .sec)).bytes)) := by
  refine codaRead_answers h hl h17 h1 h7 ?_
  have hm : (s.granted c 0x0B01).power.mode = .service := h.1
  have hg : (s.granted c 0x0B01).codaSource (u8 c.args 0) = some (kind, es, first, dropped) := hsrc
  have hx' : ¬ (fld c.args 2 2 = 0xFFFF ∧ 0 < u8 c.args 0) := by omega
  simp only [codaReadAct, hm, hg, hx', if_neg (Nat.not_le.mpr hi), reduceCtorEq, and_false, if_false]
  rfl

theorem codaRead_header {r : VaultRecord} (hr : s.coda.slot (u8 c.args 0) = some r) (h0 : u8 c.args 0 ≠ 0)
    (hx : fld c.args 2 2 = 0xFFFF) : exec (.codaRead c) s = .next (s.answered c 0x0B01
      (codaHeader (u8 c.args 0) kind es.length first dropped 0xFFFF 0 ++ r.header (u8 c.args 0))) := by
  refine codaRead_answers h hl h17 h1 h7 ?_
  have hm : (s.granted c 0x0B01).power.mode = .service := h.1
  have hg : (s.granted c 0x0B01).codaSource (u8 c.args 0) = some (kind, es, first, dropped) := hsrc
  have hslot : (s.granted c 0x0B01).coda.slot (u8 c.args 0) = some r := hr
  simp only [codaReadAct, hm, hg, hx, Nat.pos_of_ne_zero h0, hslot, reduceCtorEq, and_false, and_self, if_false, if_true]
  rfl
end

theorem codaList_exec {c : Cmd} {s : State} (h : s.ready c .rt) (ha : c.args = []) : exec (.codaList c) s =
    .next (s.answered c 0x0B02 ((List.finRange 17).flatMap fun i => vaultSummary (i.val + 1) s.coda.vault[i])) :=
  exec_read cmdCodaList (fun _ _ => rfl) rfl rfl h (by simp [cmdCodaList, CmdDef.base, ha]) (by simp [ha]) rfl rfl

/-- A trigger while no record is held is one entry, and the freeze it starts or joins. -/
theorem trigger_open {s : State} (h : s.coda.state = .live ∨ s.coda.state = .collecting) (b code seq note : Nat) :
    ∃ e k, (s.trigger b code seq note).coda = k ∧ Wrote s.coda 1 0 false (decide (s.coda.state = .live)) (freezeBegin b code seq note) e ∧
      k.state = .collecting ∧ k.headSeq = s.coda.headSeq + 1 ∧ k.queue = s.coda.queue ∧ k.vault = s.coda.vault ∧
      k.ring.head? = some e ∧ k.post = if s.coda.state = .live then 0 else s.coda.post + 1 := by
  rcases h with h | h
  · obtain ⟨e, he, hc⟩ := trigger_live h b code seq note
    exact ⟨e, _, hc, by simpa [h] using he, rfl, rfl, rfl, rfl, rfl, by rw [if_pos h]; rfl⟩
  · obtain ⟨e, he, hc⟩ := trigger_collecting h b code seq note
    exact ⟨e, _, hc, by simpa [h] using he, h, rfl, rfl, rfl, rfl, by rw [if_neg (by simp [h])]⟩

/-- Outside Custody a trigger changes Coda and uses one free value. -/
theorem trigger_awake {s : State} (h : s.coda.state = .live ∨ s.coda.state = .collecting) (hm : s.power.mode ≠ .custody)
    (b code seq note : Nat) : s.trigger b code seq note =
      { s with coda := (s.trigger b code seq note).coda, fresh := s.fresh + 1 } := by
  rcases h with h | h
  · simp only [State.trigger, h]
    rw [writeEntry_awake hm]
    rfl
  · simp only [State.trigger, h]
    rw [writeEntry_awake hm]
    rfl

theorem codaFreeze_completes {c : Cmd} {s : State} (h : s.ready c .mgmt) (hl : c.args.length = 4)
    (hs : s.coda.state = .live ∨ s.coda.state = .collecting ∧ s.coda.post < 255) : completes (.codaFreeze c) s fun t =>
      t = { s.answered c 0x0B03 (be 4 (s.coda.headSeq + 1)) with coda := t.coda, fresh := s.fresh + 1 } ∧
      t.coda.state = .collecting ∧ t.coda.headSeq = s.coda.headSeq + 1 ∧ t.coda.queue = s.coda.queue ∧
      t.coda.vault = s.coda.vault ∧
      (∃ e, t.coda.ring.head? = some e ∧ e.seq = s.coda.headSeq + 1 ∧ e.code = 1 ∧
        e.trigger = decide (s.coda.state = .live) ∧ e.payload = freezeBegin 3 0 0 (fld c.args 0 4)) ∧
      t.coda.post = if s.coda.state = .live then 0 else s.coda.post + 1 := by
  have hopen : s.coda.state = .live ∨ s.coda.state = .collecting := hs.imp_right And.left
  have hm : s.power.mode ≠ .custody := by simp [h.1]
  obtain ⟨e, k, hk, he, hstate, hseq, hqueue, hvault, hring, hpost⟩ :=
    trigger_open (s := s.granted c 0x0B03) hopen 3 0 0 (fld c.args 0 4)
  have haw := trigger_awake (s := s.granted c 0x0B03) hopen hm 3 0 0 (fld c.args 0 4)
  rw [hk] at haw
  have hfew : ¬ (k.state = .collecting ∧ 256 ≤ k.post) := by
    rw [hpost]
    rintro ⟨-, h256⟩
    split at h256
    · omega
    · next hne => exact absurd (hs.resolve_left hne).2 (Nat.not_lt.mpr (Nat.le_of_succ_le_succ h256))
  have hnotHeld : ¬ ((s.granted c 0x0B03).coda.state = .held ∧ (s.granted c 0x0B03).canCopy = true) := by
    rcases hopen with ho | ho <;> simp [State.granted, ho]
  refine ⟨{ s.answered c 0x0B03 (be 4 (s.coda.headSeq + 1)) with coda := k, fresh := s.fresh + 1 },
    congrArg Host.Outcome.next (run_immediate (d := cmdCodaFreeze) h rfl rfl (by simp [cmdCodaFreeze, CmdDef.base, hl]) (by omega)
      rfl (t := { s.granted c 0x0B03 with coda := k, fresh := s.fresh + 1 }) ?_ rfl),
    rfl, hstate, hseq, hqueue, hvault, ⟨e, hring, he.seq, he.code, he.trigger, he.payload⟩, hpost⟩
  show codaFreezeAct _ (s.granted c 0x0B03) = _
  simp only [codaFreezeAct, State.copyRecord, if_neg hnotHeld]
  rw [haw]
  simp only [if_neg hfew, hseq]
  rfl

/-- The mask that SET_TRIGGERS keeps: what it names of Table 14.3, and bits 0, 1 and 3. -/
theorem keptMask_getLsbD (n i : Nat) : ((BitVec.ofNat 32 n &&& 0x3FF) ||| 0xB).getLsbD i =
    (decide (i = 0) || decide (i = 1) || decide (i = 3) || (decide (i < 10) && bit n i)) := by
  have hnamed : (0x3FF : BitVec 32).getLsbD i = decide (i < 10) := Nat.testBit_two_pow_sub_one 10 i
  have halways : (0xB : BitVec 32).getLsbD i = (decide (i = 0) || decide (i = 1) || decide (i = 3)) := by
    by_cases hi : i < 4
    · interval_cases i <;> rfl
    · have : 11 < 2 ^ i := (by decide : 11 < 2 ^ 4).trans_le (Nat.pow_le_pow_right (by decide) (Nat.le_of_not_lt hi))
      refine (Nat.testBit_lt_two_pow this).trans ?_
      simp [show i ≠ 0 by omega, show i ≠ 1 by omega, show i ≠ 3 by omega]
  rw [BitVec.getLsbD_or, BitVec.getLsbD_and, hnamed, halways, BitVec.getLsbD_ofNat, Bool.or_comm]
  by_cases hi : i < 10
  · simp [hi, bit, show i < 32 by omega]
  · simp [hi]

/-- SET_TRIGGERS at its place. -/
theorem codaSetTriggers_atPlace {c : SealedCmd} {s : State} (h : s.reaches c 0x0B04) {m : BitVec 32}
    (hm : m = (BitVec.ofNat 32 (fld c.cmd.args 0 4) &&& 0x3FF) ||| 0xB) :
    s.atPlace c = { (s.sealedOk c (be 4 m.toNat)).modSettings fun x => { x with codaMask := m } with
      coda := { s.coda with mask := m } } := by
  subst hm
  exact atPlace_sealedNow (d := cmdCodaSetTriggers) h rfl rfl rfl rfl (reaches_calm h)

/-- Settles O24: each command and each step of Coda from what one entry, one trigger and one freeze make of the ring. -/
theorem codaComplete : Obligations.CodaComplete := by
  refine ⟨fun c s => ⟨fun kind es first dropped h hl h17 h1 h7 hsrc => ⟨fun hi hx => codaRead_entries h hl h17 h1 h7 hsrc hi hx,
      fun r hr h0 hx => codaRead_header h hl h17 h1 h7 hsrc hr h0 hx⟩, codaList_exec, codaFreeze_completes⟩,
    entersMeasure_of cmdCodaSetTriggers (fun _ _ => rfl) nofun rfl fun b a hl =>
      ⟨by simp [cmdCodaSetTriggers, CmdDef.base, hl], by omega, rfl⟩,
    ?_, fun _ _ _ _ => takeReport_lowest, fun s => ⟨fun r rest h hs => ⟨codaEntryWrite_offTrigger h hs, codaEntryWrite_onTrigger h hs⟩,
      codaEntryWrite_waits, fun r rest => codaEntryWrite_drops, freezeTimeout_completes, codaRecordCopy_exec,
      fun r rest i => vaultFlush_completes⟩⟩
  rintro c s t h rfl
  rw [codaSetTriggers_atPlace h rfl]
  exact ⟨keptMask_getLsbD _, rfl⟩
end Sys2Proof.Laws
end

section
namespace Sys2Proof.Laws
open Sys2Proof Sys2Proof.Machine

/-! # The UPDATE commands (R340 to R342, R346, R347, R354) -/

theorem updateStatus_exec {c : Cmd} {s : State} (h : s.ready c .rt) (ha : c.args = []) :
    exec (.updateStatus c) s = .next (s.answered c 0x0A01 s.updateStatus) :=
  exec_read cmdUpdateStatus (fun _ _ => rfl) rfl rfl h (by simp [cmdUpdateStatus, CmdDef.base, ha]) (by simp [ha]) rfl rfl

/-- A change of the update state is reported with both states. -/
theorem modStore_setUpd {s : State} {f : Store → Store} (u : UpdState) {v : UpdState} (trigger : Option Nat)
    (hu : (f s.store).upd = u) (h : u ≠ v) : (s.modStore f).setUpd v trigger =
      (s.modStore fun t => { f t with upd := v }).report 0x0A02 3 (be 1 u.num ++ be 1 v.num) trigger := by
  subst hu
  exact if_neg h

/-- Without XIP the NOR takes a program or an erase (R332). -/
theorem norWrite_free {s : State} (h : s.nor.xip = false) (f : Nor → Nor) : s.norWrite f = s.modNor f := by
  simp [State.norWrite, h]

section
variable {c : SealedCmd} {s : State}

theorem updateActivate_atPlace (h : s.reaches c 0x0A03) (hu : s.store.upd = .staged) :
    s.atPlace c = (((s.sealedOk c []).modStore fun t =>
      { t with resetWhenReady := bit (u8 c.cmd.args 0) 0, upd := .armed }).report 0x0A02 3 (be 1 1 ++ be 1 2)).modNor fun n =>
      { n with archive := none, archiveReady := false } := by
  refine (atPlace_sealedNow (d := cmdUpdateActivate) (t := ((s.modStore fun t =>
    { t with resetWhenReady := bit (u8 c.cmd.args 0) 0, upd := .armed }).report 0x0A02 3 (be 1 1 ++ be 1 2)).modNor fun n =>
    { n with archive := none, archiveReady := false }) h rfl rfl ?_ rfl (reaches_calm h)).trans rfl
  show updateActivate c s = _
  rw [updateActivate, if_neg (not_not_intro hu), modStore_setUpd .staged]
  · rfl
  · exact hu
  · nofun

theorem updateConfirm_atPlace (h : s.reaches c 0x0A04) (hu : s.store.upd = .trial) :
    s.atPlace c = ((s.sealedOk c (be 1 s.nor.running.major ++ be 1 s.nor.running.minor ++
        be 1 s.nor.running.patch ++ be 1 s.nor.running.rollback)).modStore fun t =>
      { t with held := [], package := none, upd := .idle }).report 0x0A02 3 (be 1 3 ++ be 1 0) := by
  refine (atPlace_sealedNow (d := cmdUpdateConfirm) (t := (s.modStore fun t =>
    { t with held := [], package := none, upd := .idle }).report 0x0A02 3 (be 1 3 ++ be 1 0)) h rfl rfl ?_ rfl (reaches_calm h)).trans rfl
  show updateConfirm c s = _
  rw [updateConfirm, if_neg (not_not_intro hu), modStore_setUpd .trial]
  · rfl
  · exact hu
  · nofun

theorem updateRollback_atPlace (h : s.reaches c 0x0A05) (hu : s.store.upd = .trial) (ha : s.nor.archive.isSome) :
    s.atPlace c = ((s.sealedOk c []).modStore fun t =>
      { t with held := [], resetOnRevert := bit (u8 c.cmd.args 0) 0, package := none, upd := .reverting }).report 0x0A02 3
        (be 1 3 ++ be 1 4) := by
  refine (atPlace_sealedNow (d := cmdUpdateRollback) (t := (s.modStore fun t =>
    { t with held := [], resetOnRevert := bit (u8 c.cmd.args 0) 0, package := none, upd := .reverting }).report 0x0A02 3
    (be 1 3 ++ be 1 4)) h rfl rfl ?_ rfl (reaches_calm h)).trans rfl
  show updateRollback c s = _
  have htrial : ¬ (s.store.upd ≠ .trial ∨ s.nor.archive.isNone = true) := by
    simp [hu, Option.isSome_iff_ne_none.mp ha]
  rw [updateRollback, if_neg htrial, modStore_setUpd .trial]
  · rfl
  · exact hu
  · nofun

theorem updateDiscard_atPlace (h : s.reaches c 0x0A06) (hx : s.nor.xip = false) (hu : s.store.upd = .staged ∨ s.store.upd = .armed) :
    s.atPlace c = (((s.sealedOk c []).modStore fun t =>
      { t with held := [], package := none, resetWhenReady := false, upd := .idle }).report 0x0A02 3
        (be 1 s.store.upd.num ++ be 1 0)).modNor fun n =>
      { n with bootState := .idle, pending := none, pendingReady := false, archive := none, archiveReady := false } := by
  refine (atPlace_sealedNow (d := cmdUpdateDiscard) (t := ((s.modStore fun t =>
    { t with held := [], package := none, resetWhenReady := false, upd := .idle }).report 0x0A02 3
    (be 1 s.store.upd.num ++ be 1 0)).modNor fun n =>
    { n with bootState := .idle, pending := none, pendingReady := false, archive := none, archiveReady := false })
    h rfl rfl ?_ rfl (reaches_calm h)).trans rfl
  show updateDiscard c s = _
  have hne : s.store.upd ≠ .idle := by rcases hu with hu | hu <;> simp [hu]
  have hpend : ¬ (s.store.upd ≠ .staged ∧ s.store.upd ≠ .armed) := fun ⟨h1, h2⟩ => hu.elim h1 h2
  rw [updateDiscard, if_neg hpend, modStore_setUpd s.store.upd]
  · exact congrArg (okay · []) (norWrite_free (by exact hx) _)
  · rfl
  · exact hne
end

/-! ## STAGE (R341) -/

/-- What STAGE asks of its arguments, of namespace `n` of its source and of the stream its blocks hold (R338, R341). -/
structure Stageable (c : SealedCmd) (s s1 : State) (n : Namespace) (stream : Bytes) : Prop where
  idle : s.store.upd = .idle
  source : s.store.ns (u8 c.cmd.args 1) = some n ∧ n.typ = .staging
  mayRead : (if u8 c.cmd.args 0 = 1 then s.checkKey none c.adm .read n.id (c.cmd.args.drop 4)
    else s.checkAll none c.adm .read n.id (c.cmd.args.drop 4)) = (s1, .permitted)
  rank : s.noRank = false
  readable : ∀ e ∈ stageKeys n (u8 c.cmd.args 0) (c.cmd.args.drop 4), s.valueLost e = false
  blocks : readPackage (stageBlocks n (u8 c.cmd.args 0) (c.cmd.args.drop 4)) = .ok stream
  full : fullBlocks (stageBlocks n (u8 c.cmd.args 0) (c.cmd.args.drop 4)) (blocksFor (pkgTotal stream)) = true
  whole : u8 c.cmd.args 0 = 1 → ∀ e ∈ stageKeys n (u8 c.cmd.args 0) (c.cmd.args.drop 4),
    e.value.length = stream.length + 16 * blocksFor (pkgTotal stream)
  passes : checkStream s.fuses (some s.store.settings.version) stream = .ok

/-- The stream is staged: its package and its keys are held. -/
def staged (s1 : State) (stream : Bytes) (held : List (Nat × Bytes)) : State :=
  ((s1.modStore fun t => { t with package := some (packageOf stream), held := held, upd := .staged }).report 0x0A02 3
    (be 1 0 ++ be 1 1)).modNor fun x => { x with pending := none, pendingReady := false }

section
variable {c : SealedCmd} {s s1 : State} {n : Namespace} {stream : Bytes} (hx : Stageable c s s1 n stream)
include hx

theorem stageable_still : still s1 = still s := by
  have h := congrArg (fun r : State × Verdict => still r.1) hx.mayRead
  split at h
  · exact h.symm.trans (checkKey_still ..)
  · exact h.symm.trans (checkAll_still ..)

theorem updateStage_eq : updateStage c s =
    okay (staged s1 stream ((stageKeys n (u8 c.cmd.args 0) (c.cmd.args.drop 4)).map fun e => (n.id, e.key)))
      (stageResult stream (blocksFor (pkgTotal stream))) := by
  have hidle : s1.store.upd = .idle := (congrArg Store.upd (store_of_still (stageable_still hx))).trans hx.idle
  obtain ⟨hu, ⟨hn, ht⟩, hread, hr, hlost, hblocks, hfull, hwhole, hpass⟩ := hx
  have hany : (stageKeys n (u8 c.cmd.args 0) (c.cmd.args.drop 4)).any s.valueLost = false := by simpa using hlost
  have hall : (u8 c.cmd.args 0 != 1 || (stageKeys n (u8 c.cmd.args 0) (c.cmd.args.drop 4)).all fun e =>
      e.value.length == stream.length + 16 * blocksFor (pkgTotal stream)) = true := by
    by_cases h1 : u8 c.cmd.args 0 = 1
    · simpa [h1] using hwhole h1
    · simp [h1]
  simp only [updateStage, hu, hn, ht, hread, hr, hany, hblocks, hfull, hall, hpass, Verdict.refusal, ne_eq, not_true_eq_false,
    Bool.or_self, Bool.and_self, Bool.false_eq_true, if_false, if_true]
  rw [modStore_setUpd .idle]
  · rfl
  · exact hidle
  · nofun

theorem updateStage_atPlace {k : Nat} (h : s.reaches c 0x0A02)
    (hk : k = s.readSlices (valueBytes (stageKeys n (u8 c.cmd.args 0) (c.cmd.args.drop 4)))) : s.atPlace c =
      (staged s1 stream ((stageKeys n (u8 c.cmd.args 0) (c.cmd.args.drop 4)).map fun e => (n.id, e.key))).drawn.replying c .ok
        (stageResult stream (blocksFor (pkgTotal stream))) (c.adm + k + 2) (c.adm + k - 1) := by
  subst hk
  have hstill := stageable_still hx
  have hbehind : s1.seq.behind = 0 := seq_of_still hstill ▸ (reaches_calm h).2.1
  rw [atPlace_sliced (d := cmdUpdateStage) h rfl rfl (updateStage_eq hx) (tb_of_still hstill :) ?_ (readSlices_pos _ _)]
  · have hholds : (if 1 < s.readSlices (valueBytes (stageKeys n (u8 c.cmd.args 0) (c.cmd.args.drop 4))) then
        cmdUpdateStage.holds c.cmd.args else []) = [] := ite_self _
    rw [hholds, hold_nil]
    exact modSeq_behind hbehind
  · simp only [cmdUpdateStage, CmdDef.base, hx.source.1]
end

/-- Settles O21: each command by its own definition in the update state its rule names, STAGE by the reads its slices make. -/
theorem updateCommandsComplete : Obligations.UpdateCommandsComplete := by
  refine ⟨entersMeasure_of cmdUpdateStage (fun _ _ => rfl) nofun rfl ?_,
    entersMeasure_of cmdUpdateActivate (fun _ _ => rfl) nofun rfl fun b a hl => ⟨by simp [cmdUpdateActivate, CmdDef.base, hl], by omega, rfl⟩,
    entersMeasure_of cmdUpdateConfirm (fun _ _ => rfl) nofun rfl fun b a hl => ⟨by simp [cmdUpdateConfirm, CmdDef.base, hl], by simp [hl], rfl⟩,
    entersMeasure_of cmdUpdateRollback (fun _ _ => rfl) nofun rfl fun b a hl => ⟨by simp [cmdUpdateRollback, CmdDef.base, hl], by omega, rfl⟩,
    entersMeasure_of cmdUpdateDiscard (fun _ _ => rfl) nofun rfl fun b a hl => ⟨by simp [cmdUpdateDiscard, CmdDef.base, hl], by simp [hl], rfl⟩,
    fun _ _ => updateStatus_exec, ?_, ?_⟩
  · rintro b a ⟨h0, h1, hle, hl⟩
    have h240 : u8 a 2 ≤ 240 := hle.trans (by split <;> omega)
    refine ⟨?_, by omega, if_neg ?_⟩
    · simp only [cmdUpdateStage, CmdDef.base, Bool.and_eq_true, decide_eq_true_eq]
      omega
    · rintro (hs | hs | hs | hs | hs) <;> omega
  · rintro c s a rfl
    exact ⟨updateActivate_atPlace, updateConfirm_atPlace, updateRollback_atPlace, updateDiscard_atPlace⟩
  · rintro c s s1 a n stream keys k rfl h hu hn ht hread rfl hr hlost hblocks hfull hwhole hpass hk
    exact updateStage_atPlace ⟨hu, ⟨hn, ht⟩, hread, hr, hlost, hblocks, hfull, hwhole, hpass⟩ h hk
end Sys2Proof.Laws
end

section
namespace Sys2Proof.Laws
open Sys2Proof Sys2Proof.Machine

/-! # The Recovery download (R351 to R353) -/

/-- A download that receives runs. -/
theorem running_of_receiving {r : Rdl} (h : r.phase = .receiving) : r.running = true := by
  simp [Rdl.running, h]

/-- A download of the path itself, or none, gives way to BEGIN. -/
theorem rdlBeginOp_ok {s : State} {eth : Bool} (session : Nat) (src : Option Source)
    (h : s.nor.rdl.running = true → s.nor.rdl.eth = eth) : rdlBeginOp eth session src s =
      okay (s.modNor fun n =>
        { n with pending := none, pendingReady := false, rdl := { Rdl.reset with phase := .receiving, eth, session, src } }) [] :=
  if_neg fun ⟨hr, hne⟩ => hne (h hr)

theorem rdlEndOp_ok {s : State} (h : s.nor.rdl.phase = .receiving) :
    rdlEndOp s = okay (s.modNor fun n => { n with rdl := { n.rdl with phase := .verifying } }) [] := by
  simp only [rdlEndOp, State.modNor, h, if_true]

section
variable {s : State} {index off : Nat} {data : Bytes} (hph : s.nor.rdl.phase = .receiving)
  (hst : getKey index s.nor.rdl.stored = none)
  (hroom : (getKey index s.nor.rdl.assembling).isSome ∨ s.nor.rdl.assembling.length < 8)
include hroom

/-- The block is one of the eight in assembly, or there is room for it. -/
theorem rdl_room : ¬ ((getKey index s.nor.rdl.assembling).isNone ∧ 8 ≤ s.nor.rdl.assembling.length) := by
  rintro ⟨hnone, h8⟩
  rcases hroom with hsome | hlt
  · simp [Option.isNone_iff_eq_none.mp hnone] at hsome
  · omega

variable {chunks : List (Nat × Bytes)} (hc : chunks = addChunk off data ((getKey index s.nor.rdl.assembling).getD []))
include hph hst hc

theorem rdlDataOp_partial (hw : wholeBlock chunks = none) : rdlDataOp index off data s =
    okay (s.modNor fun n => { n with rdl := { n.rdl with assembling := insertKey index chunks n.rdl.assembling } })
      (rdlBody 0 s.nor.rdl.stored.length) := by
  subst hc
  simp only [rdlDataOp, if_neg (not_not_intro hph), hst, if_neg (rdl_room hroom), hw, Option.isSome_none, Bool.false_eq_true, if_false]
  rfl

theorem rdlDataOp_stores {b : Bytes} (hw : wholeBlock chunks = some b) (hb : blockOk index s.nor.rdl.tag b = true) :
    rdlDataOp index off data s = okay (s.modNor fun n => { n with rdl := { n.rdl with
      assembling := dropKey index n.rdl.assembling, stored := insertKey index (b.drop 16) n.rdl.stored } })
      (rdlBody 1 (insertKey index (b.drop 16) s.nor.rdl.stored).length) := by
  subst hc
  simp only [rdlDataOp, if_neg (not_not_intro hph), hst, if_neg (rdl_room hroom), hw, hb, Option.isSome_none, Bool.false_eq_true,
    if_false, if_true]
  rfl

theorem rdlDataOp_drops {b : Bytes} (hw : wholeBlock chunks = some b) (hb : blockOk index s.nor.rdl.tag b = false) :
    rdlDataOp index off data s =
      okay (s.modNor fun n => { n with rdl := { n.rdl with assembling := dropKey index n.rdl.assembling } })
        (rdlBody 2 s.nor.rdl.stored.length) := by
  subst hc
  simp only [rdlDataOp, if_neg (not_not_intro hph), hst, if_neg (rdl_room hroom), hw, hb, Option.isSome_none, Bool.false_eq_true,
    if_false]
  rfl
end

/-! ## Over SPI (R353) -/

/-- The download opened over SPI is the one that its commands find. -/
theorem spiDownload_open {s : State} (hph : s.nor.rdl.phase = .receiving) (heth : s.nor.rdl.eth = false) (f : Res) :
    spiDownload s f = f := by
  simp [spiDownload, running_of_receiving hph, heth]

section
variable {c : Cmd} {s : State} (h : s.readyRecovery c)
include h

/-- A download command that Recovery serves: the NOR changes as its own effect has it, and its mailbox is answered. -/
theorem run_download {d : CmdDef} {f : Nor → Nor} {result : Bytes} (hk : d.kind = .immediate) (hr : d.inRecovery = true)
    (hl : d.len c.args.length = true) (h496 : c.args.length ≤ 496) (hp : d.pre s.board c.args = none)
    (ha : d.act { opcode := d.opcode, cmd := c, count := 0, adm := s.tb.measure } (s.granted c d.opcode) =
      okay ((s.granted c d.opcode).modNor f) result) :
    d.run c s = (s.answered c d.opcode result).modNor f :=
  (run_answers (grants_of_readyRecovery h hr hl h496 hp) hk ha rfl).trans rfl

theorem updateRdlBegin_exec (ha : c.args = []) (hrun : s.nor.rdl.running = true → s.nor.rdl.eth = false) :
    exec (.updateRdlBegin c) s = .next ((s.answered c 0x0A07 []).modNor fun n =>
      { n with pending := none, pendingReady := false, rdl := { Rdl.reset with phase := .receiving } }) :=
  congrArg Host.Outcome.next (run_download (d := cmdUpdateRdlBegin) h rfl rfl
    (by simp [cmdUpdateRdlBegin, CmdDef.recoveryOnly, CmdDef.base, ha]) (by simp [ha]) rfl
    (rdlBeginOp_ok (s := s.granted c 0x0A07) 0 none hrun))

theorem updateRdlEnd_exec (ha : c.args = []) (hph : s.nor.rdl.phase = .receiving) (heth : s.nor.rdl.eth = false) :
    exec (.updateRdlEnd c) s = .next ((s.answered c 0x0A09 []).modNor fun n =>
      { n with rdl := { n.rdl with phase := .verifying } }) := by
  refine congrArg Host.Outcome.next (run_download (d := cmdUpdateRdlEnd) h rfl rfl
    (by simp [cmdUpdateRdlEnd, CmdDef.recoveryOnly, CmdDef.base, ha]) (by simp [ha]) rfl ?_)
  exact (spiDownload_open (s := s.granted c 0x0A09) hph heth _).trans (rdlEndOp_ok (s := s.granted c 0x0A09) hph)

section
variable (hph : s.nor.rdl.phase = .receiving) (heth : s.nor.rdl.eth = false) (hoff : fld c.args 4 4 % 256 = 0)
  (h1 : 1 ≤ fld c.args 8 2) (h256 : fld c.args 8 2 ≤ 256) (hl : c.args.length = 12 + fld c.args 8 2)
  (hend : fld c.args 4 4 + fld c.args 8 2 ≤ 65536)
include hph heth hoff h1 h256 hl hend

/-- DATA whose fields keep its form is answered as its chunk is taken. -/
theorem updateRdlData_exec {f : Nor → Nor} {result : Bytes}
    (hf : rdlDataOp (fld c.args 0 2) (fld c.args 4 4) (c.args.drop 12) (s.granted c 0x0A08) =
      okay ((s.granted c 0x0A08).modNor f) result) :
    exec (.updateRdlData c) s = .next ((s.answered c 0x0A08 result).modNor f) := by
  refine congrArg Host.Outcome.next (run_download (d := cmdUpdateRdlData) h rfl rfl ?_ (by omega) rfl ?_)
  · simp only [cmdUpdateRdlData, CmdDef.recoveryOnly, CmdDef.base, Bool.and_eq_true, decide_eq_true_eq]
    omega
  · have hform : ¬ (fld c.args 4 4 % 256 ≠ 0 ∨ fld c.args 8 2 = 0 ∨ 256 < fld c.args 8 2 ∨ c.args.length ≠ 12 + fld c.args 8 2 ∨
        65536 < fld c.args 4 4 + fld c.args 8 2) := by omega
    have hrun : (s.granted c 0x0A08).nor.rdl.running = true := running_of_receiving (r := s.nor.rdl) hph
    refine Eq.trans ?_ ((spiDownload_open (s := s.granted c 0x0A08) hph heth _).trans hf)
    simp only [cmdUpdateRdlData, CmdDef.recoveryOnly, CmdDef.base, hrun, if_neg hform, Bool.not_true, Bool.false_eq_true, if_false]
end
end

/-! ## Over UDP (R352) -/

/-- A datagram that port 47812 serves is answered to its source. -/
theorem serveRdl_ok {src : Source} {p : Bytes} {s t : State} {f : Request → Res} {r : Request} {body : Bytes}
    (h : s.servesRdl src p = true) (hr : r = parseRequest src p) (hf : f r = okay t body) :
    serveRdl src p s f = t.sendTo src false none none (rdlResponse r .ok body) := by
  subst hr
  simp only [serveRdl, h, if_true, hf]
  rfl

theorem transferId_of {v : Nat} (h1 : 1 ≤ v) (h2 : v ≤ 0xFFEF) : transferId v = true := decide_eq_true ⟨h1, h2⟩

/-- DATA and END of the session that BEGIN bound, while its download receives. -/
theorem udpRunning_ok {s : State} {r : Request} {f : Res} (hstr : s.rdlStranger r = false) (hph : s.nor.rdl.phase = .receiving)
    (heth : s.nor.rdl.eth = true) {ok : Bool} (hok : ok = true) : udpRunning s r ok f = f := by
  simp [udpRunning, hstr, running_of_receiving hph, hok, heth]

section
variable {src : Source} {p : Bytes} {s : State} {r : Request} (h : s.servesRdl src p = true) (hr : r = parseRequest src p)
  (h1 : 1 ≤ r.session) (h2 : r.session ≤ 0xFFEF) (hstr : s.rdlStranger r = false)
include h hr h1 h2 hstr

theorem rdlBegin_exec (hb : r.body = []) (hrun : s.nor.rdl.running = true → s.nor.rdl.eth = true) :
    exec (.rdlBegin src p) s = .next ((s.modNor fun n =>
      { n with pending := none, pendingReady := false
               rdl := { Rdl.reset with phase := .receiving, eth := true, session := r.session, src := some src } }).sendTo src
      false none none (rdlResponse r .ok [])) := by
  have hsrc : r.src = src := hr ▸ rfl
  refine congrArg Host.Outcome.next (serveRdl_ok h hr ?_)
  simp only [udpBegin, hstr, transferId_of h1 h2, hb, hsrc, List.isEmpty_nil, Bool.not_true, Bool.false_eq_true, or_self, if_false]
  exact rdlBeginOp_ok _ _ hrun

theorem rdlEnd_exec (hb : r.body = []) (hph : s.nor.rdl.phase = .receiving) (heth : s.nor.rdl.eth = true) :
    exec (.rdlEnd src p) s = .next ((s.modNor fun n => { n with rdl := { n.rdl with phase := .verifying } }).sendTo src
      false none none (rdlResponse r .ok [])) := by
  refine congrArg Host.Outcome.next (serveRdl_ok h hr ?_)
  exact (udpRunning_ok hstr hph heth (by simp [transferId_of h1 h2, hb])).trans (rdlEndOp_ok hph)

theorem rdlStatus_exec (hb : r.body = []) :
    exec (.rdlStatus src p) s = .next (s.sendTo src false none none (rdlResponse r .ok (rdlStatusBody s.nor.rdl))) := by
  refine congrArg Host.Outcome.next (serveRdl_ok h hr ?_)
  simp [udpStatus, hstr, transferId_of h1 h2, hb]

omit h1 h2 in
theorem rdlData_exec (hph : s.nor.rdl.phase = .receiving) (heth : s.nor.rdl.eth = true) (hok : rdlDataOk r = true) {t : State}
    {body : Bytes} (hf : rdlDataOp r.segment r.offset r.body s = okay t body) :
    exec (.rdlData src p) s = .next (t.sendTo src false none none (rdlResponse r .ok body)) :=
  congrArg Host.Outcome.next (serveRdl_ok h hr ((udpRunning_ok hstr hph heth hok).trans hf))
end

/-- Settles O22: both paths by the operations they share, the chunk that DATA brings by what it makes whole. -/
theorem recoveryDownloadCompletes : Obligations.RecoveryDownloadCompletes := by
  refine ⟨fun c s h => ⟨updateRdlBegin_exec h, updateRdlEnd_exec h, fun hph heth hoff h1 h256 hl hend hst hroom chunks hc => ?_⟩,
    fun src p s h r hr h1 h2 hstr => ⟨rdlBegin_exec h hr h1 h2 hstr, rdlEnd_exec h hr h1 h2 hstr, rdlStatus_exec h hr h1 h2 hstr,
      fun hph heth hok hst hroom chunks hc => ?_⟩⟩
  · have data {f : Nor → Nor} {result : Bytes} := updateRdlData_exec (f := f) (result := result) h hph heth hoff h1 h256 hl hend
    exact ⟨fun hw => data (rdlDataOp_partial (s := s.granted c 0x0A08) hph hst hroom hc hw),
      fun b hw hb => data (rdlDataOp_stores (s := s.granted c 0x0A08) hph hst hroom hc hw hb),
      fun b hw hb => data (rdlDataOp_drops (s := s.granted c 0x0A08) hph hst hroom hc hw hb)⟩
  · exact ⟨fun hw => rdlData_exec h hr hstr hph heth hok (rdlDataOp_partial hph hst hroom hc hw),
      fun b hw hb => rdlData_exec h hr hstr hph heth hok (rdlDataOp_stores hph hst hroom hc hw hb)⟩
end Sys2Proof.Laws
end

section
namespace Sys2Proof.Laws
open Sys2Proof Sys2Proof.Machine

/-! # The steps of an update in Service (R341, R342, R346 to R348) -/

section
variable {s : State} (hs : s.inService = true)
include hs

section
variable (hx : s.nor.xip = false)
include hx

theorem pendingRegionWritten_exec {p : Package} (hp : s.store.package = some p) (hu : s.store.upd = .staged ∨ s.store.upd = .armed)
    (hr : s.nor.pendingReady = false) :
    exec .pendingRegionWritten s = .next (s.modNor fun n => { n with pending := some p.stream, pendingReady := true }) := by
  show execPendingRegionWritten s = _
  simp only [execPendingRegionWritten, hp, norWrite_free hx]
  exact if_pos ⟨hs, hu, by rw [hr]; rfl⟩

omit hx in
theorem archiveDurable_exec (hu : s.store.upd = .armed) (hr : s.nor.archiveReady = false) :
    exec .archiveDurable s = .next (s.modNor fun n =>
      { n with archive := some (n.running, n.activeSlot, s.store.settings.version), archiveReady := true }) :=
  if_pos ⟨hs, hu, by rw [hr]; rfl⟩

theorem bootRecordArmedWrite_exec (hu : s.store.upd = .armed) (hd : s.durable.upd = .armed) (hp : s.durable.package = s.store.package) :
    exec .bootRecordArmedWrite s = .next (s.modNor fun n => { n with bootState := .armed }) :=
  (if_pos ⟨hs, hu, hd, hp⟩).trans (congrArg Host.Outcome.next (norWrite_free hx _))

omit hs hx in
theorem bootRecordArmedWrite_waits (hd : s.durable.upd ≠ .armed) : exec .bootRecordArmedWrite s = .next s :=
  if_neg fun ⟨_, _, h, _⟩ => hd h

omit hx in
theorem installReady_exec (hp : s.nor.pendingReady = true) (ha : s.nor.archiveReady = true) (hb : s.nor.bootState = .armed)
    (hu : s.store.upd = .armed) (hr : s.store.resetWhenReady = true) (hplan : s.power.plan = none) :
    exec .installReady s = .next (s.modPower fun p => { p with plan := some ⟨s.tb.measure + 1, false⟩ }) := by
  have hready : s.nor.ready = true := by simp [Nor.ready, hp, ha, hb]
  refine (if_pos ⟨hs, hready, hu, hr⟩).trans ?_
  simp only [State.planReset, State.modPower, hplan, Option.none_or]

theorem bootRecordRevertingWrite_exec (hu : s.store.upd = .reverting) (hd : s.durable.upd = .reverting) (hb : s.nor.bootState = .trial)
    (hplan : s.power.plan = none) : exec .bootRecordRevertingWrite s =
      .next ((s.modNor fun n => { n with bootState := .reverting }).modPower fun p =>
        { p with plan := if s.store.resetOnRevert then some ⟨s.tb.measure + 1, false⟩ else none }) := by
  show execBootRecordRevertingWrite s = _
  simp only [execBootRecordRevertingWrite, hs, hu, hd, hb, and_self, if_true, norWrite_free hx]
  cases s.store.resetOnRevert with
  | true => simp [State.planReset, State.modPower, State.modNor, hplan]
  | false => simp [State.modPower, State.modNor, ← hplan]
end
end

/-! ## Settings regions (R348) -/

/-- A region's write is the newest one, with the next SEQUENCE; the one that was newest stays. -/
theorem writeRegion_newest (n : Nor) (t : Settings) :
    (n.writeRegion t).newest = some ⟨t.version, ((n.newest.map (·.sequence)).getD 0) + 1, t⟩ ∧
    (∀ o, n.newest = some o → (n.writeRegion t).regionA = some o ∨ (n.writeRegion t).regionB = some o) ∧
    n.writeRegion t = { n with regionA := (n.writeRegion t).regionA, regionB := (n.writeRegion t).regionB } := by
  cases ha : n.regionA with
  | none => cases hb : n.regionB <;> simp [Nor.writeRegion, Nor.newest, ha, hb]
  | some a =>
    cases hb : n.regionB with
    | none => simp [Nor.writeRegion, Nor.newest, ha, hb]
    | some b => by_cases hab : a.sequence < b.sequence <;> simp [Nor.writeRegion, Nor.newest, ha, hb, hab]

theorem settingsMirrorWrite_completes {s : State} (hs : s.inService = true) (hx : s.nor.xip = false)
    (ho : s.durable.oldSettings = none) (hne : (s.nor.newest.map (·.content)) ≠ some s.durable.settings) :
    completes .settingsMirrorWrite s fun t =>
      ∃ r, t.nor.newest = some r ∧ r.content = s.durable.settings ∧ r.version = s.durable.settings.version ∧
        r.sequence = ((s.nor.newest.map (·.sequence)).getD 0) + 1 ∧
        (∀ o, s.nor.newest = some o → t.nor.regionA = some o ∨ t.nor.regionB = some o) ∧
        t = { s with nor := { s.nor with regionA := t.nor.regionA, regionB := t.nor.regionB } } := by
  obtain ⟨hnewest, hkept, hrest⟩ := writeRegion_newest s.nor s.durable.settings
  refine ⟨s.modNor fun n => n.writeRegion s.durable.settings, ?_, _, hnewest, rfl, rfl, rfl, hkept,
    congrArg (fun n : Nor => { s with nor := n }) hrest⟩
  show execSettingsMirrorWrite s = _
  have hnew : (s.nor.newest.map (·.content) == some s.durable.settings) = false := beq_eq_false_iff_ne.mpr hne
  simp only [execSettingsMirrorWrite, hs, hnew, ho, norWrite_free hx]
  rfl

/-! ## XIP (R332) -/

/-- With XIP enabled, a program or an erase has no effect: LAST_NOR_STATUS and a Coda entry tell of it. -/
theorem norWrite_refused {s : State} (h : s.nor.xip = true) (f : Nor → Nor) :
    (s.norWrite f).nor = { s.nor with lastStatus := 0x0603 } ∧ (s.norWrite f).store = s.store ∧ (s.norWrite f).power = s.power ∧
    ∃ r, (s.norWrite f).coda.queue = s.coda.queue ++ [r] ∧ r.code = 0x0A01 ∧ r.source = 10 := by
  rw [State.norWrite, if_pos h]
  exact ⟨rfl, rfl, rfl, _, rfl, rfl, rfl⟩

theorem pendingRegionWritten_refused {s : State} {p : Package} (hs : s.inService = true) (hx : s.nor.xip = true)
    (hp : s.store.package = some p) (hu : s.store.upd = .staged) (hr : s.nor.pendingReady = false) :
    completes .pendingRegionWritten s fun t =>
      t.nor = { s.nor with lastStatus := 0x0603 } ∧ t.store = s.store ∧ t.power = s.power ∧
      ∃ r, t.coda.queue = s.coda.queue ++ [r] ∧ r.code = 0x0A01 ∧ r.source = 10 := by
  refine ⟨_, ?_, norWrite_refused hx fun n => { n with pending := some p.stream, pendingReady := true }⟩
  show execPendingRegionWritten s = _
  simp only [execPendingRegionWritten, hp]
  exact if_pos ⟨hs, .inl hu, by rw [hr]; rfl⟩

/-! # Fuses (R339, R402) -/

section
variable {s : State} (hs : s.inService = true)
include hs

theorem rollbackFuseBurn_exec : exec .rollbackFuseBurn s = .next s.confirmDurable.burnRollback := if_pos hs

theorem rollbackFuseBurn_confirmed (hb : s.nor.bootState ≠ .trial) : exec .rollbackFuseBurn s =
    .next { s with fuses := { s.fuses with rollback := max s.fuses.rollback (min 64 s.nor.confirmed) } } := by
  have hsame : s.confirmDurable = s := if_neg fun ⟨_, _, h⟩ => hb h
  rw [rollbackFuseBurn_exec hs, hsame]
  rfl

theorem rollbackFuseBurn_confirms (hx : s.nor.xip = false) (hb : s.nor.bootState = .trial) (hu : s.store.upd = .idle)
    (hd : s.durable.upd = .idle) : completes .rollbackFuseBurn s fun t =>
      t.fuses = { s.fuses with rollback := max s.fuses.rollback (min 64 s.nor.running.rollback) } ∧
      t.nor = { s.nor with bootState := .idle, confirmed := s.nor.running.rollback, archive := none, archiveReady := false
                           pending := none, pendingReady := false } ∧
      t.store = { s.store with oldSettings := none } ∧ t.durable = { s.durable with oldSettings := none } := by
  refine ⟨_, rollbackFuseBurn_exec hs, ?_⟩
  have hidle : ¬ s.nor.xip = true := by simp [hx]
  rw [State.confirmDurable, if_pos ⟨hd, hu, hb⟩, if_neg hidle]
  exact ⟨rfl, rfl, rfl, rfl⟩

theorem provisionFuseBurn_exec {oem lock : Bool} {hash key : Bytes} (hp : s.durable.provision = some (oem, lock, hash, key))
    (hf : s.fuses.provisioned = false) : exec .provisionFuseBurn s = .next (State.placeDue { s with fuses := { s.fuses with
      provisioned := true, debugLocked := s.fuses.debugLocked || lock, oemKey := s.fuses.oemKey || oem
      oemHash := if oem && !s.fuses.oemKey then hash else s.fuses.oemHash
      oemFwKey := if oem && !s.fuses.oemKey then key else s.fuses.oemFwKey } }) := by
  refine (if_pos hs).trans ?_
  simp only [State.burnProvision, hp, hf]
  rfl
end

/-! # Installs (R343, R344, R351) -/

/-- A change of the update state leaves all but Coda's queue as it is. -/
theorem setUpd_eq (s : State) (v : UpdState) (trigger : Option Nat) :
    ∃ coda, s.setUpd v trigger = { s with store := { s.store with upd := v }, coda := coda } := by
  unfold State.setUpd
  split
  · next h => exact ⟨s.coda, by rw [← h]⟩
  · exact ⟨_, rfl⟩

/-- The image, and its loader where the stream has one, are in force. -/
def installed (n : Nor) (stream : Bytes) : Nor :=
  { n with
    running := imageOf stream, bootState := .trial, installing := false, xip := false
    activeSlot := if hasLoader stream then 1 - n.activeSlot else n.activeSlot
    slotOk := if hasLoader stream then n.slotOk.set (1 - n.activeSlot) true else n.slotOk
    slotRollback := if hasLoader stream then n.slotRollback.set (1 - n.activeSlot) (u8 stream 19) else n.slotRollback }

/-- The new image in force, in the NOR and, as TRIAL, in both stores. -/
theorem activate_eq (s : State) (stream : Bytes) : ∃ coda, s.activate stream =
    { s with
      nor := installed s.nor stream
      store := { s.store with upd := .trial, resetWhenReady := false }
      durable := { s.durable with upd := .trial, resetWhenReady := false }
      coda := coda } := by
  unfold State.activate
  extract_lets s1
  obtain ⟨coda, h⟩ := setUpd_eq s1 .trial none
  exact ⟨coda, by rw [h]; rfl⟩

theorem loaderInstall_completes {s : State} {stream : Bytes} (hr : s.power.inReset = false) (hm : s.power.mode = .startup)
    (hh : s.power.held = false) (hi : s.nor.installing = true) (hp : s.nor.pending = some stream)
    (hc : checkStream s.fuses (some s.store.settings.version) stream = .ok) : completes .loaderInstall s fun t =>
      t.nor = installed s.nor stream ∧
      t.store.upd = .trial ∧ t.durable.upd = .trial ∧ t.power = { s.power with loaded := true, starting := true } ∧
      t.fuses = s.fuses ∧ t.store.settings = s.store.settings ∧ t.store.nss = s.store.nss := by
  refine ⟨(s.activate stream).modPower fun p => { p with loaded := true, starting := true }, ?_, ?_⟩
  · show execLoaderInstall s = _
    have hgo : ¬ (s.power.mode ≠ .startup ∨ s.power.inReset = true ∨ s.power.held = true ∨ (!s.nor.installing) = true) := by
      simp [hm, hr, hh, hi]
    rw [execLoaderInstall, if_neg hgo]
    simp only [hp, hc, if_true]
  · obtain ⟨coda, h⟩ := activate_eq s stream
    rw [h]
    exact ⟨rfl, rfl, rfl, rfl, rfl, rfl, rfl⟩

/-- What a controller reset keeps and begins (R305). -/
theorem controllerReset_keeps (s : State) (cause : ResetCause) :
    (s.controllerReset cause).nor = { s.nor with rdl := .reset, xip := false, lastStatus := 0 } ∧
    (s.controllerReset cause).power = s.power.resetTo cause ∧ (s.controllerReset cause).fuses = s.fuses ∧
    (s.controllerReset cause).durable = s.durable := by
  have hoff : offCoda (s.codaDrain.completeFreeze 3) = offCoda s := by simp
  refine ⟨?_, ?_, (congrArg State.fuses hoff :), (congrArg State.durable hoff :)⟩
  · exact congrArg (fun n : Nor => { n with rdl := .reset, xip := false, lastStatus := 0 }) (congrArg State.nor hoff :)
  · exact congrArg (fun p : Power => p.resetTo cause) (congrArg State.power hoff :)

section
variable {s : State} {stream : Bytes} {st : Status} (hr : s.power.inReset = false) (hm : s.power.mode = .recovery)
  (hph : s.nor.rdl.phase = .verifying) (hord : (s.nor.rdl.stored.map (·.1)) = List.range s.nor.rdl.stored.length)
  (hst : s.nor.rdl.stream = stream)
  (hfull : fullBlocks (fun k => (getKey k s.nor.rdl.stored).map (zeros 16 ++ ·)) s.nor.rdl.stored.length = true)
  (hc : checkStream s.fuses (s.nor.newest.map (·.version)) stream = st)
include hr hm hph hord hst hfull hc

/-- The boot ROM's verdict on a download whose blocks stand in order and are full is that of R338. -/
theorem recoveryInstall_exec : exec .recoveryInstallComplete s =
    if st ≠ .ok then .next (s.modNor fun n => { n with rdl := { n.rdl with phase := .failed, result := st } })
    else .next ((((((s.modNor fun n => { n with pending := some stream, archive := none, archiveReady := false }).activate
      stream).alsoDurable fun t => { t with package := some (packageOf stream) }).modNor fun n =>
      { n with rdl := { n.rdl with phase := .done } }).controllerReset .recoveryDone)) := by
  subst hst hc
  show execRecoveryInstallComplete s = _
  have hgo : ¬ (s.power.mode ≠ .recovery ∨ s.power.inReset = true ∨
      (s.nor.rdl.phase ≠ .verifying ∧ s.nor.rdl.phase ≠ .installing)) := by simp [hm, hr, hph]
  have hordered : (s.nor.rdl.stored.map (·.1) == List.range s.nor.rdl.stored.length) = true := beq_iff_eq.mpr hord
  rw [execRecoveryInstallComplete, if_neg hgo]
  simp only [hordered, hfull, Bool.and_self, if_true]

theorem recoveryInstall_fails (hne : st ≠ .ok) : exec .recoveryInstallComplete s =
    .next (s.modNor fun n => { n with rdl := { n.rdl with phase := .failed, result := st } }) :=
  (recoveryInstall_exec hr hm hph hord hst hfull hc).trans (if_pos hne)

theorem recoveryInstall_completes (hok : st = .ok) : completes .recoveryInstallComplete s fun t =>
    t.nor.running = imageOf stream ∧ t.nor.bootState = .trial ∧ t.nor.archive = none ∧ t.power.cause = .recoveryDone ∧
    t.power.previous = s.power.cause ∧ t.power.inReset = true ∧ t.fuses = s.fuses ∧ t.durable.upd = .trial ∧
    t.nor.rdl = .reset := by
  refine ⟨_, (recoveryInstall_exec hr hm hph hord hst hfull hc).trans (if_neg (not_not_intro hok)), ?_⟩
  obtain ⟨coda, hact⟩ := activate_eq (s.modNor fun n => { n with pending := some stream, archive := none, archiveReady := false }) stream
  rw [hact]
  generalize hu : State.modNor _ _ = u
  obtain ⟨hnor, hpower, hfuses, hdurable⟩ := controllerReset_keeps u .recoveryDone
  rw [hnor, hpower, hfuses, hdurable, ← hu]
  exact ⟨rfl, rfl, rfl, rfl, rfl, rfl, rfl, rfl, rfl⟩
end

/-- Settles O23: each step by its guard; the fuses, the install and the download by what they change. -/
theorem updateStepsComplete : Obligations.UpdateStepsComplete := by
  refine ⟨fun s hs hx => ⟨fun p => pendingRegionWritten_exec hs hx, archiveDurable_exec hs, bootRecordArmedWrite_exec hs hx,
      fun _ => bootRecordArmedWrite_waits, installReady_exec hs, bootRecordRevertingWrite_exec hs hx,
      settingsMirrorWrite_completes hs hx⟩,
    fun s p => pendingRegionWritten_refused,
    fun s hs hx => ⟨rollbackFuseBurn_confirmed hs, rollbackFuseBurn_confirms hs hx, fun oem lock hash key => provisionFuseBurn_exec hs⟩,
    fun s stream hr => ⟨loaderInstall_completes hr, fun hm hph hord hst hfull =>
      ⟨fun hc => recoveryInstall_completes hr hm hph hord hst hfull hc rfl,
        fun st hc hne => recoveryInstall_fails hr hm hph hord hst hfull hc hne⟩⟩⟩
end Sys2Proof.Laws
end
